-- ==== Sys2Proof/Word.lean ====
section
/-! DEFINITION. The word types of the device: 8-bit bytes, 16-bit register words, 32-bit and 64-bit words.
Everything computed on them (fields, sign extension, byte order) is in Machine/Bits.lean. -/

namespace Sys2Proof

/-- One byte of a frame, of the cistern or of a store. -/
abbrev Byte := BitVec 8

/-- One 16-bit register word (R87, 05: registers are 16 bits wide). -/
abbrev Word := BitVec 16

/-- A 32-bit word. -/
abbrev W32 := BitVec 32

end Sys2Proof
end

