-- ==== Sys2Proof/Config.lean ====
section
/-! DEFINITION. What one manufactured part fixes and the manual leaves open: the free values (opaque, no body) and the
two part numbers with the figures the manual gives each. -/

namespace Sys2Proof

/-- The two parts of the family (R1, R2). -/
inductive Part where
  | idp1640
  | idp0820
deriving DecidableEq, Repr

/-- Enabled engines (R2, R4, DEV_CAPS.ENGINES). -/
def Part.engines : Part → Nat
  | .idp1640 => 16
  | .idp0820 => 8

/-- Enabled link ports (R2, R4, DEV_CAPS.LINKS). -/
def Part.links : Part → Nat
  | .idp1640 => 4
  | .idp0820 => 2

namespace Config

/-- Free value: a 16-bit word the manual leaves open; the argument is State's free-value counter (log entry 3). -/
opaque freeWord : Nat → BitVec 16

/-- Free value: the low bits of a PL0 product (R305), applied to the free-value counter (log entry 3). -/
opaque freeBits : Nat → BitVec 32

/-- The die's private ECDSA key, fused and read only by the SEC block (R541, R548); not in the manual (log entry 5). -/
opaque dieKey : BitVec 256

/-- The certificate bytes of the die, behind SEC.ID_CERT (R542, R543); not in the manual (log entry 5). -/
opaque certByte : Nat → BitVec 8

/-- Whether the vendor's ECDSA signature over a steward image is genuine (R522, R523): the vendor key is not in the
manual (log entry 6). -/
opaque imageSigned : List (BitVec 8) → Bool

/-- Free value: whether the fuses of a PROGRAM fail to verify (R552), applied to the free-value counter (log entry 8). -/
opaque fuseFails : Nat → Bool

/-- The bytes of the boot ROM as a supervisor load reads them (R526): not in the manual (log entry 9). -/
opaque bootByte : Nat → BitVec 8

/-- A field of the fabric bit map of stepping B0 (R404): `n` counts cells of a group, slots, taps or the like, `k` the
inputs of one of them. -/
inductive Field where
  /-- Of a cell group's record (R378, R379). -/
  | table (n : Nat) | cellInput (n k : Nat) | carry (n : Nat) | chainStart (n : Nat) | carryIn (n : Nat)
  | cellClock (n : Nat) | cellFalling (n : Nat) | cellGated (n : Nat) | setKind (n : Nat) | setValue (n : Nat)
  | cellInitial (n : Nat)
  /-- Of a switch box's record: what drives segment `g` there (R380). -/
  | driver (g : Nat)
  /-- Of an I/O cell's record, bytes 3 to 15 (R392). -/
  | ioInput (k : Nat) | ioClock | ioFalling | ioInitial (k : Nat)
  /-- Of a MAC slice's record (R386). -/
  | macInput (k : Nat) | macRegister (k : Nat) | macSat | macClock | macFalling | macInitial (k : Nat)
  /-- Of a block memory's record (R388, R389); port A is 0. -/
  | memRatio (p : Nat) | memInput (p k : Nat) | memClock (p : Nat) | memFalling (p : Nat) | memMode (p : Nat)
  | memRegister (p : Nat) | memInitial (p : Nat)
  /-- Of a well port's record (R394). -/
  | wellInput (k : Nat)
  /-- Of the routing section: outgoing slots, probe taps, global buffers, QAGREE and QREFUSE. -/
  | slotOut (n : Nat) | tap (n : Nat) | buffer (n : Nat) | quiesce (n : Nat)
deriving DecidableEq, Repr

/-- The value of a field in the bytes that hold it: the bit map is delivered with Chamor, not in the manual (R404, log
entry 52). -/
opaque bitMap : Field → List (BitVec 8) → Nat

/-- Free value: line `i` from outside the fabric, applied to the free-value counter: 0 to 95 the levels the board puts on
the user pins, 96 and 97 the levels of the PLL's dividers, 98 and 99 which of two writes or words wins where R390 leaves
it open, 100 a loop of tables (log entry 52). -/
opaque outside : Nat → Nat → Bool

end Config

end Sys2Proof
end

