-- ==== Sys2Proof/Syntax.lean ====
section
/-! DEFINITION. The commands of the block: one constructor of `Instr` for each row of spec/opcode_table.json, in the
table's order. An operand is what comes from outside the device with that event: a frame's bytes, a sample's value, an
index naming the unit concerned, an interval of RIM cycles, an answer of user logic or of the board. -/

namespace Sys2Proof

/-- A unit watched for stillness (R48). -/
inductive StillUnit where
  | engine (e : Nat)
  | pump (p : Nat)
  | bank (b : Nat)
  | tagPool
  | bells
deriving DecidableEq, Repr

/-- Who writes a register: the host through the control port, the supervisor, or the JTAG access path (R123). -/
inductive Source where
  | host
  | supervisor
  | jtag
deriving DecidableEq, Repr

/-- A memory bank under repair: a cistern bank, or a bank of one engine's store (R477). -/
inductive BankId where
  | cistern (b : Nat)
  | store (e b : Nat)
deriving DecidableEq, Repr

/-- What user logic presents at a well port: the data lines, and VALID (R394). -/
structure PortSample where
  data : BitVec 24
  valid : Bool
deriving DecidableEq, Repr

/-- The blocks that came on the two receive lanes of a link port (R428). -/
structure LaneBlocks where
  lane0 : List (BitVec 66)
  lane1 : List (BitVec 66)
deriving DecidableEq, Repr

/-- A HELLO as received, with the frequency offset in ppm and the lane skew in block pairs that the receiver measured
(R443). -/
structure HelloInput where
  bytes : List Byte
  offset : Int
  skew : Nat
deriving DecidableEq, Repr

/-- What a port in training receives: blocks on its lanes, and the HELLO (R443). -/
structure TrainingInput where
  hello : HelloInput
  lanes : LaneBlocks
deriving DecidableEq, Repr

/-- The blocks on which one receive lane loses lock (R444). -/
structure LaneLoss where
  lane : Nat
  blocks : List (BitVec 66)
deriving DecidableEq, Repr

/-- The lines QAGREE and QREFUSE of a walk (R396). -/
structure QuiesceLines where
  agree : Bool
  refuse : Bool
deriving DecidableEq, Repr

/-- The blocks on which a port's receive lanes regain lock (R446). -/
structure Relock where
  port : Nat
  lanes : LaneBlocks
deriving DecidableEq, Repr

/-- One byte read from the boot flash: its address, whether the read was a quad read, and what the flash gave (none: no
answer) (R410). -/
structure FlashRead where
  addr : Nat
  quad : Bool
  byte : Option Byte
deriving DecidableEq, Repr

/-- The board as the device meets it: the straps sampled at start-up (R517), the VDDIO voltages it senses (R393; `true`
3.3 V, `false` 1.8 V, none without supply), a crystal fitted (R540), a link reference connected (R575). -/
structure Straps where
  addr : BitVec 3
  boot : BitVec 2
  tripSafe : Bool
  bankA : Option Bool
  bankB : Option Bool
  bankC : Option Bool
  xtal : Bool
  lnkRef : Bool
deriving DecidableEq, Repr

/-- The commands: one constructor per row of the table, in its order. -/
inductive Instr where
  /-- TICK_EDGE (R55): A rising edge on TICK is accepted and, 3 RIM later, takes the snapshot that starts a tick. -/
  | tickEdge (dt : Nat)
  /-- TICK_LOST (R58): No edge is accepted within 2 × PERIOD (or 100,000 RIM), so TICK is declared lost, with an optional fallback to free-run. -/
  | tickLost
  /-- FREE_RUN_EXPIRY (R59): The free-run timer expires and takes a snapshot 3 RIM later. -/
  | freeRunExpiry
  /-- DELAYED_PROGRAM_START (R74): A tick program delayed by in-flight background work starts on the stroke after that work completes. -/
  | delayedProgramStart (e : Nat)
  /-- GUARD_EDGE (R70): The guard counter reaches G; channels without an engine verdict get the buttress verdict with class 7. -/
  | guardEdge
  /-- VD_REPORT (R344): The VD port drives the worst class and channel number with two VD_STB pulses, waiting for the previous tick's pulses to end. -/
  | vdReport
  /-- TRIP_HOLD_END (R351): A channel's TRIP_N hold ends 65,536 RIM after its last start. -/
  | tripHoldEnd (c : Nat)
  /-- PACE_WINDOW_END (R42): At the end of each 1,024-RIM window the pace monitor publishes PERIOD, GOV and VALID. -/
  | paceWindowEnd (n : Nat) (gov : Bool)
  /-- STILLNESS_FAULT (R50): The stillness counter reaches its limit; the unit is stopped and reset, its tags are reclaimed and its operations complete STILL. -/
  | stillnessFault (u : StillUnit)
  /-- WRITE_FRAME (R90): A control-port write frame is checked and its words are written at their home counts. -/
  | writeFrame (bytes : List Byte)
  /-- READ_FRAME (R105): A control-port read frame is checked and answered with the status word, data and CRC. -/
  | readFrame (bytes : List Byte)
  /-- REGISTER_WRITE (R104): A written word takes effect in a register that has no row of its own, including W1C clears and counter loads. -/
  | registerWrite (src : Source) (t : BitVec 8) (r : BitVec 8) (v : Word)
  /-- WINDOW_WRITE (R126): A TBL_DATA word is written to the selected table at the pointer, and the pointer advances. -/
  | windowWrite (v : Word)
  /-- WINDOW_READ (R94): A read frame at TBL_DATA returns table words and moves the pointer on by N. -/
  | windowRead (n : Nat)
  /-- LOCK_SET (R123): Setting DEV_CTRL.LOCK locks every RWL field until a reset. -/
  | lockSet
  /-- BUTTRESS_ONLY (R343): DEV_CTRL.BUTTRESS_ONLY enters or leaves device-wide buttress mode at the next snapshot edge. -/
  | buttressOnly (on : Bool)
  /-- TAG_LOW_WATER_RESET (R139): A write of 1 to RESET loads MARK with the present FREE. -/
  | tagLowWaterReset
  /-- CH_ENABLE (R158): CH_CTRL.ENABLE = 1 takes effect at a snapshot edge; the channel enters Active or Retired, or is re-armed. -/
  | chEnable (c : Nat)
  /-- CH_DISABLE (R159): CH_CTRL.ENABLE = 0 takes effect at a snapshot edge and the channel enters Stopping. -/
  | chDisable (c : Nat)
  /-- SHUTDOWN_COMPLETE (R160): The last outstanding work of a Stopping channel completes and the channel enters Off. -/
  | shutdownComplete (c : Nat)
  /-- CH_LEARN (R319): CH_CTRL.LEARN takes effect at the next snapshot edge, freezing or resuming learning. -/
  | chLearn (c : Nat)
  /-- IN_WIN_CLEAR (R465): A host write of 0 to IN_WIN ends the fault window. -/
  | inWinClear (c : Nat)
  /-- FAULT_WINDOW_END (R465): The fault window expires after 2^EXP ticks; IN_WIN clears and a Watch channel returns to Active. -/
  | faultWindowEnd (c : Nat)
  /-- ENG_ENABLE (R166): ENG_CTRL.ENABLE = 1 takes effect at the next snapshot edge, or is latched as REARMED during Stopping. -/
  | engEnable (e : Nat)
  /-- ENG_DISABLE (R166): ENG_CTRL.ENABLE = 0 stops new programs while running work completes. -/
  | engDisable (e : Nat)
  /-- BG_START (R224): A write of BG_START = 1 accepts or refuses a background job. -/
  | bgStart (e : Nat)
  /-- CLR_FAULT (R221): A write of CLR_FAULT = 1 clears FAULTED and FAULT. -/
  | clrFault (e : Nat)
  /-- BANK_SIZE_WRITE (R323): A write of ENG_BANK.SIZE is accepted only while every mapped channel is Off. -/
  | bankSizeWrite (e : Nat) (size : BitVec 8)
  /-- BACKGROUND_START (R222): When no tick program is due and issue is not fenced, the engine resumes or starts a background program. -/
  | backgroundStart (e : Nat)
  /-- HALT (R214): HALT ends a background program. -/
  | halt (e : Nat)
  /-- HALT_V (R214): HALT.V ends a tick program and delivers its verdict lane. -/
  | haltV (e : Nat) (strokes : Nat)
  /-- LDT (R219): The TENS variant LDT reads a descriptor and posts a load into the store under a handle. -/
  | ldt (e : Nat)
  /-- STT (R219): The TENS variant STT reads a descriptor and posts a store from the store. -/
  | stt (e : Nat)
  /-- POST (R219): The TENS variant POST posts any other pump operation. -/
  | post (e : Nat)
  /-- TAG_GRANT (R232): A freed tag is granted to a waiting post in priority order, and the post completes 2 strokes later. -/
  | tagGrant
  /-- TILE_I8_I8 (R210): TILE multiplies INT8 activations by INT8 bay weights into INT32 C. -/
  | tileI8I8 (e : Nat)
  /-- TILE_I4_I4 (R210): TILE in mode I4×I4, with K = 64. -/
  | tileI4I4 (e : Nat)
  /-- TILE_I8_I4 (R210): TILE in mode I8×I4. -/
  | tileI8I4 (e : Nat)
  /-- TILE_I8_I6 (R210): TILE in mode I8×I6. -/
  | tileI8I6 (e : Nat)
  /-- VEC_ADD (R296): VEC ADD, saturated. -/
  | vecAdd (e : Nat)
  /-- VEC_SUB (R296): VEC SUB, saturated. -/
  | vecSub (e : Nat)
  /-- VEC_MUL (R296): VEC MUL, low half, saturated. -/
  | vecMul (e : Nat)
  /-- VEC_MULH (R296): VEC MULH, high half. -/
  | vecMulh (e : Nat)
  /-- VEC_MIN (R296): VEC MIN. -/
  | vecMin (e : Nat)
  /-- VEC_MAX (R296): VEC MAX. -/
  | vecMax (e : Nat)
  /-- VEC_ABS (R296): VEC ABS, saturated. -/
  | vecAbs (e : Nat)
  /-- VEC_RELU (R296): VEC RELU. -/
  | vecRelu (e : Nat)
  /-- VEC_CLAMP (R296): VEC CLAMP to ±(2^IMM − 1). -/
  | vecClamp (e : Nat)
  /-- VEC_SHR (R296): VEC arithmetic shift right, rounding to nearest even. -/
  | vecShr (e : Nat)
  /-- VEC_SHL (R296): VEC shift left, saturated. -/
  | vecShl (e : Nat)
  /-- VEC_NARROW (R296): VEC NARROW to the next smaller type, saturated. -/
  | vecNarrow (e : Nat)
  /-- VEC_WIDEN (R296): VEC WIDEN, sign-extended. -/
  | vecWiden (e : Nat)
  /-- VEC_SCALE (R297): VEC SCALE multiplies elements by the bay's block scales. -/
  | vecScale (e : Nat)
  /-- VEC_LUT (R298): VEC LUT applies a 64-entry piecewise-linear table. -/
  | vecLut (e : Nat)
  /-- VEC_MOVE (R211): VEC MOVE. -/
  | vecMove (e : Nat)
  /-- VEC_BROADCAST (R211): VEC BROADCAST of element 0. -/
  | vecBroadcast (e : Nat)
  /-- RED_SUM (R212): RED SUM into one INT32. -/
  | redSum (e : Nat)
  /-- RED_SUMSQ (R212): RED SUMSQ into one INT32. -/
  | redSumsq (e : Nat)
  /-- RED_MAX (R212): RED MAX. -/
  | redMax (e : Nat)
  /-- RED_MIN (R212): RED MIN. -/
  | redMin (e : Nat)
  /-- CMP_GT (R212): CMP GT writes mask bits and sets ANY. -/
  | cmpGt (e : Nat)
  /-- CMP_GE (R212): CMP GE. -/
  | cmpGe (e : Nat)
  /-- CMP_LT (R212): CMP LT. -/
  | cmpLt (e : Nat)
  /-- CMP_LE (R212): CMP LE. -/
  | cmpLe (e : Nat)
  /-- CMP_EQ (R212): CMP EQ. -/
  | cmpEq (e : Nat)
  /-- CMP_NE (R212): CMP NE. -/
  | cmpNe (e : Nat)
  /-- TRACE (R310): TRACE updates a 32 × 32 block of INT8 eligibility traces with stochastic rounding. -/
  | trace (e : Nat)
  /-- SRND (R302): SRND stochastically rounds INT32 elements to INT8, INT6 or INT4. -/
  | srnd (e : Nat)
  /-- DGATE (R363): DGATE writes dead-zone-gated differences and advances PREV, latching the delta context. -/
  | dgate (e : Nat)
  /-- SEAL (R242): SEAL fences the issuer's cistern accesses in a padded 30 strokes. -/
  | seal (e : Nat)
  /-- RING (R246): RING adds INC to a bell, releasing waiters or saturating. -/
  | ring (e : Nat)
  /-- AWAIT (R247): AWAIT takes one unit from a bell, or waits while its count is zero. -/
  | await (e : Nat)
  /-- TAGWAIT (R209): TAGWAIT waits for one handle, or for all of them, to complete. -/
  | tagwait (e : Nat)
  /-- LOOP (R216): LOOP repeats the body COUNT times with operand strides. -/
  | loop (e : Nat)
  /-- BR (R209): BR always, ANY or NONE branches in background mode. -/
  | br (e : Nat)
  /-- PUMP_COPY (R265): The pump moves units in a COPY operation. -/
  | pumpCopy (op : Nat) (defer : Nat)
  /-- PUMP_RELAYOUT (R263): A RELAYOUT operation transposes tiles. -/
  | pumpRelayout (op : Nat) (defer : Nat)
  /-- PUMP_GATHER (R267): A GATHER operation copies listed blocks into the store. -/
  | pumpGather (op : Nat) (defer : Nat)
  /-- PUMP_SCATTER (R267): A SCATTER operation copies store data to listed blocks. -/
  | pumpScatter (op : Nat) (defer : Nat)
  /-- PUMP_WINDOW (R266): A WINDOW operation expands well samples into frames. -/
  | pumpWindow (op : Nat) (defer : Nat)
  /-- PUMP_FILL (R264): A FILL operation writes the fill value. -/
  | pumpFill (op : Nat) (defer : Nat)
  /-- REMOTE_READ (R451): A REMOTE READ requests blocks from a peer's export. -/
  | remoteRead (op : Nat)
  /-- REMOTE_WRITE (R452): A REMOTE WRITE sends blocks to a peer's export. -/
  | remoteWrite (op : Nat)
  /-- PUMP_COMPLETION (R272): An operation completes; the completion word is written and the tag returns. -/
  | pumpCompletion (op : Nat)
  /-- WELL_WAIT_END (R185): A waiting free-run well read ends its wait and presents its pieces. -/
  | wellWaitEnd (op : Nat)
  /-- SAMPLE_CAPTURE (R172): A well captures a sample presented on its port. -/
  | sampleCapture (w : Nat) (sample : PortSample) (opn : Bool) (stuck : Bool) (dt : Nat)
  /-- WELL_ENABLE (R192): A WELL_CFG CTRL write enables a well after checking its configuration. -/
  | wellEnable (w : Nat)
  /-- WELL_DISABLE (R193): A WELL_CFG CTRL write disables a well. -/
  | wellDisable (w : Nat)
  /-- EPOCH_END (R313): A channel's epoch position reaches 2^EXP on a snapshot edge. -/
  | epochEnd (c : Nat)
  /-- SWEEP_COMPLETE (R316): The last sweep part's completion reaches the rim, and READY is set. -/
  | sweepComplete (c : Nat)
  /-- BANK_SWAP (R317): On the first qualifying edge after READY, ACTIVE toggles and CLEAR is set. -/
  | bankSwap (c : Nat)
  /-- SCRUB_INTERVAL (R478): Once per scrub interval the scrubber reads a line and a granule in each bank. -/
  | scrubInterval
  /-- COLUMN_TEST (R479): A queued column test runs its five-access pattern over the column. -/
  | columnTest (bank : BankId) (result : Nat) (bitPos : Nat)
  /-- SPARE_COPY (R481): A spare-column copy starts on the bank's next scrub slot. -/
  | spareCopy (bank : BankId)
  /-- SPARE_SWITCH (R481): The column map switches to the spare when the copy count expires. -/
  | spareSwitch (bank : BankId)
  /-- JOURNAL_WRITE (R361): The journal writer takes the head entry of its queue and writes it and the head record. -/
  | journalWrite
  /-- ADMIT (R147): The mailbox ADMIT request runs the admission tests and grants or refuses. -/
  | admitReq
  /-- WEXPORT (R331): The mailbox WEXPORT request writes the weight-image headers into the buffer. -/
  | wexport
  /-- WIMPORT (R332): The mailbox WIMPORT request verifies an image and marks channels ready. -/
  | wimport
  /-- MBOX_RETIRE (R485): The mailbox RETIRE request retires a unit or sets buttress mode. -/
  | mboxRetire
  /-- MBOX_READMIT (R485): The mailbox READMIT request readmits a unit, optionally onto a new map. -/
  | mboxReadmit
  /-- MBOX_FAULTS (R485): The mailbox FAULTS request copies and pops fault records. -/
  | mboxFaults
  /-- MBOX_REPAIR (R485): The mailbox REPAIR request assigns and copies a spare column. -/
  | mboxRepair
  /-- SUP_HALT (R132): SUP_CTRL.HALT stops or resumes the supervisor. -/
  | supHalt (on : Bool)
  /-- SUP_RESTART (R520): SUP_CTRL.RESTART restarts the supervisor at the boot-ROM vector. -/
  | supRestart
  /-- SUP_GO (R525): SUP_CTRL.GO makes the boot ROM check and start a host-loaded image. -/
  | supGo
  /-- GO_TIMEOUT (R525): In mode 0b10 no GO arrives within 2^28 RIM, so FAIL is set with CODE 5. -/
  | goTimeout
  /-- SUP_WFI (R499): WFI with TARGET Hush or Dormant makes a mode request. -/
  | supWfi
  /-- SUP_LOAD (R526): A supervisor load from the cistern. -/
  | supLoad (addr : Nat) (size : Nat)
  /-- SUP_STORE (R526): A supervisor store to the cistern. -/
  | supStore (addr : Nat) (size : Nat) (v : W32)
  /-- SUP_FENCE (R243): The supervisor FENCE acts as a SEAL. -/
  | supFence
  /-- SUP_RING (R250): A supervisor store to the bell port rings a bell. -/
  | supRing (b : Nat) (inc : BitVec 8)
  /-- SUP_TRY (R250): A supervisor TRY load returns a bell's count and decrements it if non-zero. -/
  | supTry (b : Nat)
  /-- SUP_PEEK (R250): A supervisor PEEK load returns a bell's count unchanged. -/
  | supPeek (b : Nat)
  /-- BELLS_WRITE (R251): A host BELLS window write loads a bell count and releases waiters. -/
  | bellsWrite (b : Nat) (v : Word)
  /-- SUP_POST (R527): A store to a post slot's POST word posts the descriptor to a pump. -/
  | supPost (slot : Nat) (pump : BitVec 3)
  /-- BANK_READY_MARK (R325): A bank-command store marks a channel's standby bank ready, with its FOREIGN value. -/
  | bankReadyMark (c : Nat) (foreign : Bool)
  /-- FLT_QSTAT (R483): A QSTAT load returns the queue count and LOST. -/
  | fltQstat
  /-- FLT_HEAD_READ (R483): A load of the head fault record. -/
  | fltHeadRead (k : Nat)
  /-- FLT_POP (R483): A POP store removes the head record. -/
  | fltPop
  /-- FLT_RETIRE (R484): A fault-port RETIRE retires a unit at the next snapshot edge. -/
  | fltRetire (v : W32)
  /-- FLT_READMIT (R472): A fault-port READMIT readmits a unit or starts a channel's re-admission. -/
  | fltReadmit (v : W32)
  /-- FLT_BUTTRESS (R476): A fault-port BUTTRESS store sets buttress mode regardless of LOCK. -/
  | fltButtress (v : W32)
  /-- FLT_REPAIR (R483): A fault-port REPAIR assigns a spare and copies without a test. -/
  | fltRepair (v : W32)
  /-- FLT_SCRUB (R478): A SCRUB store sets the scrub interval or stops scrubbing. -/
  | fltScrub (v : W32)
  /-- SHADOW_CFG (R483): A store sets a channel's twin and tolerance. -/
  | shadowCfg (c : Nat) (v : W32)
  /-- INT_CAUSE_CLEAR (R528): A store clears supervisor interrupt-cause bits. -/
  | intCauseClear (v : W32)
  /-- HANDOVER (R528): The HANDOVER store sets DEV_STATUS.READY. -/
  | handover
  /-- SUP_TRAP (R462): The supervisor takes an unrecoverable trap and STATE becomes Trapped. -/
  | supTrap (cause : Word)
  /-- LEVEL_REQUEST (R494): A PWR_REQ write makes a level request to the sequencer. -/
  | levelRequest (level : BitVec 2)
  /-- VID_DWELL_EXPIRY (R495): A dwell expires and VID steps one code. -/
  | vidDwellExpiry
  /-- VPG_SETTLE (R495): After VPG is high and the settle ends, bias, assist and governor switch and the level completes. -/
  | vpgSettle
  /-- VPG_TIMEOUT (R496): VPG is not high 16 dwells after the last step, so the change reverts with VPG_FAIL. -/
  | vpgTimeout
  /-- VPG_FALL (R497): VPG falls in Run and VPG_LOST is set. -/
  | vpgFall
  /-- MODE_RUN_WRITE (R500): A write of PWR_MODE.TARGET = 0 makes a Run request. -/
  | modeRunWrite
  /-- SLEEP_QUERY_ANSWER (R501): The queried block answers; on agreement the next block is queried. -/
  | sleepQueryAnswer (agree : Bool)
  /-- QUIESCE_TIMEOUT (R396): A walk gives no answer within 4,096 RIM and is taken as refusing. -/
  | quiesceTimeout (w : Nat)
  /-- TICK_UNIT_TIMEOUT (R501): The tick unit does not agree within 65,536 RIM and refuses. -/
  | tickUnitTimeout
  /-- HUSH_GATE (R504): After the drain and with CP_CS_N high, RIM, LTX and LRX are gated and TRIP_N is released. -/
  | hushGate
  /-- DORMANT_ENTRY (R507): After the drain, the rim clocks stop and the crypt opens the header switches. -/
  | dormantEntry
  /-- WAKE_EDGE (R530): A rising edge on WAKE is a wake event. -/
  | wakeEdge
  /-- LISTENER_MATCH (R531): The crypt listener matches a frame address in Dormant and starts a wake. -/
  | listenerMatch (addr : BitVec 7)
  /-- DORMANT_WAKE (R532): A latched wake event rebuilds the device on FIO and ends with the ready pulse. -/
  | dormantWake
  /-- POWER_UP (R514): VIN_CRYPT enters its range and a cold start begins. -/
  | powerUp (straps : Straps)
  /-- START_STAGE (R514): A cold-start stage begins when the previous stage's ready bits set. -/
  | startStage
  /-- REFCLK_TIMEOUT (R516): Too few REFCLK edges arrive in 2^20 FIO, so start-up continues on FIO. -/
  | refclkTimeout
  /-- RESET_N_ASSERT (R519): RESET_N falls; every block but the crypt is held in reset and TRIP_N is pulled low. -/
  | resetNAssert
  /-- RESET_N_RELEASE (R519): RESET_N rises and the device runs from stage 2. -/
  | resetNRelease
  /-- CRYPT_BROWNOUT (R611): VIN_CRYPT below 1.60 V for over 1 µs clears the crypt. -/
  | cryptBrownout
  /-- FLASH_BOOT (R521): The boot ROM reads and checks the steward image from flash. -/
  | flashBoot (image : List Byte) (quad : Bool)
  /-- RIM_SWITCH (R524): TB_SRC.RIM_SWITCH moves RIM to the locked rim PLL. -/
  | rimSwitch
  /-- RIM_TO_FIO (R524): TB_SRC.RIM_TO_FIO moves RIM to FIO. -/
  | rimToFio
  /-- PLL_LOCK_LOSS (R524): The rim PLL loses lock and RIM falls back to FIO. -/
  | pllLockLoss
  /-- TB_SEL_WRITE (R535): A TB_SRC.SEL write requests or withdraws a timebase changeover. -/
  | tbSelWrite (sel : Bool)
  /-- TB_CHANGEOVER (R535): When its conditions hold, the timebase changes source and writes a log entry. -/
  | tbChangeover
  /-- CRYSTAL_STOP (R536): No crystal edge arrives within 2,048 FIO, so the timebase changes over to the RC and GAP is set. -/
  | crystalStop
  /-- TB_LOG_READ (R537): A read at TB_LOG returns the four log entries. -/
  | tbLogRead (n : Nat)
  /-- LINK_ENABLE (R448): LNK_CTRL.ENABLE = 1 moves a port from Down to Training. -/
  | linkEnable (p : Nat)
  /-- LINK_DISABLE (R447): ENABLE = 0 moves a port to Down and its transfers complete LOST. -/
  | linkDisable (p : Nat)
  /-- LINK_RETIRE (R441): RETIRE = 1 moves a port to Retired. -/
  | linkRetire (p : Nat)
  /-- LINK_UNRETIRE (R448): Clearing RETIRE moves a port to Down and then to Training. -/
  | linkUnretire (p : Nat)
  /-- TRAINING_COMPLETE (R443): Lock, deskew and the HELLO checks are met, and the port enters Up. -/
  | trainingComplete (p : Nat) (input : TrainingInput)
  /-- LANE_LOCK_LOST (R444): A lane loses block lock and the port leaves Up for Retry. -/
  | laneLockLost (p : Nat) (loss : LaneLoss)
  /-- HELLO (R442): A HELLO frame is received and checked, or makes an Up port enter Retry. -/
  | hello (p : Nat) (input : HelloInput)
  /-- ACK (R435): An ACK frame releases frames from the replay buffer. -/
  | ack (p : Nat) (bytes : List Byte)
  /-- NAK (R438): A NAK frame causes retransmission from the named sequence number. -/
  | nak (p : Nat) (bytes : List Byte)
  /-- PAUSE (R444): A PAUSE frame puts the port into Retry with PAUSED = 1. -/
  | pause (p : Nat) (bytes : List Byte)
  /-- REQ (R453): A REQ frame makes the serving device serve the listed blocks on its pumps. -/
  | req (p : Nat) (bytes : List Byte)
  /-- RDATA (R451): An RDATA frame's payload is written into the local destination. -/
  | rdata (p : Nat) (bytes : List Byte)
  /-- WDATA (R452): A WDATA frame is written into the export by the serving device. -/
  | wdata (p : Nat) (bytes : List Byte)
  /-- WDONE (R452): A WDONE frame completes a written block. -/
  | wdone (p : Nat) (bytes : List Byte)
  /-- REFUSE (R451): A REFUSE frame marks a block refused. -/
  | refuse (p : Nat) (bytes : List Byte)
  /-- CANCEL (R455): A CANCEL frame stops the serving of an XID and is answered with CDONE. -/
  | cancel (p : Nat) (bytes : List Byte)
  /-- CDONE (R450): A CDONE frame returns the XID of a timed-out transfer. -/
  | cdone (p : Nat) (bytes : List Byte)
  /-- FRAME_TRANSMIT (R440): A sequenced frame is sent once replay-buffer room and credits allow. -/
  | frameTransmit (p : Nat)
  /-- REPLAY_TIMER (R438): The replay timer fires and the held frames are retransmitted. -/
  | replayTimer (p : Nat)
  /-- HELD_FRAME_TIMEOUT (R437): A held frame waits 64 LTX with E unchanged, and a NAK is sent. -/
  | heldFrameTimeout (p : Nat)
  /-- RETRY_STEP (R446): A retry window step passes and ATTEMPTS is incremented. -/
  | retryStep (p : Nat)
  /-- RETRY_WINDOW_END (R446): The retry window runs out and the port enters Lost. -/
  | retryWindowEnd (p : Nat)
  /-- XFER_TIMEOUT (R455): The transfer count reaches PMP_XFER_TIMEOUT; the operation completes TIMEOUT and a CANCEL is sent. -/
  | xferTimeout (op : Nat)
  /-- INJ_ARM (R459): A write of LNK_INJ_MODE arms a one-shot or sets the rate mode and action. -/
  | injArm (p : Nat) (v : Word)
  /-- INJ_SEED_WRITE (R458): A write of LNK_INJ_SEED loads the injection generator. -/
  | injSeedWrite (p : Nat) (v : Word)
  /-- CLO_LOAD (R408): CLO_CTRL.LOAD starts a cloister load, or is refused with BUSY. -/
  | cloLoad (v : Word)
  /-- CLO_ABORT (R418): CLO_CTRL.ABORT ends a load in progress. -/
  | cloAbort
  /-- CLO_CONFIG_WORD (R409): A CLO_CONFIG window word feeds two image bytes to the load. -/
  | cloConfigWord (v : Word)
  /-- LOAD_WORD_TIMEOUT (R409): No word arrives for 2^24 RIM and the load fails with LENGTH. -/
  | loadWordTimeout
  /-- RELEASE_STAGE (R416): A release stage falls after its CCK0 count and releases outputs, writes or logic. -/
  | releaseStage
  /-- CLO_SAFE_WRITE (R414): A CLO_SAFE write stores or selects a pin's safe state. -/
  | cloSafeWrite (r : BitVec 8) (v : Word)
  /-- QUIESCE_ANSWER (R396): User logic answers the quiesce query with QAGREE or QREFUSE. -/
  | quiesceAnswer (w : Nat) (lines : QuiesceLines)
  /-- SIGN (R548): The SEC SIGN command signs a challenge with the die key. -/
  | sign (src : Source) (arg : BitVec 8)
  /-- HMAC_INIT (R549): The SEC HMAC_INIT command opens an HMAC session keyed from a slot. -/
  | hmacInit (src : Source) (arg : BitVec 8)
  /-- HMAC_UPDATE (R550): The SEC HMAC_UPDATE command appends a source range to the session. -/
  | hmacUpdate (src : Source) (arg : BitVec 8)
  /-- HMAC_FINAL (R549): The SEC HMAC_FINAL command closes the session and outputs the HMAC. -/
  | hmacFinal (src : Source) (arg : BitVec 8)
  /-- PROGRAM (R551): The SEC PROGRAM command fuses the staged key into a binding slot. -/
  | program (src : Source) (arg : BitVec 8)
  /-- REVOKE (R553): The SEC REVOKE command sets a slot's revoke fuse. -/
  | revoke (src : Source) (arg : BitVec 8)
  /-- KCV (R554): The SEC KCV command outputs a slot's key check value. -/
  | kcv (src : Source) (arg : BitVec 8)
  /-- SEC_COMPLETE (R547): A SEC command's duration ends and it completes with DONE or ERR. -/
  | secComplete
  /-- PTR_CLR (R544): SEC_CTRL.PTR_CLR returns the three window pointers to 0. -/
  | ptrClr
  /-- CHAL_IN_WRITE (R544): A word written to CHAL_IN is stored, and the pointer advances. -/
  | chalInWrite (v : Word)
  /-- RESP_OUT_READ (R544): A read of RESP_OUT returns output words and advances the pointer. -/
  | respOutRead (n : Nat)
  /-- ID_CERT_READ (R544): A read of ID_CERT returns certificate words and advances the pointer. -/
  | idCertRead (n : Nat)
  /-- TAP_RESET (R582): TRST_N or Test-Logic-Reset selects IDCODE and returns the pins to their functional drivers. -/
  | tapReset
  /-- EXTEST (R585): The EXTEST instruction drives the pins from the boundary register, or acts as BYPASS while LOCK = 1. -/
  | extest
  /-- SAMPLE_PRELOAD (R582): The SAMPLE/PRELOAD instruction selects the boundary register. -/
  | samplePreload
  /-- IDCODE (R583): The IDCODE instruction selects the 32-bit identification register. -/
  | idcode
  /-- CLAMP (R585): The CLAMP instruction holds the boundary values on the pins, or acts as BYPASS while LOCK = 1. -/
  | clamp
  /-- HIGHZ (R585): The HIGHZ instruction makes the boundary outputs high impedance, or acts as BYPASS while LOCK = 1. -/
  | highz
  /-- REGACC (R586): The REGACC instruction selects the 34-bit register-access register. -/
  | regacc
  /-- BYPASS (R582): The BYPASS instruction, or any unlisted code, selects the bypass register. -/
  | bypass
  /-- REGACC_UPDATE (R586): An Update-DR of REGACC starts one register access, or is refused. -/
  | regaccUpdate (dr : BitVec 34)
  /-- TIMEBASE_COUNT (R534): A rising edge of the counting 32.768 kHz source increments the 48-bit timebase count, which reaches TB_COUNT 2 RIM later. -/
  | timebaseCount
  /-- RIM_PLL_LOCK (R524): The rim PLL gains lock and CRY_STATUS.RIM_LOCK sets, so that a later RIM_SWITCH can move RIM to the PLL. -/
  | rimPllLock
  /-- BLOCK_LOCK_REGAINED (R446): A port in Retry with PAUSED = 1 regains block lock on its receive lanes; PAUSED returns to 0 and the retry window starts afresh. -/
  | blockLockRegained (lock : Relock)
  /-- FLASH_IMAGE_BYTE (R411): A byte of a cloister image read from boot flash under SRC = 1 is taken in and advances the load's checks, or the load fails with FLASH when the flash does not answer. -/
  | flashImageByte (read : FlashRead)
deriving DecidableEq, Repr

end Sys2Proof
end

