-- ==== Sys2Proof/WellFormed.lean ====
section
/-! DEFINITION. Which commands are well formed: each index names a unit that some part of the family has, and each
operand lies in the range its row can carry. -/

namespace Sys2Proof

/-- A bank that some part has (R477). -/
def BankId.ok : BankId → Bool
  | .cistern b => decide (b < 16)
  | .store e b => decide (e < 16) && decide (b < 16)

/-- A unit that the stillness watch covers (R48). -/
def StillUnit.ok : StillUnit → Bool
  | .engine e => decide (e < 16)
  | .pump p => decide (p < 8)
  | .bank b => decide (b < 16)
  | .tagPool => true
  | .bells => true

/-- The command is well formed. -/
def Instr.wellFormed : Instr → Bool
  | .tickEdge _ => true
  | .tickLost => true
  | .freeRunExpiry => true
  | .delayedProgramStart e => decide (e < 16)
  | .guardEdge => true
  | .vdReport => true
  | .tripHoldEnd c => decide (c < 16)
  | .paceWindowEnd _ _ => true
  | .stillnessFault u => u.ok
  | .writeFrame _ => true
  | .readFrame _ => true
  | .registerWrite _ _ _ _ => true
  | .windowWrite _ => true
  | .windowRead n => decide (1 ≤ n ∧ n ≤ 128)
  | .lockSet => true
  | .buttressOnly _ => true
  | .tagLowWaterReset => true
  | .chEnable c => decide (c < 16)
  | .chDisable c => decide (c < 16)
  | .shutdownComplete c => decide (c < 16)
  | .chLearn c => decide (c < 16)
  | .inWinClear c => decide (c < 16)
  | .faultWindowEnd c => decide (c < 16)
  | .engEnable e => decide (e < 16)
  | .engDisable e => decide (e < 16)
  | .bgStart e => decide (e < 16)
  | .clrFault e => decide (e < 16)
  | .bankSizeWrite e _ => decide (e < 16)
  | .backgroundStart e => decide (e < 16)
  | .halt e => decide (e < 16)
  | .haltV e _ => decide (e < 16)
  | .ldt e => decide (e < 16)
  | .stt e => decide (e < 16)
  | .post e => decide (e < 16)
  | .tagGrant => true
  | .tileI8I8 e => decide (e < 16)
  | .tileI4I4 e => decide (e < 16)
  | .tileI8I4 e => decide (e < 16)
  | .tileI8I6 e => decide (e < 16)
  | .vecAdd e => decide (e < 16)
  | .vecSub e => decide (e < 16)
  | .vecMul e => decide (e < 16)
  | .vecMulh e => decide (e < 16)
  | .vecMin e => decide (e < 16)
  | .vecMax e => decide (e < 16)
  | .vecAbs e => decide (e < 16)
  | .vecRelu e => decide (e < 16)
  | .vecClamp e => decide (e < 16)
  | .vecShr e => decide (e < 16)
  | .vecShl e => decide (e < 16)
  | .vecNarrow e => decide (e < 16)
  | .vecWiden e => decide (e < 16)
  | .vecScale e => decide (e < 16)
  | .vecLut e => decide (e < 16)
  | .vecMove e => decide (e < 16)
  | .vecBroadcast e => decide (e < 16)
  | .redSum e => decide (e < 16)
  | .redSumsq e => decide (e < 16)
  | .redMax e => decide (e < 16)
  | .redMin e => decide (e < 16)
  | .cmpGt e => decide (e < 16)
  | .cmpGe e => decide (e < 16)
  | .cmpLt e => decide (e < 16)
  | .cmpLe e => decide (e < 16)
  | .cmpEq e => decide (e < 16)
  | .cmpNe e => decide (e < 16)
  | .trace e => decide (e < 16)
  | .srnd e => decide (e < 16)
  | .dgate e => decide (e < 16)
  | .seal e => decide (e < 16)
  | .ring e => decide (e < 16)
  | .await e => decide (e < 16)
  | .tagwait e => decide (e < 16)
  | .loop e => decide (e < 16)
  | .br e => decide (e < 16)
  | .pumpCopy _ _ => true
  | .pumpRelayout _ _ => true
  | .pumpGather _ _ => true
  | .pumpScatter _ _ => true
  | .pumpWindow _ _ => true
  | .pumpFill _ _ => true
  | .remoteRead _ => true
  | .remoteWrite _ => true
  | .pumpCompletion _ => true
  | .wellWaitEnd _ => true
  | .sampleCapture w _ _ _ _ => decide (w < 64)
  | .wellEnable w => decide (w < 64)
  | .wellDisable w => decide (w < 64)
  | .epochEnd c => decide (c < 16)
  | .sweepComplete c => decide (c < 16)
  | .bankSwap c => decide (c < 16)
  | .scrubInterval => true
  | .columnTest bank result bitPos => bank.ok && decide (1 ≤ result ∧ result ≤ 4) && decide (bitPos < 72)
  | .spareCopy bank => bank.ok
  | .spareSwitch bank => bank.ok
  | .journalWrite => true
  | .admitReq => true
  | .wexport => true
  | .wimport => true
  | .mboxRetire => true
  | .mboxReadmit => true
  | .mboxFaults => true
  | .mboxRepair => true
  | .supHalt _ => true
  | .supRestart => true
  | .supGo => true
  | .goTimeout => true
  | .supWfi => true
  | .supLoad addr size => decide (addr < 2 ^ 32) && decide (size = 1 ∨ size = 2 ∨ size = 4)
  | .supStore addr size _ => decide (addr < 2 ^ 32) && decide (size = 1 ∨ size = 2 ∨ size = 4)
  | .supFence => true
  | .supRing b _ => decide (b < 64)
  | .supTry b => decide (b < 64)
  | .supPeek b => decide (b < 64)
  | .bellsWrite b _ => decide (b < 64)
  | .supPost slot _ => decide (slot < 8)
  | .bankReadyMark c _ => decide (c < 16)
  | .fltQstat => true
  | .fltHeadRead k => decide (k < 4)
  | .fltPop => true
  | .fltRetire _ => true
  | .fltReadmit _ => true
  | .fltButtress _ => true
  | .fltRepair _ => true
  | .fltScrub _ => true
  | .shadowCfg c _ => decide (c < 16)
  | .intCauseClear _ => true
  | .handover => true
  | .supTrap _ => true
  | .levelRequest _ => true
  | .vidDwellExpiry => true
  | .vpgSettle => true
  | .vpgTimeout => true
  | .vpgFall => true
  | .modeRunWrite => true
  | .sleepQueryAnswer _ => true
  | .quiesceTimeout w => decide (w < 4)
  | .tickUnitTimeout => true
  | .hushGate => true
  | .dormantEntry => true
  | .wakeEdge => true
  | .listenerMatch _ => true
  | .dormantWake => true
  | .powerUp _ => true
  | .startStage => true
  | .refclkTimeout => true
  | .resetNAssert => true
  | .resetNRelease => true
  | .cryptBrownout => true
  | .flashBoot _ _ => true
  | .rimSwitch => true
  | .rimToFio => true
  | .pllLockLoss => true
  | .tbSelWrite _ => true
  | .tbChangeover => true
  | .crystalStop => true
  | .tbLogRead n => decide (1 ≤ n ∧ n ≤ 128)
  | .linkEnable p => decide (p < 4)
  | .linkDisable p => decide (p < 4)
  | .linkRetire p => decide (p < 4)
  | .linkUnretire p => decide (p < 4)
  | .trainingComplete p _ => decide (p < 4)
  | .laneLockLost p l => decide (p < 4) && decide (l.lane < 2)
  | .hello p _ => decide (p < 4)
  | .ack p _ => decide (p < 4)
  | .nak p _ => decide (p < 4)
  | .pause p _ => decide (p < 4)
  | .req p _ => decide (p < 4)
  | .rdata p _ => decide (p < 4)
  | .wdata p _ => decide (p < 4)
  | .wdone p _ => decide (p < 4)
  | .refuse p _ => decide (p < 4)
  | .cancel p _ => decide (p < 4)
  | .cdone p _ => decide (p < 4)
  | .frameTransmit p => decide (p < 4)
  | .replayTimer p => decide (p < 4)
  | .heldFrameTimeout p => decide (p < 4)
  | .retryStep p => decide (p < 4)
  | .retryWindowEnd p => decide (p < 4)
  | .xferTimeout _ => true
  | .injArm p _ => decide (p < 4)
  | .injSeedWrite p _ => decide (p < 4)
  | .cloLoad _ => true
  | .cloAbort => true
  | .cloConfigWord _ => true
  | .loadWordTimeout => true
  | .releaseStage => true
  | .cloSafeWrite r _ => decide (4 ≤ r.toNat ∧ r.toNat ≤ 6)
  | .quiesceAnswer w _ => decide (w < 4)
  | .sign _ _ => true
  | .hmacInit _ _ => true
  | .hmacUpdate _ _ => true
  | .hmacFinal _ _ => true
  | .program _ _ => true
  | .revoke _ _ => true
  | .kcv _ _ => true
  | .secComplete => true
  | .ptrClr => true
  | .chalInWrite _ => true
  | .respOutRead n => decide (1 ≤ n ∧ n ≤ 128)
  | .idCertRead n => decide (1 ≤ n ∧ n ≤ 128)
  | .tapReset => true
  | .extest => true
  | .samplePreload => true
  | .idcode => true
  | .clamp => true
  | .highz => true
  | .regacc => true
  | .bypass => true
  | .regaccUpdate _ => true
  | .timebaseCount => true
  | .rimPllLock => true
  | .blockLockRegained l => decide (l.port < 4)
  | .flashImageByte _ => true

end Sys2Proof
end

