-- ==== Sys2Proof/Machine/Bits.lean ====
section
/-! DEFINITION. Bit fields, sign handling, byte order and list helpers, all as small total functions. -/

namespace Sys2Proof.Machine

/-- Bits `lo + n - 1 .. lo` of a natural number. -/
def fld (x lo n : Nat) : Nat := (x >>> lo) % 2 ^ n

/-- Bits `lo + n - 1 .. lo` of a register word, as a number. -/
def wfld (w : Word) (lo n : Nat) : Nat := fld w.toNat lo n

/-- Bit `i` of a number. -/
def nbit (x i : Nat) : Bool := x.testBit i

/-- Bit `i` of a register word. -/
def wbit (w : Word) (i : Nat) : Bool := w.getLsbD i

/-- A register word from a number. -/
def word (x : Nat) : Word := BitVec.ofNat 16 x

/-- A byte from a number. -/
def byte (x : Nat) : Byte := BitVec.ofNat 8 x

/-- 1 or 0. -/
def b2n (b : Bool) : Nat := if b then 1 else 0

/-- `b` at bit `i` of a word. -/
def bitAt (b : Bool) (i : Nat) : Word := if b then word (2 ^ i) else 0

/-- Word with bit `i` set. -/
def setBit (w : Word) (i : Nat) : Word := w ||| word (2 ^ i)

/-- Word with bit `i` clear. -/
def clrBit (w : Word) (i : Nat) : Word := w &&& ~~~ word (2 ^ i)

/-- Word with bit `i` made `b`. -/
def putBit (w : Word) (i : Nat) (b : Bool) : Word := if b then setBit w i else clrBit w i

/-- Word whose field of `n` bits at `lo` is replaced by `v`. -/
def putFld (w : Word) (lo n v : Nat) : Word :=
  (w &&& ~~~ word ((2 ^ n - 1) * 2 ^ lo)) ||| word ((v % 2 ^ n) * 2 ^ lo)

/-- The two's-complement value of the low `n` bits of `x`. -/
def sext (n x : Nat) : Int :=
  if n = 0 then 0
  else if x % 2 ^ n < 2 ^ (n - 1) then ((x % 2 ^ n : Nat) : Int) else ((x % 2 ^ n : Nat) : Int) - (2 ^ n : Nat)

/-- The low `n` bits of an integer, two's complement. -/
def toU (n : Nat) (x : Int) : Nat := (x % ((2 ^ n : Nat) : Int)).toNat

/-- Clamp to a signed range of `n` bits. -/
def satS (n : Nat) (x : Int) : Int :=
  let hi : Int := ((2 ^ (n - 1) : Nat) : Int) - 1
  if x > hi then hi else if x < - hi - 1 then - hi - 1 else x

/-- Saturating 16-bit increment by `d` (R77). -/
def satAdd16 (w : Word) (d : Nat) : Word := word (min 0xFFFF (w.toNat + d))

/-- Little-endian value of a byte list. -/
def leVal : List Byte → Nat
  | [] => 0
  | b :: bs => b.toNat + 256 * leVal bs

/-- `n` little-endian bytes of a number. -/
def leBytes : Nat → Nat → List Byte
  | 0, _ => []
  | n + 1, x => byte x :: leBytes n (x / 256)

/-- Big-endian value of a byte list. -/
def beVal (bs : List Byte) : Nat := bs.foldl (fun a b => a * 256 + b.toNat) 0

/-- `n` big-endian bytes of a number. -/
def beBytes (n x : Nat) : List Byte := (leBytes n x).reverse

/-- Element `i` of a list, or `d`. -/
def nth {α : Type} (xs : List α) (i : Nat) (d : α) : α := xs.getD i d

/-- The list with element `i` changed by `f` (unchanged when there is none). -/
def modAt {α : Type} : List α → Nat → (α → α) → List α
  | [], _, _ => []
  | x :: xs, 0, f => f x :: xs
  | x :: xs, i + 1, f => x :: modAt xs i f

/-- Set bits of a mask below `n`, ascending. -/
def maskList (m n : Nat) : List Nat := (List.range n).filter (fun i => m.testBit i)

/-- Ceiling division. -/
def cdiv (a b : Nat) : Nat := (a + b - 1) / b

/-- Repeat `f` over the list, threading the state: a fold with the state last. -/
def foldS {α σ : Type} (f : α → σ → σ) : List α → σ → σ
  | [], s => s
  | x :: xs, s => foldS f xs (f x s)

end Sys2Proof.Machine
end

