-- ==== Sys2Proof/Machine/Arith.lean ====
section
/-! DEFINITION. Number formats and arithmetic (11, 12, 14): pure functions on byte lists and integers. -/

namespace Sys2Proof.Machine

/-! ## Packed elements (R288, R289) -/

/-- Element `j` of signed format width `w` in the packed value `x` (R288). -/
def elemAt (w x j : Nat) : Int := sext w (x >>> (w * j))

/-- `n` signed elements of width `w` of a byte string (R288). -/
def elems (w n : Nat) (bs : List Byte) : List Int :=
  let x := leVal bs
  (List.range n).map (fun j => elemAt w x j)

/-- The packed value of signed elements of width `w`. -/
def packVal (w : Nat) : List Int → Nat
  | [] => 0
  | x :: xs => toU w x + 2 ^ w * packVal w xs

/-- Bytes of packed elements (R288). -/
def packElems (w : Nat) (xs : List Int) : List Byte := leBytes (w * xs.length / 8) (packVal w xs)

/-- One lane of 21 INT6 elements, pad bits 0 (R289). -/
def pack6Lane (xs : List Int) : List Byte := leBytes 16 (packVal 6 (xs.take 21))

/-- Lanes of INT6 elements. -/
def pack6 : Nat → List Int → List Byte
  | 0, _ => []
  | n + 1, xs => pack6Lane xs ++ pack6 n (xs.drop 21)

/-- Width in bits of an ETYPE (R211). -/
def etypeWidth (t : Nat) : Nat := if t = 0 then 8 else if t = 1 then 16 else 32

/-! ## Rounding -/

/-- x ÷ d to the nearest integer, ties to even (R296). -/
def rneDiv (x : Int) (d : Nat) : Int :=
  let q := x / (d : Int)
  let r := x - q * d
  if 2 * r < d then q else if 2 * r > d then q + 1 else if q % 2 = 0 then q else q + 1

/-- Integer image Q of an E4M3 code (R290, R291). -/
def e4m3Q (code : Nat) : Int :=
  let m := code % 8
  let e := code / 8 % 16
  let q : Nat := if code % 128 = 0x7F then 0 else if e = 0 then m else (8 + m) * 2 ^ (e - 1)
  if code / 128 % 2 = 1 then - (q : Int) else (q : Int)

/-! ## The rounding generator (R299 to R302) -/

/-- One step of the generator; its new state is also its output (R299). -/
def genStep (x : W32) : W32 :=
  let a := x ^^^ (x <<< 13)
  let b := a ^^^ (a >>> 17)
  b ^^^ (b <<< 5)

/-- Stochastic rounding of v ÷ 2^s by draw u, to `w` bits (R302, R310). -/
def stochRound (w s : Nat) (v : Int) (u : W32) : Int :=
  let f := v / ((2 ^ s : Nat) : Int)
  let r := (v - f * ((2 ^ s : Nat) : Int)).toNat
  let rr := if s = 0 then 0 else r * 2 ^ (32 - s)
  satS w (if u.toNat < rr then f + 1 else f)

/-- Round a list of values, one draw each, in order; the generator's last state comes back (R301). -/
def stochList (w s : Nat) : List Int → W32 → List Int × W32
  | [], g => ([], g)
  | v :: vs, g =>
    let u := genStep g
    let (ys, g') := stochList w s vs u
    (stochRound w s v u :: ys, g')

/-! ## Vector operations (R211, R296 to R298) -/

/-- The VEC functions (R211). -/
inductive VecOp where
  | add | sub | mul | mulh | min | max | abs | relu | clamp | shr | shl | narrow | widen | scale | lut | move | broadcast
deriving DecidableEq, Repr

/-- The VEC function of OP and FUNC, where the table lists it. -/
def vecOp (op func : Nat) : Option VecOp :=
  match op, func with
  | 0, 0 => some .add
  | 0, 1 => some .sub
  | 0, 2 => some .mul
  | 0, 3 => some .mulh
  | 1, 0 => some .min
  | 1, 1 => some .max
  | 1, 2 => some .abs
  | 1, 3 => some .relu
  | 1, 4 => some .clamp
  | 2, 0 => some .shr
  | 2, 1 => some .shl
  | 3, 0 => some .narrow
  | 3, 1 => some .widen
  | 4, 0 => some .scale
  | 5, 0 => some .lut
  | 6, 0 => some .move
  | 6, 1 => some .broadcast
  | _, _ => none

/-- The function reads D as well as S2 (R211). -/
def VecOp.readsD : VecOp → Bool
  | .add => true
  | .sub => true
  | .mul => true
  | .mulh => true
  | .min => true
  | .max => true
  | .scale => true
  | .lut => true
  | _ => false

/-- Width of D for ETYPE width `w` (R296). -/
def VecOp.dWidth (o : VecOp) (w : Nat) : Nat :=
  match o with
  | .narrow => w / 2
  | .widen => 2 * w
  | _ => w

/-- Bytes of S2 that the function touches, for `n` elements of width `w`. -/
def VecOp.s2Bytes (o : VecOp) (w n : Nat) : Nat :=
  match o with
  | .scale => 16
  | .lut => 256
  | .broadcast => 16
  | _ => w * n / 8

/-- One binary element (R296). -/
def vecBin (o : VecOp) (w : Nat) (d s : Int) : Int :=
  match o with
  | .add => satS w (d + s)
  | .sub => satS w (d - s)
  | .mul => satS w (d * s)
  | .mulh => d * s / ((2 ^ w : Nat) : Int)
  | .min => if s < d then s else d
  | .max => if d < s then s else d
  | _ => d

/-- One unary element (R296); the result is of the function's D width. -/
def vecUn (o : VecOp) (w imm : Nat) (x : Int) : Int :=
  match o with
  | .abs => satS w (if x < 0 then - x else x)
  | .relu => if x < 0 then 0 else x
  | .clamp =>
    let b : Int := ((2 ^ imm : Nat) : Int) - 1
    satS w (if x > b then b else if x < - b then - b else x)
  | .shr => rneDiv x (2 ^ imm)
  | .shl => satS w (x * ((2 ^ imm : Nat) : Int))
  | .narrow => satS (w / 2) x
  | _ => x

/-- The piecewise-linear table (R298): `tbl` is the table's packed value. -/
def lutElem (w tbl : Nat) (x : Int) : Int :=
  let u := (toU w x) ^^^ (2 ^ (w - 1))
  let i := u / 2 ^ (w - 6)
  let f := u % 2 ^ (w - 6)
  let b := sext 16 (tbl >>> (32 * i))
  let m := sext 16 (tbl >>> (32 * i + 16))
  satS w (b + rneDiv (m * f) (2 ^ (w - 6)))

/-- The whole VEC result for D elements `d`, S2 bytes `s2`, `n` elements of width `w`. -/
def vecResult (o : VecOp) (w n imm : Nat) (d : List Int) (s2 : List Byte) : List Int :=
  match o with
  | .scale => d.mapIdx (fun j x => satS w (rneDiv (x * e4m3Q (nth s2 (j % 64 / 8) 0).toNat) 512))
  | .lut => let t := leVal s2; d.map (fun x => lutElem w t x)
  | .broadcast => List.replicate n (elemAt w (leVal s2) 0)
  | _ =>
    if o.readsD then List.zipWith (fun x y => vecBin o w x y) d (elems w n s2)
    else (elems w n s2).map (fun x => vecUn o w imm x)

/-! ## RED and CMP (R212, R296) -/

/-- The RED functions. -/
inductive RedOp where
  | sum | sumsq | max | min
deriving DecidableEq, Repr

/-- RED of OP. -/
def redOp (op : Nat) : Option RedOp :=
  match op with
  | 0 => some .sum
  | 1 => some .sumsq
  | 2 => some .max
  | 3 => some .min
  | _ => none

/-- The INT32 result of a reduction (R296). -/
def redResult (o : RedOp) (xs : List Int) : Int :=
  match o with
  | .sum => satS 32 (xs.foldl (· + ·) 0)
  | .sumsq => satS 32 (xs.foldl (fun a x => a + x * x) 0)
  | .max => xs.tail.foldl (fun a x => if a < x then x else a) (xs.headD 0)
  | .min => xs.tail.foldl (fun a x => if x < a then x else a) (xs.headD 0)

/-- The CMP functions. -/
inductive CmpOp where
  | gt | ge | lt | le | eq | ne
deriving DecidableEq, Repr

/-- CMP of OP. -/
def cmpOp (op : Nat) : Option CmpOp :=
  match op with
  | 0 => some .gt
  | 1 => some .ge
  | 2 => some .lt
  | 3 => some .le
  | 4 => some .eq
  | 5 => some .ne
  | _ => none

/-- One comparison, signed. -/
def cmpElem (o : CmpOp) (a b : Int) : Bool :=
  match o with
  | .gt => decide (b < a)
  | .ge => decide (b ≤ a)
  | .lt => decide (a < b)
  | .le => decide (a ≤ b)
  | .eq => decide (a = b)
  | .ne => decide (a ≠ b)

/-- Bits, least significant first, as bytes. -/
def bitsToBytes (bs : List Bool) : List Byte :=
  leBytes (bs.length / 8) (bs.foldr (fun b a => b2n b + 2 * a) 0)

/-! ## TILE (R210, R293 to R295, R305) -/

/-- The tile modes. -/
inductive TileMode where
  | i8i8 | i4i4 | i8i4 | i8i6
deriving DecidableEq, Repr

/-- TILE mode of OP. -/
def tileMode (op : Nat) : Option TileMode :=
  match op with
  | 0 => some .i8i8
  | 1 => some .i4i4
  | 2 => some .i8i4
  | 3 => some .i8i6
  | _ => none

/-- K (R210). -/
def TileMode.k : TileMode → Nat
  | .i4i4 => 64
  | _ => 32
/-- Width of an A element. -/
def TileMode.aWidth : TileMode → Nat
  | .i4i4 => 4
  | _ => 8
/-- Elements of B in a lane, n (R293). -/
def TileMode.perLane : TileMode → Nat
  | .i8i8 => 16
  | .i8i6 => 21
  | _ => 32
/-- Bytes of the B block (R293). -/
def TileMode.bBytes : TileMode → Nat
  | .i8i4 => 576
  | .i8i6 => 1008
  | _ => 1152
/-- Bytes of the A block. -/
def TileMode.aBytes (m : TileMode) : Nat := 32 * m.k * m.aWidth / 8

/-- Element `e` of a B block held in bays (R293); `x` is the block's packed value. -/
def bayElem (m : TileMode) (x e : Nat) : Int :=
  let l := e / m.perLane
  let slot := e % m.perLane
  let bit := 8 * (144 * (l / 8) + 16 * (1 + l % 8))
  match m with
  | .i8i8 => sext 8 (x >>> (bit + 8 * slot))
  | .i8i6 => sext 6 (x >>> (bit + 6 * slot))
  | _ => sext 4 (x >>> (bit + 4 * slot))

/-- Q of the scale that covers element `e` (R292, R295). -/
def bayQ (m : TileMode) (x e : Nat) : Int :=
  let l := e / m.perLane
  e4m3Q ((x >>> (8 * (144 * (l / 8) + l % 8))) % 256)

/-- One elementary product. While the PL0 segment runs shortened, bits 3:0 of a product of non-zero operands are the
free nibble (R305). -/
def tileProd (free : Option Nat) (a b : Int) : Int :=
  match free with
  | none => a * b
  | some i => if a = 0 ∨ b = 0 then 0 else a * b / 16 * 16 + ((Config.freeBits i).toNat % 16 : Nat)

/-- The exact or free sum for row `arow` and column `c` of B (R295); product (r, c, k) takes free value
`base + 32·K·r + K·c + k`. -/
def tileSum (m : TileMode) (free : Option Nat) (r c : Nat) (arow : List Int) (bx : Nat) : Int :=
  (arow.mapIdx (fun k a =>
    let e := m.k * c + k
    bayQ m bx e * tileProd (free.map (fun i => i + 32 * m.k * r + m.k * c + k)) a (bayElem m bx e))).foldl (· + ·) 0

/-- Row `r` of A from the packed value (R294). -/
def aRow (m : TileMode) (ax r : Nat) : List Int :=
  (List.range m.k).map (fun k => elemAt m.aWidth ax (r * m.k + k))

/-- The 32 × 32 results, row-major (R295); `c0` is the packed C block when ACC applies. -/
def tileResult (m : TileMode) (free : Option Nat) (a b : List Byte) (c0 : Option (List Byte)) : List Int :=
  let ax := leVal a
  let bx := leVal b
  let cx := c0.map leVal
  (List.range 32).flatMap (fun r =>
    let row := aRow m ax r
    (List.range 32).map (fun c =>
      satS 32 ((match cx with | some x => elemAt 32 x (32 * r + c) | none => 0) + tileSum m free r c row bx)))

/-- Zero elements of an A block (R367). -/
def zeroCount (m : TileMode) (a : List Byte) : Nat :=
  ((elems m.aWidth (32 * m.k) a).filter (fun x => x = 0)).length

/-! ## DGATE (R363) and TRACE (R310) -/

/-- One DGATE element: (DST, new PREV); in a refresh tick both are CUR (R363, R371). -/
def dgateElem (w dz : Nat) (refresh : Bool) (cur prev : Int) : Int × Int :=
  if refresh then (cur, cur)
  else
    let d := cur - prev
    let dst := if Int.natAbs d ≤ dz then 0 else satS w d
    (dst, prev + dst)

/-- The values v of a TRACE block before rounding, row-major: element (k, c) from the old element, x_k and y_c. -/
def traceVals (lam sh : Nat) (clear : Bool) (old xs ys : List Int) : List Int :=
  xs.zipIdx.flatMap (fun (x, k) => ys.zipIdx.map (fun (y, c) =>
    let e0 := if clear then 0 else nth old (32 * k + c) 0
    (lam : Int) * e0 * ((2 ^ sh : Nat) : Int) + x * y * 256))

end Sys2Proof.Machine
end

