-- ==== Sys2Proof/Machine/State.lean ====
section
/-! DEFINITION. The state of the device as plain data: every register, counter, mode, buffer and pin the manual gives
it, and the queue of waiting commands; the reasons a step can stop; and the state after reset. -/

namespace Sys2Proof.Machine

/-- Why the device stops with a fault. No meaning of this model raises one: every event of the table has an effect the
manual gives, and the manual's own faults are records and flags of State. -/
inductive Fault where
  /-- Raised by no meaning; safe. -/
  | none
deriving DecidableEq, Repr

/-- Why a command is refused. -/
inductive Refusal where
  /-- The command has no meaning yet; raised by the dispatch arm of that command only; safe. -/
  | notModelled (mnemonic : String)
deriving DecidableEq, Repr

/-- Memory as listed (address, byte) pairs: addresses strictly rising, no listed byte zero. An unlisted byte reads 0. -/
abbrev Mem := List Host.Cell

/-- The register file: (256 × TGT + REG, stored word) pairs, keys strictly rising, no entry equal to the register's
reset value; an unlisted register holds its reset value. Live bits are not stored here (Machine/RegFile.lean). -/
abbrev RegFile := List (Nat × Word)

/-! ## Tick unit, VD port -/

/-- The tick unit (R54 to R78): what is in force, the measurement and the tick in progress. Times are RIM counts. -/
structure TickUnit where
  en : Bool            -- TICK_CTRL.ENABLE in force
  src : Bool           -- TICK_CTRL.SRC in force (true = free-run timer)
  fallback : Bool      -- TICK_CTRL.FALLBACK in force
  pend : Bool          -- a TICK_CTRL write waits for the next snapshot edge (R78)
  lost : Bool          -- TICK is declared lost and no edge has been accepted since
  lossRef : Option Nat -- where the loss count runs from (R58)
  freeDue : Option Nat -- when the free-run timer next expires (R59)
  lastEdge : Option Nat -- the last accepted TICK edge
  intervals : List Nat -- the last eight entered intervals, newest first (R57)
  entered : Nat        -- intervals entered since VALID was last cleared
  number : Nat         -- snapshot edges since reset
  open_ : Bool         -- the guard edge of the present tick is still to come
  snapAt : Nat         -- RIM count of the last snapshot edge
  snapTb : Nat         -- timebase of the last snapshot edge
  guard : Nat          -- G of the present tick (R68)
  flagged : List Nat   -- numbers of the ticks flagged PROMISE_BROKEN that are present or still have work running (R76)
  buttressOnly : Bool  -- device-wide buttress mode in force (R343)
  lean : Bool          -- PL0 in force on the snapshot edge and no level change begun (R372)
  stopped : Bool       -- the tick unit has agreed to a sleep entry (R502, R509)
  reported : Bool      -- the present tick's VD report has been formed
  vdQueue : List (Nat × Nat) -- (class, channel) reports formed and not yet driven, oldest first (R344)
  vd : BitVec 4        -- VD[3:0]
  vdClass : BitVec 4   -- the class VD[3:0] carried at the last first pulse
  vdPulses : Nat       -- VD_STB pulses since reset
  vdStb : Bool         -- VD_STB
deriving DecidableEq, Repr

/-- The pace monitor's memory (R42 to R44). -/
structure Pace where
  overs : Nat          -- consecutive valid windows over the guarantee
  full : Bool          -- R43's conditions have held since the present window began
deriving DecidableEq, Repr

/-! ## Channels -/

/-- The seven channel states (06, the channel-state table). -/
inductive ChState where
  | off
  | active
  | watch
  | shadow
  | readmitting
  | retired
  | stopping
deriving DecidableEq, Repr

/-- An engine verdict as it latched: class, score, KIND and payload (R336, R338). -/
structure EngVerdict where
  cls : Nat
  score : Nat
  kind : Nat
deriving DecidableEq, Repr

/-- The learning state of a channel (R308 to R326). -/
structure Learn where
  exp : Nat            -- epoch length exponent in force (R313)
  pos : Nat            -- epoch position
  tainted : Bool       -- a trap stopped a tick program of the channel this epoch (R315)
  active : Bool        -- ACTIVE bank: false = A
  ready : Bool
  readyForeign : Option Bool -- FOREIGN carried by the mark of R325; none for a sweep's READY
  sweepOn : Bool       -- ENG_BANK.SWEEP
  parts : List Nat     -- engines whose sweep part has not completed
  sweepBad : Bool      -- a part trapped, or the channel retired or stopped: no READY (R318, R471, R159)
  hold : Bool
  foreign : Bool
  clear : Bool         -- CLEAR mark set and not yet consumed (R312)
  clearNow : Bool      -- CLEAR in force for the running tick's program
  tickBank : Option (Nat × Bool) -- the tick whose program started last, and the bank that it uses to its end (R26)
  swaps : Nat          -- swaps since the channel's last enable (journal AUX)
  imports : List Nat   -- engines whose image passed WIMPORT since the last swap (R332)
  epochs : Nat         -- swaps since the last import or reset (weight image EPOCHS, R327)
deriving DecidableEq, Repr

/-- The sampling state of a channel (R362 to R376). -/
structure Drift where
  rate : Word          -- CH_SAMPLE_RATE in force (R375)
  bound : Nat          -- CH_DRIFT.BOUND in force
  counter : Nat        -- sample counter (R366)
  sampled : Bool       -- the present tick is sampled
  refresh : Bool       -- REFRESH
  refreshTick : Bool   -- the present tick is a refresh tick
  worst : Nat          -- worst run result of the tick: 0 none, 1 PASS, 2 MISS, 3 FAIL
deriving DecidableEq, Repr

/-- The shadow comparison of a channel (R472 to R474). -/
structure Shadow where
  left : Nat           -- SHADOW_LEFT
  cfg : Word           -- SHADOW_CFG sampled at the start of re-admission
  dep : Bool           -- shadow departure state
  failed : Nat         -- failed ticks in the present epoch
  cause : Nat          -- cause of the first failure of the epoch
  faulted : Bool       -- a record with SHADOW = 1 was written in the present tick
  twinOk : Bool        -- the twin was in Active or Watch on the snapshot edge
deriving DecidableEq, Repr

/-- One channel. -/
structure Channel where
  st : ChState
  enabled : Bool       -- ENABLE in force (R163)
  learnOn : Bool       -- LEARN in force (R319)
  rearmed : Bool       -- CH_CTRL.REARMED (R161)
  done : Bool          -- shut-down complete, waiting for the snapshot edge of its re-arm
  retMark : Bool       -- retired mark (R157)
  engMap : Word        -- CH_ENGINE_MAP in force (R153)
  wellMap : Word       -- CH_WELL_MAP in force
  stepped : Bool       -- the epoch step of the coming snapshot edge is already taken
  lateLast : Bool
  brokenLast : Bool
  dep : Bool           -- departure state (R338)
  prevRep : Option Nat -- previous reported class (R360)
  prevEng : Option Nat -- previous engine class (R360)
  latched : Bool       -- a verdict has latched for the present tick
  served : Bool        -- served by the VD port in the present tick (R66)
  repClass : Nat       -- class reported in the present tick
  eng : Option EngVerdict -- engine verdict that latched in time in the present tick
  ran : Bool           -- the channel's program was started in the present tick
  parts : List Nat     -- engines whose part of the channel's tick program has not ended
  broken : Bool        -- the present tick of this channel is flagged (R76)
  btAcc : BitVec 4     -- buttress trips since the last snapshot edge
  btRec : BitVec 4     -- buttress record of the present tick (R349)
  btPrev : BitVec 4    -- buttress record of the tick before
  holdEnd : Option Nat -- when the channel's TRIP_N hold ends (R351)
  faultTick : Bool     -- the present tick is a channel fault tick (R463)
  winLeft : Option Nat -- snapshot edges left in the fault window (R465)
  retireCmd : Option Nat -- a retirement takes effect on the next snapshot edge, with this cause (R467, R484)
  readmitCmd : Bool    -- a READMIT takes effect on the next snapshot edge (R472)
  learn : Learn
  drift : Drift
  shadow : Shadow
deriving DecidableEq, Repr

/-! ## Wells -/

/-- One well: its configuration words and its capture state (07). -/
structure Well where
  ctrl : Word
  format : Word
  base : Word
  mark : Word
  guard : Word
  fillLo : Word
  fillHi : Word
  status : Word        -- W1C bits and STARVED; WRAPPED is `wrapped`
  ovr : Word           -- OVR_COUNT
  count : Nat          -- samples captured since enable, modulo 2^32
  snap : Nat           -- S of the last snapshot edge
  snapKept : Bool      -- a snapshot has been recorded since the last enable (R182)
  wrapped : Bool       -- at least C samples captured since enable
  markSeq : Nat        -- number of the last marker since enable, modulo 2^16
  marked : Bool        -- a marker has been written since enable
  fresh : Nat          -- samples captured since the previous snapshot edge (R180)
  openLine : Bool      -- the port's open line, as last seen
  stuckLine : Bool     -- the port's stuck line, as last seen
  openSeen : Bool      -- open line seen at a capture since the previous marker (R181)
  stuckSeen : Bool
  ovrSeen : Bool       -- overrun since the previous marker
  lapSeen : Bool       -- lapped since the previous marker
  markFlags : Nat      -- FLAGS of the last snapshot edge (R190)
  lastCap : Option Nat -- RIM count of the last capture (R173)
  window : List Int    -- scaled values of the last 64 captures that the RMS sum counts, newest first (R347, R353)
  last : Option Int    -- scaled value of the latest capture since enable (R347)
  before : Option Int  -- scaled value of the capture before it
deriving DecidableEq, Repr

/-! ## Engines and pump operations -/

/-- What a running program is: the tick program of a channel, its update sweep, or a background job (R201). -/
inductive ProgKind where
  | tick (c : Nat)
  | sweep (c : Nat)
  | job (k : Nat)
deriving DecidableEq, Repr

/-- Who posted a pump operation (R188, R230). -/
inductive Issuer where
  | engine (e : Nat) (tick : Bool) (chan : Option Nat)
  | supervisor (slot : Nat)
  | peer (port : Nat) (xid : Nat)
deriving DecidableEq, Repr

/-- State of one block of a REMOTE operation (R451, R452): frames seen, done, refused. -/
structure RemoteBlock where
  got : List Nat       -- frame numbers of the block received or sent
  done : Bool
  refused : Bool
deriving DecidableEq, Repr

/-- Why a list entry is not used (R51, R470, R621): an uncorrectable error or a retired bank, a refused page, a fenced bank. -/
inductive EntryFlaw where
  | ecc | prot | still
deriving DecidableEq, Repr

/-- One pump operation in flight. -/
structure PumpOp where
  id : Nat
  pump : Nat
  issuer : Issuer
  handle : Nat
  ctx : Nat            -- translation context (R278)
  lane : Nat           -- descriptor lane (engine post)
  desc : List Byte     -- the 128 B as read at the post (R258)
  entries : List Byte  -- list entries as read: 0-7 at the post, the rest once the pieces move (R258)
  listBase : Nat       -- virtual LIST address of a supervisor post (R527)
  refCount : Nat       -- R of R182 for a WELL source
  seen : Nat           -- the well's count when the read presents its pieces (R183, R185)
  filled : Bool        -- at least C samples had been captured when the read was validated (R183, R185)
  cut : Bool           -- its well's disable or the load of its walk has ended its wait (R186)
  tickNo : Nat
  started : Bool       -- its wait, if any, has ended and its pieces may move
  waitEnd : Option Nat -- latest end of a free-run well wait (R185)
  prior : List (Nat × Nat) -- accesses that earlier operations of its issuer presented before it (R239 to R241)
  steps : Nat          -- steps of its plan already performed (Machine/Plan.lean)
  shown : Nat          -- steps of its plan known to have been presented (R234, R242)
  buf : List (Nat × List Byte) -- data in transit, by slot of the plan
  judged : List (Nat × EntryFlaw) -- list entries found unusable when they were read (R621)
  moved : Bool         -- its pieces have moved; only the completion remains
  prot : Nat           -- pieces refused
  ecc : Nat            -- pieces that met an uncorrectable error
  defer : Nat          -- strokes of deferral of a tick-mode operation (R274)
  short : Nat          -- samples filled
  drop : Nat           -- destination units dropped
  fail : Nat           -- other status code that stands (STILL, DISABLED, FORMAT, ALIGN, TIMEOUT, LOST), 0 none
  port : Nat           -- REMOTE: local link port
  xid : Option Nat     -- REMOTE: transfer identifier in use
  blocks : List RemoteBlock
  xferFrom : Option Nat -- REMOTE: RIM count since which the transfer count runs, while the port is Up (R455)
  xferCount : Nat      -- REMOTE: RIM edges counted before that
  xferLimit : Nat      -- REMOTE: the limit in force at acceptance
deriving DecidableEq, Repr

/-- One open LOOP: the indices of its body, the iterations left, the iteration number and the strides (R216). -/
structure LoopFrame where
  first : Nat
  last : Nat
  count : Nat
  iter : Nat
  s1 : Int
  s2 : Int
  s3 : Int
deriving DecidableEq, Repr

/-- A program in progress on an engine. -/
structure Run where
  kind : ProgKind
  entry : Nat          -- byte address of instruction 0
  len : Nat            -- LENGTH
  strokes : Nat        -- STROKES of the entry
  pc : Nat             -- index of the instruction being issued
  loops : List LoopFrame -- innermost first
  any : Bool           -- the ANY flag (R212)
  tickNo : Nat         -- number of the tick that started it
  snapAt : Nat         -- RIM count of that tick's snapshot edge
  snapTb : Nat
  snaps : List Nat     -- S of every well for that tick (R182)
  clean : Bool         -- no stall and no fault so far (R203)
  active : Bool        -- the active bank of its channel when it started (R26)
  lean : Bool          -- the low-bit segment may run shortened for its TILEs (R372)
  waitBell : Option Nat -- it waits at this bell (R247)
  stalled : Option Nat -- its TENS at this index waits for a tag (R231)
  post : Option (Nat × PumpOp) -- the post that waits: the OP of its TENS, and the operation as read (R233, R258)
  halting : Bool       -- it stops at its next instruction boundary (R253)
  firstOp : Nat        -- number of the first operation it can have posted (R209)
  primary : Bool       -- it runs on the primary engine of its channel's map of that tick (R63, R153)
  bt : Nat             -- buttress record of its tick (R349, R359)
  sampled : Bool       -- its tick is sampled (R366)
  row : Nat            -- the sample row r of its tick (R366)
  bound : Nat          -- CH_DRIFT.BOUND of its tick (R375)
deriving DecidableEq, Repr

/-- The delta context latched by DGATE (R362): first granules of CUR, PREV and DST and the element count. -/
structure DeltaCtx where
  cur : Nat
  prev : Nat
  dst : Nat
  count : Nat
deriving DecidableEq, Repr

/-- The present run of TILEs (R364): its C operand, kind, the exact sums so far, and whether a TILE had too few zeros. -/
structure TileRun where
  c : Nat
  delta : Bool
  sums : List Int
  missed : Bool
deriving DecidableEq, Repr

/-- One engine (08). -/
structure Engine where
  enabled : Bool       -- ENG_CTRL.ENABLE in force (R166)
  rearmed : Bool
  stopping : Bool
  retired : Bool
  retireCmd : Option Nat -- a retirement acts on the next snapshot edge, with this cause: 0 command, 2 exhaustion (R467)
  readmitCmd : Bool    -- a READMIT acts on the next snapshot edge (R483)
  run : Option Run
  susp : Option Run    -- the background program fenced at its instruction boundary (R222)
  due : List Run       -- tick programs of the present tick still to start, in order (R62)
  sweeps : List Nat    -- channels whose sweep part is pending here, ascending
  bgPend : Option Nat  -- accepted job not yet started
  bgRefused : Bool
  fenced : Option Nat  -- background issue is fenced since the guard edge of this tick (R73)
  overhang : Bool      -- background work was in flight at core ingress (R74)
  faulted : Bool
  fault : Nat          -- FAULT code
  faultPc : Option Nat -- index kept in ENG_PC while a stopping fault is held
  lastPc : Nat         -- ENG_PC.INDEX when nothing runs
  peak : Nat
  peakAcc : Nat
  peakOn : Bool        -- from core ingress to the end of the last tick program of the tick (R254)
  gen : W32            -- rounding generator (R299)
  store : Mem
  ue : List Nat        -- 4 B codewords (address ÷ 4) with an uncorrectable error
  ce : List Nat        -- 4 B codewords with a correctable error
  corrected : Nat      -- correctable errors, saturating at 0xFFFF
  delta : Option DeltaCtx
  tileRun : Option TileRun
deriving DecidableEq, Repr

/-- One pump: retired, and re-enabled while operations were in flight (R142, R469). -/
structure Pump where
  retired : Bool
  reopening : Option Nat -- re-enabled with older operations in flight: the number of the first newer one (R142)
  retireCmd : Option Bool -- RETIRE (true) or READMIT (false) acts on the next snapshot edge
deriving DecidableEq, Repr

/-- A bell: its count, and who waits at it (R247, R248), in the order in which they began to wait: the engine, and
whether its waiting program is a tick program. -/
structure Bell where
  count : Nat
  waiters : List (Nat × Bool)
deriving DecidableEq, Repr

/-- One page-table entry and one export handle are kept as their words. -/
structure Tables where
  pages : List (Nat × Word)   -- (context × 256 + word, value), unlisted 0 (R279)
  exportTbl : List (Nat × Word) -- (handle × 8 + word, value), unlisted 0 (R285)
deriving DecidableEq, Repr

/-! ## Faults, repair, journal -/

/-- One fault record (R462); RIMCNT and SEQ as stamped. -/
structure FaultRec where
  src : Nat
  unit : Nat
  chan : Nat
  flags : Nat
  detail : Nat
  detail2 : Nat
  rim : Nat
  seq : Nat
deriving DecidableEq, Repr

/-- One spare column of a bank (REPAIR words 1-4). -/
structure Spare where
  used : Bool
  fused : Bool
  field : Bool
  cause : Nat
  column : Nat
deriving DecidableEq, Repr

/-- Test or copy in progress in a bank. -/
inductive BankJob where
  | idle
  | test (column : Nat)          -- queued or running column test
  | copyDue (column cause : Nat) (spare : Nat) -- a copy waits for the bank's next scrub slot
  | copying (column cause : Nat) (spare : Nat)
deriving DecidableEq, Repr

/-- The repair state of one bank: of the cistern, or of an engine's store. -/
structure Bank where
  retired : Bool
  fenced : Bool
  spares : List Spare
  job : BankJob
  corr : Nat
  uncorr : Nat
  tests : Nat
  finding : Word       -- REPAIR word 8
  result : Nat         -- REPAIR word 9
deriving DecidableEq, Repr

/-- One entry of the journal queue (R359, R361). -/
structure JEntry where
  seq : Nat
  bytes : List Byte
deriving DecidableEq, Repr

/-- The journal writer (R357, R361). -/
structure Journal where
  nextNo : Nat         -- number the next entry takes
  dropped : Nat
  queue : List JEntry
  stage : Option (List (Nat × List Byte)) -- entries of one snapshot edge not yet numbered, by channel (R360)
deriving DecidableEq, Repr

/-- The fault queue and the fault port (R462, R483). -/
structure Faults where
  queue : List FaultRec
  lost : Nat
  seq : Nat
  scrub : Word
  shadowCfg : List Word
  scrubPos : Nat       -- scrub intervals served
  portCmds : List (Nat × Bool) -- RETIRE (true) or READMIT (false) of link ports for the next snapshot edge (R483)
  repairCmds : List (BankId × Nat) -- REPAIR commands for the next snapshot edge: bank and column (R483)
deriving DecidableEq, Repr

/-! ## Supervisor -/

/-- SUP_STATUS.STATE (05). -/
inductive SupMode where
  | boot | running | halted | trapped
deriving DecidableEq, Repr

/-- One post slot of the supervisor (R527): its descriptor, LIST, completion word, BUSY, and a post that waits for a
tag or for the cap. -/
structure Slot where
  desc : Mem           -- the 128 B descriptor, by offset
  list : W32
  completion : Nat
  busy : Bool
  waiting : Option Nat -- the pump of a post that waits for its tag (R231)
deriving DecidableEq, Repr

/-- What the steward firmware remembers for its policy (R486) and for its sleep attempts (R510). -/
structure Policy where
  engines : List (Nat × Nat) -- (engine, tick number) of the STILL_ENGINE and MEM_UE records that still count
  pumps : List (Nat × Nat)   -- (pump, tick number) of the STILL_PUMP records that still count
  ports : List (Nat × Nat)   -- (port, RIMCNT) of the LINK_LOST records that still count
  remap : List Nat           -- engines out of service whose channels it moves to spare engines
  barred : List Nat          -- channels whose re-admission it starts no more (SHADOW_FAIL)
  tries : Nat                -- refused sleep attempts of the present sleep target
deriving DecidableEq, Repr

/-- The supervisor as its ports show it (05, 20). -/
structure Sup where
  mode : SupMode
  wfi : Bool
  hostReq : Bool
  ready : Bool         -- DEV_STATUS.READY (R528)
  cause : W32          -- interrupt cause bits 2:0 (R528); bit 3 is live
  slots : List Slot    -- 8
  kept : List FaultRec -- records the steward keeps for FAULTS (R486)
  policy : Policy      -- the steward's policy memory
  image : Bool         -- a checked image runs: the steward firmware serves requests
  start : Option Nat   -- the address at which that image was started (R523)
  sram : Mem           -- 128 KiB
  bus : Option W32     -- the value the last load returned
  busError : Bool      -- the last access completed as a bus error
deriving DecidableEq, Repr

/-! ## Control port -/

/-- The control port (04): WLAST, SEQ and the last answer driven on CP_MISO (none: released). -/
structure CtlPort where
  wlast : Nat
  seq : Nat
  answer : Option (List Byte)
deriving DecidableEq, Repr

/-! ## The cloister (15, 16) -/

/-- CLO_WALK_STATE of one walk. -/
inductive WalkMode where
  | empty | loading | release | running | failed
deriving DecidableEq, Repr

/-- The registers of a MAC slice (R386). -/
structure MacRegs where
  a : BitVec 18
  b : BitVec 18
  m : BitVec 36        -- the product
  p : BitVec 48
deriving DecidableEq, Repr

/-- The read data of a block-memory port, and its output register (R389). -/
structure MemPort where
  data : BitVec 36
  reg : BitVec 36
deriving DecidableEq, Repr

/-- What the logic of one walk holds: the flip-flops of its cells and I/O cells, its MAC slices, its memory ports, and the
values that its incoming gate slots and its pins hold while they are clamped. -/
structure Fabric where
  cells : List Nat     -- the logic cells, 0 to 3,071, whose flip-flop holds 1, ascending (R377, R378)
  ioIn : BitVec 24     -- the input flip-flop of each I/O cell (R392)
  ioOut : BitVec 24
  ioEn : BitVec 24
  macs : List MacRegs  -- 12 (R377)
  ports : List MemPort -- of the eight memories, A and B in turn (R388)
  slots : BitVec 128   -- the value each incoming slot passed when its clamp began (R415)
  padOn : BitVec 24    -- the output was enabled when the safe state began (R414)
  padLevel : BitVec 24 -- the level it then drove
deriving DecidableEq, Repr

/-- One walk. -/
structure Walk where
  mode : WalkMode
  stage : Nat          -- release stages that have fallen in RELEASE, 0-2 (R416)
  held : Bool          -- it has held an image since reset: set at its first release stage (R415, R426)
  config : Mem         -- the 98,304 B configuration of its image (R404)
  mems : List Mem      -- its eight 2,304 B block memories (R405)
  qreq : Bool          -- QREQ (R396, R398)
  fabric : Fabric      -- what its logic holds (R378, R386, R388, R392)
deriving DecidableEq, Repr

/-- What a load waits for: the header, a frame header, a frame's data, or its last byte. -/
inductive LoadStep where
  | header
  | frame (types : List Nat)              -- types of the frames still to come, this one first
  | data (types : List Nat) (memInit start len : Nat) (crc : Nat)
  | tail (total : Nat)   -- all frames are in; bytes taken in by then
  | release
deriving DecidableEq, Repr

/-- A load in progress (R408 to R411). -/
structure Load where
  flash : Bool
  target : Nat
  bound : Bool
  slot : Nat
  bytes : List Byte    -- taken in, newest first
  count : Nat
  length : Nat         -- declared image length, once the header is in; 0 before
  step : LoadStep
  last : Nat           -- RIM count of the last word, or of the start
  gap : Nat            -- GAP sampled on the check-9 edge
deriving DecidableEq, Repr

/-- The cloister configuration controller. -/
structure Cloister where
  walks : List Walk    -- North, East, South, West
  load : Option Load
  err : Nat            -- CLO_WALK_STATE.ERR
  tag : Nat            -- the stored global tag (R421)
  global : List Byte   -- bytes 0-11 of the global frame in effect; [] before one: CCK0, CCK1 low (R419)
  safe : List Nat      -- safe states of IOA0-31, IOB0-31, IOC0-31 (R414)
  cck : BitVec 2       -- the levels of CCK0 and CCK1 (R384)
  nets : BitVec 8      -- the levels of GN0 to GN7 (R382)
  pins : BitVec 96     -- the level the board last put on each user pin
  snap0 : List Nat     -- rising CCK0 edges each SNAP0 pulse still has: high on its last (R395)
  snap1 : List Nat
deriving DecidableEq, Repr

/-! ## Links (17) -/

/-- LNK_STATE.STATE. -/
inductive LinkSt where
  | down | training | up | retry | lost | retired
deriving DecidableEq, Repr

/-- A frame to be sent; SEQ, ACK and CREDIT are filled in when it goes out (R432). -/
structure TxFrame where
  typ : Nat
  write : Bool
  handle : Nat
  xid : Nat
  block : Nat
  offset : Nat
  payload : List Byte
deriving DecidableEq, Repr

/-- A block of a received REQ: its list entry, and what has arrived for it (R452, R453). -/
structure PeerBlock where
  xid : Nat
  block : Nat
  write : Bool
  handle : Nat
  entry : List Byte
  op : Option Nat      -- the tagged operation serving it; none while it waits for a tag
  stalled : Bool       -- its wait for a tag has been counted (R231)
  data : List (Nat × List Byte) -- WDATA payloads (offset in lanes, bytes) that have arrived
  credit : Nat         -- credits that its REQ frame still holds in the receive buffer (R440)
deriving DecidableEq, Repr

/-- A receive lane (R428): the last 58 line bits, block lock, and the counts of its lock state machine. -/
structure LaneRx where
  hist : BitVec 58
  lock : Bool
  count : Nat          -- sync headers seen of the present 64
  bad : Nat            -- invalid ones among them
deriving DecidableEq, Repr

/-- One link port. -/
structure Port where
  st : LinkSt
  reason : Nat
  attempts : Nat
  paused : Bool
  retryT : Nat         -- LNK_RETRY_T and LNK_RETRY_MAX sampled on entering Retry (R446)
  retryMax : Nat
  retryFrom : Nat      -- RIM count from which the retry window runs
  hasState : Bool      -- sequence state is held for a partner
  partner : List Byte  -- that partner's identity digest
  partnerChip : Nat
  seen : Bool          -- a valid HELLO has been received in this training (R442)
  txNext : Nat         -- next SEQ to be sent
  expect : Nat         -- E
  replay : List (Nat × TxFrame) -- frames held for replay, oldest first
  held : List (Nat × List Byte) -- frames held for resequencing, as received
  nak : Option (Nat × Nat) -- E of the last NAK and its RIM count (R437)
  firings : Nat        -- consecutive firings of the replay timer
  queue : List TxFrame -- sequenced frames waiting to be sent, first in first out
  limit : Nat          -- cumulative credit granted by the partner (R440)
  used : Nat           -- cumulative credit used
  granted : Nat        -- cumulative credit granted to the partner
  xids : List Nat      -- XIDs in use (R450)
  peers : List PeerBlock -- received blocks not yet answered, in order (R453)
  turn : Bool          -- the next served block goes to the second pump of R453
  quiet : Bool         -- it agreed to sleep and has stopped transmitting (R457)
  wasUp : Bool         -- it was Up when it agreed
  lfsr : Word          -- injection generator (R458)
  shot : Bool          -- a one-shot is armed
  late : Option (List Byte) -- a REORDERed frame not yet sent
  sent : List (List Byte) -- frames put on the lanes since reset, oldest first (the model's record of the lanes)
  scr0 : BitVec 58     -- scrambler of transmit lane 0: its last 58 line bits (R428)
  scr1 : BitVec 58
  wire : List (BitVec 66 × BitVec 66) -- the block pairs of those frames as coded (R428, R429)
  rx0 : LaneRx         -- receive lane 0
  rx1 : LaneRx
  offset : Int         -- the partner's frequency offset in ppm, as the receiver last measured it (R443)
  skew : Nat           -- the lane skew in block pairs, as the receiver last measured it (R443)
deriving DecidableEq, Repr

/-! ## Power (19), start-up and the crypt (20) -/

/-- The power state (19, 20). -/
inductive PowerMode where
  | off | starting | run | hush | dormant
deriving DecidableEq, Repr

/-- A request to the sequencer (R494, R499). -/
inductive PowerReq where
  | level (n : Nat)
  | mode (t : Nat)
deriving DecidableEq, Repr

/-- Where a level change stands (R495, R496). -/
inductive ChangeStep where
  | vid        -- VID steps, one code per dwell
  | settle     -- it waits for VPG and settles
deriving DecidableEq, Repr

/-- A level change in progress. -/
structure LevelChange where
  dest : Nat           -- the level it goes to
  startVid : Nat
  target : Nat         -- the VID code it moves to
  step : ChangeStep
  revert : Bool        -- it goes back after a VPG timeout
  mark : Nat           -- RIM count of the last step
  bias : Nat           -- codes and governor level before the change
  assist : Nat
  gov : Nat
deriving DecidableEq, Repr

/-- A block of the sleep query (R501). -/
inductive SleepBlock where
  | tick
  | engine (e : Nat)
  | pump (p : Nat)
  | link (n : Nat)
  | walk (w : Nat)
  | clocks
  | well (w : Nat)
deriving DecidableEq, Repr

/-- A sleep entry in progress (R501 to R504). -/
structure SleepEntry where
  target : Nat         -- 1 Hush, 2 Dormant
  todo : List SleepBlock -- blocks still to answer, the queried one first
  stopped : List SleepBlock -- blocks that have agreed, last first
  aborting : Bool      -- a Run request waits for the block boundary (R500)
  since : Nat          -- RIM count of the present query
deriving DecidableEq, Repr

/-- The power sequencer. -/
structure Power where
  mode : PowerMode
  resetLow : Bool      -- RESET_N is low
  stage : Nat          -- last completed start-up stage
  refclkOk : Bool
  rimLock : Bool
  rimPll : Bool        -- RIM runs from the rim PLL
  vpg : Bool
  prog : Option PowerReq
  pend : Option PowerReq
  change : Option LevelChange
  entry : Option SleepEntry
  committed : Option Nat -- the entry has committed: its target (R504)
  vid : Nat            -- code driven on VID[4:0]
  bias : Nat           -- body-bias and assist codes applied
  assist : Nat
  gov : Nat            -- level whose minimum the governor holds
  wake : Option (Nat × Nat) -- latched wake source and its frame address (R533)
  bootAt : Nat         -- RIM count of stage 5 (R525)
  switchDue : Bool     -- after a Dormant wake the boot ROM waits for RIM_LOCK to move RIM to the rim PLL (R524)
  pulses : Nat         -- ready pulses given since the last cold start (R109)
deriving DecidableEq, Repr

/-- One timebase log entry (R537). -/
structure LogEntry where
  count : Nat
  stop : Bool
  reset : Bool
  seq : Nat
  src : Bool
deriving DecidableEq, Repr

/-- The timebase's source and log (R534 to R537). -/
structure Timebase where
  act : Bool           -- counting source: true = crystal
  xtalOk : Bool
  log : List LogEntry  -- at most four, oldest first
  seq : Nat            -- SEQ of the next entry
deriving DecidableEq, Repr

/-! ## Identity (21) and test access (22) -/

/-- One binding slot (R551 to R553): fuses, kept in every state. -/
structure BindSlot where
  used : Bool
  revoked : Bool
  key : List Byte
  spoiled : Option (List Byte) -- a PROGRAM has begun and has not verified: the KCV its key would have had (R552)
deriving DecidableEq, Repr

/-- A SEC command that is running (R545, R546). -/
structure SecRun where
  cmd : Nat
  arg : Nat
  input : List Byte    -- CHAL_IN on the acceptance edge
  code : Nat           -- CODE with which it fails, 0 none
  left : Nat           -- RIM cycles from acceptance to completion
  start : Nat
deriving DecidableEq, Repr

/-- The SEC block. -/
structure Sec where
  run : Option SecRun
  stage : List Byte    -- the 16 B staging buffer (R551)
  chal : List Byte     -- CHAL_IN, 64 B
  resp : List Byte     -- RESP_OUT, 64 B
  chalPtr : Nat
  respPtr : Nat
  certPtr : Nat
  session : Option (List Byte × List Byte) -- open HMAC session: key and bytes appended (R549)
  slots : List BindSlot
deriving DecidableEq, Repr

/-- JTAG instructions (R582). -/
inductive TapIns where
  | extest | sample | idcode | clamp | highz | regacc | bypass
deriving DecidableEq, Repr

/-- The test access port (R582 to R586). -/
structure Tap where
  ins : TapIns
  boundary : Nat       -- the 138 boundary cells
  done : Bool          -- DONE, REFUSED, address and data of the last REGACC access
  refused : Bool
  addr : Nat
  data : Word
deriving DecidableEq, Repr

/-! ## Reset values of the parts -/

/-- Learning state after reset (R313, R323, R326). -/
def Learn.reset : Learn :=
  { exp := 0x0C, pos := 0, tainted := false, active := false, ready := false, readyForeign := none, sweepOn := false,
    parts := [], sweepBad := false, hold := false, foreign := false, clear := false, clearNow := false, tickBank := none, swaps := 0,
    imports := [], epochs := 0 }

/-- Sampling state after reset (R366, R370). -/
def Drift.reset : Drift :=
  { rate := 0x0006, bound := 0, counter := 0, sampled := false, refresh := false, refreshTick := false, worst := 0 }

/-- Shadow comparison after reset. -/
def Shadow.reset : Shadow :=
  { left := 0, cfg := 0, dep := false, failed := 0, cause := 0, faulted := false, twinOk := false }

/-- Channel `c` after reset (R155 to R158, R339). -/
def Channel.reset (p : Part) (c : Nat) : Channel :=
  { st := .off, enabled := false, learnOn := false, rearmed := false, done := false, retMark := false,
    engMap := BitVec.ofNat 16 (c % p.engines), wellMap := BitVec.ofNat 16 (4 * c * 256 + 3), stepped := false,
    lateLast := false, brokenLast := false, dep := false, prevRep := none, prevEng := none, latched := false,
    served := false, repClass := 0, eng := none, ran := false, parts := [], broken := false, btAcc := 0, btRec := 0,
    btPrev := 0, holdEnd := none, faultTick := false, winLeft := none, retireCmd := none, readmitCmd := false,
    learn := Learn.reset, drift := Drift.reset, shadow := Shadow.reset }

/-- A well after reset (07, WELL_CFG words). -/
def Well.reset : Well :=
  { ctrl := 0, format := 0, base := 0, mark := 0, guard := 0x0040, fillLo := 0, fillHi := 0, status := 0, ovr := 0,
    count := 0, snap := 0, snapKept := false, wrapped := false, markSeq := 0, marked := false, fresh := 0,
    openLine := false, stuckLine := false, openSeen := false, stuckSeen := false, ovrSeen := false, lapSeen := false,
    markFlags := 0, lastCap := none, window := [], last := none,
    before := none }

/-- An engine after reset (08; the generator as R299). -/
def Engine.reset : Engine :=
  { enabled := false, rearmed := false, stopping := false, retired := false, retireCmd := none,
    readmitCmd := false, run := none,
    susp := none, due := [], sweeps := [], bgPend := none, bgRefused := false, fenced := none, overhang := false,
    faulted := false, fault := 0, faultPc := none, lastPc := 0, peak := 0, peakAcc := 0, peakOn := false, gen := 1, store := [],
    ue := [], ce := [], corrected := 0, delta := none, tileRun := none }

/-- A pump after reset. -/
def Pump.reset : Pump := { retired := false, reopening := none, retireCmd := none }

/-- A spare column as the factory left it unused (log entry 7). -/
def Spare.reset : Spare := { used := false, fused := false, field := false, cause := 0, column := 0 }

/-- A memory bank after reset: no field repair, counts zero (R482); no factory repair fused (log entry 7). -/
def Bank.reset : Bank :=
  { retired := false, fenced := false, spares := List.replicate 4 Spare.reset, job := .idle, corr := 0, uncorr := 0,
    tests := 0, finding := 0, result := 0 }

/-- The tick unit after reset (03, R345). -/
def TickUnit.reset : TickUnit :=
  { en := false, src := false, fallback := false, pend := false, lost := false, lossRef := none, freeDue := none,
    lastEdge := none, intervals := [], entered := 0, number := 0, open_ := false, snapAt := 0, snapTb := 0, guard := 0,
    flagged := [], buttressOnly := false, lean := false, stopped := false, reported := true, vdQueue := [], vd := 0,
    vdClass := 0, vdPulses := 0, vdStb := false }

/-- The pace monitor after reset (R43). -/
def Pace.reset : Pace := { overs := 0, full := true }

/-- The journal writer after reset (R357, R358). -/
def Journal.reset : Journal := { nextNo := 0, dropped := 0, queue := [], stage := none }

/-- The fault queue and fault port after reset (R483). -/
def Faults.reset : Faults :=
  { queue := [], lost := 0, seq := 0, scrub := 0x0040, shadowCfg := List.replicate 16 0, scrubPos := 0, portCmds := [],
    repairCmds := [] }

/-- The control port after reset (R95). -/
def CtlPort.reset : CtlPort := { wlast := 0, seq := 0, answer := none }

/-- A post slot after reset. -/
def Slot.reset : Slot := { desc := [], list := 0, completion := 0, busy := false, waiting := none }

/-- The steward's policy memory as its firmware starts: nothing noted. -/
def Policy.reset : Policy := { engines := [], pumps := [], ports := [], remap := [], barred := [], tries := 0 }

/-- The supervisor after reset: in the boot ROM (05). -/
def Sup.reset : Sup :=
  { mode := .boot, wfi := false, hostReq := false, ready := false, cause := 0, slots := List.replicate 8 Slot.reset,
    kept := [], policy := Policy.reset, image := false, start := none, sram := [], bus := none, busError := false }

/-- A bell after reset (R245). -/
def Bell.reset : Bell := { count := 0, waiters := [] }

/-- The logic of a walk that holds no image: every flip-flop 0 (R385, R417). -/
def Fabric.reset : Fabric :=
  { cells := [], ioIn := 0, ioOut := 0, ioEn := 0, macs := List.replicate 12 { a := 0, b := 0, m := 0, p := 0 },
    ports := List.replicate 16 { data := 0, reg := 0 }, slots := 0, padOn := 0, padLevel := 0 }

/-- A walk after reset: EMPTY, block memories 0 (R391, R426). -/
def Walk.reset : Walk :=
  { mode := .empty, stage := 0, held := false, config := [], mems := List.replicate 8 [], qreq := false,
    fabric := Fabric.reset }

/-- The cloister after reset (R419, R421, R426). -/
def Cloister.reset : Cloister :=
  { walks := List.replicate 4 Walk.reset, load := none, err := 0, tag := 0, global := [], safe := List.replicate 96 0,
    cck := 0, nets := 0, pins := 0, snap0 := [], snap1 := [] }

/-- A receive lane after reset: no block lock. -/
def LaneRx.reset : LaneRx := { hist := 0, lock := false, count := 0, bad := 0 }

/-- A link port after reset: Down (17). -/
def Port.reset : Port :=
  { st := .down, reason := 0, attempts := 0, paused := false, retryT := 0, retryMax := 0, retryFrom := 0,
    hasState := false, partner := [], partnerChip := 0, seen := false, txNext := 0, expect := 0, replay := [],
    held := [], nak := none, firings := 0, queue := [], limit := 0, used := 0, granted := 0, xids := [], peers := [],
    turn := false, quiet := false, wasUp := false, lfsr := 1, shot := false, late := none, sent := [], scr0 := 0, scr1 := 0,
    wire := [], rx0 := LaneRx.reset, rx1 := LaneRx.reset, offset := 0, skew := 0 }

/-- The power sequencer on the edge of start-up stage 5 of a cold start, RIM on the PLL (R493, R514). -/
def Power.reset : Power :=
  { mode := .run, resetLow := false, stage := 5, refclkOk := true, rimLock := true, rimPll := true, vpg := true,
    prog := none, pend := none, change := none, entry := none, committed := none, vid := 15, bias := 10, assist := 5,
    gov := 1, wake := none, bootAt := 0, switchDue := false, pulses := 1 }

/-- The timebase after a cold start: on the LF RC (R513, R514). -/
def Timebase.reset (xtal : Bool) : Timebase := { act := false, xtalOk := xtal, log := [], seq := 0 }

/-- A binding slot as delivered (R552). -/
def BindSlot.fresh : BindSlot := { used := false, revoked := false, key := [], spoiled := none }

/-- The SEC block after reset, with its fuses (R551, R556). -/
def Sec.reset (slots : List BindSlot) : Sec :=
  { run := none, stage := List.replicate 16 0, chal := List.replicate 64 0, resp := List.replicate 64 0, chalPtr := 0,
    respPtr := 0, certPtr := 0, session := none, slots := slots }

/-- The TAP in Test-Logic-Reset (R582). -/
def Tap.reset : Tap := { ins := .idcode, boundary := 0, done := false, refused := false, addr := 0, data := 0 }

/-! ## The whole device -/

/-- The state of the device. -/
structure State where
  part : Part
  straps : Straps
  regs : RegFile
  now : Nat            -- RIM count since reset
  tick : TickUnit
  pace : Pace
  chans : List Channel -- 16
  wells : List Well    -- 64
  engs : List Engine   -- 16, or 8 on the IDP0820
  ops : List PumpOp    -- pump operations in flight, oldest first
  nextOp : Nat
  pumps : List Pump    -- 8
  bells : List Bell    -- 64
  tables : Tables
  cist : Mem           -- the 32 MiB cistern, physical byte addresses
  cistUe : List Nat    -- 8 B codewords (address ÷ 8) with an uncorrectable error
  cistCe : List Nat
  banks : List Bank    -- 16 cistern banks
  storeBanks : List (List Bank) -- 16 banks of each engine's store
  journal : Journal
  faults : Faults
  ctl : CtlPort
  sup : Sup
  clo : Cloister
  ports : List Port    -- 4, or 2 on the IDP0820
  power : Power
  tbase : Timebase
  sec : Sec
  tap : Tap
  tb : Nat             -- the 48-bit timebase count
  free : Nat           -- the model's counter of free values taken (not the manual's)
  pending : List Instr -- waiting commands, first in first out
deriving DecidableEq, Repr

/-- The device on the edge of stage 5 of a cold start: every register, counter and structure at its reset value, for a
part, a board and the part's binding fuses (R493, R514, R515, R556; log entry 1). -/
def State.fresh (p : Part) (b : Straps) (slots : List BindSlot) : State :=
  { part := p, straps := b, regs := [], now := 0, tick := TickUnit.reset, pace := Pace.reset,
    chans := (List.range 16).map (Channel.reset p), wells := List.replicate 64 Well.reset,
    engs := List.replicate p.engines Engine.reset, ops := [], nextOp := 0, pumps := List.replicate 8 Pump.reset,
    bells := List.replicate 64 Bell.reset, tables := { pages := [], exportTbl := [] }, cist := [], cistUe := [],
    cistCe := [], banks := List.replicate 16 Bank.reset,
    storeBanks := List.replicate p.engines (List.replicate 16 Bank.reset), journal := Journal.reset,
    faults := Faults.reset, ctl := CtlPort.reset, sup := Sup.reset, clo := Cloister.reset,
    ports := List.replicate p.links Port.reset, power := Power.reset, tbase := Timebase.reset b.xtal,
    sec := Sec.reset slots, tap := Tap.reset, tb := 0, free := 0, pending := [] }

/-- The board of State.reset: straps 0, banks at 1.8 V, no crystal, no link reference (log entry 1). -/
def Straps.none : Straps :=
  { addr := 0, boot := 0, tripSafe := false, bankA := some false, bankB := some false, bankC := some false,
    xtal := false, lnkRef := false }

/-- The machine right after reset: an IDP1640 as delivered, on the edge of stage 5 of its first cold start. -/
def State.reset : State := State.fresh .idp1640 Straps.none (List.replicate 8 BindSlot.fresh)

end Sys2Proof.Machine
end

