-- ==== Sys2Proof/Machine/Mem.lean ====
section
/-! DEFINITION. The named operations on a byte memory in canonical form (addresses rising, no listed zero). -/

namespace Sys2Proof.Machine

/-- Byte at address `a`; an unlisted byte reads 0 (log entry 2). -/
def memRead : Mem → Nat → Byte
  | [], _ => 0
  | (k, v) :: m, a => if a < k then 0 else if a = k then v else memRead m a

/-- Put `(a, b)` in front unless `b` is what an unlisted byte reads as. -/
def memCons (a : Nat) (b : Byte) (m : Mem) : Mem := if b = 0 then m else (a, b) :: m

/-- Write one byte, keeping the canonical form. -/
def memWrite : Mem → Nat → Byte → Mem
  | [], a, b => memCons a b []
  | (k, v) :: m, a, b =>
    if a < k then memCons a b ((k, v) :: m)
    else if a = k then memCons a b m
    else (k, v) :: memWrite m a b

/-- `n` bytes from address `a` up. -/
def memReadN (m : Mem) (a : Nat) : Nat → List Byte
  | 0 => []
  | n + 1 => memRead m a :: memReadN m (a + 1) n

/-- Write a list of bytes from address `a` up. -/
def memWriteL (m : Mem) (a : Nat) : List Byte → Mem
  | [] => m
  | b :: bs => memWriteL (memWrite m a b) (a + 1) bs

/-- A memory that lists just these bytes from address `a` up. -/
def memOf (a : Nat) : List Byte → Mem
  | [] => []
  | b :: bs => memCons a b (memOf (a + 1) bs)

/-- Addresses rise from above `lo`, and no entry is zero. -/
def memWfFrom (lo : Nat) : Mem → Bool
  | [] => true
  | (k, v) :: m => decide (lo ≤ k) && decide (v ≠ 0) && memWfFrom (k + 1) m

/-- The canonical form of a memory. -/
def Memory.wf (m : Mem) : Bool := memWfFrom 0 m

end Sys2Proof.Machine
end

