-- ==== Sys2Proof/Machine/RegFile.lean ====
section
/-! DEFINITION. The register file: every register of the index of 05 with the type of each of its bits and its reset
value, and the operations that read and write a stored register word. -/

namespace Sys2Proof.Machine

/-- Where a written word acts and a read word is sampled (R104, R105, R120). -/
inductive Home where
  | rim
  | core
  | crypt
  | window
deriving DecidableEq, Repr

/-- The types of a register's bits as masks, its reset value and whether a group read may OR it (05). -/
structure RegInfo where
  rw : Nat := 0
  rwl : Nat := 0
  w1c : Nat := 0
  wsc : Nat := 0
  reset : Nat := 0
  orr : Bool := false
  home : Home := .rim
deriving DecidableEq, Repr

/-- Key of a register in the register file. -/
abbrev key (t r : Nat) : Nat := 256 * t + r

abbrev DEV : Nat := 0x00
abbrev SUP : Nat := 0x01
abbrev PWR : Nat := 0x02
abbrev CRY : Nat := 0x03
abbrev SEC : Nat := 0x04
abbrev PMP : Nat := 0x05
abbrev CLO : Nat := 0x0C
/-- Target of link port `n`. -/
abbrev LNK (n : Nat) : Nat := 0x08 + n
/-- Target of channel `c`. -/
abbrev CH (c : Nat) : Nat := 0x10 + c
/-- Target of engine `e`. -/
abbrev ENG (e : Nat) : Nat := 0x20 + e

/-- DEV registers. -/
def devRegs (p : Part) : List (Nat × RegInfo) :=
  [ (0x00, { reset := match p with | .idp1640 => 0x1640 | .idp0820 => 0x0820 }),
    (0x01, { reset := 0x00B0 }),
    (0x02, { reset := match p with | .idp1640 => 0x1080 | .idp0820 => 0x0840 }),
    (0x03, { rwl := 0xC000 }),
    (0x04, { w1c := 0xC000 }),
    (0x05, { w1c := 0xFFFF }),
    (0x06, { rw := 0xFFFF, reset := 0xFFFF }),
    (0x08, { rw := 0xFFFF }),
    (0x09, { rw := 0xFFFF }),
    (0x0A, { rw := 0xFFFF }),
    (0x0B, { home := .window }),
    (0x0C, { w1c := 0x7C00 }),
    (0x10, { rw := 0xFFFF }), (0x11, { rw := 0xFFFF }), (0x12, { rw := 0xFFFF }), (0x13, { rw := 0xFFFF }),
    (0x14, { rw := 0xFFFF }), (0x15, { rw := 0xFFFF }), (0x16, { rw := 0xFFFF }), (0x17, { rw := 0xFFFF }),
    (0x18, { home := .core }),
    (0x19, { wsc := 0x8000, reset := 0x0100, home := .core }),
    (0x1A, { rw := 0xFFFF, home := .core }),
    (0x20, { rw := 0xE000, w1c := 0x1800 }),
    (0x21, {}),
    (0x22, { rw := 0xFFFF, reset := 0x186A }),
    (0x24, { w1c := 0x2000 }),
    (0x25, { rw := 0xFFFF }),
    (0x26, { w1c := 0xC000, rw := 0x0FFF }),
    (0x28, { rw := 0xFFFF, reset := 0x005A }) ]

/-- SUP registers. -/
def supRegs : List (Nat × RegInfo) :=
  [ (0x00, { rwl := 0x8000, wsc := 0x6001 }),
    (0x01, { w1c := 0x0C00 }),
    (0x02, {}),
    (0x08, { rw := 0xFFFF }), (0x09, { rw := 0xFFFF }), (0x0A, { rw := 0xFFFF }), (0x0B, { rw := 0xFFFF }),
    (0x0C, {}), (0x0D, {}), (0x0E, {}), (0x0F, {}) ]

/-- PWR registers. -/
def pwrRegs : List (Nat × RegInfo) :=
  [ (0x00, { reset := 0x0001 }),
    (0x01, { rw := 0x00F3 }),
    (0x02, { rw := 0x0003, reset := 0x0001 }),
    (0x03, {}),
    (0x04, { w1c := 0x00FE }),
    (0x05, { rw := 0xFFFF }),
    (0x06, {}),
    (0x08, { rwl := 0x7700, reset := 0x000F }),
    (0x09, { rwl := 0xFFFF }),
    (0x0A, { rwl := 0xFFFF }) ]

/-- CRY registers; WAKE_ADDR resets to 0x48 plus the address straps. -/
def cryRegs (st : Straps) : List (Nat × RegInfo) :=
  [ (0x00, { home := .crypt }),
    (0x01, { w1c := 0xC000, home := .crypt }),
    (0x02, { home := .crypt }),
    (0x03, { rw := 0x807F, reset := 0x0048 + st.addr.toNat, home := .crypt }),
    (0x04, { rw := 0x017F, reset := 0x007F, home := .crypt }),
    (0x08, { home := .crypt }), (0x09, { home := .crypt }), (0x0A, { home := .crypt }),
    (0x0B, { rw := 0x0001, wsc := 0xC000, home := .crypt }),
    (0x0C, { w1c := 0xC000, home := .crypt }),
    (0x0F, { home := .window }) ]

/-- SEC registers. -/
def secRegs : List (Nat × RegInfo) :=
  [ (0x00, { w1c := 0x7000 }),
    (0x01, { home := .window }), (0x02, { home := .window }), (0x03, { home := .window }),
    (0x04, { wsc := 0xCFFF }),
    (0x05, { rw := 0x0077 }),
    (0x06, { rw := 0xFFFF }) ]

/-- PMP registers. -/
def pmpRegs : List (Nat × RegInfo) :=
  [ (0x00, { rw := 0xFF00, reset := 0xFF00 }),
    (0x01, {}),
    (0x02, { rwl := 0xFFFF, reset := 0x0C35 }),
    (0x03, { rw := 0xFFFF, reset := 0x0040 }),
    (0x04, { rw := 0xFFFF }) ]

/-- LNKn registers. -/
def lnkRegs : List (Nat × RegInfo) :=
  [ (0x00, { rw := 0xFFC0 }),
    (0x01, { w1c := 0xE000 }),
    (0x02, { rwl := 0xFFFF, reset := 0x0064 }),
    (0x03, { rwl := 0x00FF, reset := 0x0008 }),
    (0x04, {}),
    (0x05, { rw := 0xC007 }),
    (0x06, { rw := 0x000F }),
    (0x07, { rw := 0xFFFF, reset := 0x0001 }),
    (0x08, { rw := 0xFFFF }), (0x09, { rw := 0xFFFF }), (0x0A, { rw := 0xFFFF }) ]

/-- CLO registers. -/
def cloRegs : List (Nat × RegInfo) :=
  [ (0x00, { rw := 0x3FC0, wsc := 0xC000 }),
    (0x01, {}),
    (0x02, { rw := 0x0FFF, reset := 0x0010 }),
    (0x04, { rwl := 0x1F00 }), (0x05, { rwl := 0x1F00 }), (0x06, { rwl := 0x1F00 }),
    (0x07, { rwl := 0xFFFF }),
    (0x08, { rw := 0x803F }), (0x09, { rw := 0x803F }), (0x0A, { rw := 0x803F }), (0x0B, { rw := 0x803F }),
    (0x0C, { rw := 0x803F }), (0x0D, { rw := 0x803F }), (0x0E, { rw := 0x803F }), (0x0F, { rw := 0x803F }),
    (0x10, {}) ]

/-- CHn registers of channel `c`. -/
def chRegs (p : Part) (c : Nat) : List (Nat × RegInfo) :=
  [ (0x00, { rw := 0xC000, orr := true }),
    (0x01, { orr := true }),
    (0x02, { rw := 0x007F, reset := c % p.engines }),
    (0x03, { rw := 0x3F3F, reset := 4 * c * 256 + 3 }),
    (0x04, { rw := 0x001F, reset := 0x000C }),
    (0x05, { rw := 0xC00F, reset := 0x0006 }),
    (0x06, { rw := 0x000F, reset := 0x0004 }),
    (0x08, { rwl := 0xFFFF, reset := 0xFFFF }), (0x09, { rwl := 0xFFFF, reset := 0xFFFF }),
    (0x0A, { rwl := 0xFFFF, reset := 0xFFFF }), (0x0B, { rwl := 0xFFFF, reset := 0xFFFF }),
    (0x0C, { rwl := 0xFFFF, reset := 0xFFFF }), (0x0D, { rwl := 0xFFFF, reset := 0xFFFF }),
    (0x0E, { rwl := 0xFFFF, reset := 0xFFFF }), (0x0F, { rwl := 0xFFFF, reset := 0xFFFF }),
    (0x10, {}),
    (0x11, { orr := true }),
    (0x12, { rw := 0xFFFF }),
    (0x13, { rw := 0x00FF, reset := 0x0003 }),
    (0x14, { rw := 0x001F, reset := 0x0010 }),
    (0x15, { rw := 0xF8FF }) ]

/-- ENGn registers. -/
def engRegs : List (Nat × RegInfo) :=
  [ (0x00, { rw := 0x9FF0, wsc := 0x6000, orr := true, home := .core }),
    (0x01, { orr := true, home := .core }),
    (0x02, { home := .core }),
    (0x03, { home := .core }),
    (0x04, { rw := 0x0FFF, reset := 0x0010, home := .core }),
    (0x05, { rw := 0xFFFF, reset := 0x0001, home := .core }),
    (0x06, { rw := 0xFFFF, home := .core }),
    (0x07, { home := .core }),
    (0x08, { rw := 0x00FF, home := .core }) ]

/-- What a target code names (R119). -/
inductive Target where
  | single (regs : List (Nat × RegInfo))
  | chGroup (mask : Option Nat)   -- the CGRP register's offset; none = CALL
  | engGroup (mask : Option Nat)
  | reserved

/-- The target plan (R119). -/
def target (p : Part) (st : Straps) (t : Nat) : Target :=
  if t = 0x00 then .single (devRegs p)
  else if t = 0x01 then .single supRegs
  else if t = 0x02 then .single pwrRegs
  else if t = 0x03 then .single (cryRegs st)
  else if t = 0x04 then .single secRegs
  else if t = 0x05 then .single pmpRegs
  else if 0x08 ≤ t ∧ t < 0x08 + p.links then .single lnkRegs
  else if t = 0x0C then .single cloRegs
  else if 0x10 ≤ t ∧ t < 0x20 then .single (chRegs p (t - 0x10))
  else if 0x20 ≤ t ∧ t < 0x20 + p.engines then .single engRegs
  else if 0x30 ≤ t ∧ t ≤ 0x33 then .chGroup (some (0x10 + (t - 0x30)))
  else if t = 0x37 then .chGroup none
  else if 0x38 ≤ t ∧ t ≤ 0x3B then .engGroup (some (0x14 + (t - 0x38)))
  else if t = 0x3F then .engGroup none
  else .reserved

/-- Lookup in a keyed list. -/
def assoc {α : Type} : List (Nat × α) → Nat → Option α
  | [], _ => none
  | (k, v) :: xs, a => if a = k then some v else assoc xs a

/-- The register at an offset of a single target; none where the target implements none (R93). -/
def regInfo (p : Part) (st : Straps) (t r : Nat) : Option RegInfo :=
  match target p st t with
  | .single regs => assoc regs r
  | _ => none

/-- Reset value of a register. -/
def resetWord (p : Part) (st : Straps) (k : Nat) : Word :=
  match regInfo p st (k / 256) (k % 256) with
  | some i => word i.reset
  | none => 0

/-- Insert into a keyed list kept in rising order of key; `keep = false` removes the entry. -/
def assocPut {α : Type} (keep : Bool) (a : Nat) (v : α) : List (Nat × α) → List (Nat × α)
  | [] => if keep then [(a, v)] else []
  | (k, w) :: xs =>
    if a < k then (if keep then (a, v) :: (k, w) :: xs else (k, w) :: xs)
    else if a = k then (if keep then (a, v) :: xs else xs)
    else (k, w) :: assocPut keep a v xs

/-- The stored word of register `r` of target `t`. -/
def State.rd (s : State) (t r : Nat) : Word :=
  (assoc s.regs (key t r)).getD (resetWord s.part s.straps (key t r))

/-- Store a word into register `r` of target `t`, keeping the register file's canonical form. -/
def State.wr (s : State) (t r : Nat) (v : Word) : State :=
  { s with regs := assocPut (decide (v ≠ resetWord s.part s.straps (key t r))) (key t r) v s.regs }

/-- Set bit `i` of a register. -/
def State.setB (s : State) (t r i : Nat) : State := s.wr t r (setBit (s.rd t r) i)

/-- Clear bit `i` of a register. -/
def State.clrB (s : State) (t r i : Nat) : State := s.wr t r (clrBit (s.rd t r) i)

/-- Make bit `i` of a register `b`. -/
def State.putB (s : State) (t r i : Nat) (b : Bool) : State := s.wr t r (putBit (s.rd t r) i b)

/-- Bit `i` of a register. -/
def State.bit (s : State) (t r i : Nat) : Bool := wbit (s.rd t r) i

/-- Field of a register. -/
def State.fld (s : State) (t r lo n : Nat) : Nat := wfld (s.rd t r) lo n

end Sys2Proof.Machine
end

