-- ==== Sys2Proof/Machine/Ops.lean ====
section
/-! DEFINITION. The named operations over the device's units that every family uses: access to one channel, well,
engine or bank; events; fault records; journal entries; PROMISE_BROKEN; the pins as functions of the state. -/

namespace Sys2Proof.Machine

/-! ## One unit of a family -/

/-- Channel `c`. -/
def State.chan (s : State) (c : Nat) : Channel := nth s.chans c (Channel.reset s.part c)

/-- Change channel `c`. -/
def State.modChan (s : State) (c : Nat) (f : Channel → Channel) : State := { s with chans := modAt s.chans c f }

/-- Change every channel. -/
def State.mapChans (s : State) (f : Channel → Channel) : State := { s with chans := s.chans.map f }

/-- Well `w`. -/
def State.well (s : State) (w : Nat) : Well := nth s.wells w Well.reset

/-- Change well `w`. -/
def State.modWell (s : State) (w : Nat) (f : Well → Well) : State := { s with wells := modAt s.wells w f }

/-- Engine `e`. -/
def State.eng (s : State) (e : Nat) : Engine := nth s.engs e Engine.reset

/-- Change engine `e`. -/
def State.modEng (s : State) (e : Nat) (f : Engine → Engine) : State := { s with engs := modAt s.engs e f }

/-- Cistern bank `b`. -/
def State.bank (s : State) (b : Nat) : Bank := nth s.banks b Bank.reset

/-- Change cistern bank `b`. -/
def State.modBank (s : State) (b : Nat) (f : Bank → Bank) : State := { s with banks := modAt s.banks b f }

/-- Bank named by a bank identifier. -/
def State.bankOf (s : State) : BankId → Bank
  | .cistern b => s.bank b
  | .store e b => nth (nth s.storeBanks e []) b Bank.reset

/-- Change the bank named by a bank identifier. -/
def State.modBankOf (s : State) (i : BankId) (f : Bank → Bank) : State :=
  match i with
  | .cistern b => s.modBank b f
  | .store e b => { s with storeBanks := modAt s.storeBanks e (fun bs => modAt bs b f) }

/-- Bell `b`. -/
def State.bell (s : State) (b : Nat) : Bell := nth s.bells b Bell.reset

/-- Change bell `b`. -/
def State.modBell (s : State) (b : Nat) (f : Bell → Bell) : State := { s with bells := modAt s.bells b f }

/-- Operation with identifier `i`. -/
def State.op? (s : State) (i : Nat) : Option PumpOp := s.ops.find? (fun o => o.id == i)

/-- Change the operation with identifier `i`. -/
def State.modOp (s : State) (i : Nat) (f : PumpOp → PumpOp) : State :=
  { s with ops := s.ops.map (fun o => if o.id == i then f o else o) }

/-- Change the supervisor. -/
def State.modSup (s : State) (f : Sup → Sup) : State := { s with sup := f s.sup }

/-- Let `d` RIM cycles pass. -/
def State.pass (s : State) (d : Nat) : State := { s with now := s.now + d }

/-- Let RIM reach count `t`; a count already passed changes nothing. -/
def State.reach (s : State) (t : Nat) : State := { s with now := max s.now t }

/-! ## Events (R135) -/

/-- DEV_EVENT sources by bit (R135). -/
abbrev evStill : Nat := 0
abbrev evPaceOver : Nat := 1
abbrev evTickRunt : Nat := 2
abbrev evTickLost : Nat := 3
abbrev evLate : Nat := 4
abbrev evPromise : Nat := 5
abbrev evTagStall : Nat := 6
abbrev evTrip : Nat := 7
abbrev evFrame : Nat := 8
abbrev evCfg : Nat := 9
abbrev evChan : Nat := 10
abbrev evFault : Nat := 11
abbrev evLink : Nat := 12
abbrev evPwr : Nat := 13
abbrev evClo : Nat := 14
abbrev evMbox : Nat := 15

/-- Set bits of the supervisor's interrupt cause; the interrupt ends a WFI (R528). -/
def supCauseSet (m : W32) (s : State) : State :=
  { s with sup := { s.sup with cause := s.sup.cause ||| m, wfi := false } }

/-- Set DEV_EVENT bit `i`; when it was 0, the supervisor's interrupt cause bit 2 sets (R528). -/
def raise (i : Nat) (s : State) : State :=
  let s1 := s.setB DEV 0x05 i
  if s.bit DEV 0x05 i then s1 else supCauseSet 4 s1

/-- Record a configuration conflict: CFG_CONFLICT and its event (R138, R135). -/
def cfgConflict (s : State) : State := raise evCfg (s.setB DEV 0x04 14)

/-- Record a frame error: FRAME_ERR and its event (R99, R135). -/
def frameError (s : State) : State := raise evFrame (s.setB DEV 0x04 15)

/-- Add to a 16-bit counter register, saturating (R77). -/
def bump16 (t r d : Nat) (s : State) : State := s.wr t r (satAdd16 (s.rd t r) d)

/-! ## Channel maps -/

/-- Primary engine of a CH_ENGINE_MAP word (R150). -/
def mapPrimary (w : Word) : Nat := wfld w 0 4

/-- Engines named by a CH_ENGINE_MAP word, primary first (R150). -/
def mapEngines (w : Word) : List Nat := (List.range (wfld w 4 3 + 1)).map (fun i => wfld w 0 4 + i)

/-- Wells named by a CH_WELL_MAP word, local well 0 first (R148). -/
def mapWells (w : Word) : List Nat := (List.range (wfld w 0 6 + 1)).map (fun i => wfld w 8 6 + i)

/-- Engines of channel `c` under the map in force. -/
def chanEngines (s : State) (c : Nat) : List Nat := mapEngines (s.chan c).engMap

/-- Wells of channel `c` under the map in force. -/
def chanWells (s : State) (c : Nat) : List Nat := mapWells (s.chan c).wellMap

/-- The states in which a channel runs ticks and its epoch position counts (R151, R313). -/
def ChState.counting : ChState → Bool
  | .active => true
  | .watch => true
  | .shadow => true
  | .readmitting => true
  | _ => false

/-- Active or Watch. -/
def ChState.onDuty : ChState → Bool
  | .active => true
  | .watch => true
  | _ => false

/-- Shadow or Readmitting. -/
def ChState.onTrial : ChState → Bool
  | .shadow => true
  | .readmitting => true
  | _ => false

/-- All channel numbers. -/
abbrev allChans : List Nat := List.range 16

/-- Channels whose map in force names engine `e`, ascending. -/
def chansOn (s : State) (e : Nat) : List Nat := allChans.filter (fun c => (chanEngines s c).contains e)

/-- Channels that engine `e` carries (R151). -/
def carried (s : State) (e : Nat) : List Nat := (chansOn s e).filter (fun c => (s.chan c).st.counting)

/-- Put channel `c` into a state; a change raises CHAN (R156). -/
def setChState (c : Nat) (st : ChState) (s : State) : State :=
  if (s.chan c).st = st then s else raise evChan (s.modChan c (fun ch => { ch with st := st }))

/-! ## PROMISE_BROKEN (R76, R77) -/

/-- Flag tick `no` for a stall (`stall = true`) or a fault in tick-mode work of channels `cs` (R76): the sticky bit of
the cause; COUNT, saturating, and the event once for the tick; the flag of each affected channel when the tick is the
present one. -/
def promiseBroken (stall : Bool) (no : Nat) (cs : List Nat) (s : State) : State :=
  let s1 := s.setB DEV 0x26 (if stall then 15 else 14)
  let s2 :=
    if s.tick.flagged.contains no then s1
    else
      let w := s1.rd DEV 0x26
      raise evPromise
        ({ s1 with tick := { s1.tick with flagged := no :: s1.tick.flagged } }.wr DEV 0x26
          (putFld w 0 12 (min 0xFFF (wfld w 0 12 + 1))))
  if s.tick.number = no then
    foldS (fun c s => s.modChan c (fun ch => { ch with broken := true, brokenLast := ch.brokenLast || ch.ran })) cs s2
  else s2

/-! ## Fault records (R462) -/

/-- Write one fault record: queue it, or count it LOST; raise STILL for codes 3 to 7 and FAULT otherwise. The steward
keeps it for FAULTS (R486). -/
def faultRecord (src unit chan flags detail detail2 : Nat) (s : State) : State :=
  let f := s.faults
  let r : FaultRec :=
    { src := src, unit := unit, chan := chan, flags := flags, detail := detail % 0x10000,
      detail2 := detail2 % 0x10000, rim := s.now % 2 ^ 32, seq := f.seq }
  let f' :=
    if f.queue.length < 64 then { f with queue := f.queue ++ [r], seq := (f.seq + 1) % 2 ^ 32 }
    else { f with lost := min 0xFFFF (f.lost + 1) }
  raise (if 3 ≤ src ∧ src ≤ 7 then evStill else evFault) { s with faults := f' }

/-- Note a fault record of codes 1 to 9 against channel `c` (R463, R473 cause 3). -/
def chargeChannel (c : Nat) (s : State) : State :=
  s.modChan c (fun ch =>
    if ch.st.onTrial then { ch with shadow := { ch.shadow with faulted := true } } else { ch with faultTick := true })

/-- FLAGS of a record for tick-mode work of channel `c` (R462, R463). -/
def tickFlags (s : State) (c : Nat) : Nat := 1 + (if (s.chan c).st.onTrial then 2 else 0)

/-- A fault record for tick-mode work of channel `c` in tick `no`, charged to the channel and flagging the tick. -/
def tickFault (src unit c no flags detail detail2 : Nat) (s : State) : State :=
  promiseBroken false no [c] (chargeChannel c (faultRecord src unit c (tickFlags s c + flags) detail detail2 s))

/-! ## The journal (R359 to R361) -/

/-- Bytes of a journal entry after its number. -/
def journalBytes (typ chan cls flags score aux rim tb : Nat) (payload : List Byte) : List Byte :=
  [byte typ, byte chan, byte cls, byte flags] ++ leBytes 2 score ++ leBytes 2 aux ++ leBytes 4 rim ++
    leBytes 6 tb ++ [0, 0] ++ (payload ++ List.replicate 8 0).take 8

/-- Number an entry and queue it, or drop it when 64 are queued (R361). -/
def numberEntry (bs : List Byte) (s : State) : State :=
  let j := s.journal
  let e : JEntry := { seq := j.nextNo, bytes := leBytes 4 j.nextNo ++ bs }
  if j.queue.length < 64 then
    { s with journal := { j with nextNo := (j.nextNo + 1) % 2 ^ 32, queue := j.queue ++ [e] } }
  else { s with journal := { j with nextNo := (j.nextNo + 1) % 2 ^ 32, dropped := (j.dropped + 1) % 2 ^ 32 } }

/-- Write one entry: it is numbered at once, or at the end of a snapshot edge whose entries are collected (R360). -/
def journal (typ chan cls flags score aux rim tb : Nat) (payload : List Byte) (s : State) : State :=
  let bs := journalBytes typ chan cls flags score aux rim tb payload
  match s.journal.stage with
  | none => numberEntry bs s
  | some es => { s with journal := { s.journal with stage := some (es ++ [(chan, bs)]) } }

/-- Begin to collect the entries of one edge. -/
def collectEntries (s : State) : State := { s with journal := { s.journal with stage := some [] } }

/-- The collected entries of the edge are numbered in ascending channel order, those of one channel as they were made
(R360). -/
def settleEntries (s : State) : State :=
  let es := s.journal.stage.getD []
  foldS (fun c s => foldS (fun (e : Nat × List Byte) s => numberEntry e.2 s) (es.filter (fun e => e.1 == c)) s) allChans
    { s with journal := { s.journal with stage := none } }

/-! ## TRIP_N holds (R351, R346) -/

/-- Start or restart the TRIP_N hold of channel `c` on RIM count `t`, raising TRIP: it ends 65,536 RIM after the later
of its starts. -/
def startHold (c t : Nat) (s : State) : State :=
  raise evTrip (s.modChan c (fun ch => { ch with holdEnd := some (max (ch.holdEnd.getD 0) (t + 65536)) }))

/-- Free values: take the next number of the free-value counter. -/
def State.takeFree (s : State) : Nat × State := (s.free, { s with free := s.free + 1 })

end Sys2Proof.Machine
end

