-- ==== Sys2Proof/Machine/Learning.lean ====
section
/-! DEFINITION. Learning (12): epochs, the sweep, READY and the bank swap of one channel. -/

namespace Sys2Proof.Machine

/-- Change the learning state of channel `c`. -/
def State.modLearn (s : State) (c : Nat) (f : Learn → Learn) : State :=
  s.modChan c (fun ch => { ch with learn := f ch.learn })

/-- Change the sampling state of channel `c`. -/
def State.modDrift (s : State) (c : Nat) (f : Drift → Drift) : State :=
  s.modChan c (fun ch => { ch with drift := f ch.drift })

/-- Swap the banks of channel `c` (R317, R326, R370): ACTIVE toggles, READY and HOLD clear, CLEAR and REFRESH set. -/
def swapBanks (c : Nat) (s : State) : State :=
  (s.modLearn c (fun l =>
    { l with active := !l.active, ready := false, readyForeign := none, hold := false, clear := true,
             foreign := l.readyForeign.getD l.foreign, swaps := (l.swaps + 1) % 0x10000, imports := [],
             epochs := l.epochs + 1 })).modDrift c (fun d => { d with refresh := true })

/-- READY is set for channel `c` with the FOREIGN value of a mark, if any; in Off it swaps on the same edge (R316, R317,
R325). -/
def setReady (c : Nat) (f : Option Bool) (s : State) : State :=
  let s1 := s.modLearn c (fun l => { l with ready := true, readyForeign := f })
  if (s.chan c).st = .off then swapBanks c s1 else s1

/-- The READY swap of channel `c` on a snapshot edge (R317). -/
def edgeSwap (c : Nat) (s : State) : State :=
  if (s.chan c).learn.ready = true ∧ (s.chan c).st.counting = true then swapBanks c s else s

/-- A sweep that ended without READY is cleared away on a snapshot edge (R318, R471). -/
def settleSweep (c : Nat) (s : State) : State :=
  let l := (s.chan c).learn
  if l.sweepOn = true ∧ l.sweepBad = true ∧ l.parts = [] then
    s.modLearn c (fun l => { l with sweepOn := false, sweepBad := false, hold := false, clear := true })
  else s

/-- Drop the parts of channel `c`'s sweep that are pending on an engine (R471). -/
def dropPending (c : Nat) (s : State) : State :=
  { s with engs := s.engs.map (fun g => { g with sweeps := g.sweeps.filter (fun x => x ≠ c) }) }

/-- Start the sweep of channel `c`: HOLD, and a pending part on every engine of its map (R314, R223). -/
def startSweep (c : Nat) (s : State) : State :=
  let es := chanEngines s c
  let s1 := s.modLearn c (fun l => { l with hold := true, sweepOn := true, sweepBad := false, parts := es })
  foldS (fun e s => s.modEng e (fun g =>
    { g with sweeps := (List.range 16).filter (fun x => x = c ∨ g.sweeps.contains x = true) })) es s1

/-- The end of an epoch of channel `c` on a snapshot edge (R314, R315, R319, R475). `held`: HOLD was in force before the
edge. The journal's entry is always written. -/
def endEpoch (c : Nat) (held : Bool) (rim tb : Nat) (s : State) : State :=
  let ch := s.chan c
  let go := s.bit (CH c) 0x00 15 && ch.learnOn && ch.st.counting && !held && !ch.learn.tainted && !s.tick.buttressOnly
  let s1 := if go then startSweep c s else s.modLearn c (fun l => { l with clear := true })
  let s2 := journal 3 c 0 (if go then 0 else 16 * b2n held + 32 * b2n ch.learn.tainted) 0 ch.learn.swaps rim tb [] s1
  s2.modLearn c (fun l => { l with tainted := false })

/-- The last part of channel `c`'s sweep reaches the rim: READY, unless the channel is in Stopping (R316, R159). -/
def completeSweep (c : Nat) (s : State) : State :=
  let l := (s.chan c).learn
  if l.sweepOn = true ∧ l.parts = [] ∧ l.sweepBad = false then
    let s1 := s.modLearn c (fun l => { l with sweepOn := false })
    if (s.chan c).st = .stopping then s1 else setReady c none s1
  else s

/-- The part of channel `c`'s sweep on engine `e` executed HALT (R316). -/
def sweepPartDone (c e : Nat) (s : State) : State :=
  s.modLearn c (fun l => { l with parts := l.parts.filter (fun x => x ≠ e) })

/-- A part of channel `c`'s sweep trapped: the sweep completes without READY (R318). -/
def sweepTrapped (c : Nat) (s : State) : State :=
  dropPending c (s.modLearn c (fun l => { l with parts := [], sweepBad := true }))

end Sys2Proof.Machine
end

