-- ==== Sys2Proof/Machine/Verdict.lean ====
section
/-! DEFINITION. Verdicts (13): the engine class and its hysteresis, class 6, the latch of engine and buttress verdicts,
the VD port's report, TRIP_N, and the journal entries they make. -/

namespace Sys2Proof.Machine

/-! ## The engine class (R336 to R339) -/

/-- KIND with an unlisted value taken as 4 (R337). -/
def normKind (k : Nat) : Nat := if k = 0 ∨ k = 1 ∨ k = 3 ∨ k = 5 then k else 4

/-- `SCORE ≥ T`, never met for T = 0xFFFF (R338). -/
def meets (score : Nat) (t : Word) : Bool := decide (t ≠ 0xFFFF) && decide (t.toNat ≤ score)

/-- The departure state after a verdict, apart from the impact case (R338). -/
def nextDep (dep : Bool) (score : Nat) (enter exit : Word) : Bool :=
  if dep then !(decide (exit ≠ 0xFFFF) && decide (score < exit.toNat)) else meets score enter

/-- Engine class and departure state of a verdict under thresholds ENTER, EXIT, SEVERE, IMPACT (R338). -/
def engineClass (dep : Bool) (score kind : Nat) (enter exit severe impact : Word) : Nat × Bool :=
  if kind = 5 ∧ meets score impact = true then (5, true)
  else
    let d := nextDep dep score enter exit
    let cls :=
      if !d then 0
      else if kind = 1 then (if meets score severe then 2 else 1)
      else if kind = 3 then 3
      else 4
    (cls, d)

/-- The engine class of channel `c` for a score and kind, from departure state `dep`. -/
def classOf (s : State) (c : Nat) (dep : Bool) (score kind : Nat) : Nat × Bool :=
  engineClass dep score kind (s.rd (CH c) 0x08) (s.rd (CH c) 0x09) (s.rd (CH c) 0x0A) (s.rd (CH c) 0x0B)

/-- Class 6 replaces the engine class (R190): every well of the channel starved on the tick's snapshot edge, or a well
with SFF = 1 has OPEN or STUCK in the tick's marker. -/
def sensorFault (s : State) (c : Nat) : Bool :=
  (chanWells s c).all (fun w => nbit (s.well w).markFlags 0) ||
  (chanWells s c).any (fun w =>
    wbit (s.well w).ctrl 14 && (nbit (s.well w).markFlags 1 || nbit (s.well w).markFlags 2))

/-! ## CH_SCORE and CH_VERDICT (R355) -/

/-- The CH_VERDICT word; TRIPPING is live and not stored. -/
def verdictWord (bt : BitVec 4) (srcB broken dep : Bool) (kind cls : Nat) : Word :=
  word (bt.toNat * 4096 + b2n srcB * 1024 + b2n broken * 512 + b2n dep * 256 + kind % 16 * 16 + cls % 16)

/-- CH_SCORE and CH_VERDICT take a verdict of channel `c`. -/
def latchRegs (c score kind cls : Nat) (srcB : Bool) (s : State) : State :=
  let ch := s.chan c
  (s.wr (CH c) 0x10 (word score)).wr (CH c) 0x11 (verdictWord ch.btRec srcB ch.broken ch.dep kind cls)

/-! ## The VD port's report (R66, R344, R345) -/

/-- Rank of a class in the severity order 5, 6, 7, 8, 4, 2, 1, 3, 0, most severe first (R344). -/
def severity (cls : Nat) : Nat :=
  match cls with
  | 5 => 0
  | 6 => 1
  | 7 => 2
  | 8 => 3
  | 4 => 4
  | 2 => 5
  | 1 => 6
  | 3 => 7
  | _ => 8

/-- The most severe (class, channel); of equals the first. -/
def worst : List (Nat × Nat) → Option (Nat × Nat)
  | [] => none
  | x :: xs =>
    match worst xs with
    | none => some x
    | some y => if severity y.1 < severity x.1 then some y else some x

/-- (class, channel) of every channel served in the present tick, ascending. -/
def servedVerdicts (s : State) : List (Nat × Nat) :=
  (allChans.filter (fun c => (s.chan c).served)).map (fun c => ((s.chan c).repClass, c))

/-- Every served channel has latched (R66). -/
def allLatched (s : State) : Bool := allChans.all (fun c => !(s.chan c).served || (s.chan c).latched)

/-- When the last served channel of the tick has latched, its report joins the VD port's queue, once. -/
def formReport (s : State) : State :=
  if s.tick.reported || !allLatched s then s
  else
    match worst (servedVerdicts s) with
    | none => { s with tick := { s.tick with reported := true } }
    | some r => { s with tick := { s.tick with reported := true, vdQueue := s.tick.vdQueue ++ [r] } }

/-! ## Journal entries of verdicts (R360) -/

/-- The VERDICT entry of a reported verdict, where a trigger holds: the class changed, is 5, 6 or 7, the record is
non-zero or the tick is flagged. -/
def journalVerdict (c cls kind flags score : Nat) (payload : List Byte) (s : State) : State :=
  let ch := s.chan c
  let s1 :=
    if ch.prevRep ≠ some cls ∨ cls = 5 ∨ cls = 6 ∨ cls = 7 ∨ ch.btRec ≠ 0 ∨ ch.broken = true then
      journal 1 c (cls + 16 * kind) (flags + 2 * b2n ch.broken) score ch.btRec.toNat s.tick.snapAt s.tick.snapTb payload s
    else s
  s1.modChan c (fun ch => { ch with prevRep := some cls })

/-! ## Latches -/

/-- A used engine verdict of channel `c` latches in time (R64, R69, R338, R340, R65, R190). -/
def latchUsed (c score kind : Nat) (payload : List Byte) (s : State) : State :=
  let (cls, dep) := classOf s c (s.chan c).dep score kind
  let rep := if sensorFault s c then 6 else cls
  let s1 := s.modChan c (fun ch =>
    { ch with dep := dep, latched := true, repClass := rep, lateLast := false,
              eng := some { cls := cls, score := score, kind := kind } })
  let s2 := latchRegs c score kind rep false s1
  let s3 := if cls = 5 then startHold c (s2.now + 1) s2 else s2
  let s4 := if rep = 6 then raise evFault s3 else s3
  formReport (journalVerdict c rep kind 0 score payload s4)

/-- An engine verdict of a Shadow or Readmitting channel latches in time: journal and shadow comparison only
(R341, R473). -/
def latchTrial (c score kind : Nat) (payload : List Byte) (s : State) : State :=
  let ch := s.chan c
  let (cls, dep) := classOf s c ch.shadow.dep score kind
  let s1 :=
    if ch.prevEng ≠ some cls then
      journal 1 c (cls + 16 * kind) (4 + 2 * b2n ch.broken) score ch.btRec.toNat s.tick.snapAt s.tick.snapTb payload s
    else s
  s1.modChan c (fun ch =>
    { ch with prevEng := some cls, eng := some { cls := cls, score := score, kind := kind },
              shadow := { ch.shadow with dep := dep } })

/-- An engine verdict that latches after its guard edge, or in Stopping: a LATE_VERDICT entry with the buttress record
`bt` of its own tick, and TRIP_N for class 5 unless the channel is on trial (R71, R165, R341, R359). The channel's state on the latch
edge decides, also for a program that began in another state: which departure state applies, the SHADOW flag and the
hold (DESIGN CHOICE, log entry 64). -/
def latchLate (c score kind : Nat) (brk : Bool) (bt rim tb : Nat) (payload : List Byte) (s : State) : State :=
  let ch := s.chan c
  let (cls, _) := classOf s c (if ch.st.onTrial then ch.shadow.dep else ch.dep) score kind
  let flags := (if ch.st = .stopping then 64 else 1) + 2 * b2n brk + 4 * b2n ch.st.onTrial
  let s1 := journal 2 c (cls + 16 * kind) flags score bt rim tb payload s
  if cls = 5 ∧ ch.st.onTrial = false then startHold c (s1.now + 1) s1 else s1

/-- A buttress verdict of channel `c` with class 7 or 8 latches (R70, R342). -/
def latchButtress (c cls : Nat) (s : State) : State :=
  let score := if cls = 7 ∨ (s.chan c).btRec ≠ 0 then 0xFFFF else 0
  let s1 := s.modChan c (fun ch => { ch with latched := true, repClass := cls, lateLast := decide (cls = 7) })
  formReport (journalVerdict c cls 0 8 score [] (latchRegs c score 0 cls true s1))

/-- The engine verdict of channel `c` from tick `no`, whose buttress record is `bt`, latches in the rim (R64): used,
compared, or late. -/
def latchEngine (c no score kind : Nat) (clean : Bool) (bt rim tb : Nat) (payload : List Byte) (s : State) : State :=
  let ch := s.chan c
  let inTime := s.tick.open_ && (s.tick.number == no)
  if inTime ∧ ch.st.onDuty = true ∧ ch.latched = false then latchUsed c score kind payload s
  else if inTime ∧ ch.st.onTrial = true then latchTrial c score kind payload s
  else latchLate c score kind (!clean) bt rim tb payload s

/-! ## The guard (R69 to R73) -/

/-- What the guard edge, or the snapshot edge that ends a tick early, does for channel `c`: class 7 for an Active or
Watch channel with no verdict (R70). A Shadow or Readmitting channel's miss shows in its comparison (R72, R473). -/
def guardChannel (c : Nat) (s : State) : State :=
  let ch := s.chan c
  if ch.st.onDuty = true ∧ ch.served = true ∧ ch.latched = false then
    raise evLate (bump16 DEV 0x25 1 (latchButtress c 7 s))
  else s

/-- End the tick's wait for verdicts. -/
def closeTick (s : State) : State :=
  if s.tick.open_ then
    let s1 := foldS guardChannel allChans s
    { s1 with tick := { s1.tick with open_ := false } }
  else s

/-! ## VD_REPORT -/

/-- Drive the oldest formed report: class on the first pulse, channel number on the second (R344). -/
def vdDrive (s : State) : State :=
  match s.tick.vdQueue with
  | [] => s
  | (cls, c) :: q =>
    { s with tick := { s.tick with vdQueue := q, vd := BitVec.ofNat 4 c, vdClass := BitVec.ofNat 4 cls,
                                   vdPulses := s.tick.vdPulses + 2, vdStb := false } }

/-! ## TRIP_N and ALERT_N as functions of the state (R351, R352, R108) -/

/-- A channel's TRIP_N hold is running. -/
def tripping (s : State) (c : Nat) : Bool := (s.chan c).holdEnd.isSome

end Sys2Proof.Machine
end

