-- ==== Sys2Proof/Machine/EngCore.lean ====
section
/-! DEFINITION. How programs start, end and trap on an engine (R201 to R205, R220 to R226, R253, R73): shared by the
tick path and by every instruction. -/

namespace Sys2Proof.Machine

/-! ## The store (R197 to R201) -/

/-- Bytes of an engine store. -/
abbrev storeSize : Nat := 0x180000

/-- First byte of the program directory (R201). -/
abbrev dirBase : Nat := 0x17FC00

/-- `n` store bytes of engine `e` from byte `a`. -/
def storeGet (s : State) (e a n : Nat) : List Byte := memReadN (s.eng e).store a n

/-- Store bytes with whole codewords rewritten: an uncorrectable codeword wholly covered is replaced (R622). -/
def storePut (e a : Nat) (bs : List Byte) (s : State) : State :=
  s.modEng e (fun g =>
    { g with store := memWriteL g.store a bs,
             ue := g.ue.filter (fun w => !(decide (a ≤ 4 * w) && decide (4 * w + 4 ≤ a + bs.length))),
             ce := g.ce.filter (fun w => !(decide (a ≤ 4 * w) && decide (4 * w + 4 ≤ a + bs.length))) })

/-- Codewords of `[a, a + n)` listed in `ws` with codeword size `k`. -/
def hitWords (ws : List Nat) (k a n : Nat) : List Nat :=
  ws.filter (fun w => decide (a < k * w + k) && decide (k * w < a + n))

/-- An uncorrectable error lies in `n` store bytes from `a`. -/
def storeBad (s : State) (e a n : Nat) : Bool := !(hitWords (s.eng e).ue 4 a n).isEmpty

/-- Codeword index in its store bank and the bank, of store byte `a` (R477). -/
def storeWordIdx (a : Nat) : Nat := 4 * (a / 256) + a % 16 / 4
/-- Store bank of byte `a` (R198). -/
def storeBankOf (a : Nat) : Nat := a / 16 % 16

/-- Queue a column test in a bank unless a test or copy is already there (R478). -/
def queueTest (i : BankId) (column : Nat) (s : State) : State :=
  s.modBankOf i (fun b => if b.job = .idle ∧ b.retired = false then { b with job := .test column } else b)

/-- A MEM_UE record of a bank or engine `unit`; one that struck tick-mode work of channel `c` names it and is charged to
it (R462, R463). -/
def memRecord (unit : Nat) (c : Option Nat) (flags detail detail2 : Nat) (s : State) : State :=
  match c with
  | some c => chargeChannel c (faultRecord 9 unit c (tickFlags s c + flags) detail detail2 s)
  | none => faultRecord 9 unit 0xFF flags detail detail2 s

/-- The records a read of store bytes leaves: MEM_UE for each uncorrectable codeword, the correctable count, and a
queued column test for each (R200, R478). `c`: the channel of tick-mode work, if any. -/
def storeReadEvents (e a n : Nat) (c : Option Nat) (s : State) : State :=
  let bad := hitWords (s.eng e).ue 4 a n
  let cor := hitWords (s.eng e).ce 4 a n
  let s1 := foldS (fun w s =>
      queueTest (.store e (storeBankOf (4 * w))) (storeWordIdx (4 * w) % 256)
        (memRecord e c 4 (storeBankOf (4 * w)) (storeWordIdx (4 * w)) s)) bad s
  foldS (fun w s =>
      queueTest (.store e (storeBankOf (4 * w))) (storeWordIdx (4 * w) % 256)
        (s.modEng e (fun g => { g with corrected := min 0xFFFF (g.corrected + 1) }))) cor s1

/-! ## The directory (R201, R205) -/

/-- Directory slot of a program. -/
def ProgKind.slot : ProgKind → Nat
  | .tick c => c
  | .sweep c => 16 + c
  | .job k => 32 + k

/-- Tick mode (entries 0-15) or background mode. -/
def ProgKind.isTick : ProgKind → Bool
  | .tick _ => true
  | _ => false

/-- The channel through which a program's W-operands and rule table resolve on engine `e` (R207, R213). -/
def ProgKind.chanOf (e : Nat) : ProgKind → Nat
  | .tick c => c
  | .sweep c => c
  | .job _ => e

/-- Translation context of a program on engine `e` (R278). -/
def ProgKind.ctx (e : Nat) (k : ProgKind) : Nat := k.chanOf e

/-- A directory entry as read. -/
structure DirEntry where
  entry : Nat
  strokes : Nat
  drain : Nat
  flags : Nat
  len : Nat
deriving DecidableEq, Repr

/-- Directory entry `k` of engine `e`. -/
def dirEntry (s : State) (e k : Nat) : DirEntry :=
  let at_ (o n : Nat) := leVal (storeGet s e (dirBase + 16 * k + o) n)
  { entry := at_ 0 4, strokes := at_ 4 2, drain := at_ 6 2, flags := at_ 9 1, len := at_ 10 2 }

/-- VALID of an entry. -/
def DirEntry.valid (d : DirEntry) : Bool := nbit d.flags 0

/-- The entry can be run (R205). -/
def DirEntry.runnable (d : DirEntry) (tick : Bool) : Bool :=
  d.valid && decide (d.entry % 8 = 0) && decide (d.entry < dirBase) && decide (1 ≤ d.len) &&
    !(tick && decide (d.strokes = 0))

/-- STROKES shown by ENG_PROGRAM_STROKES for tick entry `p` (R204). -/
def programStrokes (s : State) (e p : Nat) : Nat :=
  let d := dirEntry s e p
  if d.valid then d.strokes else 0

/-- Engine fault codes (R221). -/
abbrev fIllegal : Nat := 1
abbrev fBrTick : Nat := 2
abbrev fRemoteTick : Nat := 3
abbrev fRange : Nat := 4
abbrev fBank : Nat := 5
abbrev fEcc : Nat := 6
abbrev fLoop : Nat := 7
abbrev fVerdict : Nat := 8
abbrev fDir : Nat := 9
abbrev fCount : Nat := 10
abbrev fOverhang : Nat := 11
abbrev fStill : Nat := 12
abbrev fOperation : Nat := 13
abbrev fBellSat : Nat := 14

/-- Hold the first engine fault since CLR_FAULT (R221); `pc` is kept when the fault stops a program. -/
def holdFault (e code : Nat) (pc : Option Nat) (s : State) : State :=
  s.modEng e (fun g => if g.faulted then g else { g with faulted := true, fault := code, faultPc := pc })

/-- ENGINE_TRAP record of an engine fault in program `k` at index `pc`; tick-mode work is charged (R220, R462). -/
def engineRecord (e code pc : Nat) (stops : Bool) (k : ProgKind) (no : Nat) (s : State) : State :=
  let s1 := holdFault e code (if stops then some pc else none) s
  match k with
  | .tick c => tickFault 1 e c no 0 code pc s1
  | _ => faultRecord 1 e 0xFF 0 code pc s1

/-! ## Leaving a program -/

/-- Handles of engine `e` in use: its operations in flight (R218, R254). -/
def heldTags (s : State) (e : Nat) : Nat :=
  (s.ops.filter (fun o => match o.issuer with | .engine x _ _ => x == e | _ => false)).length

/-- The engine runs a tick program or has one due. -/
def Engine.tickWork (g : Engine) : Bool :=
  !g.due.isEmpty || (match g.run with | some r => r.kind.isTick | none => false)

/-- After the engine's last tick program of tick `no`: the background fence of an earlier tick lifts (R73), and HELD no
longer counts for PEAK (R254). -/
def liftAfter (e no : Nat) (s : State) : State :=
  s.modEng e (fun g =>
    if g.tickWork then g
    else
      { g with peakOn := false,
               fenced := match g.fenced with
                 | some f => if f < no then none else some f
                 | none => none })

/-- Take the running program off engine `e`. -/
def clearRun (e : Nat) (s : State) : State :=
  s.modEng e (fun g =>
    { g with run := none, lastPc := (match g.run with | some r => r.pc | none => g.lastPc), delta := none,
             tileRun := none })

/-- LAST code of a tick's worst run result: 1 PASS, 2 MISS, 3 FAIL (R369, CH_DRIFT table). -/
def lastCode (w : Nat) : Nat := if w = 3 then 2 else if w = 2 then 3 else w

/-- The end of channel `c`'s tick program: LAST and FAILS of a sampled tick, and the refresh tick is over (R369, R371). -/
def settleDrift (c : Nat) (s : State) : State :=
  let d := (s.chan c).drift
  let s1 := s.modDrift c (fun d => { d with sampled := false, refreshTick := false, worst := 0 })
  if d.sampled = true ∧ d.worst ≠ 0 then
    let w := putFld (s.rd (CH c) 0x15) 8 2 (lastCode d.worst)
    s1.wr (CH c) 0x15 (if d.worst = 3 then putFld w 0 8 (min 0xFF (wfld w 0 8 + 1)) else w)
  else s1

/-- The part of channel `c`'s tick program on engine `e` has ended; after the last one its CLEAR is spent (R312) and its
samples are settled. -/
def tickPartEnded (c e : Nat) (s : State) : State :=
  let ch := s.chan c
  let ps := ch.parts.filter (fun x => x ≠ e)
  let s1 := s.modChan c (fun ch => { ch with parts := ps })
  if ps = [] ∧ ch.parts ≠ [] then settleDrift c (s1.modLearn c (fun l => { l with clearNow := false })) else s1

/-- End the bell wait of the tick program (`tick`) or background program of engine `e`, without a decrement. -/
def dropWaiter (e : Nat) (tick : Bool) (s : State) : State :=
  { s with bells := s.bells.map (fun b => { b with waiters := b.waiters.filter (fun x => x ≠ (e, tick)) }) }

/-- A tick program of channel `c`. -/
def Run.ofChan (r : Run) (c : Nat) : Bool := decide (r.kind = .tick c)

/-- The tick program of channel `c` that engine `x` still has due is not started: its part ends (R159, R166, R253), and a
refresh that it was to make stays due (R371). -/
def dropDue (x c : Nat) (s : State) : State :=
  if (s.eng x).due.any (fun r => r.ofChan c) then
    liftAfter x s.tick.number (tickPartEnded c x ((s.modDrift c (fun d =>
      { d with refresh := d.refresh || d.refreshTick })).modEng x (fun g => { g with due := g.due.filter (fun r => !r.ofChan c) })))
  else s

/-- The part of channel `c`'s tick program that runs on engine `x` ends without a fault (R253). -/
def endPart (x c : Nat) (s : State) : State :=
  match (s.eng x).run with
  | some r => liftAfter x r.tickNo (tickPartEnded c x (dropWaiter x true (clearRun x s)))
  | none => s

/-- A trap in one part stops the channel's other parts, without a fault (R253): a part that waits at a bell or is about to
issue ends, one whose post waits for a tag ends once it has posted. -/
def stopOtherParts (c e : Nat) (s : State) : State :=
  foldS (fun x s =>
    if x = e then s
    else
      match (s.eng x).run with
      | some r =>
        if r.ofChan c = false then dropDue x c s
        else if r.stalled.isSome then
          s.modEng x (fun g => { g with run := g.run.map (fun r => { r with halting := true }) })
        else endPart x c s
      | none => dropDue x c s) ((s.chan c).parts) s

/-- A program of kind `k` trapped on engine `e` at index `pc` with `code` (R220, R318, R370). -/
def trapped (e code pc : Nat) (k : ProgKind) (no : Nat) (s : State) : State :=
  let s1 := engineRecord e code pc true k no s
  match k with
  | .tick c =>
    let s2 := s1.modChan c (fun ch =>
      { ch with learn := { ch.learn with tainted := true }, drift := { ch.drift with refresh := true } })
    liftAfter e no (tickPartEnded c e (stopOtherParts c e s2))
  | .sweep c => sweepTrapped c s1
  | .job _ => s1

/-! ## Starting programs -/

/-- Set the rounding generator from a 32-bit seed; 0 would never leave 0 and is taken as R299 gives. -/
def seedGen (lo hi : Word) : W32 :=
  let x := lo.toNat + 65536 * hi.toNat
  if x = 0 then 1 else BitVec.ofNat 32 x

/-- The bank that a tick program of tick `no` of channel `c` uses: the one active when the first of its parts starts
(R26, R317). -/
def startBank (s : State) (c no : Nat) : Bool :=
  let l := (s.chan c).learn
  match l.tickBank with
  | some (n, b) => if n = no then b else l.active
  | none => l.active

/-- The bank of the tick program `r` is fixed as it starts. -/
def fixBank (r : Run) (s : State) : State :=
  match r.kind with
  | .tick c => s.modLearn c (fun l => { l with tickBank := some (r.tickNo, startBank s c r.tickNo) })
  | _ => s

/-- Start program `r` on engine `e` from its directory entry, or trap before its first instruction (R205, R226). -/
def launch (e : Nat) (r : Run) (s : State) : State :=
  let k := r.kind.slot
  let d := dirEntry s e k
  let chan := match r.kind with | .tick c => some c | _ => none
  let active := match r.kind with | .tick c => startBank s c r.tickNo | _ => r.active
  let s0 := storeReadEvents e (dirBase + 16 * k) 16 chan (fixBank r s)
  if storeBad s e (dirBase + 16 * k) 16 then trapped e fEcc 0 r.kind r.tickNo s0
  else if d.runnable r.kind.isTick = false then trapped e fDir 0 r.kind r.tickNo s0
  else
    s0.modEng e (fun g =>
      { g with run := some { r with entry := d.entry, len := d.len, strokes := d.strokes, pc := 0, active := active,
                                    firstOp := s.nextOp },
               delta := none, tileRun := none,
               gen := if nbit d.flags 1 then seedGen (s.rd (ENG e) 0x05) (s.rd (ENG e) 0x06) else g.gen })

/-- Engine `e` can start its next tick program now. -/
def canStartDue (s : State) (e : Nat) : Bool :=
  let g := s.eng e
  g.run.isNone && !g.due.isEmpty && !g.overhang

/-- Start the next due tick program of engine `e`. -/
def startNext (e : Nat) (s : State) : State :=
  match (s.eng e).due with
  | [] => s
  | r :: rest => launch e r (s.modEng e (fun g => { g with due := rest }))

/-- Start due tick programs on every engine that can, until none can; a start that traps goes on to the next (R62). -/
def startDue : Nat → State → State
  | 0, s => s
  | n + 1, s =>
    match (List.range s.part.engines).find? (fun e => canStartDue s e) with
    | none => s
    | some e => startDue n (startNext e s)

/-- Start all that are due. -/
def startAllDue (s : State) : State := startDue 512 s

/-- Trap the running program of engine `e` with `code`, then run what is due (R220). -/
def trap (e code : Nat) (s : State) : State :=
  match (s.eng e).run with
  | none => s
  | some r => startAllDue (trapped e code r.pc r.kind r.tickNo (clearRun e s))

/-! ## Background programs (R222) -/

/-- A fresh run record of a background program of kind `k` on engine `e`. -/
def bgRun (s : State) (e : Nat) (k : ProgKind) : Run :=
  { kind := k, entry := 0, len := 0, strokes := 0, pc := 0, loops := [], any := false, tickNo := s.tick.number,
    snapAt := s.tick.snapAt, snapTb := s.tick.snapTb, snaps := s.wells.map (fun w => w.snap), clean := true,
    active := (s.chan (k.chanOf e)).learn.active, lean := false, waitBell := none, stalled := none, post := none,
    halting := false, firstOp := 0, primary := false, bt := 0, sampled := false, row := 0, bound := 0 }

/-- Engine `e` has nothing running, suspended, due or in flight (R166). -/
def engQuiet (s : State) (e : Nat) : Bool :=
  let g := s.eng e
  g.run.isNone && g.susp.isNone && g.due.isEmpty && decide (heldTags s e = 0)

/-- The engine still completes work after ENABLE = 0, or waits for the edge of its re-arm (R166). -/
def engStopping (s : State) (e : Nat) : Bool :=
  let g := s.eng e
  g.stopping && (!engQuiet s e || g.rearmed)

/-- Engine `e` has agreed to a sleep entry (R502). -/
def engAsleep (s : State) (e : Nat) : Bool :=
  match s.power.entry with
  | some x => x.stopped.contains (.engine e)
  | none => s.power.committed.isSome

/-- Background issue is open on engine `e`: unfenced, no program running and no tick program due (R222, R73). -/
def bgOpen (s : State) (e : Nat) : Bool :=
  let g := s.eng e
  !g.retired && !engAsleep s e && g.fenced.isNone && g.run.isNone && g.due.isEmpty

/-- Resume the fenced program, which runs to its end even in Stopping; else, on an enabled engine, start the lowest
pending sweep, else the pending job (R222, R166). -/
def startBackground (e : Nat) (s : State) : State :=
  let g := s.eng e
  if bgOpen s e = false then s
  else
    match g.susp with
    | some r => s.modEng e (fun g => { g with run := some r, susp := none })
    | none =>
      if g.enabled = false then s
      else
        match g.sweeps with
        | c :: rest => launch e (bgRun s e (.sweep c)) (s.modEng e (fun g => { g with sweeps := rest }))
        | [] =>
          match g.bgPend with
          | some k => launch e (bgRun s e (.job k)) (s.modEng e (fun g => { g with bgPend := none }))
          | none => s

/-- Stop issuing background instructions: the running background program waits at its instruction boundary (R73). -/
def suspendBg (e : Nat) (s : State) : State :=
  s.modEng e (fun g =>
    match g.run with
    | some r => if r.kind.isTick then g else { g with run := none, susp := some r, lastPc := r.pc }
    | none => g)

/-- The fence of a guard edge on every engine (R73). -/
def fenceAll (s : State) : State :=
  foldS (fun e s => suspendBg e (s.modEng e (fun g => { g with fenced := some s.tick.number })))
    (List.range s.part.engines) s

end Sys2Proof.Machine
end

