-- ==== Sys2Proof/Machine/Cistern.lean ====
section
/-! DEFINITION. The cistern (09, 10, 18): physical reads and writes, dead banks, ECC codewords, and translation. -/

namespace Sys2Proof.Machine

/-- Bytes of the cistern (R237, R477). -/
abbrev cistSize : Nat := 0x2000000

/-- Bank of a physical byte address (R237). -/
def cistBankOf (a : Nat) : Nat := a / 128 % 16

/-- Codeword index in its bank of a physical byte address (R477). -/
def cistWordIdx (a : Nat) : Nat := 16 * (a / 2048) + a % 128 / 8

/-- The bank completes accesses but performs none: fenced (R51) or retired (R470). -/
def bankDead (s : State) (b : Nat) : Bool := (s.bank b).fenced || (s.bank b).retired

/-- Bytes of one access at physical address `a`; a dead bank returns zero (R51, R470). -/
def cistGet (s : State) (a n : Nat) : List Byte :=
  if bankDead s (cistBankOf a) then List.replicate n 0 else memReadN s.cist a n

/-- MEM_UE record of the cistern codeword `w` (address ÷ 8), met by tick-mode work of channel `c` if any, and a queued
column test (R478). -/
def cistUeRecord (c : Option Nat) (w : Nat) (s : State) : State :=
  queueTest (.cistern (cistBankOf (8 * w))) (cistWordIdx (8 * w) % 256)
    ((memRecord (cistBankOf (8 * w)) c 0 0 (cistWordIdx (8 * w)) s).modBank (cistBankOf (8 * w))
      (fun b => { b with uncorr := min 0xFFFF (b.uncorr + 1) }))

/-- The records and counts a read of `n` bytes at `a` leaves (R478); `c` as in `cistUeRecord`. -/
def cistReadEvents (a n : Nat) (c : Option Nat) (s : State) : State :=
  if bankDead s (cistBankOf a) then s
  else
    let s1 := foldS (cistUeRecord c) (hitWords s.cistUe 8 a n) s
    foldS (fun w s =>
      queueTest (.cistern (cistBankOf (8 * w))) (cistWordIdx (8 * w) % 256)
        (s.modBank (cistBankOf (8 * w)) (fun b => { b with corr := min 0xFFFF (b.corr + 1) })))
      (hitWords s.cistCe 8 a n) s1

/-- An uncorrectable error lies in `n` bytes at `a`. -/
def cistBad (s : State) (a n : Nat) : Bool := !(hitWords s.cistUe 8 a n).isEmpty

/-- Codeword `w` is wholly covered by a write of `n` bytes at `a`. -/
def covers (k a n w : Nat) : Bool := decide (a ≤ k * w) && decide (k * w + k ≤ a + n)

/-- Write bytes, skipping those that lie in a listed codeword. -/
def memWriteSkip (skip : List Nat) (m : Mem) (a : Nat) : List Byte → Mem
  | [] => m
  | b :: bs => memWriteSkip skip (if skip.contains (a / 8) then m else memWrite m a b) (a + 1) bs

/-- One masked write of one access to physical address `a` (R622): a wholly covered codeword is replaced; a part of an
uncorrectable codeword is discarded with a MEM_UE record. A dead bank drops the write (R51, R470). -/
def cistPut (a : Nat) (bs : List Byte) (s : State) : State :=
  if bankDead s (cistBankOf a) then s
  else
    let hit := hitWords s.cistUe 8 a bs.length
    let bad := hit.filter (fun w => !covers 8 a bs.length w)
    let s1 := { s with
      cist := memWriteSkip bad s.cist a bs
      cistUe := s.cistUe.filter (fun w => !(covers 8 a bs.length w))
      cistCe := s.cistCe.filter (fun w => !(covers 8 a bs.length w)) }
    foldS (cistUeRecord none) bad s1

/-! ## Translation (R278 to R282) -/

/-- Word `i` of page-table entry `n` of context `x`. -/
def pageWord (s : State) (x n i : Nat) : Word := (assoc s.tables.pages (x * 256 + 2 * n + i)).getD 0

/-- What an access is made for. -/
inductive AccessKind where
  | read
  | write
deriving DecidableEq, Repr

/-- Translate virtual address `a` in context `x` (R279, R280): the physical address, or none when refused. -/
def translate (s : State) (x : Nat) (k : AccessKind) (peer : Bool) (a : Int) : Option Nat :=
  if a < 0 ∨ a > 0x7FFFFF then none
  else
    let n := a.toNat / 0x10000
    let w0 := pageWord s x n 0
    let w1 := pageWord s x n 1
    let right := match k with | .read => wbit w1 14 | .write => wbit w1 13
    if wbit w1 15 && right && (!peer || wbit w1 12) then some (wfld w0 0 9 * 0x10000 + a.toNat % 0x10000) else none

/-- A well read of the physical page `p` is allowed in context `x` (R281). -/
def wellPageOk (s : State) (x p : Nat) : Bool :=
  (List.range 128).any (fun n =>
    let w1 := pageWord s x n 1
    wbit w1 15 && wbit w1 14 && decide (wfld (pageWord s x n 0) 0 9 = p))

end Sys2Proof.Machine
end

