-- ==== Sys2Proof/Machine/Desc.lean ====
section
/-! DEFINITION. Tensor descriptors (10): the fields of the 128 B, validation (FORMAT, ALIGN), the iteration space, the
interlock footprint. -/

namespace Sys2Proof.Machine

/-- Spaces of an endpoint (R256). -/
inductive Space where
  | none | cistern | store | well | peer | reserved
deriving DecidableEq, Repr

/-- The space of a code. -/
def spaceOf (n : Nat) : Space :=
  match n with
  | 0 => .none
  | 1 => .cistern
  | 2 => .store
  | 3 => .well
  | 4 => .peer
  | _ => .reserved

/-- Operations of a descriptor (R255). -/
inductive DOp where
  | copy | relayout | gather | scatter | window | remote | fill | reserved
deriving DecidableEq, Repr

/-- The operation of a code. -/
def dOpOf (n : Nat) : DOp :=
  match n with
  | 0 => .copy
  | 1 => .relayout
  | 2 => .gather
  | 3 => .scatter
  | 4 => .window
  | 5 => .remote
  | 6 => .fill
  | _ => .reserved

/-- One endpoint block (R256). -/
structure Endpoint where
  space : Space
  wrap : Bool
  resv : Bool          -- a reserved field is not 0
  unit : Nat
  base : Nat
  strides : List Int
  bounds : List Nat
  starts : List Int
deriving DecidableEq, Repr

/-- A descriptor (R255). -/
structure Desc where
  op : DOp
  kind : Nat
  ndim : Nat
  resv : Bool
  listLen : Nat
  fill : Nat
  xstride : Nat
  peer : Nat
  handle : Nat
  ext : List Nat
  step : Nat
  dil : Nat
  frameLanes : Nat
  src : Endpoint
  dst : Endpoint
deriving DecidableEq, Repr

/-- `n` bytes at `o` as a number, least significant byte first. -/
def fieldAt (bs : List Byte) (o n : Nat) : Nat := leVal ((bs.drop o).take n)

/-- Parse one endpoint block at byte `o`. -/
def parseEndpoint (bs : List Byte) (o : Nat) : Endpoint :=
  let b0 := fieldAt bs o 1
  { space := spaceOf (b0 % 8), wrap := nbit b0 3
    resv := decide (b0 / 16 ≠ 0) || decide (fieldAt bs (o + 2) 2 ≠ 0)
    unit := fieldAt bs (o + 1) 1, base := fieldAt bs (o + 4) 4
    strides := (List.range 5).map (fun d => sext 32 (fieldAt bs (o + 8 + 4 * d) 4))
    bounds := (List.range 5).map (fun d => fieldAt bs (o + 28 + 2 * d) 2)
    starts := (List.range 5).map (fun d => sext 16 (fieldAt bs (o + 38 + 2 * d) 2)) }

/-- Parse a descriptor (R255). -/
def parseDesc (bs : List Byte) : Desc :=
  let b0 := fieldAt bs 0 1
  { op := dOpOf (b0 % 16), kind := b0 / 16, ndim := fieldAt bs 1 1 % 8
    resv := decide (fieldAt bs 1 1 / 8 ≠ 0) || decide (fieldAt bs 10 1 / 8 ≠ 0) || decide (fieldAt bs 11 1 / 16 ≠ 0)
    listLen := fieldAt bs 2 2, fill := fieldAt bs 4 4, xstride := fieldAt bs 8 2
    peer := fieldAt bs 10 1 % 8, handle := fieldAt bs 11 1 % 16
    ext := (List.range 5).map (fun d => fieldAt bs (16 + 2 * d) 2)
    step := fieldAt bs 26 2, dil := fieldAt bs 28 2, frameLanes := fieldAt bs 30 2
    src := parseEndpoint bs 32, dst := parseEndpoint bs 80 }

/-- Element `d` of a list of numbers, 0 beyond it. -/
def at0 (xs : List Nat) (d : Nat) : Nat := nth xs d 0
/-- Element `d` of a list of integers, 0 beyond it. -/
def atI (xs : List Int) (d : Nat) : Int := nth xs d 0

/-- Dimensions in use. -/
def Desc.dims (d : Desc) : List Nat := List.range d.ndim

/-- The operation takes a list (R267, R268). -/
def Desc.hasList (d : Desc) : Bool := decide (d.op = .gather ∨ d.op = .scatter ∨ d.op = .remote)

/-- READ (true) of a REMOTE operation. -/
def Desc.isRead (d : Desc) : Bool := decide (d.kind = 0)

/-- The local endpoint of a REMOTE operation. -/
def Desc.local_ (d : Desc) : Endpoint := if d.isRead then d.dst else d.src

/-- TENS variants (R257). -/
inductive Variant where
  | ldt | stt | post
deriving DecidableEq, Repr

/-- OP code of a variant (R209). -/
def Variant.code : Variant → Nat
  | .ldt => 0
  | .stt => 1
  | .post => 2

/-- The variant that posts a combination of operation and spaces, where R257 accepts it. -/
def variantOf (d : Desc) : Option Variant :=
  match d.op, d.src.space, d.dst.space with
  | .copy, .cistern, .store => some .ldt
  | .copy, .store, .cistern => some .stt
  | .copy, .cistern, .cistern => some .post
  | .relayout, .cistern, .cistern => some .post
  | .gather, .cistern, .store => some .ldt
  | .scatter, .store, .cistern => some .stt
  | .window, .well, .store => some .ldt
  | .window, .well, .cistern => some .post
  | .fill, .none, .store => some .ldt
  | .fill, .none, .cistern => some .post
  | .remote, .peer, .store => if d.kind = 0 then some .ldt else none
  | .remote, .peer, .cistern => if d.kind = 0 then some .post else none
  | .remote, .store, .peer => if d.kind = 1 then some .stt else none
  | .remote, .cistern, .peer => if d.kind = 1 then some .post else none
  | _, _, _ => none

/-- Lanes of one unit: T for RELAYOUT, else one (R263). -/
def Desc.unitLanes (d : Desc) : Nat :=
  match d.op with
  | .relayout => if d.kind = 0 then 16 else if d.kind = 1 then 8 else if d.kind = 2 then 4 else 32
  | _ => 1

/-- Element width of a RELAYOUT tile (R263). -/
def Desc.tileBits (d : Desc) : Nat := if d.kind = 0 then 8 else if d.kind = 1 then 16 else if d.kind = 2 then 32 else 4

/-- Span of a WINDOW in samples (R266). -/
def Desc.span (d : Desc) : Nat := (at0 d.ext 1 - 1) * d.step + (at0 d.ext 0 - 1) * d.dil + 1

/-- A field must be zero for the operation and is not (R255: "otherwise 0"). -/
def Desc.strayFields (d : Desc) : Bool :=
  let list := decide (d.op = .gather ∨ d.op = .scatter ∨ d.op = .remote)
  let kindOk := match d.op with
    | .relayout => decide (d.kind ≤ 3)
    | .remote => decide (d.kind ≤ 1)
    | _ => decide (d.kind = 0)
  !kindOk || (!list && (decide (d.listLen ≠ 0) || decide (d.xstride ≠ 0))) ||
    (decide (d.op ≠ .remote) && (decide (d.peer ≠ 0) || decide (d.handle ≠ 0)))

/-- UNIT of an endpoint is a reserved or absent value. `sup`: a supervisor post, where a STORE names engine UNIT. -/
def Endpoint.badUnit (e : Endpoint) (sup : Bool) (engines : Nat) : Bool :=
  match e.space with
  | .well => decide (e.unit > 63)
  | .store => if sup then decide (e.unit ≥ engines) else decide (e.unit ≠ 0)
  | _ => decide (e.unit ≠ 0)

/-- A BOUND of 0 in a used dimension of a CISTERN or STORE endpoint (R259); dimension 0 of a WINDOW destination is
exempt, and the local endpoint of a REMOTE in every dimension. -/
def badBounds (d : Desc) (isDst : Bool) (e : Endpoint) : Bool :=
  (decide (e.space = .cistern) || decide (e.space = .store)) && decide (d.op ≠ .remote) &&
    d.dims.any (fun i => decide (at0 e.bounds i = 0) && !(isDst && decide (d.op = .window) && decide (i = 0)))

/-- FORMAT errors (R259); `width` and `ringOk` describe the well of a WINDOW. -/
def formatBad (d : Desc) (v : Option Variant) (sup : Bool) (engines width : Nat) : Bool :=
  let listed := decide (d.op = .gather ∨ d.op = .scatter ∨ d.op = .remote)
  d.resv || decide (d.op = .reserved) || decide (d.src.space = .reserved) || decide (d.dst.space = .reserved) ||
  d.src.resv || d.dst.resv || d.strayFields ||
  (match variantOf d, v with
   | none, _ => true
   | some x, some y => decide (x ≠ y)
   | some _, none => false) ||
  decide (d.ndim = 0) || decide (d.ndim > 5) ||
  d.dims.any (fun i => decide (at0 d.ext i = 0)) ||
  badBounds d false d.src || badBounds d true d.dst ||
  (listed && (decide (d.listLen = 0) || decide (d.listLen > 1024))) ||
  (decide (d.op = .gather) && decide (atI d.src.strides 0 ≠ 16)) ||
  (decide (d.op = .scatter) && decide (atI d.dst.strides 0 ≠ 16)) ||
  (decide (d.op = .window) &&
    (decide (d.ndim ≠ 2) || decide (d.dil = 0) || decide (d.frameLanes = 0) || decide (d.frameLanes > 256) ||
     decide (d.frameLanes * 16 < at0 d.ext 0 * width) || decide (cdiv (d.span * width) 128 + 1 > 64))) ||
  (decide (d.op = .remote) && decide (d.ndim ≠ 1)) ||
  d.src.badUnit sup engines || d.dst.badUnit sup engines

/-- ALIGN errors (R260). -/
def alignBad (d : Desc) : Bool :=
  let bad (e : Endpoint) : Bool :=
    (decide (e.space = .cistern) || decide (e.space = .store)) &&
      (decide (e.base % 16 ≠ 0) ||
       (decide (d.op ≠ .remote) && d.dims.any (fun i => decide (atI e.strides i % 16 ≠ 0))))
  bad d.src || bad d.dst

/-! ## The iteration space (R261, R262) -/

/-- All index tuples of the used dimensions, dimension 0 fastest. -/
def indices : List Nat → List (List Nat)
  | [] => [[]]
  | e :: es => (indices es).flatMap (fun t => (List.range e).map (fun i => i :: t))

/-- Extents of the used dimensions. -/
def Desc.extents (d : Desc) : List Nat := d.dims.map (fun i => at0 d.ext i)

/-- Position of an index in one dimension, wrapped in WRAP mode; none when out of bounds in FILL mode (R261). -/
def position (wrap : Bool) (bound : Nat) (p : Int) : Option Int :=
  if wrap then some (p % (bound : Int))
  else if 0 ≤ p ∧ p < (bound : Int) then some p else none

/-- Address of a point from start coordinates: none when out of bounds (R261). `skip0`: dimension 0 is ignored. -/
def pointAddr (e : Endpoint) (skip0 : Bool) : Nat → List Int → List Nat → Int → Option Int
  | _, _, [], acc => some acc
  | d, starts, i :: is, acc =>
    if skip0 ∧ d = 0 then pointAddr e skip0 (d + 1) starts.tail is acc
    else
      match position e.wrap (at0 e.bounds d) (starts.headD 0 + i) with
      | none => none
      | some p => pointAddr e skip0 (d + 1) starts.tail is (acc + p * atI e.strides d)

/-- Address of the unit at an index (R261). -/
def unitAddr (e : Endpoint) (skip0 : Bool) (starts : List Int) (idx : List Nat) : Option Int :=
  pointAddr e skip0 0 starts idx (e.base : Int)

/-! ## The interlock footprint (R236) -/

/-- Least and greatest position that dimension `i` of an endpoint can take, whatever its OOB mode: those of WRAP mode, which
hold those of FILL mode. -/
def positionReach (d : Desc) (e : Endpoint) (i : Nat) : Int × Int :=
  let b : Int := at0 e.bounds i
  let n : Int := at0 d.ext i
  let lo := atI e.starts i % b
  if b < lo + n then (0, b - 1) else (lo, lo + n - 1)

/-- Smallest and one past the largest byte a STORE endpoint can touch: each position at either end of its range, each block
of a list at either end of XSTRIDE. -/
def endpointReach (d : Desc) (e : Endpoint) : Int × Int :=
  let ends := d.dims.map (fun i =>
    let lo := (positionReach d e i).1
    let hi := (positionReach d e i).2
    let a := lo * atI e.strides i
    let b := hi * atI e.strides i
    if d.op = .window ∧ i = 0 then (0, 0) else (min a b, max a b))
  let lo : Int := (e.base : Int) + (ends.map (·.1)).foldl (· + ·) 0
  let hi : Int := (e.base : Int) + (ends.map (·.2)).foldl (· + ·) 0
  let listed := decide (d.op = .gather ∨ d.op = .scatter)
  let extra : Int := if listed then ((d.listLen - 1) * d.xstride * 16 : Nat) else 0
  let unit : Nat := if d.op = .window then d.frameLanes * 16 else 16
  if d.op = .remote then
    ((e.base : Int), (e.base : Int) + (((d.listLen - 1) * d.xstride + at0 d.ext 0) * 16 : Nat))
  else (lo, hi + extra + unit)

/-- Granule range of a byte range, clipped at 0. -/
def granulesOf (r : Int × Int) : Nat × Nat := ((r.1 / 256).toNat, ((r.2 - 1) / 256).toNat)

/-- Granule ranges of the engine-store fields of an operation posted at descriptor lane `lane`: its STORE endpoints and the
lanes of its list entries (R258). -/
def storeFields (d : Desc) (lane : Nat) : List (Nat × Nat) :=
  (if d.src.space = .store then [granulesOf (endpointReach d d.src)] else []) ++
  (if d.dst.space = .store then [granulesOf (endpointReach d d.dst)] else []) ++
  (if d.hasList then
    [granulesOf (((16 * (lane + 8) : Nat) : Int), ((16 * (lane + 8 + d.listLen) : Nat) : Int))] else [])

/-- The granules held by an operation (R236): all from the first to the last that its store fields can touch. -/
def footprint (d : Desc) (lane : Nat) : Option (Nat × Nat) :=
  match storeFields d lane with
  | [] => none
  | r :: rs => some (rs.foldl (fun a g => (min a.1 g.1, max a.2 g.2)) r)

end Sys2Proof.Machine
end

