-- ==== Sys2Proof/Machine/Wells.lean ====
section
/-! DEFINITION. Wells (07) and the buttress comparators (13): capture, ring, marker, starvation, overrun, lap, enable,
disable, and the trips of the comparators. -/

namespace Sys2Proof.Machine

/-! ## A well's configuration -/

/-- ENABLE of a well. -/
def Well.enabled (w : Well) : Bool := wbit w.ctrl 15
/-- Sample format FMT (R174). -/
def Well.fmt (w : Well) : Nat := wfld w.format 14 2
/-- Stored width in bytes (R174). -/
def Well.width (w : Well) : Nat := if w.fmt = 0 ∨ w.fmt = 2 then 2 else 4
/-- Ring size in KiB. -/
def Well.sizeK (w : Well) : Nat := 2 ^ wfld w.format 0 4
/-- Ring capacity C in samples. -/
def Well.cap (w : Well) : Nat := w.sizeK * 1024 / w.width
/-- Guard G in samples (R183). -/
def Well.guardG (w : Well) : Nat := 16 * w.guard.toNat
/-- Ring base, physical. -/
def Well.ringBase (w : Well) : Nat := wfld w.base 0 15 * 1024
/-- Marker array base, physical. -/
def Well.markBase (w : Well) : Nat := w.mark.toNat * 512

/-- The signed result of a sample as presented (R174). -/
def convertSample (fmt data : Nat) : Int :=
  match fmt with
  | 0 => sext 16 data
  | 1 => sext 24 data
  | 2 => sext 16 (data ^^^ 0x8000)
  | _ => sext 24 (data ^^^ 0x800000)

/-- The scaled value the comparators use (R347). -/
def scaled (fmt : Nat) (v : Int) : Int := if fmt = 0 ∨ fmt = 2 then v else v / 256

/-- The well's fill value in its stored width, as a signed number (R187, WELL_CFG words 5 and 6). -/
def Well.fill (w : Well) : Int :=
  if w.width = 2 then sext 16 w.fillLo.toNat else sext 24 (w.fillLo.toNat + 65536 * wfld w.fillHi 0 8)

/-- The walk whose port feeds well `w` (R171): 0 North, 1 East, 2 South, 3 West. -/
def walkOfWell (w : Nat) : Nat := w / 16

/-! ## The comparators (R347 to R349) -/

/-- Threshold of comparator `k` of channel `c`. -/
def threshold (s : State) (c k : Nat) : Word := s.rd (CH c) (0x0C + k)

/-- Local well `k` of channel `c`, if it exists in the map in force and is enabled (R348). -/
def localWell (s : State) (c k : Nat) : Option Nat :=
  match (chanWells s c)[k]? with
  | some w => if w < 64 ∧ (s.well w).enabled = true then some w else none
  | none => none

/-- Sum of squares of a window. -/
def sumSq (xs : List Int) : Int := xs.foldl (fun a v => a + v * v) 0

/-- Which comparators of channel `c` trip on the capture that well `w` has just made; `last` is already the
captured value. -/
def trips (s : State) (c w : Nat) : BitVec 4 :=
  let win := (s.well w).window
  let v := (s.well w).last.getD 0
  let on (k : Nat) : Bool := decide (threshold s c k ≠ 0xFFFF)
  let t (k : Nat) : Int := ((threshold s c k).toNat : Int)
  let l0 : Bool := decide (localWell s c 0 = some w)
  let l1 : Bool := decide (localWell s c 1 = some w)
  let peak := l0 && on 0 && decide (t 0 ≤ Int.natAbs v)
  let rms := l0 && on 1 && decide (64 * (t 1 * t 1) ≤ sumSq win)
  let rate := l1 && on 2 && (match (s.well w).before with | some p => decide (t 2 ≤ Int.natAbs (v - p)) | none => false)
  let dev := l1 && on 3 &&
    (match localWell s c 2 with
     | some w2 => (match (s.well w2).last with | some u => decide (t 3 ≤ Int.natAbs (v - u)) | none => false)
     | none => false)
  BitVec.ofNat 4 (b2n peak + 2 * b2n rms + 4 * b2n rate + 8 * b2n dev)

/-- The comparators of channel `c` see a capture of well `w`: the record's bits, and the hold 5 RIM later (R349). -/
def compare (w c : Nat) (s : State) : State :=
  let bits := trips s c w
  if bits = 0 then s
  else startHold c (s.now + 5) (s.modChan c (fun ch => { ch with btAcc := ch.btAcc ||| bits }))

/-! ## Capture (R172 to R176, R181, R189) -/

/-- Write a sample into its ring (R175, R176). -/
def ringWrite (w : Nat) (i : Nat) (v : Int) (s : State) : State :=
  let g := s.well w
  cistPut (g.ringBase + i % g.cap * g.width) (leBytes g.width (toU (8 * g.width) v)) s

/-- Well `w` drops a sample that comes too early (R173). -/
def overrun (w : Nat) (s : State) : State :=
  s.modWell w (fun g => { g with status := setBit g.status 15, ovr := satAdd16 g.ovr 1, ovrSeen := true })

/-- Samples captured since the last snapshot's S, or since enable (R189). -/
def sinceSnap (g : Well) : Nat := if g.snapKept then (g.count + 2 ^ 32 - g.snap) % 2 ^ 32 else g.count

/-- Well `w` captures value `v` (R173 to R176, R181, R189, R349). STATUS.OPEN and STATUS.STUCK are set with the capture that
sees the line, which R181 leaves to the marker's flag or earlier (DESIGN CHOICE, log entry 64). -/
def capture (w : Nat) (data : Nat) (opn stuck : Bool) (s : State) : State :=
  let g := s.well w
  let v := convertSample g.fmt data
  let lap := decide (sinceSnap g = g.guardG)
  let s1 := ringWrite w g.count v (s.modWell w (fun g =>
    { g with
      count := (g.count + 1) % 2 ^ 32
      wrapped := g.wrapped || decide (g.cap ≤ g.count + 1)
      fresh := g.fresh + 1
      lastCap := some s.now
      openSeen := g.openSeen || opn
      stuckSeen := g.stuckSeen || stuck
      status := (if lap then setBit g.status 14 else g.status) ||| bitAt opn 13 ||| bitAt stuck 12
      lapSeen := g.lapSeen || lap
      window := (scaled g.fmt v :: g.window).take 64
      last := some (scaled g.fmt v)
      before := g.last }))
  let s2 := if lap then raise evFault s1 else s1
  foldS (compare w) allChans s2

/-- SAMPLE_CAPTURE: the port of well `w` registers its inputs `dt` RIM after the device's present count. OPEN and STUCK are
registered whatever VALID holds (R394); a sample with VALID = 1 is presented, and a disabled well captures none; one less
than 2 RIM after the last capture is dropped (R172, R173). -/
def presentSample (w data : Nat) (valid opn stuck : Bool) (s : State) : State :=
  let g := s.well w
  let s0 := s.modWell w (fun g => { g with openLine := opn, stuckLine := stuck })
  if w ≥ 64 ∨ valid = false ∨ g.enabled = false then s0
  else
    match g.lastCap with
    | some t => if s.now < t + 2 then overrun w s0 else capture w data opn stuck s0
    | none => capture w data opn stuck s0

/-! ## The snapshot edge (R177 to R181) -/

/-- The 16 bytes of a marker record (07, marker-record table). -/
def markerBytes (snap rim tb flags seq : Nat) : List Byte :=
  leBytes 4 snap ++ leBytes 4 rim ++ leBytes 6 tb ++ [byte flags, byte seq]

/-- Well `w` on a snapshot edge at RIM count `rim` and timebase `tb`: S, STARVED, the marker (R177, R179 to R181). A
well not enabled records nothing and counts as starved; its STATUS.STARVED keeps its value, which R177 and R180 leave open
(DESIGN CHOICE, log entry 64). -/
def wellEdge (rim tb : Nat) (w : Nat) (s : State) : State :=
  let g := s.well w
  if g.enabled = false then s.modWell w (fun g => { g with markFlags := 1, fresh := 0 })
  else
    let opn := g.openSeen || g.openLine
    let stk := g.stuckSeen || g.stuckLine
    let starved := decide (g.fresh = 0)
    let flags := b2n starved + 2 * b2n opn + 4 * b2n stk + 8 * b2n g.ovrSeen + 16 * b2n g.lapSeen +
      32 * b2n (!g.marked) + 64 * g.fmt
    let seq := if g.marked then (g.markSeq + 1) % 2 ^ 16 else 0
    let s1 := s.modWell w (fun g =>
      { g with
        snap := g.count, snapKept := true, markSeq := seq, marked := true, fresh := 0
        openSeen := false, stuckSeen := false, ovrSeen := false, lapSeen := false, markFlags := flags
        status := putBit g.status 11 starved ||| bitAt opn 13 ||| bitAt stk 12 })
    cistPut (g.markBase + 16 * (seq % 8)) (markerBytes g.count rim tb flags seq) s1

/-- Every well on a snapshot edge. -/
def wellsEdge (rim tb : Nat) (s : State) : State := foldS (wellEdge rim tb) (List.range 64) s

/-! ## WELL_CFG (R192, R193) -/

/-- ENABLE = 1 would be refused in the configuration held (R192). -/
def Well.badConfig (g : Well) : Bool :=
  decide (wfld g.format 0 4 > 8) || decide (wfld g.base 0 15 % g.sizeK ≠ 0) || decide (g.cap ≤ g.guardG)

/-- A run forgets the snapshot count that it has of well `w`: the well has recorded none since its last enable (R182). -/
def Run.forget (w : Nat) (r : Run) : Run := { r with snaps := modAt r.snaps w (fun _ => 0) }

/-- The tick programs of an engine forget the snapshot count of well `w`. -/
def Engine.forget (w : Nat) (g : Engine) : Engine :=
  { g with run := g.run.map (Run.forget w), susp := g.susp.map (Run.forget w), due := g.due.map (Run.forget w) }

/-- The snapshot count of a well as a well read takes it: S of its last recorded snapshot edge, 0 when it has recorded none
since its last enable (R182). -/
def Well.tickSnap (w : Well) : Nat := if w.snapKept then w.snap else 0

/-- The waiting reads of the wells `hit` end their wait (R186). -/
def cutReads (hit : Nat → Bool) (s : State) : State :=
  { s with ops := s.ops.map (fun o =>
      let d := parseDesc o.desc
      if o.waitEnd.isSome = true ∧ d.op = .window ∧ hit d.src.unit = true then { o with cut := true } else o) }

/-- A well's enable takes effect (R175, R180, R182, R193, R348). The marks of laps, overruns and lines seen before it do not
reach its first marker, which R189 leaves open (DESIGN CHOICE, log entry 64). -/
def startWell (w : Nat) (s : State) : State :=
  { s with engs := s.engs.map (Engine.forget w) }.modWell w (fun g =>
    { g with
      ctrl := setBit g.ctrl 15, count := 0, snap := 0, snapKept := false, wrapped := false, markSeq := 0,
      marked := false, fresh := 0, openSeen := false, stuckSeen := false, ovrSeen := false, lapSeen := false,
      lastCap := none, window := [], last := none, before := none })

/-- A well's disable takes effect (R186, R193): capture stops, everything is kept, waiting reads end their wait. -/
def stopWell (w : Nat) (s : State) : State :=
  cutReads (fun u => u == w) (s.modWell w (fun g => { g with ctrl := clrBit g.ctrl 15 }))

/-- A CTRL write to well `w`; false when it is refused with DENIED (R192, R193). -/
def wellCtrl (w : Nat) (v : Word) (s : State) : State × Bool :=
  let g := s.well w
  let sff (s : State) : State := s.modWell w (fun g => { g with ctrl := putBit g.ctrl 14 (wbit v 14) })
  if wbit v 15 = g.enabled then (sff s, true)
  else if wbit v 15 then (if g.badConfig then (s, false) else (startWell w (sff s), true))
  else (stopWell w (sff s), true)

/-- Word `i` of well `w`'s configuration as read (07). -/
def wellWord (s : State) (w i : Nat) : Word :=
  let g := s.well w
  match i with
  | 0 => g.ctrl
  | 1 => g.format
  | 2 => g.base
  | 3 => g.mark
  | 4 => g.guard
  | 5 => g.fillLo
  | 6 => g.fillHi
  | 7 => g.status ||| bitAt g.wrapped 10
  | 8 => g.ovr
  | 9 => word (g.count % 65536)
  | 10 => word (g.count / 65536)
  | 11 => word (g.snap % 65536)
  | 12 => word (g.snap / 65536)
  | 13 => word g.markSeq
  | _ => 0

/-- Write word `i` of well `w`'s configuration; false when it is refused with DENIED (R192). -/
def wellWordWrite (w i : Nat) (v : Word) (s : State) : State × Bool :=
  let g := s.well w
  if i = 0 then wellCtrl w v s
  else if 1 ≤ i ∧ i ≤ 6 then
    if g.enabled then (s, false)
    else
      (s.modWell w (fun g =>
        match i with
        | 1 => { g with format := v &&& 0xE00F }
        | 2 => { g with base := v &&& 0x7FFF }
        | 3 => { g with mark := v }
        | 4 => { g with guard := v }
        | 5 => { g with fillLo := v }
        | _ => { g with fillHi := v &&& 0x00FF }), true)
  else if i = 7 then (s.modWell w (fun g => { g with status := g.status &&& ~~~ (v &&& 0xF000) }), true)
  else if i = 8 then (s.modWell w (fun g => { g with ovr := v }), true)
  else (s, true)

end Sys2Proof.Machine
end

