-- ==== Sys2Proof/Machine/Plan.lean ====
section
/-! DEFINITION. The plan of a pump operation (R262 to R271): its accesses in the order in which the pump makes them, each
with the lanes it carries. Data in transit is held by slot: one slot for each lane of each unit, in iteration order. -/

namespace Sys2Proof.Machine

/-- A lane of a unit: its slot, and its address at an endpoint. -/
abbrev SlotLane := Nat × Int

/-- One step of a plan: an access, or what the pump does to the data between accesses. -/
inductive PumpStep where
  | cread (lanes : List SlotLane)    -- a cistern read piece
  | cwrite (lanes : List SlotLane)   -- a cistern write piece
  | sread (lanes : List SlotLane)    -- one store access that reads
  | swrite (lanes : List SlotLane)   -- one store access that writes
  | line (n : Nat)                   -- a WINDOW's read piece: line n of the cistern
  | frames                           -- a WINDOW's frames are formed from its lines
  | tile (first : Nat)               -- a RELAYOUT tile is transposed in place
  | zeros (first n : Nat)            -- slots that deliver zero
  | flawed (e n : Nat)               -- list entry e is not used: its block counts n pieces (R621)
deriving DecidableEq, Repr

/-- A lane of an operation: its slot and its addresses at both endpoints, none where the unit is out of bounds. -/
structure MoveLane where
  slot : Nat
  src : Option Int
  dst : Option Int
deriving DecidableEq, Repr

/-! ## Grouping lanes into accesses (R269) -/

/-- Lane `b` continues a piece that ends at lane `a`: contiguous and in one 128 B line (R269). -/
def joins (a b : Int) : Bool := decide (b = a + 16) && decide (a / 128 = b / 128)

/-- An item goes on with the group `cur` (newest first): both have an address, and they join. -/
def goesOn {α : Type} (addr : α → Option Int) (join : Nat → Int → Int → Bool) (cur : List α) (x : α) : Bool :=
  match cur.head?.bind addr, addr x with
  | some a, some b => join cur.length a b
  | _, _ => false

/-- Group items after the open group `cur`. -/
def groupFrom {α : Type} (addr : α → Option Int) (join : Nat → Int → Int → Bool) : List α → List α → List (List α)
  | [], cur => if cur.isEmpty then [] else [cur.reverse]
  | x :: xs, cur =>
    if goesOn addr join cur x then groupFrom addr join xs (x :: cur)
    else (if cur.isEmpty then [] else [cur.reverse]) ++ groupFrom addr join xs [x]

/-- Group items by address into pieces, in order; an item without an address ends a piece and stands alone. -/
def groupBy {α : Type} (addr : α → Option Int) (join : Nat → Int → Int → Bool) (xs : List α) : List (List α) :=
  groupFrom addr join xs []

/-- Pieces of at most one cistern line. -/
def joinLine (_ : Nat) (a b : Int) : Bool := joins a b
/-- Store accesses of up to 8 consecutive contiguous lanes (R269). -/
def joinStore (n : Nat) (a b : Int) : Bool := decide (b = a + 16) && decide (n < 8)

/-- The slots and addresses of those lanes that have an address at an endpoint. -/
def located (addr : MoveLane → Option Int) (ls : List MoveLane) : List SlotLane :=
  ls.filterMap (fun l => (addr l).map (fun a => (l.slot, a)))

/-- The groups of lanes that make one access each at an endpoint. -/
def accesses (addr : MoveLane → Option Int) (join : Nat → Int → Int → Bool) (ls : List MoveLane) : List (List MoveLane) :=
  (groupBy addr join ls).filter (fun g => g.any (fun l => (addr l).isSome))

/-- An access that carries at least one lane. -/
def someLanes (f : List SlotLane → PumpStep) (xs : List SlotLane) : List PumpStep := if xs.isEmpty then [] else [f xs]

/-! ## The lanes of an operation -/

/-- Lane addresses of a unit of `n` lanes. -/
def unitLaneAddrs (n : Nat) : Option Int → List (Option Int)
  | some a => (List.range n).map (fun (i : Nat) => some (a + 16 * (i : Int)))
  | none => List.replicate n none

/-- Units of an operation with ordinary endpoints, as addresses (R261, R263). -/
def unitPairs (d : Desc) : List (Option Int × Option Int) :=
  (indices d.extents).map (fun i =>
    (if d.op = .fill then none else unitAddr d.src false d.src.starts i, unitAddr d.dst false d.dst.starts i))

/-- Lanes of units, numbered from slot `first`. -/
def lanesOfUnits (n first : Nat) (us : List (Option Int × Option Int)) : List MoveLane :=
  let ss := us.flatMap (fun u => unitLaneAddrs n u.1)
  let ds := us.flatMap (fun u => unitLaneAddrs n u.2)
  (List.range ss.length).map (fun i => { slot := first + i, src := nth ss i none, dst := nth ds i none })

/-! ## COPY, RELAYOUT and FILL (R263 to R265, R269, R270) -/

/-- From the cistern into a store: each read piece is delivered by one store access; then the fill accesses. -/
def planIntoStore (ls : List MoveLane) : List PumpStep :=
  (accesses MoveLane.src joinLine ls).flatMap (fun g =>
    .cread (located MoveLane.src g) :: someLanes .swrite (located MoveLane.dst (g.filter (fun l => l.src.isSome)))) ++
  (accesses MoveLane.dst joinStore (ls.filter (fun l => l.src.isNone))).map (fun g => .swrite (located MoveLane.dst g))

/-- From a store into the cistern: the store lanes of each write piece are read by one store access. -/
def planFromStore (ls : List MoveLane) : List PumpStep :=
  (accesses MoveLane.dst joinLine ls).flatMap (fun g =>
    someLanes .sread (located MoveLane.src (g.filter (fun l => l.dst.isSome))) ++ [.cwrite (located MoveLane.dst g)])

/-- One chunk between cistern ranges: all its read pieces, then all its write pieces; RELAYOUT transposes between them. -/
def planChunk (d : Desc) (ls : List MoveLane) : List PumpStep :=
  (accesses MoveLane.src joinLine ls).map (fun g => .cread (located MoveLane.src g)) ++
  (if d.op = .relayout then
    (List.range (ls.length / d.unitLanes)).map (fun k => .tile ((ls.headD { slot := 0, src := none, dst := none }).slot + k * d.unitLanes))
   else []) ++
  (accesses MoveLane.dst joinLine ls).map (fun g => .cwrite (located MoveLane.dst g))

/-- Chunks of 128 lanes. -/
def planChunks (d : Desc) : Nat → List MoveLane → List PumpStep
  | 0, _ => []
  | n + 1, ls => if ls.isEmpty then [] else planChunk d (ls.take 128) ++ planChunks d n (ls.drop 128)

/-- COPY, RELAYOUT or FILL. -/
def planUnits (d : Desc) : List PumpStep :=
  let ls := lanesOfUnits d.unitLanes 0 (unitPairs d)
  match d.src.space, d.dst.space with
  | .cistern, .store => planIntoStore ls
  | .store, _ => planFromStore ls
  | .cistern, _ => planChunks d (ls.length + 1) ls
  | _, .store => (accesses MoveLane.dst joinStore ls).map (fun g => .swrite (located MoveLane.dst g))
  | _, _ => (accesses MoveLane.dst joinLine ls).map (fun g => .cwrite (located MoveLane.dst g))

/-! ## GATHER and SCATTER (R267, R271, R621) -/

/-- Coordinates of a list entry (R267). -/
def entryCoords (bs : List Byte) : List Int := (List.range 5).map (fun i => sext 16 (fieldAt bs (2 * i) 2))

/-- Runs of one block (R271). -/
def runsOf (d : Desc) : Nat := (d.extents.drop 1).foldl (· * ·) 1
/-- Pieces of one run (R271). -/
def piecesPerRun (d : Desc) (ep : Endpoint) : Nat :=
  cdiv (at0 d.ext 0 * 16) 128 + (if ep.wrap then 2 * ((at0 d.ext 0 - 1) / max 1 (at0 ep.bounds 0) + 2) else 1)

/-- Store-side address of a unit of entry `e` (R267). -/
def listStoreAddr (d : Desc) (ep : Endpoint) (e : Nat) (i : List Nat) : Option Int :=
  (unitAddr ep false ep.starts i).map (fun a => a + ((e * d.xstride * 16 : Nat) : Int))

/-- The endpoint that the list addresses. -/
def Desc.listed (d : Desc) : Endpoint := if d.op = .gather then d.src else d.dst

/-- The lanes of the block of entry `e` with coordinates `cs`; none for an entry that is not used. -/
def blockLanes (d : Desc) (e : Nat) (cs : Option (List Int)) : List MoveLane :=
  let idx := indices d.extents
  let far (i : List Nat) : Option Int := cs.bind (fun cs => unitAddr d.listed false cs i)
  lanesOfUnits 1 (e * idx.length) (idx.map (fun i =>
    if d.op = .gather then (far i, listStoreAddr d d.dst e i) else (listStoreAddr d d.src e i, far i)))

/-- A list cut into runs of `n`. -/
def cutRuns {α : Type} (n : Nat) : Nat → List α → List (List α)
  | 0, _ => []
  | k + 1, ls => ls.take n :: cutRuns n k (ls.drop n)

/-- The accesses of entry `e`: each run has pieces of its own. An entry that is not used counts every piece of its block; a
GATHER then delivers zero. -/
def planEntry (d : Desc) (e : Nat) (cs : Option (List Int)) : List PumpStep :=
  let ls := blockLanes d e cs
  let runs := cutRuns (at0 d.ext 0) (runsOf d) ls
  match cs with
  | some _ => runs.flatMap (fun r => if d.op = .gather then planIntoStore r else planFromStore r)
  | none =>
    .flawed e (runsOf d * piecesPerRun d d.listed) ::
      (if d.op = .gather then
        .zeros (e * ls.length) ls.length ::
          runs.flatMap (fun r => (accesses MoveLane.dst joinStore r).map (fun g => .swrite (located MoveLane.dst g)))
       else [])

/-- The entries of an operation's list as coordinates; none for one that is not used. -/
def listCoords (d : Desc) (o : PumpOp) : List (Option (List Int)) :=
  (List.range d.listLen).map (fun e =>
    if o.judged.any (fun j => j.1 == e) then none else some (entryCoords ((o.entries.drop (16 * e)).take 16)))

/-- GATHER or SCATTER over its list. -/
def planList (d : Desc) (o : PumpOp) : List PumpStep :=
  ((List.range d.listLen).zip (listCoords d o)).flatMap (fun x => planEntry d x.1 x.2)

/-! ## WINDOW (R182, R266, R271) -/

/-- Index of the sample at offset `f`, modulo 2^32 (R182). -/
def sampleIndex (r : Nat) (f : Int) : Nat := toU 32 ((r : Int) - 1 + f)

/-- Physical address of the sample at offset `f`. -/
def sampleAddr (g : Well) (r : Nat) (f : Int) : Nat := g.ringBase + sampleIndex r f % g.cap * g.width

/-- Lines of the ring that the span covers, in ring order, each once in succession (R271). -/
def spanLines (g : Well) (r : Nat) (first : Int) (n : Nat) : List Nat :=
  ((List.range n).map (fun (i : Nat) => sampleAddr g r (first + (i : Int)) / 128)).foldl
    (fun acc l => if acc.getLast? = some l then acc else acc ++ [l]) []

/-- Address of frame `j` (R266). -/
def frameAddr (d : Desc) (j : Nat) : Option Int := unitAddr d.dst true d.dst.starts [0, j]

/-- The lanes of frame `j`. -/
def frameLanesOf (d : Desc) (j : Nat) : List MoveLane :=
  (List.range d.frameLanes).map (fun i =>
    { slot := j * d.frameLanes + i, src := none, dst := (frameAddr d j).map (fun a => a + 16 * (i : Int)) })

/-- WINDOW: its lines, its frames, and then its writes in frame order. -/
def planWindow (d : Desc) (g : Well) (r : Nat) : List PumpStep :=
  let fs := (List.range (at0 d.ext 1)).map (frameLanesOf d)
  (spanLines g r (sext 32 d.src.base) d.span).map .line ++ [.frames] ++
    (if d.dst.space = .store then
      fs.flatMap (fun ls => (accesses MoveLane.dst joinStore ls).map (fun g => .swrite (located MoveLane.dst g)))
     else (accesses MoveLane.dst joinLine fs.flatten).map (fun g => .cwrite (located MoveLane.dst g)))

/-! ## Dropped units (R262) -/

/-- Destination units out of bounds: lanes, or tiles of a RELAYOUT. -/
def dropCount (d : Desc) (o : PumpOp) : Nat :=
  match d.op with
  | .gather | .scatter =>
    (((List.range d.listLen).zip (listCoords d o)).map (fun x =>
      if x.2.isNone ∧ d.op = .scatter then 0 else ((blockLanes d x.1 x.2).filter (fun l => l.dst.isNone)).length)).foldl (· + ·) 0
  | .window => ((List.range (at0 d.ext 1)).filter (fun j => (frameAddr d j).isNone)).length * d.frameLanes
  | .remote => 0
  | _ => ((unitPairs d).filter (fun u => u.2.isNone)).length

end Sys2Proof.Machine
end

