-- ==== Sys2Proof/Machine/Pump.lean ====
section
/-! DEFINITION. Pump operations (09, 10): tags, acceptance and validation, the pieces of every operation and what they
move, completion. REMOTE operations move by link frames (Machine/Link*.lean). -/

namespace Sys2Proof.Machine

/-! ## Tags (R229 to R233, R139) -/

/-- Free tags of the pool. -/
def freeTags (s : State) : Nat := 256 - s.ops.length

/-- Pump `p`. -/
def State.pump (s : State) (p : Nat) : Pump := nth s.pumps p Pump.reset

/-- Change pump `p`. -/
def State.modPump (s : State) (p : Nat) (f : Pump → Pump) : State := { s with pumps := modAt s.pumps p f }

/-- Link port `p`. -/
def State.port (s : State) (p : Nat) : Port := nth s.ports p Port.reset

/-- Change link port `p`. -/
def State.modPort (s : State) (p : Nat) (f : Port → Port) : State := { s with ports := modAt s.ports p f }

/-- Pump `p` has an operation in flight (PMP_STATUS.BUSY). -/
def pumpBusy (s : State) (p : Nat) : Bool := s.ops.any (fun o => o.pump == p)

/-- Pump `p` accepts descriptors (R142, R469). -/
def pumpAccepts (s : State) (p : Nat) : Bool :=
  s.bit PMP 0x00 (8 + p) && !(s.pump p).retired &&
    (match (s.pump p).reopening with
     | some n => !s.ops.any (fun o => o.pump == p && decide (o.id < n))
     | none => true)

/-- A stalled issue: TAG_STALLS and its event (R140, R231). -/
def tagStall (s : State) : State := raise evTagStall (bump16 DEV 0x1A 1 s)

/-! ## Completion (R235, R272 to R277, R221) -/

/-- Status codes (R275). -/
abbrev stOk : Nat := 0
abbrev stShort : Nat := 1
abbrev stAlign : Nat := 2
abbrev stFormat : Nat := 3
abbrev stProt : Nat := 4
abbrev stEcc : Nat := 5
abbrev stStill : Nat := 6
abbrev stDisabled : Nat := 7
abbrev stContention : Nat := 8
abbrev stTimeout : Nat := 9
abbrev stLost : Nat := 10
abbrev stRefused : Nat := 11

/-- Blocks of a REMOTE operation not completed. -/
def PumpOp.openBlocks (o : PumpOp) : Nat := (o.blocks.filter (fun b => !b.done && !b.refused)).length
/-- Blocks refused by the peer. -/
def PumpOp.refusedBlocks (o : PumpOp) : Nat := (o.blocks.filter (fun b => b.refused)).length

/-- STATUS and COUNT of an operation (R275, R276). -/
def PumpOp.status (o : PumpOp) : Nat × Nat :=
  if o.fail = stStill then (stStill, 0)
  else if o.fail = stDisabled ∨ o.fail = stFormat ∨ o.fail = stAlign then (o.fail, 0)
  else if o.ecc > 0 then (stEcc, o.ecc)
  else if o.prot > 0 then (stProt, o.prot)
  else if o.refusedBlocks > 0 then (stRefused, o.refusedBlocks)
  else if o.fail = stLost then (stLost, o.openBlocks)
  else if o.fail = stTimeout then (stTimeout, o.openBlocks)
  else if o.defer > 0 then (stContention, o.defer)
  else if o.short > 0 then (stShort, o.short)
  else (stOk, 0)

/-- The completion word (R275). -/
def PumpOp.word32 (o : PumpOp) : Nat :=
  min 0xFFFF o.status.2 * 65536 + min 255 o.drop * 256 + o.status.1

/-- The status is a fault (R235, R275). -/
def faultStatus (st : Nat) : Bool := decide (st ≠ stOk) && decide (st ≠ stShort)

/-- The channel an operation's tick-mode work belongs to. -/
def PumpOp.tickChan (o : PumpOp) : Option Nat :=
  match o.issuer with
  | .engine _ true c => c
  | _ => none

/-- A tick-mode operation (R188). -/
def PumpOp.tickMode (o : PumpOp) : Bool :=
  match o.issuer with
  | .engine _ t _ => t
  | _ => false

/-- The program of channel `c` and tick `no` on engine `e` has met a stall or fault (R203). -/
def unclean (e c no : Nat) (s : State) : State :=
  s.modEng e (fun g =>
    { g with run := g.run.map (fun r => if r.tickNo = no ∧ r.ofChan c = true then { r with clean := false } else r) })

/-- The records of a completed operation's fault status: PUMP_STATUS, engine fault 13, and the tick (R221, R235, R462). -/
def completionFault (o : PumpOp) (s : State) : State :=
  let (st, n) := o.status
  if faultStatus st = false then s
  else
    match o.issuer with
    | .engine e true (some c) =>
      unclean e c o.tickNo (tickFault 2 o.pump c o.tickNo 0 st (min 0xFFFF n) (holdFault e fOperation none s))
    | .engine e _ _ => faultRecord 2 o.pump 0xFF 0 st (min 0xFFFF n) (holdFault e fOperation none s)
    | _ => faultRecord 2 o.pump 0xFF 0 st (min 0xFFFF n) s

/-- Post slot `n` of the supervisor takes its completion word `w` (R527). -/
def slotDone (n w : Nat) (p : Sup) : Sup :=
  { p with slots := modAt p.slots n (fun sl => { sl with completion := w, busy := false }) }

/-- Where the completion word goes: the descriptor of the posting engine, or the post slot (R276, R527). -/
def storeCompletion (o : PumpOp) (s : State) : State :=
  match o.issuer with
  | .engine e _ _ => storePut e (16 * o.lane + 12) (leBytes 4 o.word32) s
  | .supervisor n => { s with sup := slotDone n o.word32 s.sup }
  | .peer _ _ => s

/-- Give back XID `x` of port `p` (R450). -/
def freeXid (p x : Nat) (s : State) : State := s.modPort p (fun q => { q with xids := q.xids.filter (fun y => y ≠ x) })

/-- The XID of a completing REMOTE operation returns, but after a TIMEOUT only with its CDONE (R450). -/
def returnXid (o : PumpOp) (s : State) : State :=
  match o.xid with
  | some x => if o.fail = stTimeout then s else freeXid o.port x s
  | none => s

/-- Complete operation `o` (R272, R277): the completion word, SHORT count, faults, and the tag returns. -/
def completeOp (o : PumpOp) (s : State) : State :=
  let s1 := returnXid o (storeCompletion o { s with ops := s.ops.filter (fun x => x.id ≠ o.id) })
  completionFault o (if o.status.1 = stShort then bump16 PMP 0x04 1 s1 else s1)

/-! ## Acceptance (R234, R257 to R260, R142) -/

/-- Stored width of the well a WINDOW reads; 2 when it names none. -/
def windowWidth (s : State) (d : Desc) : Nat := if d.src.space = .well ∧ d.src.unit < 64 then (s.well d.src.unit).width else 2

/-- Offset of the last sample a WINDOW reads (R266). -/
def windowLast (d : Desc) : Int := sext 32 d.src.base + (d.span : Int) - 1

/-- Sample at offset `f` from reference `r` is not yet captured when the well's count is `n` (R183). -/
def notYet (r n : Nat) (f : Int) : Bool := decide (0 ≤ sext 32 (toU 32 ((r : Int) - 1 + f - n)))

/-- A free-run well read must wait (R185). -/
def mustWait (s : State) (o : PumpOp) (d : Desc) : Bool :=
  decide (d.op = .window) && !o.tickMode && decide (s.fld PMP 0x03 0 16 ≠ 0) &&
    (s.well d.src.unit).enabled && notYet o.refCount (s.well d.src.unit).count (windowLast d)

/-- Update the low-water mark and the engine's PEAK when a tag has been taken (R139, R254). -/
def noteTag (o : PumpOp) (s : State) : State :=
  let m := min (wfld (s.rd DEV 0x19) 0 9) (freeTags s)
  let s1 := s.wr DEV 0x19 (word m)
  match o.issuer with
  | .engine e _ _ => s1.modEng e (fun g => if g.peakOn then { g with peakAcc := max g.peakAcc (heldTags s1 e) } else g)
  | _ => s1

/-- The port a REMOTE operation to chip `peer` travels on (R449). -/
def remotePort (s : State) (peer : Nat) : Option Nat :=
  (List.range s.ports.length).find? (fun p =>
    decide ((s.port p).st = .up ∨ (s.port p).st = .retry) && s.bit (LNK p) 0x04 15 &&
      decide (s.fld (LNK p) 0x04 12 3 = peer))

/-- The lowest free XID of a port (R450). -/
def lowestXid (q : Port) : Option Nat := (List.range 256).find? (fun x => !q.xids.contains x)

/-- A REMOTE operation fixes its port, takes an XID if one is free, and its transfer count starts (R449, R450, R455). -/
def beginRemote (s : State) (p : Nat) (o : PumpOp) : PumpOp :=
  { o with port := p, xid := lowestXid (s.port p), xferFrom := if (s.port p).st = .up then some s.now else none,
           xferCount := 0, xferLimit := 1024 * (s.rd PMP 0x02).toNat }

/-- The XID an accepted operation holds is in use. -/
def noteXid (o : PumpOp) (s : State) : State :=
  match o.xid with
  | some x => s.modPort o.port (fun q => { q with xids := q.xids ++ [x] })
  | none => s

/-! ## What an issuer has presented (R234, R239 to R243) -/

/-- An operation whose accesses SEAL, FENCE and the order of R239 to R241 concern: its pieces move, and not all have. -/
def PumpOp.presents (o : PumpOp) : Bool := o.started && !o.moved && decide ((parseDesc o.desc).op ≠ .remote)

/-- How many accesses operation `i` has presented by now: at least one, from its acceptance (R234), the rest being free
(log entry 30). -/
def notePresented (i : Nat) (s : State) : State :=
  let (k, s1) := s.takeFree
  s1.modOp i (fun o => { o with shown := max o.shown (max 1 (Config.freeWord k).toNat) })

/-- Two issuers are one and the same (R230). -/
def Issuer.same (a b : Issuer) : Bool :=
  match a, b with
  | .engine x _ _, .engine y _ _ => x == y
  | .supervisor _, .supervisor _ => true
  | _, _ => false

/-- Operations of an issuer whose accesses still concern its order, oldest first. -/
def presentOps (mine : Issuer → Bool) (s : State) : List Nat :=
  ((s.ops.filter (fun o => mine o.issuer && o.presents)).map (fun o => o.id))

/-- Accesses of operation `o`'s issuer that were presented before it (R239 to R241). -/
def priorOf (s : State) (is : List Nat) : List (Nat × Nat) :=
  is.map (fun i => (i, match s.op? i with | some o => o.shown | none => 0))

/-! ## Acceptance -/

/-- Accept a posted operation (R234): validated FORMAT then ALIGN, after DISABLED; one that fails completes at once, as
does a REMOTE with no port to its peer (R449). `v` is the TENS variant of an engine post. -/
def acceptOp (o : PumpOp) (v : Option Variant) (s : State) : State :=
  let d := parseDesc o.desc
  let isSup := match o.issuer with | .supervisor _ => true | _ => false
  let fail :=
    if pumpAccepts s o.pump = false then stDisabled
    else if formatBad d v isSup s.part.engines (windowWidth s d) then stFormat
    else if alignBad d then stAlign
    else if d.op = .remote ∧ remotePort s d.peer = none then stLost
    else 0
  let wait := mustWait s o d
  let o1 : PumpOp :=
    { o with
      id := s.nextOp, fail := fail, moved := decide (fail ≠ 0), started := !wait && decide (d.op ≠ .remote)
      waitEnd := if wait then some (s.now + 64 * s.fld PMP 0x03 0 16) else none
      seen := (s.well d.src.unit).count, filled := (s.well d.src.unit).wrapped
      blocks := if d.op = .remote ∧ (fail = 0 ∨ fail = stLost) then
          List.replicate d.listLen { got := [], done := false, refused := false } else [] }
  let o2 := match remotePort s d.peer with
    | some p => if d.op = .remote ∧ fail = 0 then beginRemote s p o1 else o1
    | none => o1
  let earlier := if fail = 0 ∧ d.op ≠ .remote then presentOps o.issuer.same s else []
  let s0 := foldS notePresented earlier s
  let s1 := { s0 with ops := s0.ops ++ [{ o2 with prior := priorOf s0 earlier }], nextOp := s0.nextOp + 1 }
  let s2 := noteXid o2 (noteTag o2 s1)
  if fail ≠ 0 then completeOp o2 s2 else s2

/-! ## One piece at the cistern (R269, R274, R282, R620, R51, R470) -/

/-- Counts of an operation as it moves, with the device. -/
structure Moving where
  s : State
  prot : Nat
  ecc : Nat
  still : Bool
  drop : Nat
  short : Nat
  buf : List (Nat × List Byte) := []

/-- Where a piece of an operation comes from: its context, peer service or not, the channel of tick-mode work. -/
structure Access where
  ctx : Nat
  peer : Bool
  chan : Option Nat

/-- Context of an operation's cistern accesses. -/
def PumpOp.access (o : PumpOp) : Access := { ctx := o.ctx, peer := false, chan := o.tickChan }

/-- The lanes of a read piece at physical address `a`: each lane with an uncorrectable codeword is zero (R620). -/
def laneRead (s : State) (a : Nat) : List Byte := if cistBad s a 16 then List.replicate 16 0 else cistGet s a 16

/-- Read one piece: its lanes, zero when refused or dead. -/
def readPiece (x : Access) (m : Moving) (lanes : List Int) : Moving × List (List Byte) :=
  let zeros := lanes.map (fun _ => List.replicate 16 (0 : Byte))
  match lanes with
  | [] => (m, [])
  | a :: _ =>
    match translate m.s x.ctx .read x.peer a with
    | none => ({ m with prot := m.prot + 1 }, zeros)
    | some p =>
      let b := cistBankOf p
      if (m.s.bank b).retired then ({ m with ecc := m.ecc + 1 }, zeros)
      else if (m.s.bank b).fenced then ({ m with still := true }, zeros)
      else
        let n := 16 * lanes.length
        let bad := cistBad m.s p n
        ({ m with s := cistReadEvents p n x.chan m.s, ecc := m.ecc + b2n bad },
         (List.range lanes.length).map (fun i => laneRead m.s (p + 16 * i)))

/-- Write one piece. -/
def writePiece (x : Access) (m : Moving) (lanes : List (Int × List Byte)) : Moving :=
  match lanes with
  | [] => m
  | (a, _) :: _ =>
    match translate m.s x.ctx .write x.peer a with
    | none => { m with prot := m.prot + 1 }
    | some p =>
      let b := cistBankOf p
      if (m.s.bank b).retired then { m with ecc := m.ecc + 1 }
      else if (m.s.bank b).fenced then { m with still := true }
      else { m with s := cistPut p (lanes.flatMap (·.2)) m.s }

/-! ## The store side (R283, R620) -/

/-- A weight bank of engine `e` that is active for an enabled channel overlaps `n` bytes at `a` (R283). -/
def hitsActiveBank (s : State) (e : Nat) (a n : Nat) : Bool :=
  let sz := s.fld (ENG e) 0x08 0 8 * 4096
  (chansOn s e).any (fun c =>
    let lo := if (s.chan c).learn.active then sz else 0
    (s.chan c).enabled && decide (a < lo + sz) && decide (lo < a + n))

/-- A pump's store access of lanes is refused (R283). -/
def storeRefused (s : State) (e : Nat) (tick write : Bool) (lanes : List Int) : Bool :=
  lanes.any (fun a =>
    decide (a < 0) || decide ((dirBase : Int) < a + 16) ||
    (write && (hitsActiveBank s e a.toNat 16 ||
      (tick && decide (a.toNat < 2 * (s.fld (ENG e) 0x08 0 8 * 4096))))))

/-- Read lanes of a store as one access, for tick-mode work of channel `c` if any. -/
def storeReadLanes (e : Nat) (c : Option Nat) (m : Moving) (lanes : List Int) : Moving × List (List Byte) :=
  if storeRefused m.s e false false lanes then
    ({ m with prot := m.prot + 1 }, lanes.map (fun _ => List.replicate 16 0))
  else
    let bad := lanes.any (fun a => storeBad m.s e a.toNat 16)
    ({ m with s := foldS (fun a s => storeReadEvents e a.toNat 16 c s) lanes m.s, ecc := m.ecc + b2n bad },
     lanes.map (fun a => if storeBad m.s e a.toNat 16 then List.replicate 16 0 else storeGet m.s e a.toNat 16))

/-- Write lanes of a store as one access. -/
def storeWriteLanes (e : Nat) (tick : Bool) (m : Moving) (lanes : List (Int × List Byte)) : Moving :=
  if lanes.isEmpty then m
  else if storeRefused m.s e tick true (lanes.map (·.1)) then { m with prot := m.prot + 1 }
  else { m with s := foldS (fun (x : Int × List Byte) s => storePut e x.1.toNat x.2 s) lanes m.s }

/-! ## Units and lanes -/

/-- The engine store of an endpoint: the posting engine's, or UNIT of a supervisor post (R257). -/
def storeEngine (o : PumpOp) (ep : Endpoint) : Nat :=
  match o.issuer with
  | .engine e _ _ => e
  | _ => ep.unit

/-- The FILL value repeated over one lane (R262). -/
def fillLane (d : Desc) : List Byte := (List.range 4).flatMap (fun _ => leBytes 4 d.fill)

/-- Read every lane of a list from the cistern, by pieces; lanes without an address are FILL lanes. -/
def readLanes (x : Access) (d : Desc) (lanes : List (Option Int)) (m : Moving) : Moving × List (List Byte) :=
  (groupBy id joinLine lanes).foldl (fun (acc : Moving × List (List Byte)) g =>
    match g.filterMap id with
    | [] => (acc.1, acc.2 ++ g.map (fun _ => fillLane d))
    | as =>
      let (m', bs) := readPiece x acc.1 as
      (m', acc.2 ++ bs)) (m, [])

/-- Read every lane of a list from a store, by accesses. -/
def readStoreLanes (e : Nat) (c : Option Nat) (d : Desc) (lanes : List (Option Int)) (m : Moving) :
    Moving × List (List Byte) :=
  (groupBy id joinStore lanes).foldl (fun (acc : Moving × List (List Byte)) g =>
    match g.filterMap id with
    | [] => (acc.1, acc.2 ++ g.map (fun _ => fillLane d))
    | as =>
      let (m', bs) := storeReadLanes e c acc.1 as
      (m', acc.2 ++ bs)) (m, [])

/-- Write lanes that have an address to the cistern, by pieces. -/
def writeLanes (x : Access) (lanes : List (Option Int × List Byte)) (m : Moving) : Moving :=
  (groupBy (fun (l : Option Int × List Byte) => l.1) joinLine lanes).foldl (fun m g =>
    writePiece x m (g.filterMap (fun l => l.1.map (fun a => (a, l.2))))) m

/-- Write lanes that have an address to a store, by accesses. -/
def writeStoreLanes (e : Nat) (tick : Bool) (lanes : List (Option Int × List Byte)) (m : Moving) : Moving :=
  (groupBy (fun (l : Option Int × List Byte) => l.1) joinStore lanes).foldl (fun m g =>
    storeWriteLanes e tick m (g.filterMap (fun l => l.1.map (fun a => (a, l.2))))) m

/-- Deliver lanes to an endpoint. -/
def deliver (o : PumpOp) (x : Access) (ep : Endpoint) (lanes : List (Option Int × List Byte)) (m : Moving) : Moving :=
  match ep.space with
  | .cistern => writeLanes x lanes m
  | .store => writeStoreLanes (storeEngine o ep) o.tickMode lanes m
  | _ => m

/-- Fetch lanes from an endpoint. -/
def collect (o : PumpOp) (x : Access) (d : Desc) (ep : Endpoint) (lanes : List (Option Int)) (m : Moving) :
    Moving × List (List Byte) :=
  match ep.space with
  | .cistern => readLanes x d lanes m
  | .store => readStoreLanes (storeEngine o ep) o.tickChan d lanes m
  | _ => (m, lanes.map (fun _ => fillLane d))

/-- Transpose one RELAYOUT tile of `t` lanes with elements of `w` bits (R263). -/
def transposeTile (w t : Nat) (lanes : List (List Byte)) : List (List Byte) :=
  let rows := lanes.map (fun l => elems w t l)
  (List.range t).map (fun c => packElems w (rows.map (fun r => nth r c 0)))

/-! ## List entries (R258, R267, R621) -/

/-- Entry `e` of an operation's list as its lane holds it now, or why it is not used: from the posting engine's store, or
from the cistern at LIST for a supervisor post. -/
def entryAt (s : State) (o : PumpOp) (e : Nat) : Except EntryFlaw (List Byte) :=
  match o.issuer with
  | .engine g _ _ =>
    let a := 16 * (o.lane + 8 + e)
    if storeBad s g a 16 then .error .ecc else .ok (storeGet s g a 16)
  | _ =>
    match translate s o.ctx .read false (o.listBase + 16 * e : Nat) with
    | none => .error .prot
    | some a =>
      if (s.bank (cistBankOf a)).retired then .error .ecc
      else if (s.bank (cistBankOf a)).fenced then .error .still
      else if cistBad s a 16 then .error .ecc
      else .ok (cistGet s a 16)

/-- The records and counts that the read of entry `e` leaves (R200, R478, R621). -/
def entryEvents (o : PumpOp) (e : Nat) (s : State) : State :=
  match o.issuer with
  | .engine g _ _ => storeReadEvents g (16 * (o.lane + 8 + e)) 16 o.tickChan s
  | _ =>
    match translate s o.ctx .read false (o.listBase + 16 * e : Nat) with
    | none => s
    | some a => cistReadEvents a 16 none s

/-- The operation with entry `e` as read; one that is not used leaves a lane of zeros and its flaw. -/
def PumpOp.withEntry (o : PumpOp) (e : Nat) (r : Except EntryFlaw (List Byte)) : PumpOp :=
  match r with
  | .ok bs => { o with entries := o.entries ++ bs }
  | .error k => { o with entries := o.entries ++ List.replicate 16 0, judged := o.judged ++ [(e, k)] }

/-- Read the entries `es` of operation `o`, in order. -/
def readEntries : List Nat → PumpOp → State → PumpOp × State
  | [], o, s => (o, s)
  | e :: es, o, s => readEntries es (o.withEntry e (entryAt s o e)) (entryEvents o e s)

/-- Entries that the pump reads during the post (R258). -/
def postEntries (d : Desc) : List Nat := if d.hasList then List.range (min 8 d.listLen) else []

/-- The entries from the ninth on are read before the operation moves (R258). -/
def readLateEntries (i : Nat) (s : State) : State :=
  match s.op? i with
  | none => s
  | some o =>
    let d := parseDesc o.desc
    if d.hasList = false ∨ o.steps ≠ 0 ∨ o.entries.length ≠ 128 then s
    else
      let r := readEntries ((List.range (d.listLen - 8)).map (· + 8)) o s
      r.2.modOp i (fun _ => r.1)

/-! ## WINDOW samples (R182 to R187, R281, R282) -/

/-- The sample at offset `f` is available (R183), `n` the count that bounds a free-run read and `filled` that C samples had
been captured at validation; differences modulo 2^32. -/
def available (g : Well) (tick filled : Bool) (r n : Nat) (f : Int) : Bool :=
  (decide (sext 32 (toU 32 (f - 1)) < 0) || (!tick && !notYet r n f)) &&
    decide (0 ≤ sext 32 (toU 32 (f - 1 + g.cap - g.guardG))) && (filled || decide (0 ≤ sext 32 (sampleIndex r f)))

/-- Slot under which line `n` of the cistern is held. -/
def lineSlot (n : Nat) : Nat := 2 ^ 32 + n

/-- Bytes of one delivered element, and whether it was filled: a sample of a line that translation refused is zero. -/
def elementBytes (buf : List (Nat × List Byte)) (o : PumpOp) (g : Well) (f : Int) : List Byte × Bool :=
  let a := sampleAddr g o.refCount f
  match assoc buf (lineSlot (a / 128)) with
  | none => (List.replicate g.width 0, false)
  | some bs =>
    if available g o.tickMode o.filled o.refCount o.seen f then ((bs.drop (a % 128)).take g.width, false)
    else (leBytes g.width (toU (8 * g.width) g.fill), true)

/-- Split a byte string into lanes. -/
def toLanes : Nat → List Byte → List (List Byte)
  | 0, _ => []
  | n + 1, bs => bs.take 16 :: toLanes n (bs.drop 16)

/-- Frame `j`: its bytes over FRAME_LANES lanes, and the samples filled (R266). -/
def frameBytes (buf : List (Nat × List Byte)) (o : PumpOp) (d : Desc) (g : Well) (j : Nat) : List Byte × Nat :=
  let es := (List.range (at0 d.ext 0)).map (fun i =>
    elementBytes buf o g (sext 32 d.src.base + ((j * d.step + i * d.dil : Nat) : Int)))
  let body := es.flatMap (·.1)
  let pad := (List.range (16 * d.frameLanes - body.length)).map (fun (k : Nat) =>
    byte (fld d.fill (8 * ((body.length + k) % 4)) 8))
  (body ++ pad, (es.filter (fun e => e.2)).length)

/-! ## One step of a plan (R269, R270, R274, R282, R620, R621) -/

/-- Data of a slot in transit: the FILL value where nothing was read into it (R262). -/
def Moving.lane (m : Moving) (d : Desc) (k : Nat) : List Byte := (assoc m.buf k).getD (fillLane d)

/-- Lanes read go into their slots. -/
def Moving.hold (m : Moving) (xs : List (Nat × List Byte)) : Moving := { m with buf := m.buf ++ xs }

/-- Lanes with their data. -/
def Moving.dressed (m : Moving) (d : Desc) (lanes : List SlotLane) : List (Int × List Byte) :=
  lanes.map (fun l => (l.2, m.lane d l.1))

/-- A WINDOW's read piece: the line is held unless translation refuses it; lanes with uncorrectable errors, and a dead
bank, are zero (R281, R282, R620). -/
def readLine (o : PumpOp) (n : Nat) (m : Moving) : Moving :=
  let a := 128 * n
  let b := cistBankOf a
  let zeros : List (Nat × List Byte) := [(lineSlot n, List.replicate 128 0)]
  if !wellPageOk m.s o.ctx (a / 0x10000) then { m with prot := m.prot + 1 }
  else if (m.s.bank b).retired then { m with ecc := m.ecc + 1 }.hold zeros
  else if (m.s.bank b).fenced then { m with still := true }.hold zeros
  else
    { m with s := cistReadEvents a 128 o.tickChan m.s, ecc := m.ecc + b2n (cistBad m.s a 128) }.hold
      [(lineSlot n, (List.range 8).flatMap (fun i => laneRead m.s (a + 16 * i)))]

/-- A WINDOW's frames are formed, and the samples filled are counted (R184, R266). -/
def formFrames (o : PumpOp) (d : Desc) (m : Moving) : Moving :=
  let fs : List (List Byte × Nat) := (List.range (at0 d.ext 1)).map (frameBytes m.buf o d (m.s.well d.src.unit))
  { m with short := m.short + (fs.map (fun (f : List Byte × Nat) => f.2)).foldl (· + ·) 0 }.hold
    (((List.range (at0 d.ext 1)).zip fs).flatMap (fun (x : Nat × List Byte × Nat) =>
      (List.range d.frameLanes).zipWith (fun i bs => (x.1 * d.frameLanes + i, bs)) (toLanes d.frameLanes x.2.1)))

/-- A RELAYOUT tile from slot `first` is transposed (R263). -/
def turnTile (d : Desc) (first : Nat) (m : Moving) : Moving :=
  let ks := (List.range d.unitLanes).map (fun i => first + i)
  { m with buf := ks.zip (transposeTile d.tileBits d.unitLanes (ks.map (m.lane d))) ++
                    m.buf.filter (fun x => !ks.contains x.1) }

/-- Entry `e` is not used: its block's `n` pieces are counted for the cause, or the operation ends STILL (R621, R51). -/
def countFlaw (o : PumpOp) (e n : Nat) (m : Moving) : Moving :=
  match assoc o.judged e with
  | some .prot => { m with prot := m.prot + n }
  | some .still => { m with still := true }
  | _ => { m with ecc := m.ecc + n }

/-- Perform one step of the plan of operation `o`. -/
def performStep (o : PumpOp) (d : Desc) (m : Moving) (st : PumpStep) : Moving :=
  match st with
  | .cread ls =>
    let r := readPiece o.access m (ls.map (·.2))
    r.1.hold ((ls.map (·.1)).zip r.2)
  | .cwrite ls => writePiece o.access m (m.dressed d ls)
  | .sread ls =>
    let r := storeReadLanes (storeEngine o d.src) o.tickChan m (ls.map (·.2))
    r.1.hold ((ls.map (·.1)).zip r.2)
  | .swrite ls => storeWriteLanes (storeEngine o d.dst) o.tickMode m (m.dressed d ls)
  | .line n => readLine o n m
  | .frames => formFrames o d m
  | .tile k => turnTile d k m
  | .zeros k n => m.hold ((List.range n).map (fun i => (k + i, List.replicate 16 0)))
  | .flawed e n => countFlaw o e n m

/-- The plan of operation `o` (Machine/Plan.lean); REMOTE operations move by frames and have none. -/
def opPlan (s : State) (o : PumpOp) : List PumpStep :=
  let d := parseDesc o.desc
  match d.op with
  | .gather | .scatter => planList d o
  | .window => planWindow d (s.well d.src.unit) o.refCount
  | .remote | .reserved => []
  | _ => planUnits d

/-- The operation after `n` more steps of a plan of `total`. -/
def PumpOp.after (o : PumpOp) (n total : Nat) (m : Moving) : PumpOp :=
  let fin := decide (total ≤ o.steps + n)
  { o with
    steps := o.steps + n, shown := max o.shown (o.steps + n), buf := if fin then [] else m.buf, prot := m.prot,
    ecc := m.ecc, short := m.short, drop := if fin then dropCount (parseDesc o.desc) o else o.drop, moved := fin,
    fail := if m.still then stStill else o.fail }

/-- The pump performs the next `n` steps of operation `i`, if its pieces may move. -/
def runSteps (n i : Nat) (s : State) : State :=
  let s0 := readLateEntries i s
  match s0.op? i with
  | none => s
  | some o =>
    let d := parseDesc o.desc
    if o.started = false ∨ o.moved = true ∨ d.op = .remote then s
    else
      let plan := opPlan s0 o
      let m0 : Moving := { s := s0, prot := o.prot, ecc := o.ecc, still := false, drop := 0, short := o.short, buf := o.buf }
      let m := ((plan.drop o.steps).take n).foldl (performStep o d) m0
      m.s.modOp i (fun o => o.after n plan.length m)

/-! ## Order among the accesses of one issuer (R234, R239 to R243) -/

/-- Byte ranges of the cistern that a step reaches. -/
def stepRanges (s : State) (o : PumpOp) (st : PumpStep) : List (Nat × Nat) :=
  let at_ (k : AccessKind) (ls : List SlotLane) : List (Nat × Nat) :=
    ls.filterMap (fun l => (translate s o.ctx k false l.2).map (fun a => (a, 16)))
  match st with
  | .cread ls => at_ .read ls
  | .cwrite ls => at_ .write ls
  | .line n => [(128 * n, 128)]
  | _ => []

/-- Two byte ranges share a byte (R240). -/
def meetsRange (x y : Nat × Nat) : Bool := decide (x.1 < y.1 + y.2) && decide (y.1 < x.1 + x.2)

/-- Steps of operation `o`, of its first `k`, up to the last that reaches one of the locations `xs`. -/
def stepsMeeting (s : State) (o : PumpOp) (k : Nat) (xs : List (Nat × Nat)) : Nat :=
  ((List.range k).zip (opPlan s o)).foldl (fun n p =>
    if (stepRanges s o p.2).any (fun y => xs.any (meetsRange y)) then p.1 + 1 else n) 0

/-- A step that writes the cistern. -/
def PumpStep.stores : PumpStep → Bool
  | .cwrite _ => true
  | _ => false

/-- The steps of an earlier operation `o` of the issuer, of the first `k` that it has presented, that come before an access
of the same issuer: all of them before a store (R241), before loads those that reach the same location (R239, R240). -/
def stepsBefore (s : State) (o : PumpOp) (k : Nat) (store : Bool) (xs : List (Nat × Nat)) : Nat :=
  (if store then k else stepsMeeting s o k xs) - o.steps

/-- Perform the next `n` steps of operation `i`, and before them what its issuer's earlier accesses require; `fuel` bounds the
chain of earlier operations. -/
def advance : Nat → Nat → Nat → State → State
  | 0, n, i, s => runSteps n i s
  | fuel + 1, n, i, s =>
    let s0 := readLateEntries i s
    match s0.op? i with
    | none => s
    | some o =>
      let plan := opPlan s0 o
      let loads := plan.flatMap (stepRanges s0 o)
      let store := plan.any PumpStep.stores
      runSteps n i (foldS (fun (p : Nat × Nat) s =>
        let s1 := readLateEntries p.1 s
        match s1.op? p.1 with
        | some q => if q.presents then advance fuel (stepsBefore s1 q p.2 store loads) p.1 s1 else s
        | none => s) o.prior s0)

/-- Perform `n` steps of operation `i` in its issuer's order. -/
def advanceOp (n i : Nat) (s : State) : State := advance s.ops.length n i s

/-- The issuer makes an access of its own beside its operations, or a SEAL: what it has presented is performed as far as the
order asks. -/
def orderIssuer (mine : Issuer → Bool) (store : Bool) (xs : List (Nat × Nat)) (s : State) : State :=
  foldS (fun i s =>
    let s1 := readLateEntries i (notePresented i s)
    match s1.op? i with
    | some o => advanceOp (stepsBefore s1 o o.shown store xs) i s1
    | none => s1) (presentOps mine s) s

/-- A SEAL of an issuer: every access that its accepted operations have presented is performed, oldest operation first; later
accesses of theirs are not ordered by it (R242). -/
def sealIssuer (mine : Issuer → Bool) (s : State) : State := orderIssuer mine true [] s

/-! ## The rows -/

/-- Move the pieces of operation `i`, whose descriptor names `want`, in its issuer's order. `defer` is the deferral that
contention imposed on it (R274); only a tick-mode operation reports it. An operation that waits or is another one is left
alone; one whose pieces have moved takes only the deferral. -/
def pumpMove (want : DOp) (i defer : Nat) (s : State) : State :=
  match s.op? i with
  | none => s
  | some o =>
    if (parseDesc o.desc).op ≠ want ∨ o.started = false then s
    else
      (if o.moved then s else advanceOp (opPlan (readLateEntries i s) ((readLateEntries i s).op? i |>.getD o)).length i s).modOp i
        (fun o => { o with defer := if o.tickMode then defer else 0 })

/-- PUMP_COMPLETION: operation `i`, whose pieces have moved, completes (R272). -/
def pumpComplete (i : Nat) (s : State) : State :=
  match s.op? i with
  | none => s
  | some o => if o.moved then completeOp o s else s

/-! ## Peer service: which pump, and who waits (R230, R232, R453) -/

/-- A pump stopped for a sleep entry accepts no new operation (R502). -/
def pumpAsleep (s : State) (k : Nat) : Bool :=
  match s.power.entry with
  | some e => e.stopped.contains (.pump k)
  | none => s.power.committed.isSome

/-- Peer services in flight on pump `k` (R230). -/
def peerHeld (s : State) (k : Nat) : Nat :=
  (s.ops.filter (fun o => o.pump == k && (match o.issuer with | .peer _ _ => true | _ => false))).length

/-- The pump that serves port `p`'s next block: PMP(2p) and PMP(2p + 1) in turn, the other where one takes no
operations; none where neither does (R453, R469, log entry 43). -/
def servingPump (s : State) (p : Nat) : Option Nat :=
  let a := 2 * p + b2n (s.port p).turn
  let b := 2 * p + b2n (!(s.port p).turn)
  if pumpAccepts s a then some a else if pumpAccepts s b then some b else none

/-- The next block of port `p` waits for a tag that its pump may take (R230, R231). -/
def peerWaits (s : State) (p : Nat) : Bool :=
  match (s.port p).peers.find? (fun b => b.op.isNone), servingPump s p with
  | some b, some k => b.stalled && !pumpAsleep s k && decide (peerHeld s k < 16)
  | _, _ => false

/-- Ports below `n` whose next block waits for a tag: posts of lower pumps (R232). -/
def peersAhead (s : State) (n : Nat) : Nat := ((List.range n).filter (peerWaits s)).length

/-! ## The end of a well wait -/

/-- WELL_WAIT_END: the waiting well read `i` ends its wait, by the last sample's capture, the limit, or the well's disable or
the load of its walk (R185, R186). -/
def wellWaitEnd (i : Nat) (s : State) : State :=
  match s.op? i with
  | none => s
  | some o =>
    if o.started then s
    else
      let d := parseDesc o.desc
      if d.op ≠ .window then s else
      let g := s.well d.src.unit
      let early := !notYet o.refCount g.count (windowLast d) || !g.enabled || o.cut
      let s1 := if early then s else s.reach (o.waitEnd.getD s.now)
      s1.modOp i (fun o => { o with started := true, waitEnd := none, seen := g.count })

end Sys2Proof.Machine
end

