-- ==== Sys2Proof/Machine/Isa.lean ====
section
/-! DEFINITION. The engine instruction words (08): their fields, the strides of enclosing loops, where each operand lies,
and the traps at issue. -/

namespace Sys2Proof.Machine

/-- The instructions (R209). -/
inductive EOp where
  | halt
  | haltV
  | tens (v : Variant)
  | tile (m : TileMode)
  | vec (o : VecOp)
  | red (o : RedOp)
  | cmp (o : CmpOp)
  | trace
  | srnd
  | dgate
  | seal
  | ring
  | await
  | tagwait
  | loop
  | br
deriving DecidableEq, Repr

/-- One operand field: bank-relative or not, its unit in bytes (16 lane, 256 granule), and its value after strides. -/
structure Operand where
  bank : Bool
  unit : Nat
  val : Int
deriving DecidableEq, Repr

/-- A decoded instruction: its operands in field order from bit 54 down, and its other fields. -/
structure Ins where
  op : EOp
  sb : Bool
  xs : List Operand
  n : Nat := 1          -- N
  et : Nat := 0         -- ETYPE or OUT
  imm : Nat := 0        -- IMM, SHIFT, DZ, LAYER, INC, COUNT − 1
  flag : Bool := false  -- ACC, BCAST, TAGWAIT all
  num : Nat := 0        -- PUMP, bell, handle of TAGWAIT, BODY − 1, BR condition
  aux : Nat := 0        -- handle of TENS, BR offset field
  strides : List Int := []
deriving DecidableEq, Repr

/-- The S-operand whose lowest bit is `lo` (R207). -/
def sOp (w lo : Nat) : Operand := { bank := nbit w (lo + 17), unit := 16, val := fld w lo 17 }
/-- An absolute 17-bit lane field. -/
def lOp (w lo : Nat) : Operand := { bank := false, unit := 16, val := fld w lo 17 }
/-- A G-operand. -/
def gOp (w lo : Nat) : Operand := { bank := false, unit := 256, val := fld w lo 13 }

/-- Keep an instruction whose reserved bits are 0 (R206). -/
def ifZero (r : Nat) (i : Ins) : Option Ins := if r = 0 then some i else none

/-- TENS variant of OP. -/
def tensVariant (o : Nat) : Option Variant :=
  match o with
  | 0 => some .ldt
  | 1 => some .stt
  | 2 => some .post
  | _ => none

/-- HALT and HALT.V. -/
def decHalt (o w : Nat) : Option Ins :=
  match o with
  | 0 => ifZero (fld w 0 55) { op := .halt, sb := nbit w 55, xs := [] }
  | 1 => ifZero (fld w 0 37) { op := .haltV, sb := nbit w 55, xs := [sOp w 37] }
  | _ => none

/-- LDT, STT, POST. -/
def decTens (o w : Nat) : Option Ins :=
  (tensVariant o).bind (fun v =>
    ifZero (fld w 0 30) { op := .tens v, sb := nbit w 55, xs := [lOp w 35], num := fld w 52 3, aux := fld w 30 5 })

/-- TILE. -/
def decTile (o w : Nat) : Option Ins :=
  (tileMode o).map (fun m =>
    { op := .tile m, sb := nbit w 55, xs := [sOp w 37, sOp w 19, sOp w 1], flag := nbit w 0 })

/-- VEC; ETYPE 3, NARROW of I8 and WIDEN of I32 are reserved (R211, R296). -/
def decVec (o w : Nat) : Option Ins :=
  (vecOp o (fld w 1 4)).bind (fun v =>
    let et := fld w 11 2
    if et = 3 ∨ (v = .narrow ∧ et = 0) ∨ (v = .widen ∧ et = 2) then none
    else
      ifZero (fld w 0 1) { op := .vec v, sb := nbit w 55, xs := [sOp w 37, sOp w 19], n := fld w 13 6 + 1, et := et,
                           imm := fld w 5 6 })

/-- RED. -/
def decRed (o w : Nat) : Option Ins :=
  (redOp o).bind (fun v =>
    if fld w 11 2 = 3 then none
    else
      ifZero (fld w 0 11) { op := .red v, sb := nbit w 55, xs := [sOp w 37, sOp w 19], n := fld w 13 6 + 1,
                            et := fld w 11 2 })

/-- CMP. -/
def decCmp (o w : Nat) : Option Ins :=
  (cmpOp o).bind (fun v =>
    if fld w 4 2 = 3 then none
    else
      ifZero (fld w 0 3) { op := .cmp v, sb := nbit w 55, xs := [gOp w 42, gOp w 29, lOp w 12], n := fld w 6 6 + 1,
                           et := fld w 4 2, flag := nbit w 3 })

/-- TRACE. -/
def decTrace (o w : Nat) : Option Ins :=
  if o ≠ 0 then none
  else ifZero (fld w 0 6) { op := .trace, sb := nbit w 55, xs := [lOp w 38, gOp w 25, gOp w 12], imm := fld w 6 6 }

/-- SRND; OUT 3 is not listed. -/
def decSrnd (o w : Nat) : Option Ins :=
  if o ≠ 0 ∨ fld w 11 2 = 3 then none
  else
    ifZero (fld w 0 6) { op := .srnd, sb := nbit w 55, xs := [sOp w 37, sOp w 19], n := fld w 13 6 + 1,
                         et := fld w 11 2, imm := fld w 6 5 }

/-- DGATE; ETYPE is I8 or I16. -/
def decDgate (o w : Nat) : Option Ins :=
  if o ≠ 0 ∨ fld w 0 2 > 1 then none
  else
    some { op := .dgate, sb := nbit w 55, xs := [gOp w 42, gOp w 29, gOp w 16], n := fld w 10 6 + 1, et := fld w 0 2,
           imm := fld w 2 8 }

/-- SEAL. -/
def decSeal (o w : Nat) : Option Ins :=
  if o ≠ 0 then none else ifZero (fld w 0 55) { op := .seal, sb := nbit w 55, xs := [] }

/-- RING and AWAIT; RING with INC 0 is reserved, and AWAIT keeps the field 0. -/
def decBell (o w : Nat) : Option Ins :=
  let inc := fld w 41 8
  match o with
  | 0 => if inc = 0 then none
         else ifZero (fld w 0 41) { op := .ring, sb := nbit w 55, xs := [], num := fld w 49 6, imm := inc }
  | 1 => ifZero (fld w 0 49) { op := .await, sb := nbit w 55, xs := [], num := fld w 49 6 }
  | _ => none

/-- TAGWAIT. -/
def decTagwait (o w : Nat) : Option Ins :=
  match o with
  | 0 => ifZero (fld w 0 50) { op := .tagwait, sb := nbit w 55, xs := [], num := fld w 50 5 }
  | 1 => ifZero (fld w 0 55) { op := .tagwait, sb := nbit w 55, xs := [], flag := true }
  | _ => none

/-- LOOP. -/
def decLoop (o w : Nat) : Option Ins :=
  if o ≠ 0 then none
  else
    ifZero (fld w 0 7) { op := .loop, sb := nbit w 55, xs := [], imm := fld w 39 16, num := fld w 31 8,
                         strides := [sext 8 (fld w 23 8), sext 8 (fld w 15 8), sext 8 (fld w 7 8)] }

/-- BR. -/
def decBr (o w : Nat) : Option Ins :=
  if o > 2 then none else ifZero (fld w 0 39) { op := .br, sb := nbit w 55, xs := [], num := o, aux := fld w 39 16 }

/-- The instruction of a 64-bit word; none traps with ILLEGAL (R206, R209). -/
def decodeIns (w : Nat) : Option Ins :=
  let o := fld w 56 3
  match fld w 59 5 with
  | 0 => decHalt o w
  | 1 => decTens o w
  | 2 => decTile o w
  | 3 => decVec o w
  | 4 => decRed o w
  | 5 => decCmp o w
  | 6 => decTrace o w
  | 7 => decSrnd o w
  | 8 => decDgate o w
  | 9 => decSeal o w
  | 10 => decBell o w
  | 11 => decTagwait o w
  | 12 => decLoop o w
  | 13 => decBr o w
  | _ => none

/-! ## Strides (R216) -/

/-- Sum of i × S1, i × S2 and i × S3 over the open loops. -/
def strideSum : List LoopFrame → Int × Int × Int
  | [] => (0, 0, 0)
  | f :: fs =>
    let r := strideSum fs
    (r.1 + f.iter * f.s1, r.2.1 + f.iter * f.s2, r.2.2 + f.iter * f.s3)

/-- The operands with the strides of the open loops added, the W bit kept. -/
def Ins.strided (i : Ins) (fs : List LoopFrame) : Ins :=
  let t := strideSum fs
  { i with xs := List.zipWith (fun (x : Operand) d => { x with val := x.val + d }) i.xs [t.1, t.2.1, t.2.2] }

/-- Where the program goes on after the instruction at `pc - 1`: iterations of the open loops are counted. -/
def unwind : List LoopFrame → Nat → Nat × List LoopFrame
  | [], pc => (pc, [])
  | f :: fs, pc =>
    if pc > f.last then
      if f.iter + 1 < f.count then (f.first, { f with iter := f.iter + 1 } :: fs) else unwind fs pc
    else (pc, f :: fs)

/-- The run after its present instruction. -/
def Run.advance (r : Run) : Run :=
  let (pc, ls) := unwind r.loops (r.pc + 1)
  { r with pc := pc, loops := ls }

/-! ## Operand addresses and their traps (R207, R208) -/

/-- The bank A/B through which W-operands resolve: fixed at the tick for a tick program (R26), live otherwise. -/
def runActive (s : State) (e : Nat) (r : Run) : Bool :=
  if r.kind.isTick then r.active else (s.chan (r.kind.chanOf e)).learn.active

/-- A background job whose context's channel does not name the engine (R207). -/
def jobUnmapped (s : State) (e : Nat) (r : Run) : Bool :=
  match r.kind with
  | .job _ => !(chanEngines s e).contains e
  | _ => false

/-- Trap code (0 none) and first store byte of an operand that touches `n` bytes. -/
def resolve (s : State) (e : Nat) (r : Run) (sb : Bool) (x : Operand) (n : Nat) (wr : Bool) : Nat × Nat :=
  let size := s.fld (ENG e) 0x08 0 8 * 4096
  let a : Int := x.val * (x.unit : Int)
  if x.bank then
    if jobUnmapped s e r || (wr && !sb) || (r.kind.isTick && sb) then (fBank, 0)
    else if a < 0 ∨ (size : Int) < a + n then (fRange, 0)
    else (0, a.toNat + (if runActive s e r != sb then size else 0))
  else if wr && ((decide (a < (2 * size : Nat)) && decide (0 < a + n)) ||
      (decide ((dirBase : Int) < a + n) && decide (a < (storeSize : Int)))) then (fBank, 0)
  else if a < 0 ∨ (dirBase : Int) < a + n then (fRange, 0)
  else (0, a.toNat)

/-- One use of an operand: its index, the bytes touched, whether it is read, whether it is written. -/
structure Use where
  x : Nat
  n : Nat
  rd : Bool
  wr : Bool

/-- Elements an SRND produces (R302). -/
def srndCount (out n : Nat) : Nat := if out = 1 then 21 * n else 64 * n
/-- Bytes an SRND writes (R302). -/
def srndBytes (out n : Nat) : Nat := if out = 0 then 64 * n else if out = 1 then 16 * n else 32 * n

/-- What each instruction touches through its operands. -/
def Ins.uses (i : Ins) : List Use :=
  let w := etypeWidth i.et
  match i.op with
  | .haltV => [⟨0, 16, true, false⟩]
  | .tens _ => [⟨0, 128, true, false⟩]
  | .tile m => [⟨0, m.aBytes, true, false⟩, ⟨1, m.bBytes, true, false⟩, ⟨2, 4096, i.flag, true⟩]
  | .vec o => [⟨0, 64 * i.n * o.dWidth w / 8, o.readsD, true⟩, ⟨1, o.s2Bytes w (64 * i.n), true, false⟩]
  | .red _ => [⟨0, 64 * i.n * w / 8, true, false⟩, ⟨1, 16, false, true⟩]
  | .cmp _ =>
    [⟨0, 64 * i.n * w / 8, true, false⟩, ⟨1, if i.flag then w / 8 else 64 * i.n * w / 8, true, false⟩,
     ⟨2, 8 * i.n, false, true⟩]
  | .trace => [⟨0, 1024, true, true⟩, ⟨1, 32, true, false⟩, ⟨2, 32, true, false⟩]
  | .srnd => [⟨0, 4 * srndCount i.et i.n, true, false⟩, ⟨1, srndBytes i.et i.n, false, true⟩]
  | .dgate =>
    [⟨0, 64 * i.n * w / 8, true, false⟩, ⟨1, 64 * i.n * w / 8, true, true⟩, ⟨2, 64 * i.n * w / 8, false, true⟩]
  | _ => []

/-- Operand `k`. -/
def Ins.operand (i : Ins) (k : Nat) : Operand := nth i.xs k { bank := false, unit := 16, val := 0 }

/-- A resolved use: trap code, first byte, bytes, read, written. -/
structure Touch where
  trap : Nat
  at_ : Nat
  n : Nat
  rd : Bool
  wr : Bool

/-- Every operand of an instruction resolved. -/
def touches (s : State) (e : Nat) (r : Run) (i : Ins) : List Touch :=
  i.uses.map (fun u =>
    let t := resolve s e r i.sb (i.operand u.x) u.n u.wr
    { trap := t.1, at_ := t.2, n := u.n, rd := u.rd, wr := u.wr })

/-- The trap of the operands: BANK before RANGE (R206). -/
def touchTrap (ts : List Touch) : Nat :=
  if ts.any (fun t => t.trap == fBank) then fBank
  else if ts.any (fun t => t.trap == fRange) then fRange
  else 0

/-- First byte of operand use `k`. -/
def atOf (ts : List Touch) (k : Nat) : Nat := (ts[k]?.map (fun t => t.at_)).getD 0

/-- Operand use `k` resolves without a trap. -/
def touchOk (ts : List Touch) (k : Nat) : Bool := ts[k]?.any (fun t => t.trap == 0)

/-- First byte of row LAYER of the LEARN_RULE copy a TRACE reads (R213, R308). -/
def ruleAddr (e : Nat) (r : Run) (layer : Nat) : Nat := 0x17DC00 + 512 * r.kind.chanOf e + 8 * layer

/-- Store bytes an instruction reads: its read operands, and a TRACE's rule row. -/
def readRanges (e : Nat) (r : Run) (i : Ins) (ts : List Touch) : List (Nat × Nat) :=
  (ts.filter (fun t => t.rd)).map (fun t => (t.at_, t.n)) ++
    (match i.op with | .trace => [(ruleAddr e r i.imm, 8)] | _ => [])

/-! ## Interlocks (R217, R236) -/

/-- An operation was posted by engine `e`. -/
def PumpOp.byEngine (o : PumpOp) (e : Nat) : Bool :=
  match o.issuer with
  | .engine x _ _ => x == e
  | _ => false

/-- An operation in flight under a handle of engine `e` holds a granule of the byte range `x`. -/
def granuleHeld (s : State) (e : Nat) (x : Nat × Nat) : Bool :=
  s.ops.any (fun o => o.byEngine e &&
    (match footprint (parseDesc o.desc) o.lane with
     | some g => decide (g.1 ≤ (x.1 + x.2 - 1) / 256) && decide (x.1 / 256 ≤ g.2)
     | none => false))

/-- Handle `h` of engine `e` is in use. -/
def handleBusy (s : State) (e h : Nat) : Bool := s.ops.any (fun o => o.byEngine e && o.handle == h)

/-- A handle that the program `r` of engine `e` took is in use (R209): an operation of its mode, posted since it started. -/
def ownBusy (s : State) (e : Nat) (r : Run) : Bool :=
  s.ops.any (fun o => decide (r.firstOp ≤ o.id) &&
    (match o.issuer with | .engine x t _ => x == e && t == r.kind.isTick | _ => false))

/-- The instruction waits for an operation under a handle, which is a declared wait (R48, R217): the granule interlock, a
handle in use, or a TAGWAIT. -/
def heldByHandle (s : State) (e : Nat) (r : Run) (i : Ins) (ts : List Touch) : Bool :=
  (readRanges e r i ts ++ ts.map (fun t => (t.at_, t.n))).any (granuleHeld s e) ||
    (match i.op with
     | .tens _ => handleBusy s e i.aux
     | .tagwait => if i.flag then s.ops.any (fun o => o.byEngine e) else handleBusy s e i.num
     | _ => false)

/-- The instruction waits: for a handle, or, a HALT, for the operations of its program (R209). -/
def mustHold (s : State) (e : Nat) (r : Run) (i : Ins) (ts : List Touch) : Bool :=
  heldByHandle s e r i ts ||
    (match i.op with
     | .halt => ownBusy s e r
     | .haltV => ownBusy s e r
     | _ => false)

end Sys2Proof.Machine
end

