-- ==== Sys2Proof/Machine/Bells.lean ====
section
/-! DEFINITION. The bells (09): RING, AWAIT, TRY, PEEK, the host's load, and the release of waiters. -/

namespace Sys2Proof.Machine

/-- The run of engine `e` in the given mode goes on after its AWAIT, whether it is running or fenced (R247). -/
def releaseRun (r : Run) (tick : Bool) : Run :=
  if r.kind.isTick = tick ∧ r.waitBell.isSome = true then { r.advance with waitBell := none } else r

/-- Release one waiter. -/
def releaseWaiter (w : Nat × Bool) (s : State) : State :=
  s.modEng w.1 (fun g => { g with run := g.run.map (fun r => releaseRun r w.2), susp := g.susp.map (fun r => releaseRun r w.2) })

/-- `k` units reach bell `b`: the first waiters are released, the rest is added, saturating (R246, R248). The flag says
that the bell saturated. -/
def ringBell (b k : Nat) (s : State) : State × Bool :=
  let l := s.bell b
  let m := min k l.waiters.length
  let c := l.count + (k - m)
  (foldS releaseWaiter (l.waiters.take m)
    (s.modBell b (fun l => { l with count := min 255 c, waiters := l.waiters.drop m })), decide (c > 255))

/-- The host or a RESET loads bell `b` with `v` (R251): waiters take units of the loaded count. -/
def loadBell (b v : Nat) (s : State) : State :=
  let l := s.bell b
  let m := min v l.waiters.length
  foldS releaseWaiter (l.waiters.take m) (s.modBell b (fun l => { l with count := v - m, waiters := l.waiters.drop m }))

/-- One unit is taken from bell `b`. -/
def takeBell (b : Nat) (s : State) : State := s.modBell b (fun l => { l with count := l.count - 1 })

/-- A RING by engine `e`'s program of run `r` (R246): saturation is a fault of the engine. -/
def engineRing (e b k : Nat) (r : Run) (s : State) : State :=
  let (s1, sat) := ringBell b k s
  if sat = false then s1
  else
    let s2 := holdFault e fBellSat none s1
    match r.kind with
    | .tick c =>
      (tickFault 8 b c r.tickNo 0 e 0 s2).modEng e (fun g => { g with run := g.run.map (fun r => { r with clean := false }) })
    | _ => faultRecord 8 b 0xFF 0 e 0 s2

/-- A RING by the supervisor (R250). -/
def supervisorRing (b k : Nat) (s : State) : State :=
  let (s1, sat) := ringBell b k s
  if sat then faultRecord 8 b 0xFF 0 0x10 0 s1 else s1

end Sys2Proof.Machine
end

