-- ==== Sys2Proof/Machine/Engine.lean ====
section
/-! DEFINITION. The engine's instructions (08, 09, 11, 12, 14): fetch, issue, and what each class does. Every engine row
of the table names an engine and the instruction its program has reached. -/

namespace Sys2Proof.Machine

/-- Change the running program of engine `e`. -/
def State.modRun (s : State) (e : Nat) (f : Run → Run) : State := s.modEng e (fun g => { g with run := g.run.map f })

/-- Go on to the next instruction of engine `e`. -/
def next (e : Nat) (s : State) : State := s.modRun e (fun r => r.advance)

/-- Elements of engine store bytes. -/
def storeElems (s : State) (e a w n : Nat) : List Int := elems w n (storeGet s e a (w * n / 8))

/-- The channel of tick-mode work. -/
def ProgKind.tickChan : ProgKind → Option Nat
  | .tick c => some c
  | _ => none

/-! ## The sampler (R362 to R371) -/

/-- The A operand at byte `a` of a TILE lies in the latched delta context (R362). -/
def inDelta (g : Engine) (m : TileMode) (a : Nat) : Option DeltaCtx :=
  g.delta.bind (fun d =>
    if 256 * d.dst ≤ a ∧ a + m.aBytes ≤ 256 * d.dst + d.count then some d else none)

/-- The run of TILEs of engine `e` ends: a taken sample is compared with row r of C (R368), the tick's worst result is
kept, and a failed delta run asks for a refresh (R370). -/
def endTileRun (e : Nat) (s : State) : State :=
  let g := s.eng e
  let s1 := s.modEng e (fun g => { g with tileRun := none })
  match g.tileRun, g.run with
  | some t, some r =>
    match r.kind with
    | .tick c =>
      if t.sums.isEmpty then s1
      else
        let row := storeElems s e (t.c + 128 * r.row) 32 32
        let bad := decide (r.bound ≠ 0) &&
          (List.zipWith (fun (x y : Int) => decide ((2 ^ r.bound : Nat) ≤ (x - satS 32 y).natAbs)) row t.sums).any id
        let res := if t.missed then 2 else if bad then 3 else 1
        s1.modDrift c (fun d =>
          { d with worst := max d.worst res, refresh := d.refresh || (t.delta && decide (res = 3)) })
    | _ => s1
  | _, _ => s1

/-- The delta context in which a TILE's A operand lies; none for an operand that traps. -/
def tileDelta (g : Engine) (m : TileMode) (ts : List Touch) : Option DeltaCtx :=
  if touchOk ts 0 then inDelta g m (atOf ts 0) else none

/-- A TILE continues the engine's present run of TILEs: the same kind, naming the same C (R364). -/
def continuesRun (g : Engine) (m : TileMode) (ts : List Touch) : Bool :=
  match g.tileRun with
  | some t => touchOk ts 2 && t.c == atOf ts 2 && t.delta == (tileDelta g m ts).isSome
  | none => false

/-- E(c) of one TILE for the sample row: the CUR row of a delta TILE, A's own row otherwise (R368). -/
def sampleSums (s : State) (e : Nat) (m : TileMode) (a row : Nat) (d : Option DeltaCtx) (b : List Byte) : List Int :=
  let n := m.k * m.aWidth / 8
  let at_ := (match d with | some d => 256 * d.cur + (a - 256 * d.dst) | none => a) + row * n
  let xs := storeElems s e at_ m.aWidth m.k
  let bx := leVal b
  (List.range 32).map (fun c => tileSum m none 0 c xs bx)

/-- A run of TILEs takes in one more, of exact sums `sums`: a TILE with ACC = 0 forms E anew, as R295 has it form C; an exact
run whose TILEs no longer run shortened is not sampled (R367). -/
def TileRun.take (t : TileRun) (acc lean few : Bool) (sums : List Int) : TileRun :=
  if t.sums.isEmpty ∨ (t.delta = false ∧ lean = false) then { t with sums := [] }
  else { t with sums := if acc then List.zipWith (· + ·) t.sums sums else sums, missed := t.missed || few }

/-- The run of TILEs after this TILE: it goes on, or a delta TILE or an exact TILE with ACC = 0 begins one (R364); a sampled
tick samples delta runs, and exact runs while the low-bit segment runs shortened (R367). -/
def tileRunNext (s : State) (e : Nat) (r : Run) (m : TileMode) (acc lean : Bool) (ts : List Touch) (aB bB : List Byte) :
    Option TileRun :=
  let g := s.eng e
  let d := tileDelta g m ts
  let few := decide (zeroCount m aB < m.k)
  let sums := sampleSums s e m (atOf ts 0) r.row d bB
  if r.kind.isTick = false then none
  else if continuesRun g m ts then g.tileRun.map (fun t => t.take acc lean few sums)
  else if d.isNone ∧ acc = true then none
  else
    let take := r.sampled && (d.isSome || lean)
    some { c := atOf ts 2, delta := d.isSome, sums := if take then sums else [], missed := take && few }

/-! ## The unit instructions -/

/-- The tick of program `r` is a refresh tick of its channel (R371). -/
def refreshing (s : State) (r : Run) : Bool :=
  match r.kind with
  | .tick c => (s.chan c).drift.refreshTick
  | _ => false

/-- The first delta TILE of a delta run computes as if ACC = 0 in a refresh tick (R371); other instructions stand as they
are. -/
def refreshed (s : State) (e : Nat) (r : Run) (i : Ins) : Ins :=
  match i.op with
  | .tile m =>
    let ts := touches s e r i
    if refreshing s r = true ∧ (tileDelta (s.eng e) m ts).isSome = true ∧ continuesRun (s.eng e) m ts = false then
      { i with flag := false }
    else i
  | _ => i

/-- TILE (R210, R293 to R295, R305, R371, R372). -/
def doTile (e : Nat) (r : Run) (m : TileMode) (i : Ins) (ts : List Touch) (s : State) : State :=
  let c := atOf ts 2
  let aB := storeGet s e (atOf ts 0) m.aBytes
  let bB := storeGet s e (atOf ts 1) m.bBytes
  let lean := r.lean && !refreshing s r
  let out := tileResult m (if lean then some s.free else none) aB bB (if i.flag then some (storeGet s e c 4096) else none)
  let t := tileRunNext s e r m i.flag lean ts aB bB
  let s1 := if lean then { s with free := s.free + 1024 * m.k } else s
  next e (storePut e c (packElems 32 out) (s1.modEng e (fun g => { g with tileRun := t })))

/-- VEC (R211, R296 to R298). -/
def doVec (e : Nat) (o : VecOp) (i : Ins) (ts : List Touch) (s : State) : State :=
  let w := etypeWidth i.et
  let n := 64 * i.n
  let d := storeElems s e (atOf ts 0) w n
  let s2 := storeGet s e (atOf ts 1) (o.s2Bytes w n)
  next e (storePut e (atOf ts 0) (packElems (o.dWidth w) (vecResult o w n i.imm d s2)) s)

/-- RED (R212, R296). -/
def doRed (e : Nat) (o : RedOp) (i : Ins) (ts : List Touch) (s : State) : State :=
  let x := redResult o (storeElems s e (atOf ts 0) (etypeWidth i.et) (64 * i.n))
  next e (storePut e (atOf ts 1) (leBytes 4 (toU 32 x) ++ List.replicate 12 0) s)

/-- CMP (R212). -/
def doCmp (e : Nat) (o : CmpOp) (i : Ins) (ts : List Touch) (s : State) : State :=
  let w := etypeWidth i.et
  let n := 64 * i.n
  let xs := storeElems s e (atOf ts 0) w n
  let ys := if i.flag then List.replicate n (elemAt w (leVal (storeGet s e (atOf ts 1) (w / 8))) 0)
            else storeElems s e (atOf ts 1) w n
  let bs := List.zipWith (cmpElem o) xs ys
  next e ((storePut e (atOf ts 2) (bitsToBytes bs) s).modRun e (fun r => { r with any := bs.any id }))

/-- TRACE (R310, R311, R213). -/
def doTrace (e : Nat) (r : Run) (i : Ins) (ts : List Touch) (s : State) : State :=
  let row := storeGet s e (ruleAddr e r i.imm) 8
  let w1 := leVal ((row.drop 2).take 2)
  let l := (s.chan (r.kind.chanOf e)).learn
  let clear := match r.kind with | .tick _ => l.clearNow | _ => false
  let hold := match r.kind with | .job _ => false | _ => l.hold
  let vs := traceVals (fld w1 8 8) (fld w1 0 4) clear (storeElems s e (atOf ts 0) 8 1024)
    (storeElems s e (atOf ts 1) 8 32) (storeElems s e (atOf ts 2) 8 32)
  let (out, g') := stochList 8 (8 + fld w1 0 4) vs (s.eng e).gen
  let s1 := s.modEng e (fun g => { g with gen := g' })
  next e (if hold then s1 else storePut e (atOf ts 0) (packElems 8 out) s1)

/-- SRND (R302). -/
def doSrnd (e : Nat) (i : Ins) (ts : List Touch) (s : State) : State :=
  let vs := storeElems s e (atOf ts 0) 32 (srndCount i.et i.n)
  let w := if i.et = 0 then 8 else if i.et = 1 then 6 else 4
  let (out, g') := stochList w i.imm vs (s.eng e).gen
  let bs := if i.et = 1 then pack6 i.n out else packElems w out
  next e (storePut e (atOf ts 1) bs (s.modEng e (fun g => { g with gen := g' })))

/-- DGATE (R362, R363, R371). -/
def doDgate (e : Nat) (r : Run) (i : Ins) (ts : List Touch) (s : State) : State :=
  let w := etypeWidth i.et
  let n := 64 * i.n
  let refresh := decide (i.et = 0) && refreshing s r
  let rs := List.zipWith (dgateElem w i.imm refresh) (storeElems s e (atOf ts 0) w n) (storeElems s e (atOf ts 1) w n)
  let s1 := storePut e (atOf ts 1) (packElems w (rs.map (·.2))) (storePut e (atOf ts 2) (packElems w (rs.map (·.1))) s)
  let s2 := if i.et = 0 then
      s1.modEng e (fun g =>
        { g with delta := some { cur := atOf ts 0 / 256, prev := atOf ts 1 / 256, dst := atOf ts 2 / 256, count := n } })
    else s1
  next e s2

/-! ## Issue-unit instructions -/

/-- The run inside the body of the LOOP `i` (R216). -/
def Run.enter (r : Run) (i : Ins) : Run :=
  { r with pc := r.pc + 1,
           loops := { first := r.pc + 1, last := r.pc + 1 + i.num, count := i.imm + 1, iter := 0, s1 := atI i.strides 0,
                      s2 := atI i.strides 1, s3 := atI i.strides 2 } :: r.loops }

/-- LOOP (R216). -/
def doLoop (e : Nat) (r : Run) (i : Ins) (s : State) : State :=
  let last := r.pc + 1 + i.num
  let past := match r.loops with | f :: _ => decide (last > f.last) | [] => false
  if decide (4 ≤ r.loops.length) || past || decide (r.len ≤ last) then trap e fLoop s
  else s.modRun e (fun r => r.enter i)

/-- BR (R209, R212, R215, R216). A target outside the enclosing body traps, taken or not; one before the program is
fetched beyond its end. -/
def doBr (e : Nat) (r : Run) (i : Ins) (s : State) : State :=
  let t : Int := (r.pc : Int) + sext 16 i.aux
  let out := match r.loops with | f :: _ => decide (t < f.first) || decide ((f.last : Int) < t) | [] => false
  if r.kind.isTick then trap e fBrTick s
  else if out then trap e fLoop s
  else
    let taken := i.num = 0 ∨ (i.num = 1 ∧ r.any = true) ∨ (i.num = 2 ∧ r.any = false)
    if taken then s.modRun e (fun r => { r with pc := if t < 0 then 0xFFFF else t.toNat }) else next e s

/-- AWAIT (R247). -/
def doAwait (e b : Nat) (r : Run) (s : State) : State :=
  if (s.bell b).count ≠ 0 then next e (takeBell b s)
  else
    (s.modBell b (fun l => { l with waiters := l.waiters ++ [(e, r.kind.isTick)] })).modRun e
      (fun r => { r with waitBell := some b })

/-- SEAL: the issuer's accepted operations perform their accesses, then the program goes on (R242). -/
def doSeal (e : Nat) (s : State) : State :=
  next e (sealIssuer (fun x => match x with | .engine g _ _ => g == e | _ => false) s)

/-! ## Posts (R215, R218, R219, R229 to R235) -/

/-- The reference count of a well read of run `r` (R182). -/
def refOf (s : State) (r : Run) (d : Desc) : Nat :=
  if d.op = .window then (if r.kind.isTick then nth r.snaps d.src.unit 0 else (s.well d.src.unit).tickSnap) else 0

/-- The operation a TENS posts, its list entries not yet read. -/
def tensOp (s : State) (e : Nat) (r : Run) (i : Ins) (at_ : Nat) : PumpOp :=
  let desc := storeGet s e at_ 128
  { id := 0, pump := i.num, issuer := .engine e r.kind.isTick (match r.kind with | .job _ => none | _ => some (r.kind.chanOf e))
    handle := i.aux, ctx := r.kind.ctx e, lane := at_ / 16, desc := desc, entries := []
    listBase := 0, refCount := refOf s r (parseDesc desc), seen := 0, filled := false, cut := false, tickNo := r.tickNo,
    started := false, waitEnd := none, moved := false, prior := [], steps := 0, shown := 0, buf := [], judged := [],
    prot := 0, ecc := 0, defer := 0, short := 0, drop := 0, fail := 0, port := 0,
    xid := none, blocks := [], xferFrom := none, xferCount := 0, xferLimit := 0 }

/-- The operation of a TENS as the pump reads it during the post: its descriptor and its first list entries (R258). -/
def readPost (e : Nat) (r : Run) (i : Ins) (at_ : Nat) (s : State) : PumpOp × State :=
  let o := tensOp s e r i at_
  readEntries (postEntries (parseDesc o.desc)) o s

/-- A program of mode `tick` whose post waits for a tag; one fenced at the stall waits on. -/
def Run.waitsTag (r : Run) (tick : Bool) : Bool := r.kind.isTick == tick && r.stalled.isSome

/-- The program of engine `e` and mode `tick` whose post waits for a tag. -/
def Engine.stalledRun (g : Engine) (tick : Bool) : Option Run :=
  match g.run, g.susp with
  | some r, x => if r.waitsTag tick then some r else x.filter (fun r => r.waitsTag tick)
  | none, x => x.filter (fun r => r.waitsTag tick)

/-- Engines whose tick-mode (`tick`) or background program has a post that waits for a tag, ascending (R232). -/
def stalledEngines (s : State) (tick : Bool) : List Nat :=
  (List.range s.part.engines).filter (fun e => ((s.eng e).stalledRun tick).isSome)

/-- Operations in flight of the supervisor (R230). -/
def supHeld (s : State) : Nat :=
  (s.ops.filter (fun o => match o.issuer with | .supervisor _ => true | _ => false)).length

/-- Post slots of the supervisor whose post waits for its tag. -/
def stalledSlots (s : State) : List Nat :=
  (List.range 8).filter (fun n => (s.sup.slots[n]?.bind (fun l => l.waiting)).isSome)

/-- Tags that a stalled supervisor post takes before lower ranks: one, unless the supervisor holds its cap (R230, R232). -/
def slotsAhead (s : State) : Nat := if stalledSlots s = [] ∨ 8 ≤ supHeld s then 0 else 1

/-- Posts that wait for a tag and come before a post of engine `e` in the order of R232. -/
def tagsAhead (s : State) (e : Nat) (tick : Bool) : Nat :=
  if tick then ((stalledEngines s true).filter (fun x => decide (x < e))).length
  else (stalledEngines s true).length + slotsAhead s + peersAhead s s.ports.length +
    ((stalledEngines s false).filter (fun x => decide (x < e))).length

/-- The post of engine `e` stalls, with the operation `o` of a TENS `v` as read (R231, R233, R76, R203). -/
def stallPost (e : Nat) (r : Run) (v : Variant) (o : PumpOp) (s : State) : State :=
  let s1 := (tagStall s).modRun e (fun r => { r with stalled := some r.pc, post := some (v.code, o), clean := false })
  match r.kind with
  | .tick c => promiseBroken true r.tickNo [c] s1
  | _ => s1

/-- TENS (R218, R219, R215). -/
def doTens (e : Nat) (r : Run) (i : Ins) (v : Variant) (ts : List Touch) (s : State) : State :=
  let at_ := atOf ts 0
  if r.kind.isTick = true ∧ (parseDesc (storeGet s e at_ 128)).op = .remote then trap e fRemoteTick s
  else
    let p := readPost e r i at_ s
    if freeTags s ≤ tagsAhead s e r.kind.isTick then stallPost e r v p.1 p.2 else acceptOp p.1 (some v) (next e p.2)

/-! ## Program ends (R202, R203, R214, R316) -/

/-- HALT ends a background program; a tick program traps with VERDICT (R214). -/
def doHalt (e : Nat) (r : Run) (s : State) : State :=
  match r.kind with
  | .tick _ => trap e fVerdict s
  | .sweep c => sweepPartDone c e (clearRun e s)
  | .job _ => clearRun e s

/-- The channel's sample counter after a tick program that ran to HALT.V on every part (R366). -/
def countTick (c : Nat) (s : State) : State :=
  if (s.chan c).parts = [] then s.modDrift c (fun d => { d with counter := d.counter + 1 }) else s

/-- HALT.V of channel `c`'s tick program on engine `e`, with `strokes` measured: the count check, the end of the part,
the verdict of the primary engine's part (R203, R214, R63). -/
def endTick (c e : Nat) (r : Run) (strokes : Nat) (lane : List Byte) (s : State) : State :=
  let off := decide (strokes ≠ r.strokes) && r.clean
  let s1 := if off then engineRecord e fCount r.pc false r.kind r.tickNo s else s
  let s2 := countTick c (tickPartEnded c e (clearRun e s1))
  let s3 :=
    if r.primary then
      latchEngine c r.tickNo (leVal (lane.take 2)) (normKind (leVal ((lane.drop 2).take 1) % 16)) (r.clean && !off) r.bt
        r.snapAt r.snapTb ((lane.drop 8).take 8) s2
    else s2
  startAllDue (liftAfter e r.tickNo s3)

/-- HALT.V (R214). -/
def doHaltV (e : Nat) (r : Run) (strokes : Nat) (ts : List Touch) (s : State) : State :=
  match r.kind with
  | .tick c => endTick c e r strokes (storeGet s e (atOf ts 0) 16) s
  | _ => trap e fVerdict s

/-! ## Issue -/

/-- The instruction word of run `r`, or the trap code of its fetch (R214, R200). -/
def fetchIns (s : State) (e : Nat) (r : Run) : Except Nat Nat :=
  let a := r.entry + 8 * r.pc
  if r.len ≤ r.pc ∨ dirBase < a + 8 then .error fRange
  else if storeBad s e a 8 then .error fEcc
  else .ok (leVal (storeGet s e a 8))

/-- Records of the store reads of an instruction (R200). -/
def readEvents (e : Nat) (r : Run) (rs : List (Nat × Nat)) (s : State) : State :=
  foldS (fun (x : Nat × Nat) s => storeReadEvents e x.1 x.2 r.kind.tickChan s) rs s

/-- Records of the fetch of run `r`'s present instruction (R200). -/
def fetchEvents (e : Nat) (r : Run) (s : State) : State := readEvents e r [(r.entry + 8 * r.pc, 8)] s

/-- A TENS descriptor lane that is no multiple of 16 is a reserved value (R255). -/
def badLane (i : Ins) : Bool :=
  match i.op with
  | .tens _ => decide ((i.operand 0).val % 16 ≠ 0)
  | _ => false

/-- A wrong HALT for the mode, a BR in tick mode (R214, R215): trap code, 0 none. -/
def modeTrap (r : Run) (i : Ins) : Nat :=
  match i.op with
  | .halt => if r.kind.isTick then fVerdict else 0
  | .haltV => if r.kind.isTick then 0 else fVerdict
  | .br => if r.kind.isTick then fBrTick else 0
  | _ => 0

/-- This instruction ends the engine's present run of TILEs (R364). -/
def endsTileRun (g : Engine) (i : Ins) (ts : List Touch) : Bool :=
  match i.op with
  | .tile m => !continuesRun g m ts
  | _ => true

/-- What the instruction does once it issues. -/
def perform (e : Nat) (r : Run) (strokes : Nat) (i : Ins) (ts : List Touch) (s : State) : State :=
  match i.op with
  | .halt => doHalt e r s
  | .haltV => doHaltV e r strokes ts s
  | .tens v => doTens e r i v ts s
  | .tile m => doTile e r m i ts s
  | .vec o => doVec e o i ts s
  | .red o => doRed e o i ts s
  | .cmp o => doCmp e o i ts s
  | .trace => doTrace e r i ts s
  | .srnd => doSrnd e i ts s
  | .dgate => doDgate e r i ts s
  | .seal => doSeal e s
  | .ring => next e (engineRing e i.num i.imm r s)
  | .await => doAwait e i.num r s
  | .tagwait => next e s
  | .loop => doLoop e r i s
  | .br => doBr e r i s

/-- Trap code of an instruction at issue, 0 none: ILLEGAL, BANK, RANGE (R206), then the mode's. -/
def issueTrap (r : Run) (i : Ins) (ts : List Touch) : Nat :=
  if badLane i then fIllegal else if touchTrap ts ≠ 0 then touchTrap ts else modeTrap r i

/-- The decoded instruction `i0` of run `r` reaches issue: its traps, the interlocks, then its reads and its effect. The
fetch's correctable errors count as it issues (R200). -/
def issueIns (e : Nat) (r : Run) (strokes : Nat) (i0 : Ins) (s : State) : State :=
  let i := refreshed s e r i0
  let ts := touches s e r i
  let f := fetchEvents e r s
  let s1 := if endsTileRun (s.eng e) i ts then endTileRun e f else f
  if issueTrap r i ts ≠ 0 then trap e (issueTrap r i ts) s1
  else if mustHold s e r i ts then s
  else
    let rs := readRanges e r i ts
    let s2 := readEvents e r rs s1
    if rs.any (fun x => storeBad s e x.1 x.2) then trap e fEcc s2 else perform e r strokes i ts s2

/-- An engine row of the table: engine `e`'s running program has reached an instruction of the row's kind (`want`). A
fetch that traps or a word that is ILLEGAL traps whatever row names it. A program that waits at a bell or for a tag, and
an engine that runs none or has reached another instruction, leave the state as it is. -/
def issue (want : EOp → Bool) (strokes e : Nat) (s : State) : State :=
  match (s.eng e).run with
  | none => s
  | some r =>
    if r.waitBell.isSome || r.stalled.isSome then s
    else
      match fetchIns s e r with
      | .error code => trap e code (if code = fEcc then fetchEvents e r s else s)
      | .ok w =>
        match decodeIns w with
        | none => trap e fIllegal (endTileRun e (fetchEvents e r s))
        | some i => if want i.op then issueIns e r strokes (i.strided r.loops) s else s

/-- The program of run `r` waits at a bell, for a tag, or for an operation under a handle: a declared wait (R48, R217). -/
def declaredWait (s : State) (e : Nat) (r : Run) : Bool :=
  r.waitBell.isSome || r.stalled.isSome ||
    (match fetchIns s e r with
     | .error _ => false
     | .ok w =>
       match decodeIns w with
       | none => false
       | some i0 =>
         let i := refreshed s e r (i0.strided r.loops)
         let ts := touches s e r i
         decide (issueTrap r i ts = 0) && heldByHandle s e r i ts)

/-- A waiting post has been made: its program goes on. -/
def Run.posted (r : Run) : Run := { r.advance with stalled := none, post := none }

/-- A part that was to stop at its next instruction boundary stops there (R253). -/
def stopHalting (e : Nat) (r : Run) (s : State) : State :=
  match r.kind with
  | .tick c => if r.halting then startAllDue (endPart e c s) else s
  | _ => s

/-- The post of engine `e` in mode `tick` that waits for a tag takes one, with the operation as read before the stall; a
free-run well read counts from the snapshot edge before its validation (R182, R232, R233). -/
def grantEngine (tick : Bool) (e : Nat) (s : State) : State :=
  match (s.eng e).stalledRun tick with
  | none => s
  | some r =>
    match r.post with
    | none => s
    | some (v, o) =>
      let on (r : Run) : Run := if r.waitsTag tick then r.posted else r
      let s1 := s.modEng e (fun g => { g with run := g.run.map on, susp := g.susp.map on })
      stopHalting e r (acceptOp { o with refCount := refOf s r (parseDesc o.desc) } (tensVariant v) s1)

end Sys2Proof.Machine
end

