-- ==== Sys2Proof/Machine/Hash.lean ====
section
/-! DEFINITION. The checks and digests the manual names: CRC-8 (R89), CRC-32 (R328), SHA-256 (FIPS 180-4) and
HMAC-SHA-256 (FIPS 198-1), each over a list of bytes. -/

namespace Sys2Proof.Machine

/-! ## Cyclic redundancy checks -/

/-- One bit of the CRC-8 shift register: polynomial 0x07, no reflection (R89). -/
def crc8Bit (c : Nat) : Nat := if c ≥ 128 then (2 * c % 256) ^^^ 0x07 else 2 * c

/-- CRC-8 of a byte string from register value `c` (R89). -/
def crc8From (c : Nat) : List Byte → Nat
  | [] => c
  | b :: bs =>
    crc8From (crc8Bit (crc8Bit (crc8Bit (crc8Bit (crc8Bit (crc8Bit (crc8Bit (crc8Bit (c ^^^ b.toNat))))))))) bs

/-- CRC-8 of a byte string (R89). -/
def crc8 (bs : List Byte) : Nat := crc8From 0 bs

/-- One bit of the reflected CRC-32 shift register (R328). -/
def crc32Bit (c : Nat) : Nat := if c % 2 = 1 then (c / 2) ^^^ 0xEDB88320 else c / 2

/-- One byte of the CRC-32 (R328). -/
def crc32Byte (c : Nat) (b : Byte) : Nat :=
  crc32Bit (crc32Bit (crc32Bit (crc32Bit (crc32Bit (crc32Bit (crc32Bit (crc32Bit (c ^^^ b.toNat))))))))

/-- CRC-32 of a byte string (R328). -/
def crc32 (bs : List Byte) : Nat := bs.foldl crc32Byte 0xFFFFFFFF ^^^ 0xFFFFFFFF

/-! ## SHA-256 (FIPS 180-4), on words held as numbers below 2^32 -/

/-- The primes FIPS 180-4 takes its constants from: the first 64. -/
def shaPrimes : List Nat :=
  (List.range 312).filter (fun n => decide (2 ≤ n) && (List.range 16).all (fun d => n % (d + 2) != 0 || n == d + 2))

/-- The greatest number below `r + 2^n` from `r` up whose `e`-th power does not exceed `x`, one bit at a time. -/
def rootFrom (e x : Nat) : Nat → Nat → Nat
  | 0, r => r
  | n + 1, r => rootFrom e x n (if (r + 2 ^ n) ^ e ≤ x then r + 2 ^ n else r)

/-- First 32 bits of the fractional part of the `e`-th root of `p`. -/
def rootFraction (e p : Nat) : Nat := rootFrom e (p * 2 ^ (32 * e)) 37 0 % 2 ^ 32

/-- Round constants: from the cube roots of the primes. -/
def shaConstants : List Nat := shaPrimes.map (rootFraction 3)

/-- A digest in the making: the words a to d, and the words e to h. -/
structure Digest where
  upper : List Nat
  lower : List Nat
deriving DecidableEq, Repr

/-- The digest before the first block: from the square roots of the first eight primes. -/
def Digest.start : Digest :=
  let roots := shaPrimes.map (rootFraction 2)
  { upper := roots.take 4, lower := (roots.drop 4).take 4 }

/-- `x` turned right by each amount, combined by exclusive or. A word written twice over turns by a plain shift. -/
def turns (x : Nat) (amounts : List Nat) : Nat := amounts.foldl (fun acc n => acc ^^^ (x * (2 ^ 32 + 1)) / 2 ^ n % 2 ^ 32) 0

/-- The schedule word sixteen after the first word of the window `ws`. -/
def nextWord (ws : List Nat) : Nat :=
  let x := nth ws 1 0
  let y := nth ws 14 0
  (nth ws 0 0 + (turns x [7, 18] ^^^ x / 2 ^ 3) + nth ws 9 0 + (turns y [17, 19] ^^^ y / 2 ^ 10)) % 2 ^ 32

/-- One round with constant `k` and schedule word `w`: both halves take a new first word and drop their last. -/
def Digest.round (g : Digest) (k w : Nat) : Digest :=
  let p (i : Nat) := nth g.upper i 0
  let q (i : Nat) := nth g.lower i 0
  let choice := q 2 ^^^ (q 0 &&& (q 1 ^^^ q 2))
  let majority := (p 0 &&& p 1) ||| (p 2 &&& (p 0 ||| p 1))
  let fresh := q 3 + turns (q 0) [6, 11, 25] + choice + k + w
  { upper := (fresh + turns (p 0) [2, 13, 22] + majority) % 2 ^ 32 :: g.upper.take 3
    lower := (fresh + p 3) % 2 ^ 32 :: g.lower.take 3 }

/-- The rounds of one block, over the sixteen schedule words in use. -/
def Digest.rounds (g : Digest) (ws : List Nat) : List Nat → Digest
  | [] => g
  | k :: ks => Digest.rounds (g.round k (nth ws 0 0)) (ws.tail ++ [nextWord ws]) ks

/-- A digest takes in one 64 B block. -/
def Digest.absorb (g : Digest) (block : List Byte) : Digest :=
  let ws := (List.range 16).map (fun i => beVal ((block.drop (4 * i)).take 4))
  let r := g.rounds ws shaConstants
  let sum (xs ys : List Nat) := List.zipWith (fun x y => (x + y) % 2 ^ 32) xs ys
  { upper := sum g.upper r.upper, lower := sum g.lower r.lower }

/-- A message with its end mark and its length in bits, filled up to whole blocks. -/
def shaMessage (bs : List Byte) : List Byte :=
  bs ++ [0x80] ++ List.replicate ((119 - bs.length % 64) % 64) 0 ++ beBytes 8 (8 * bs.length)

/-- SHA-256 of a byte string. -/
def sha256 (bs : List Byte) : List Byte :=
  let m := shaMessage bs
  let g := (List.range (m.length / 64)).foldl (fun g i => g.absorb ((m.drop (64 * i)).take 64)) Digest.start
  (g.upper ++ g.lower).flatMap (beBytes 4)

/-- The key of an HMAC as one block, combined with a pad byte. -/
def hmacKey (pad : Byte) (key : List Byte) : List Byte :=
  let k := if key.length > 64 then sha256 key else key
  (k ++ List.replicate (64 - k.length) 0).map (fun b => b ^^^ pad)

/-- HMAC-SHA-256 (R328, R406, R549). -/
def hmac (key msg : List Byte) : List Byte :=
  sha256 (hmacKey 0x5c key ++ sha256 (hmacKey 0x36 key ++ msg))

end Sys2Proof.Machine
end

