-- ==== Sys2Proof/Machine/Ecdsa.lean ====
section
/-! DEFINITION. ECDSA over P-256 with the deterministic nonce of RFC 6979 and SHA-256 (R548). -/

namespace Sys2Proof.Machine

/-- The field prime of P-256. -/
abbrev p256 : Nat := 2 ^ 256 - 2 ^ 224 + 2 ^ 192 + 2 ^ 96 - 1
/-- The order of the base point. -/
abbrev n256 : Nat := 0xffffffff00000000ffffffffffffffffbce6faada7179e84f3b9cac2fc632551
/-- The base point. -/
abbrev gx256 : Nat := 0x6b17d1f2e12c4247f8bce6e563a440f277037d812deb33a0f4a13945d898c296
/-- The base point. -/
abbrev gy256 : Nat := 0x4fe342e2fe1a7f9b8ee7eb4a7c0f9e162bce33576b315ececbb6406837bf51f5

/-- `b ^ e mod m`, over the low `n` bits of `e`. -/
def powMod (m : Nat) : Nat → Nat → Nat → Nat
  | 0, _, _ => 1 % m
  | n + 1, b, e => (if e % 2 = 1 then b else 1) * powMod m n (b * b % m) (e / 2) % m

/-- Inverse modulo a prime. -/
def invMod (m x : Nat) : Nat := powMod m 256 (x % m) (m - 2)

/-- Difference modulo `m`. -/
def subMod (m a b : Nat) : Nat := (a + m - b % m) % m

/-- Sum of two affine points; none is the point at infinity. -/
def ecAdd : Option (Nat × Nat) → Option (Nat × Nat) → Option (Nat × Nat)
  | none, q => q
  | q, none => q
  | some (x1, y1), some (x2, y2) =>
    if x1 = x2 ∧ (y1 + y2) % p256 = 0 then none
    else
      let l := if x1 = x2 then (3 * x1 * x1 + (p256 - 3)) * invMod p256 (2 * y1) % p256
               else subMod p256 y2 y1 * invMod p256 (subMod p256 x2 x1) % p256
      let x3 := subMod p256 (l * l) (x1 + x2)
      some (x3, subMod p256 (l * subMod p256 x1 x3) y1)

/-- `k` times a point, over the low `n` bits of `k`. -/
def ecMul : Nat → Nat → Option (Nat × Nat) → Option (Nat × Nat)
  | 0, _, _ => none
  | n + 1, k, q => ecAdd (if k % 2 = 1 then q else none) (ecMul n (k / 2) (ecAdd q q))

/-- The signature (r, s) of hash value `h` with key `d` and nonce `k`; none where the nonce must be replaced. -/
def ecSign (d h k : Nat) : Option (Nat × Nat) :=
  match ecMul 256 k (some (gx256, gy256)) with
  | none => none
  | some (x, _) =>
    let r := x % n256
    let s := invMod n256 k * (h + r * d) % n256
    if r = 0 ∨ s = 0 then none else some (r, s)

/-- The nonce loop of RFC 6979, step h, from the HMAC key and value `kk`, `v`; at most `n` candidates. -/
def nonceLoop (d h : Nat) : Nat → List Byte → List Byte → Option (Nat × Nat)
  | 0, _, _ => none
  | n + 1, kk, v =>
    let v1 := hmac kk v
    let k := beVal v1
    match (if 1 ≤ k ∧ k < n256 then ecSign d h k else none) with
    | some q => some q
    | none =>
      let kk1 := hmac kk (v1 ++ [0])
      nonceLoop d h n kk1 (hmac kk1 v1)

/-- The 64 B signature of a message, r then s, most significant byte first (R542, R548). -/
def ecdsaSign (d : Nat) (msg : List Byte) : List Byte :=
  let hb := sha256 msg
  let h := beVal hb
  let x := beBytes 32 d
  let h1 := beBytes 32 (h % n256)
  let v0 := List.replicate 32 (1 : Byte)
  let k0 := hmac (List.replicate 32 0) (v0 ++ [0] ++ x ++ h1)
  let v1 := hmac k0 v0
  let k1 := hmac k0 (v1 ++ [1] ++ x ++ h1)
  let v2 := hmac k1 v1
  match nonceLoop d h 64 k1 v2 with
  | some (r, s) => beBytes 32 r ++ beBytes 32 s
  | none => List.replicate 64 0

end Sys2Proof.Machine
end

