-- ==== Sys2Proof/Machine/Identity.lean ====
section
/-! DEFINITION. The identity certificate and its digest (21): the fields the manual fixes, and the rest from the die. -/

namespace Sys2Proof.Machine

/-- The die's public key, X then Y, most significant byte first (R542): its private key times the base point. -/
def publicKey : List Byte :=
  match ecMul 256 Config.dieKey.toNat (some (gx256, gy256)) with
  | some (x, y) => beBytes 32 x ++ beBytes 32 y
  | none => List.replicate 64 0

/-- The die's own certificate bytes `a` to `a + n - 1` (log entry 5). -/
def dieBytes (a n : Nat) : List Byte := (List.range n).map (fun i => Config.certByte (a + i))

/-- The 256 B identity certificate (R542). -/
def certificate (p : Part) : List Byte :=
  ([0x4B, 0x43, 0x52, 0x54, 0x01, 0x00] : List Byte) ++ leBytes 2 (match p with | .idp1640 => 0x1640 | .idp0820 => 0x0820) ++
    [0xB0, 0x00, 0, 0] ++ dieBytes 12 20 ++ publicKey ++ List.replicate 32 0 ++ dieBytes 128 64 ++ List.replicate 64 0

/-- The identity digest: SHA-256 of certificate bytes 0 to 127 (R543). -/
def identityDigest (p : Part) : List Byte := sha256 ((certificate p).take 128)

end Sys2Proof.Machine
end

