-- ==== Sys2Proof/Machine/LinkCode.lean ====
section
/-! DEFINITION. The coding of a link lane (R428, R429): 64b/66b blocks, the self-synchronizing scrambler, block lock, and a
frame as block pairs. What R428 takes from IEEE 802.3 Clause 49 without saying it is in log entry 65. -/

namespace Sys2Proof.Machine

/-! ## Blocks (R428) -/

/-- A block before scrambling: data or control, and its 64 payload bits, first transmitted bit lowest. -/
structure PlainBlock where
  control : Bool
  payload : Nat
deriving DecidableEq, Repr

/-- Block type of the idle control block. -/
abbrev btIdle : Nat := 0x1E
/-- Block type of the start block. -/
abbrev btStart : Nat := 0x78

/-- The idle control block: its type, and idle characters, which are 0. -/
def idleBlock : PlainBlock := { control := true, payload := btIdle }
/-- The start block: its type, and seven bytes 0x00. -/
def startBlock66 : PlainBlock := { control := true, payload := btStart }
/-- A data block of eight bytes. -/
def dataBlock (bs : List Byte) : PlainBlock := { control := false, payload := leVal bs }

/-- Sync header: 01 for data, 10 for control, the first transmitted bit lowest. -/
def PlainBlock.sync (b : PlainBlock) : Nat := if b.control then 1 else 2

/-! ## The scrambler x^58 + x^39 + 1 -/

/-- Combine 32 bits with the 58 line bits before them, the oldest lowest: each bit with those 58 and 39 places earlier. -/
def scr32 (h x : Nat) : Nat := (x ^^^ h ^^^ (h >>> 19)) % 2 ^ 32

/-- The last 58 line bits after 32 more. -/
def shift32 (h y : Nat) : Nat := (h >>> 32) ||| ((y % 2 ^ 32) <<< 26)

/-- Scramble 64 payload bits after line history `h`: the line bits and the new history. -/
def scramble (h : BitVec 58) (x : Nat) : Nat × BitVec 58 :=
  let y0 := scr32 h.toNat (x % 2 ^ 32)
  let h1 := shift32 h.toNat y0
  let y1 := scr32 h1 (x >>> 32)
  (y0 + 2 ^ 32 * y1, BitVec.ofNat 58 (shift32 h1 y1))

/-- Descramble 64 line bits after line history `h`. -/
def descramble (h : BitVec 58) (y : Nat) : Nat × BitVec 58 :=
  let x0 := scr32 h.toNat (y % 2 ^ 32)
  let h1 := shift32 h.toNat (y % 2 ^ 32)
  let x1 := scr32 h1 (y >>> 32)
  (x0 + 2 ^ 32 * x1, BitVec.ofNat 58 (shift32 h1 (y >>> 32)))

/-- A block as it goes onto a lane with history `h`: the sync header is not scrambled. -/
def codeBlock (h : BitVec 58) (b : PlainBlock) : BitVec 66 × BitVec 58 :=
  let y := scramble h b.payload
  (BitVec.ofNat 66 (b.sync + 4 * y.1), y.2)

/-- The blocks of one lane, coded in order. -/
def codeLane : BitVec 58 → List PlainBlock → List (BitVec 66) × BitVec 58
  | h, [] => ([], h)
  | h, b :: bs =>
    let x := codeBlock h b
    let r := codeLane x.2 bs
    (x.1 :: r.1, r.2)

/-- A received block: none where its header is invalid (00 or 11). -/
def decodeBlock (h : BitVec 58) (w : BitVec 66) : Option PlainBlock × BitVec 58 :=
  let x := descramble h (w.toNat >>> 2)
  let b : PlainBlock := { control := decide (w.toNat % 4 = 1), payload := x.1 }
  (if w.toNat % 4 = 1 ∨ w.toNat % 4 = 2 then some b else none, x.2)

/-- A block counts as a valid sync header: data, or control of a type in use (R428). -/
def validBlock (b : Option PlainBlock) : Bool :=
  match b with
  | none => false
  | some b => !b.control || decide (b.payload % 256 = btIdle) || decide (b.payload % 256 = btStart)

/-! ## Block lock (R428, R444) -/

/-- One received block in the block lock state machine: 64 valid headers in a row lock; 16 invalid ones of 64, or one while
not locked, unlock and slip (log entry 65). -/
def LaneRx.feed (r : LaneRx) (w : BitVec 66) : LaneRx :=
  let d := decodeBlock r.hist w
  let n := r.count + 1
  let bad := r.bad + b2n (!validBlock d.1)
  if bad > 0 ∧ (r.lock = false ∨ bad ≥ 16) then { hist := d.2, lock := false, count := 0, bad := 0 }
  else if n < 64 then { r with hist := d.2, count := n, bad := bad }
  else { hist := d.2, lock := r.lock || decide (bad = 0), count := 0, bad := 0 }

/-- A lane after it has received blocks. -/
def LaneRx.run (r : LaneRx) (ws : List (BitVec 66)) : LaneRx := ws.foldl LaneRx.feed r

/-! ## A frame as block pairs (R429) -/

/-- Block pairs that a frame with a payload of `n` bytes occupies. -/
def framePairs (n : Nat) : Nat := 1 + cdiv (n + 20) 16

/-- The bytes of a frame in units of 16, the last padded with 0x00. -/
def frameUnits : Nat → List Byte → List (List Byte)
  | 0, _ => []
  | n + 1, bs => (bs.take 16 ++ List.replicate (16 - bs.length) 0) :: frameUnits n (bs.drop 16)

/-- The blocks of a frame on lane 0 or 1: start or idle, then bytes 0-7 or 8-15 of each unit. -/
def frameBlocks (lane1 : Bool) (bs : List Byte) : List PlainBlock :=
  (if lane1 then idleBlock else startBlock66) ::
    (frameUnits (cdiv bs.length 16) bs).map (fun u => dataBlock ((if lane1 then u.drop 8 else u).take 8))

/-- The payload bytes of received data blocks of both lanes, 16 per pair; a pair that is not of data ends the frame. -/
def pairBytes : BitVec 58 → BitVec 58 → List (BitVec 66 × BitVec 66) → List Byte
  | _, _, [] => []
  | h0, h1, w :: ws =>
    match decodeBlock h0 w.1, decodeBlock h1 w.2 with
    | (some a, g0), (some b, g1) =>
      if a.control ∨ b.control then [] else leBytes 8 a.payload ++ leBytes 8 b.payload ++ pairBytes g0 g1 ws
    | _, _ => []

/-- The bytes that follow a received start pair. -/
def receivedBytes (h0 h1 : BitVec 58) : List (BitVec 66 × BitVec 66) → List Byte
  | [] => []
  | w :: ws =>
    match decodeBlock h0 w.1, decodeBlock h1 w.2 with
    | (some a, g0), (some b, g1) => if a = startBlock66 ∧ b = idleBlock then pairBytes g0 g1 ws else []
    | _, _ => []

/-- A received frame without its padding: the receiver finds its end from LENGTH, bytes 6 and 7 of the header. -/
def unpadded (bs : List Byte) : List Byte := bs.take (20 + leVal ((bs.drop 6).take 2))

end Sys2Proof.Machine
end

