-- ==== Sys2Proof/Machine/LinkCore.lean ====
section
/-! DEFINITION. The links (17): frames as bytes, their transmission with replay and fault injection, and the transitions
of a port's state. -/

namespace Sys2Proof.Machine

/-! ## Frames (R432, R433) -/

abbrev lfHello : Nat := 0x1
abbrev lfAck : Nat := 0x2
abbrev lfNak : Nat := 0x3
abbrev lfPause : Nat := 0x4
abbrev lfReq : Nat := 0x8
abbrev lfRdata : Nat := 0x9
abbrev lfWdata : Nat := 0xA
abbrev lfWdone : Nat := 0xB
abbrev lfRefuse : Nat := 0xC
abbrev lfCancel : Nat := 0xD
abbrev lfCdone : Nat := 0xE

/-- A frame type is sequenced (R433). -/
def isSequenced (t : Nat) : Bool := decide (8 ≤ t ∧ t ≤ 14)

/-- LENGTH lies within the limit of the frame's type (R433). -/
def lengthOk (t n : Nat) : Bool :=
  if t = lfHello then decide (n = 96)
  else if t = lfReq ∨ t = lfRdata ∨ t = lfWdata then decide (16 ≤ n) && decide (n ≤ 4096) && decide (n % 16 = 0)
  else decide (n = 0)

/-- TYPE is one of the listed types (R433). -/
def typeListed (t : Nat) : Bool := isSequenced t || decide (t = lfHello ∨ t = lfAck ∨ t = lfNak ∨ t = lfPause)

/-- The device's chip ID (R433). -/
def chipId (s : State) : Nat := s.straps.addr.toNat

/-- The header and payload of a frame from port `p` with SEQ `seq` to chip `dst`, and its CRC-32 (R432). -/
def frameBytesOf (s : State) (p seq dst : Nat) (f : TxFrame) : List Byte :=
  let q := s.port p
  let body := [byte (f.typ + 16 * b2n f.write), byte (chipId s + 16 * dst)] ++ leBytes 2 seq ++ leBytes 2 q.expect ++
    leBytes 2 f.payload.length ++ [byte f.handle, byte f.xid] ++ leBytes 2 f.block ++ leBytes 2 f.offset ++
    leBytes 2 q.granted ++ f.payload
  body ++ leBytes 4 (crc32 body)

/-- A frame as received (R432). -/
structure RxFrame where
  typ : Nat
  write : Bool
  src : Nat
  dst : Nat
  seq : Nat
  ack : Nat
  len : Nat
  handle : Nat
  xid : Nat
  block : Nat
  offset : Nat
  credit : Nat
  payload : List Byte
deriving DecidableEq, Repr

/-- Little-endian field of `n` bytes at `o` of a byte string. -/
def leAt (bs : List Byte) (o n : Nat) : Nat := leVal ((bs.drop o).take n)

/-- The fields of a received frame. -/
def parseFrame (bs : List Byte) : RxFrame :=
  { typ := leAt bs 0 1 % 16, write := nbit (leAt bs 0 1) 4, src := leAt bs 1 1 % 8, dst := fld (leAt bs 1 1) 4 3,
    seq := leAt bs 2 2, ack := leAt bs 4 2, len := leAt bs 6 2, handle := leAt bs 8 1 % 16, xid := leAt bs 9 1,
    block := leAt bs 10 2, offset := leAt bs 12 2, credit := leAt bs 14 2, payload := (bs.drop 16).take (leAt bs 6 2) }

/-- The frame's CRC-32 is right. -/
def crcOk (bs : List Byte) : Bool :=
  decide (20 ≤ bs.length) && decide (crc32 (bs.take (bs.length - 4)) = leVal (bs.drop (bs.length - 4)))

/-- The frame is kept by the receiver (R433). -/
def frameKept (s : State) (bs : List Byte) : Bool :=
  let f := parseFrame bs
  crcOk bs && typeListed f.typ && (decide (f.typ = lfHello) || decide (f.dst = chipId s)) && lengthOk f.typ f.len &&
    decide (bs.length = 20 + f.len)

/-! ## Onto the lanes -/

/-- Port `p` puts a frame on its lanes: its block pairs go through the scramblers of both lanes (R428, R429). The idle pairs
between frames are time's and are left out (log entry 65). -/
def putLanes (p : Nat) (bs : List Byte) (s : State) : State :=
  s.modPort p (fun q =>
    let a := codeLane q.scr0 (frameBlocks false bs)
    let b := codeLane q.scr1 (frameBlocks true bs)
    { q with sent := q.sent ++ [bs], wire := q.wire ++ a.1.zip b.1, scr0 := a.2, scr1 := b.2 })

/-- Chip ID of port `p`'s partner. -/
def partnerOf (s : State) (p : Nat) : Nat := s.fld (LNK p) 0x04 12 3

/-- A control frame without payload. -/
def controlFrame (t : Nat) : TxFrame :=
  { typ := t, write := false, handle := 0, xid := 0, block := 0, offset := 0, payload := [] }

/-- Send a control frame of type `t` with SEQ field `seq`. -/
def sendControl (p t seq : Nat) (s : State) : State := putLanes p (frameBytesOf s p seq (partnerOf s p) (controlFrame t)) s

/-- LTX cycles as RIM cycles with RIM on the PLL: 3.2 ns against 5 ns, rounded up (log entry 41). -/
def ltx (n : Nat) : Nat := cdiv (16 * n) 25

/-- Send NAK for E unless one for the same E went out within 8,192 LTX (R437) or the port has stopped transmitting (R457). -/
def sendNak (p : Nat) (s : State) : State :=
  let q := s.port p
  let again := match q.nak with | some (e, t) => decide (e = q.expect) && decide (s.now < t + ltx 8192) | none => false
  if q.quiet || again then s
  else
    bump16 (LNK p) 0x0A 1
      ((sendControl p lfNak q.expect s).modPort p (fun q => { q with nak := some (q.expect, s.now) }))

/-! ## Fault injection (R458, R459) -/

/-- One step of the injection generator. -/
def lfsrStep (x : Word) : Word := if wbit x 0 then (x >>> 1) ^^^ 0xB400 else x >>> 1

/-- Invert bit `b` of a byte string, counted from bit 0 of byte 0. -/
def flipBit (b : Nat) (bs : List Byte) : List Byte := modAt bs (b / 8) (fun x => x ^^^ byte (2 ^ (b % 8)))

/-- Send the frame that a REORDER holds back, if any. -/
def flushLate (p : Nat) (s : State) : State :=
  match (s.port p).late with
  | some bs => putLanes p bs (s.modPort p (fun q => { q with late := none }))
  | none => s

/-- A sequenced frame goes onto the lanes, followed by a frame held back. -/
def sendPlain (p : Nat) (bs : List Byte) (s : State) : State := flushLate p (putLanes p bs s)

/-- An injection fires on a frame: INJ_FIRED, and the ACTION (R459). -/
def inject (p : Nat) (bs : List Byte) (s : State) : State :=
  let s1 := s.setB (LNK p) 0x01 13
  match s.fld (LNK p) 0x05 0 3 with
  | 1 => s1
  | 2 => sendPlain p (flipBit ((s1.port p).lfsr.toNat % (8 * bs.length)) bs) s1
  | 3 => (flushLate p s1).modPort p (fun q => { q with late := some bs })
  | 4 => sendPlain p bs (putLanes p bs s1)
  | _ => sendPlain p bs s1

/-- The rate injection fires on generator state `x` (R459). -/
def rateFires (k : Nat) (x : Word) : Bool := decide (k ≠ 0) && decide (x.toNat % 2 ^ k = 0)

/-- One transmission of a sequenced frame: an eligible one steps the generator and may be injected (R458, R459). -/
def transmit (p seq : Nat) (f : TxFrame) (s : State) : State :=
  let bs := frameBytesOf s p seq (partnerOf s p) f
  let rate := s.bit (LNK p) 0x05 14
  let shot := (s.port p).shot
  if rate = false ∧ shot = false then sendPlain p bs s
  else
    let x := lfsrStep (s.port p).lfsr
    let s1 := s.modPort p (fun q => { q with lfsr := x, shot := false })
    if shot || (rate && rateFires (s.fld (LNK p) 0x06 0 4) x) then inject p bs s1 else sendPlain p bs s1

/-! ## Sequenced transmission (R434, R435, R438, R440) -/

/-- Bytes a frame takes in the replay buffer (R435). -/
def frameSize (f : TxFrame) : Nat := 20 + f.payload.length

/-- Credits a frame costs (R440). -/
def creditCost (n : Nat) : Nat := cdiv n 256

/-- Bytes held for replay. -/
def replayBytes (q : Port) : Nat := (q.replay.map (fun x => frameSize x.2)).foldl (· + ·) 0

/-- Credits granted and not yet used. -/
def creditsFree (q : Port) : Nat := (q.limit + 65536 - q.used) % 65536

/-- The frame at the head of the queue can go out now (R435, R440, R457). -/
def canSend (q : Port) : Bool :=
  match q.queue with
  | [] => false
  | f :: _ =>
    decide (q.st = .up) && !q.quiet && decide (replayBytes q + frameSize f ≤ 65536) &&
      decide (creditCost (frameSize f) ≤ creditsFree q)

/-- Queue a sequenced frame for transmission. -/
def enqueue (p : Nat) (f : TxFrame) (s : State) : State := s.modPort p (fun q => { q with queue := q.queue ++ [f] })

/-- Send the head of the queue for the first time. -/
def sendHead (p : Nat) (s : State) : State :=
  match (s.port p).queue with
  | [] => s
  | f :: rest =>
    let n := (s.port p).txNext
    transmit p n f (s.modPort p (fun q =>
      { q with queue := rest, txNext := (n + 1) % 65536, replay := q.replay ++ [(n, f)],
               used := (q.used + creditCost (frameSize f)) % 65536 }))

/-- `a` lies from `b` onward in sequence order modulo 2^16. -/
def seqFrom (a b : Nat) : Bool := decide ((a + 65536 - b) % 65536 < 32768)

/-- Retransmit every held frame from SEQ `n` onward (R438). -/
def replayFrom (p n : Nat) (s : State) : State :=
  foldS (fun (x : Nat × TxFrame) s => bump16 (LNK p) 0x09 1 (transmit p x.1 x.2 s))
    ((s.port p).replay.filter (fun x => seqFrom x.1 n)) s

/-- A received ACK field releases the frames before it (R435); an advance restarts the replay timer (R438). -/
def takeAck (p a : Nat) (s : State) : State :=
  let q := s.port p
  let keep := q.replay.filter (fun x => seqFrom x.1 a)
  if seqFrom q.txNext a = false ∨ keep.length = q.replay.length then s
  else s.modPort p (fun q => { q with replay := keep, firings := 0 })

/-- A received CREDIT field advances the credit granted by the partner (R440). -/
def takeCredit (p c : Nat) (s : State) : State :=
  s.modPort p (fun q => if seqFrom c q.limit then { q with limit := c } else q)

/-- Ensure that a frame with the new ACK goes out: a frame due carries it, else an ACK frame does (R439). -/
def ensureAck (p : Nat) (s : State) : State :=
  if canSend (s.port p) || (s.port p).quiet then s else sendControl p lfAck 0 s

/-! ## The port's state (R441, R444 to R448) -/

/-- REMOTE operations travelling on port `p` that have not finished their blocks. -/
def portOps (s : State) (p : Nat) : List PumpOp :=
  s.ops.filter (fun o => decide ((parseDesc o.desc).op = .remote) && decide (o.port = p) && !o.moved)

/-- Put port `p` into a state; a change raises LINK (R441). -/
def setLink (p : Nat) (st : LinkSt) (s : State) : State :=
  if (s.port p).st = st then s else raise evLink (s.modPort p (fun q => { q with st := st }))

/-- The transfer counts of port `p` stop (R455). -/
def freezeXfers (p : Nat) (s : State) : State :=
  { s with ops := s.ops.map (fun o =>
      match o.xferFrom with
      | some t => if o.port = p then { o with xferFrom := none, xferCount := o.xferCount + (s.now - t) } else o
      | none => o) }

/-- The transfer counts of port `p` run (R455). -/
def runXfers (p : Nat) (s : State) : State :=
  let ids := (portOps s p).map (fun o => o.id)
  { s with ops := s.ops.map (fun o => if ids.contains o.id then { o with xferFrom := some s.now } else o) }

/-- Port `p` leaves Up for Retry (R444, R446). -/
def leaveUp (p reason : Nat) (paused : Bool) (s : State) : State :=
  let s1 := freezeXfers p s
  setLink p .retry (s1.modPort p (fun q =>
    { q with reason := reason, paused := paused, attempts := 0, seen := false, retryT := (s.rd (LNK p) 0x02).toNat,
             retryMax := (s.rd (LNK p) 0x03).toNat, retryFrom := s.now }))

/-- The two receive lanes of a port both hold block lock. -/
def Port.locked (q : Port) : Bool := q.rx0.lock && q.rx1.lock

/-- The receive lanes of port `p` receive blocks. -/
def feedLanes (p : Nat) (b0 b1 : List (BitVec 66)) (s : State) : State :=
  s.modPort p (fun q => { q with rx0 := q.rx0.run b0, rx1 := q.rx1.run b1 })

/-- Every REMOTE operation on port `p` completes LOST (R445, R447). -/
def loseTransfers (p : Nat) (s : State) : State :=
  (foldS (fun (o : PumpOp) s => completeOp { o with fail := stLost } s) (portOps s p) s).modPort p
    (fun q => { q with xids := [] })

/-- Peer service of port `p` ends: operations in service complete locally, nothing further is sent (R447). -/
def endPeerService (p : Nat) (s : State) : State :=
  let mine := s.ops.filter (fun o => match o.issuer with | .peer n _ => n == p | _ => false)
  (foldS (fun (o : PumpOp) s => completeOp o s) mine s).modPort p (fun q => { q with peers := [] })

/-- The port's sequence state starts afresh (R434, R445, R447). -/
def clearSequence (p : Nat) (s : State) : State :=
  s.modPort p (fun q =>
    { q with txNext := 0, expect := 0, replay := [], held := [], nak := none, firings := 0, queue := [], late := none })

/-- Port `p` enters Down, Lost or Retired (R447). -/
def killPort (p : Nat) (st : LinkSt) (s : State) : State :=
  let s1 := endPeerService p (loseTransfers p (freezeXfers p s))
  let s2 := (clearSequence p s1).modPort p (fun q =>
    { q with hasState := false, paused := false, seen := false, quiet := false, wasUp := false,
             rx0 := LaneRx.reset, rx1 := LaneRx.reset })
  setLink p st (s2.clrB (LNK p) 0x04 15)

/-- The port acts on ENABLE and RETIRE of LNK_CTRL on the next LTX edges (R441, R448). -/
def linkControl (p : Nat) (s : State) : State :=
  let en := s.bit (LNK p) 0x00 15
  let ret := s.bit (LNK p) 0x00 14
  if ret then (if (s.port p).st = .retired then s else killPort p .retired s)
  else if en then
    let s1 := if (s.port p).st = .retired then setLink p .down s else s
    if (s1.port p).st = .down then setLink p .training (s1.modPort p (fun q => { q with seen := false })) else s1
  else if (s.port p).st = .down then s
  else killPort p .down s

/-- RETRY_STEP: a step of the retry window passes (R446). -/
def retryStep (p : Nat) (s : State) : State :=
  let q := s.port p
  if q.st = .retry ∧ q.paused = false then
    (s.reach (q.retryFrom + q.retryT * 1024 * (q.attempts + 1))).modPort p (fun q =>
      { q with attempts := min 31 (q.attempts + 1) })
  else s

/-- RETRY_WINDOW_END: the retry window runs out, and the port is Lost (R446, R462). -/
def retryWindowEnd (p : Nat) (s : State) : State :=
  let q := s.port p
  if q.st = .retry ∧ q.paused = false then
    let s1 := (s.reach (q.retryFrom + q.retryT * q.retryMax * 1024)).modPort p (fun q =>
      { q with attempts := min 31 q.retryMax })
    faultRecord 13 p 0xFF 0 q.reason 0 (killPort p .lost s1)
  else s

/-- BLOCK_LOCK_REGAINED: the lanes of port `p` receive blocks. When both hold block lock again, the retry window of a PAUSED
port starts afresh (R446). -/
def blockLockRegained (p : Nat) (b0 b1 : List (BitVec 66)) (s : State) : State :=
  let q := s.port p
  let s1 := feedLanes p b0 b1 s
  if q.st = .retry ∧ q.paused = true ∧ q.locked = false ∧ (s1.port p).locked = true then
    s1.modPort p (fun q => { q with paused := false, attempts := 0, retryFrom := s.now })
  else s1

/-- A lane loses block lock as it receives blocks. -/
def LaneRx.loses : LaneRx → List (BitVec 66) → Bool
  | _, [] => false
  | r, w :: ws => (r.lock && !(r.feed w).lock) || (r.feed w).loses ws

/-- Receive lane 0 or 1 of a port. -/
def Port.rx (q : Port) (lane : Nat) : LaneRx := if lane = 0 then q.rx0 else q.rx1

/-- LANE_LOCK_LOST: lane `lane` of port `p` receives blocks on which it may lose block lock; an Up port then leaves Up. 64
block pairs without a valid sync header lose it too (R444). -/
def laneLockLost (p lane : Nat) (ws : List (BitVec 66)) (s : State) : State :=
  let q := s.port p
  let s1 := if lane = 0 then feedLanes p ws [] s else feedLanes p [] ws s
  if q.st = .up ∧ (q.rx lane).loses ws = true then leaveUp p 1 false s1 else s1

/-- REPLAY_TIMER: the timer fires with frames held; after four firings in a row the port leaves Up (R438). -/
def replayTimer (p : Nat) (s : State) : State :=
  let q := s.port p
  if q.st ≠ .up ∨ q.replay = [] then s
  else
    let s1 := replayFrom p (q.replay.headD (0, controlFrame 0)).1 (s.modPort p (fun q => { q with firings := q.firings + 1 }))
    if q.firings + 1 ≥ 4 then leaveUp p 2 false s1 else s1

/-- HELD_FRAME_TIMEOUT: a held frame has waited 64 LTX with E unchanged (R437). -/
def heldFrameTimeout (p : Nat) (s : State) : State :=
  if (s.port p).st = .up ∧ (s.port p).held ≠ [] then sendNak p s else s

end Sys2Proof.Machine
end

