-- ==== Sys2Proof/Machine/LinkPeer.lean ====
section
/-! DEFINITION. REMOTE operations over a link, at the requester (R449 to R456) and at the serving device (R285, R286,
R453). -/

namespace Sys2Proof.Machine

/-! ## The requester (R451, R452, R454) -/

/-- Address of lane `i` of block `e` at the local endpoint (R268). -/
def remoteLane (d : Desc) (e i : Nat) : Int := (d.local_.base : Int) + ((16 * (e * d.xstride + i) : Nat) : Int)

/-- The entry bytes of a REQ frame: the coordinates, and E0 in bytes 10-11 (log entry 42). -/
def reqEntry (d : Desc) (bs : List Byte) : List Byte :=
  bs.take 10 ++ leBytes 2 (at0 d.ext 0) ++ List.replicate 4 0

/-- Split the usable entries into REQ payloads of consecutive blocks, at most 256 entries each: (first block, bytes). -/
def reqRuns (d : Desc) : Nat → List (Option (List Byte)) → List (Nat × List Byte) → List (Nat × List Byte)
  | _, [], acc => acc.reverse
  | e, none :: es, acc => reqRuns d (e + 1) es acc
  | e, some bs :: es, (b, p) :: acc =>
    if b + p.length / 16 = e ∧ p.length < 4096 then reqRuns d (e + 1) es ((b, p ++ reqEntry d bs) :: acc)
    else reqRuns d (e + 1) es ((e, reqEntry d bs) :: (b, p) :: acc)
  | e, some bs :: es, [] => reqRuns d (e + 1) es [(e, reqEntry d bs)]

/-- A frame of operation `o`. -/
def opFrame (o : PumpOp) (d : Desc) (t block offset : Nat) (payload : List Byte) : TxFrame :=
  { typ := t, write := decide (t = lfReq) && !d.isRead, handle := d.handle, xid := o.xid.getD 0, block := block,
    offset := offset, payload := payload }

/-- Split a block's lanes into payloads of at most 256 lanes: (offset in lanes, bytes). -/
def lanePayloads : Nat → Nat → List (List Byte) → List (Nat × List Byte)
  | 0, _, _ => []
  | n + 1, i, ls => if ls.isEmpty then [] else (i, (ls.take 256).flatten) :: lanePayloads n (i + 256) (ls.drop 256)

/-- Queue the WDATA frames of block `e` of a REMOTE WRITE, reading its lanes (R452). -/
def queueBlock (o : PumpOp) (d : Desc) (e : Nat) (m : Moving) : Moving :=
  let (m1, ls) := collect o o.access d d.src ((List.range (at0 d.ext 0)).map (fun i => some (remoteLane d e i))) m
  let ps := lanePayloads (at0 d.ext 0) 0 ls
  { m1 with s := foldS (fun (x : Nat × List Byte) s => enqueue o.port (opFrame o d lfWdata e x.1 x.2) s) ps m1.s }

/-- All blocks of an operation are done or refused: only its completion remains (R451, R452). -/
def settleRemote (i : Nat) (s : State) : State := s.modOp i (fun o => { o with moved := o.moved || decide (o.openBlocks = 0) })

/-- Take an XID for operation `o` if it still needs one (R450). -/
def takeXid (i : Nat) (s : State) : State :=
  match s.op? i with
  | none => s
  | some o =>
    if o.xid.isSome then s
    else
      match lowestXid (s.port o.port) with
      | none => s
      | some x => noteXid { o with xid := some x } (s.modOp i (fun o => { o with xid := some x }))

/-- REMOTE_READ and REMOTE_WRITE: operation `i` sends its list, and for a write its blocks, by its port; an operation
without an XID waits for one (R449 to R452, R621). -/
def remoteSend (read : Bool) (i : Nat) (s : State) : State :=
  let s0 : State := match s.op? i with
    | some o => if (parseDesc o.desc).op = DOp.remote ∧ (parseDesc o.desc).isRead = read then readLateEntries i (takeXid i s) else s
    | none => s
  match s0.op? i with
  | none => s0
  | some o =>
    let d := parseDesc o.desc
    if d.op ≠ .remote ∨ d.isRead ≠ read ∨ o.started = true ∨ o.xid = none then s0
    else
      let bad := o.judged.map (fun j => j.1)
      let es := (List.range d.listLen).map (fun e =>
        if bad.contains e then none else some ((o.entries.drop (16 * e)).take 16))
      let s1 := foldS (fun (x : Nat × List Byte) s => enqueue o.port (opFrame o d lfReq x.1 0 x.2) s) (reqRuns d 0 es []) s0
      let m0 : Moving := { s := s1, prot := 0, ecc := 0, still := false, drop := 0, short := 0 }
      let m1 := bad.foldl (fun m e => countFlaw o e 1 m) m0
      let m2 := if read then m1
        else ((List.range d.listLen).filter (fun e => !bad.contains e)).foldl (fun m e => queueBlock o d e m) m1
      settleRemote i (m2.s.modOp i (fun o =>
        { o with started := true, prot := m2.prot, ecc := m2.ecc, fail := if m2.still then stStill else o.fail,
                 blocks := o.blocks.mapIdx (fun e (b : RemoteBlock) => if bad.contains e then { b with done := true } else b) }))

/-- The operation on port `p` that uses XID `x`; none when it is not in use for an open operation (R456). -/
def xidOp (s : State) (p x : Nat) : Option PumpOp :=
  s.ops.find? (fun o => decide (o.port = p) && decide (o.xid = some x) && !o.moved)

/-- An RDATA payload is written into the local destination; the block completes with its last lane (R451). -/
def takeRdata (p : Nat) (f : RxFrame) (s : State) : State :=
  match xidOp s p f.xid with
  | none => s
  | some o =>
    let d := parseDesc o.desc
    match o.blocks[f.block]? with
    | none => s
    | some b =>
      if d.isRead = false ∨ b.done = true ∨ b.refused = true then s
      else
        let n := min (f.len / 16) (at0 d.ext 0 - f.offset)
        let lanes := (List.range n).map (fun i => (some (remoteLane d f.block (f.offset + i)), (f.payload.drop (16 * i)).take 16))
        let m0 : Moving := { s := s, prot := 0, ecc := 0, still := false, drop := 0, short := 0 }
        let m := deliver o o.access d.dst lanes m0
        let got := b.got ++ (List.range n).map (fun i => f.offset + i)
        let done := (List.range (at0 d.ext 0)).all (fun i => got.contains i)
        settleRemote o.id (m.s.modOp o.id (fun o =>
          { o with prot := o.prot + m.prot, ecc := o.ecc + m.ecc, fail := if m.still then stStill else o.fail,
                   blocks := modAt o.blocks f.block (fun b => { b with got := got, done := done }) }))

/-- A WDONE completes block `f.block` of a REMOTE WRITE (R452). -/
def takeWdone (p : Nat) (f : RxFrame) (s : State) : State :=
  match xidOp s p f.xid with
  | none => s
  | some o =>
    if (parseDesc o.desc).isRead then s
    else settleRemote o.id (s.modOp o.id (fun o =>
      { o with blocks := modAt o.blocks f.block (fun b => { b with done := !b.refused }) }))

/-- A REFUSE marks block `f.block` refused (R451, R452). -/
def takeRefuse (p : Nat) (f : RxFrame) (s : State) : State :=
  match xidOp s p f.xid with
  | none => s
  | some o => settleRemote o.id (s.modOp o.id (fun o =>
      { o with blocks := modAt o.blocks f.block (fun b => { b with refused := !b.done }) }))

/-- XFER_TIMEOUT: the transfer count of operation `i` reaches its limit while its port is Up: TIMEOUT, or the status that
R276 puts before it, and a CANCEL of the XID, which stays in use until its CDONE (R450, R455). -/
def xferTimeout (i : Nat) (s : State) : State :=
  match s.op? i with
  | none => s
  | some o =>
    match o.xferFrom with
    | none => s
    | some t =>
      if o.moved then s
      else
        let fail := if o.fail = stStill then stStill else stTimeout
        let s1 := completeOp { o with fail := fail, xid := none } (s.reach (t + (o.xferLimit - o.xferCount)))
        match o.xid with
        | none => s1
        | some x => enqueue o.port { (controlFrame lfCancel) with xid := x } s1

/-! ## The serving device (R285, R286, R453) -/

/-- Word `i` of export handle `h`. -/
def exportWord (s : State) (h i : Nat) : Word := (assoc s.tables.exportTbl (8 * h + i)).getD 0

/-- Index of the block with the given coordinates, or none when one lies outside the grid (R285, R286). -/
def gridIndex (s : State) (h : Nat) (cs : List Int) : Option Nat :=
  let n := wfld (exportWord s h 0) 0 3
  let g (d : Nat) : Nat := if d < n ∧ d < 4 then (exportWord s h (4 + d)).toNat else 1
  if (List.range 5).all (fun d => decide (0 ≤ atI cs d) && decide (atI cs d < (g d : Int))) then
    some ((atI cs 0).toNat + g 0 * ((atI cs 1).toNat + g 1 * ((atI cs 2).toNat + g 2 * (atI cs 3).toNat)))
  else none

/-- Block size of export handle `h` in lanes. -/
def exportLanes (s : State) (h : Nat) : Nat := (exportWord s h 3).toNat

/-- Virtual addresses of `n` lanes from byte `base`. -/
def lanesFrom (base n : Nat) : List Int := (List.range n).map (fun i => ((base + 16 * i : Nat) : Int))

/-- Virtual byte address of a requested block, or none when it is refused (R286). An E0 of 0 in the entry is not
compared (log entry 42). -/
def peerBase (s : State) (b : PeerBlock) : Option Nat :=
  let w := exportWord s b.handle 0
  let n := exportLanes s b.handle
  let e0 := leAt b.entry 10 2
  let ctx := wfld w 8 5
  if wbit w 15 = false ∨ (e0 ≠ 0 ∧ e0 ≠ n) ∨ (b.write = true ∧ wbit w 14 = false) then none
  else
    match gridIndex s b.handle (entryCoords b.entry) with
    | none => none
    | some k =>
      let base := (exportWord s b.handle 1).toNat + 65536 * (exportWord s b.handle 2).toNat + 16 * n * k
      if (lanesFrom base n).all (fun a => (translate s ctx (if b.write then .write else .read) true a).isSome) then some base
      else none

/-- An answer frame for a block. -/
def answer (b : PeerBlock) (t offset : Nat) (payload : List Byte) : TxFrame :=
  { typ := t, write := false, handle := b.handle, xid := b.xid, block := b.block, offset := offset, payload := payload }

/-- The tagged operation of a served block (R453): its context, address and size are fixed when its service starts. -/
def peerOp (s : State) (p pump base : Nat) (b : PeerBlock) : PumpOp :=
  { id := s.nextOp, pump := pump, issuer := .peer p b.xid, handle := b.handle, ctx := wfld (exportWord s b.handle 0) 8 5,
    lane := b.block, desc := [], entries := b.entry, listBase := base, refCount := 0, seen := exportLanes s b.handle, tickNo := s.tick.number,
    filled := false, cut := false, started := false, waitEnd := none, prior := [], steps := 0, shown := 0, buf := [],
    judged := [], moved := false, prot := 0, ecc := 0, defer := 0, short := 0, drop := 0, fail := 0, port := p, xid := none, blocks := [], xferFrom := none, xferCount := 0, xferLimit := 0 }

/-- The block `b` is the one named. -/
def PeerBlock.is (b : PeerBlock) (x e : Nat) : Bool := decide (b.xid = x) && decide (b.block = e)

/-- Credits that a block's frames hold in the receive buffer: its REQ, and WDATA not yet written (R440). -/
def PeerBlock.holds (b : PeerBlock) : Nat := b.credit + (b.data.map (fun x => creditCost (20 + x.2.length))).foldl (· + ·) 0

/-- Frames of `n` credits leave port `p`'s receive buffer (R440). -/
def leaveBuffer (p n : Nat) (s : State) : State := s.modPort p (fun q => { q with granted := (q.granted + n) % 65536 })

/-- The blocks `gone` leave port `p`'s list, and what they hold leaves its buffer. -/
def dropBlocks (p : Nat) (gone : PeerBlock → Bool) (s : State) : State :=
  leaveBuffer p ((((s.port p).peers.filter gone).map PeerBlock.holds).foldl (· + ·) 0)
    (s.modPort p (fun q => { q with peers := q.peers.filter (fun b => !gone b) }))

/-- Change the block of port `p`'s list that is named. -/
def modBlock (p x e : Nat) (f : PeerBlock → PeerBlock) (s : State) : State :=
  s.modPort p (fun q => { q with peers := q.peers.map (fun c => if c.is x e then f c else c) })

/-- Drop a block from port `p`'s list. -/
def dropBlock (p x e : Nat) (s : State) : State := dropBlocks p (fun b => b.is x e) s

/-- Refuse block `b` (R286, R469). -/
def refuseBlock (p : Nat) (b : PeerBlock) (s : State) : State :=
  enqueue p (answer b lfRefuse 0 []) (dropBlock p b.xid b.block s)

/-- Serve a read block whole: its pieces, then its RDATA frames (R451). -/
def serveRead (p : Nat) (o : PumpOp) (b : PeerBlock) (s : State) : State :=
  let m0 : Moving := { s := s, prot := 0, ecc := 0, still := false, drop := 0, short := 0 }
  let (m, ls) := readLanes { ctx := o.ctx, peer := true, chan := none } (parseDesc []) ((lanesFrom o.listBase o.seen).map some) m0
  let s1 := foldS (fun (x : Nat × List Byte) s => enqueue p (answer b lfRdata x.1 x.2) s) (lanePayloads ls.length 0 ls)
    (dropBlock p b.xid b.block m.s)
  completeOp { o with ecc := m.ecc, prot := m.prot, fail := if m.still then stStill else 0 } s1

/-- Write the WDATA that has arrived for a block in service, and finish it with its last lane (R452). -/
def serveWrite (p : Nat) (i : Nat) (b : PeerBlock) (s : State) : State :=
  match s.op? i with
  | none => s
  | some o =>
    let as := lanesFrom o.listBase o.seen
    let m0 : Moving := { s := s, prot := o.prot, ecc := o.ecc, still := false, drop := 0, short := 0 }
    let lanes := b.data.flatMap (fun x => (List.range (x.2.length / 16)).filterMap (fun j =>
      (as[x.1 + j]?).map (fun a => (some a, (x.2.drop (16 * j)).take 16))))
    let m := writeLanes { ctx := o.ctx, peer := true, chan := none } lanes m0
    let o1 := { o with ecc := m.ecc, prot := m.prot, short := 0, refCount := o.refCount + lanes.length,
                       fail := if m.still then stStill else o.fail }
    let s1 := leaveBuffer p ({ b with credit := 0 } : PeerBlock).holds
      (modBlock p b.xid b.block (fun c => { c with data := [] }) (m.s.modOp i (fun _ => o1)))
    if as.length ≤ o1.refCount then enqueue p (answer b lfWdone 0 []) (dropBlock p b.xid b.block (completeOp o1 s1))
    else s1

/-- Block `b` of port `p` takes a tag on pump `k` and its service starts (R229, R453): its REQ no longer waits for it in the
receive buffer (R440). -/
def startBlock (p k : Nat) (b : PeerBlock) (s : State) : State :=
  match peerBase s b with
  | none => refuseBlock p b s
  | some base =>
    let o := peerOp s p k base b
    let s1 := leaveBuffer p b.credit (modBlock p b.xid b.block (fun c => { c with credit := 0 })
      (noteTag o { s with ops := s.ops ++ [o], nextOp := s.nextOp + 1 }))
    let b1 := { b with credit := 0 }
    if b.write then serveWrite p o.id b1 (modBlock p b.xid b.block (fun c => { c with op := some o.id }) s1)
    else serveRead p o b1 s1

/-- Mark the stall of a block that finds no tag, once (R231). -/
def stallBlock (p : Nat) (b : PeerBlock) (s : State) : State :=
  if b.stalled then s
  else tagStall (modBlock p b.xid b.block (fun c => { c with stalled := true }) s)

/-- Serve the next waiting block of port `p`: `granted` when a tag is granted to it by R232; the flag says that one was
taken or refused. -/
def serveNext (granted : Bool) (p : Nat) (s : State) : State × Bool :=
  match (s.port p).peers.find? (fun b => b.op.isNone) with
  | none => (s, false)
  | some b =>
    match servingPump s p with
    | none => (refuseBlock p b s, true)
    | some k =>
      if pumpAsleep s k then (s, false)
      else if 16 ≤ peerHeld s k then (stallBlock p b s, false)
      else if freeTags s ≤ (if granted then 0 else (stalledEngines s true).length + slotsAhead s + peersAhead s p) then
        (stallBlock p b s, false)
      else (startBlock p k b (s.modPort p (fun q => { q with turn := !q.turn })), true)

/-- Serve port `p`'s waiting blocks in order until one must wait. -/
def servePort : Nat → Nat → State → State
  | 0, _, s => s
  | n + 1, p, s =>
    let r := serveNext false p s
    if r.2 then servePort n p r.1 else r.1

/-- Serve every waiting block of port `p` that can start. -/
def serveAll (p : Nat) (s : State) : State := servePort ((s.port p).peers.length + 1) p s

/-- A REQ's blocks join the port's list and are served in order; the frame leaves the receive buffer with the last of them
(R230, R440, R453). -/
def takeReq (p : Nat) (f : RxFrame) (s : State) : State :=
  let n := f.len / 16
  let bs := (List.range n).map (fun i =>
    { xid := f.xid, block := f.block + i, write := f.write, handle := f.handle, entry := (f.payload.drop (16 * i)).take 16,
      op := none, stalled := false, data := [], credit := if i + 1 = n then creditCost (20 + f.len) else 0 : PeerBlock })
  serveAll p (s.modPort p (fun q => { q with peers := q.peers ++ bs }))

/-- A WDATA's payload goes to the block in service, or waits with it; one for no such block is discarded (R440, R452,
R456). -/
def takeWdata (p : Nat) (f : RxFrame) (s : State) : State :=
  match (s.port p).peers.find? (fun b => b.is f.xid f.block && b.write) with
  | none => leaveBuffer p (creditCost (20 + f.len)) s
  | some b =>
    let b' := { b with data := b.data ++ [(f.offset, f.payload)] }
    let s1 := modBlock p f.xid f.block (fun _ => b') s
    match b.op with
    | none => s1
    | some i => serveAll p (serveWrite p i b' s1)

/-- A CANCEL: no further block of the XID is served, and a CDONE answers (R455). -/
def takeCancel (p : Nat) (f : RxFrame) (s : State) : State :=
  let mine := (s.port p).peers.filter (fun b => decide (b.xid = f.xid))
  let s1 := foldS (fun (b : PeerBlock) s => match b.op.bind (fun i => s.op? i) with | some o => completeOp o s | none => s) mine s
  enqueue p { (controlFrame lfCdone) with xid := f.xid, block := f.block }
    (dropBlocks p (fun b => decide (b.xid = f.xid)) s1)

/-- A CDONE returns the XID of a timed-out transfer (R450). -/
def takeCdone (p : Nat) (f : RxFrame) (s : State) : State :=
  if (xidOp s p f.xid).isSome then s else freeXid p f.xid s

end Sys2Proof.Machine
end

