-- ==== Sys2Proof/Machine/LinkRx.lean ====
section
/-! DEFINITION. What a port does with a received frame (R433 to R439, R442 to R445), and with the end of a training. -/

namespace Sys2Proof.Machine

/-! ## HELLO (R442, R443) -/

/-- The HELLO payload of port `p` (R442). -/
def helloPayload (s : State) (p : Nat) : List Byte :=
  let q := s.port p
  let oldest := match q.replay with | x :: _ => x.1 | [] => q.txNext
  [0x01, byte (chipId s + 16 * p)] ++ leBytes 2 (s.rd DEV 0x00).toNat ++ leBytes 2 (s.rd DEV 0x01).toNat ++
    [byte (b2n q.seen + 2 * b2n q.hasState), 0] ++ identityDigest s.part ++
    (if q.hasState then q.partner ++ leBytes 2 q.expect ++ leBytes 2 q.txNext ++ leBytes 2 oldest
     else List.replicate 38 0) ++ List.replicate 18 0

/-- Send a HELLO: DST is EXPECT when LNK_CTRL.CHECK = 1, otherwise 0; like every frame it carries ACK and CREDIT (R432,
R434, R442). -/
def sendHello (p : Nat) (s : State) : State :=
  let dst := if s.bit (LNK p) 0x00 13 then s.fld (LNK p) 0x00 10 3 else 0
  putLanes p (frameBytesOf s p 0 dst { (controlFrame lfHello) with payload := helloPayload s p }) s

/-- FRAME_TRANSMIT: the next frame of the port goes out. In Up the next sequenced frame, once room and credits allow, and
with none due a frame held back by a REORDER (R440, R459); in Training and Retry the HELLO that is due every 32 block
pairs (R441, R442; log entry 65). -/
def frameTransmit (p : Nat) (s : State) : State :=
  let q := s.port p
  if q.quiet then s
  else if q.st = .training ∨ q.st = .retry then sendHello p s
  else if canSend q then sendHead p s
  else if q.st = .up then flushLate p s
  else s

/-- A HELLO payload as received. -/
structure Hello where
  version : Nat
  chip : Nat
  port : Nat
  devId : Nat
  seen : Bool
  state : Bool
  identity : List Byte
  remembered : List Byte
  rxExpect : Nat
  txNext : Nat
  txOldest : Nat
deriving DecidableEq, Repr

/-- The fields of a HELLO payload. -/
def parseHello (bs : List Byte) : Hello :=
  { version := leAt bs 0 1, chip := leAt bs 1 1 % 8, port := fld (leAt bs 1 1) 4 2, devId := leAt bs 2 2,
    seen := nbit (leAt bs 6 1) 0, state := nbit (leAt bs 6 1) 1, identity := (bs.drop 8).take 32,
    remembered := (bs.drop 40).take 32, rxExpect := leAt bs 72 2, txNext := leAt bs 74 2, txOldest := leAt bs 76 2 }

/-- The receiver measures the partner's frequency offset and the lane skew (R443). -/
def measured (p : Nat) (offset : Int) (skew : Nat) (s : State) : State :=
  s.modPort p (fun q => { q with offset := offset, skew := skew })

/-- REASON of the first HELLO check that fails, 0 when none does (R443). -/
def helloReason (s : State) (p : Nat) (h : Hello) : Nat :=
  if h.version ≠ 1 ∨ (h.devId ≠ 0x1640 ∧ h.devId ≠ 0x0820) then 5
  else if h.chip = chipId s then 6
  else if s.bit (LNK p) 0x00 13 = true ∧ h.chip ≠ s.fld (LNK p) 0x00 10 3 then 7
  else if (s.port p).offset.natAbs > 20 then 8
  else if (s.port p).skew > 16 then 9
  else 0

/-- LNK_PARTNER_ID for a partner. -/
def partnerWord (h : Hello) : Word :=
  word (0x8000 + h.chip * 0x1000 + h.port * 0x400 + b2n (decide (h.devId = 0x0820)) * 0x200 +
    (h.identity.headD 0).toNat)

/-- Enter Up with partner `h` (R440, R445, R455): credits restart at 128, the transfer counts run. -/
def enterUp (p : Nat) (h : Hello) (s : State) : State :=
  let s1 := (s.wr (LNK p) 0x04 (partnerWord h)).modPort p (fun q =>
    { q with hasState := true, partner := h.identity, partnerChip := h.chip, limit := 128, used := 0, granted := 128,
             firings := 0, paused := false, nak := none })
  runXfers p (setLink p .up s1)

/-- A training from Retry fits the sequence state held (R445). -/
def resumes (p : Part) (q : Port) (h : Hello) : Bool :=
  let oldest := match q.replay with | x :: _ => x.1 | [] => q.txNext
  q.hasState && h.state && decide (h.remembered = identityDigest p) && decide (q.partner = h.identity) &&
    seqFrom h.rxExpect oldest && seqFrom q.txNext h.rxExpect && seqFrom q.expect h.txOldest && seqFrom h.txNext q.expect

/-- Resume: held frames are dropped, and the port retransmits from the partner's RX_EXPECT (R445). -/
def resumeLink (p : Nat) (h : Hello) (s : State) : State :=
  let s1 := s.modPort p (fun q => { q with held := [], replay := q.replay.filter (fun x => seqFrom x.1 h.rxExpect) })
  replayFrom p h.rxExpect (enterUp p h s1)

/-- Restart with the same or a new partner: `b` is the sticky bit of LNK_STATE; transfers complete LOST (R445, R450). -/
def restartLink (p b : Nat) (h : Hello) (s : State) : State :=
  let s1 := clearSequence p (endPeerService p (loseTransfers p s))
  enterUp p h (raise evLink (s1.setB (LNK p) 0x01 b))

/-- Training with HELLO `hello` received, on a port whose lanes hold block lock: its checks, and the outcome (R443, R445). -/
def trained (p : Nat) (hello : List Byte) (s : State) : State :=
  let q := s.port p
  let h := parseHello hello
  if hello.length ≠ 96 ∨ q.locked = false then s
  else if helloReason s p h ≠ 0 then s.modPort p (fun q => { q with reason := helloReason s p h })
  else
    let s1 := s.modPort p (fun q => { q with seen := true })
    if h.seen = false then s1
    else if q.st = .training then enterUp p h (clearSequence p s1)
    else if q.partner ≠ h.identity ∨ q.partnerChip ≠ h.chip then restartLink p 15 h s1
    else if resumes s.part q h then resumeLink p h s1
    else restartLink p 14 h s1

/-- TRAINING_COMPLETE: the lanes of a port in Training or Retry receive blocks, its receiver measures offset and skew, and
HELLO `hello` has been received; training completes when both lanes hold block lock, the checks pass and the HELLO says
SEEN (R443, R445). -/
def trainingComplete (p : Nat) (hello : List Byte) (b0 b1 : List (BitVec 66)) (offset : Int) (skew : Nat) (s : State) : State :=
  if (s.port p).st ≠ .training ∧ (s.port p).st ≠ .retry then s
  else trained p hello (feedLanes p b0 b1 (measured p offset skew s))

/-- A received HELLO: an Up port enters Retry (R444); in training it is checked (R443). -/
def takeHello (p : Nat) (f : RxFrame) (s : State) : State :=
  let q := s.port p
  let k := helloReason s p (parseHello f.payload)
  if q.st = .up then leaveUp p 3 false s
  else if k ≠ 0 then s.modPort p (fun q => { q with reason := k })
  else s.modPort p (fun q => { q with seen := true })

/-! ## Sequenced frames (R436, R439, R440) -/

/-- The delivered frame acts, and its credits are granted again as it leaves the receive buffer: a REQ with its last block,
a WDATA once written, every other frame at once (R440, R451 to R455). -/
def deliverFrame (p : Nat) (bs : List Byte) (s : State) : State :=
  let f := parseFrame bs
  let s1 := leaveBuffer p (creditCost bs.length) s
  if f.typ = lfReq then takeReq p f s
  else if f.typ = lfWdata then takeWdata p f s
  else if f.typ = lfRdata then takeRdata p f s1
  else if f.typ = lfWdone then takeWdone p f s1
  else if f.typ = lfRefuse then takeRefuse p f s1
  else if f.typ = lfCancel then takeCancel p f s1
  else takeCdone p f s1

/-- Advance E past a delivered frame. -/
def advanceE (p : Nat) (s : State) : State :=
  s.modPort p (fun q => { q with expect := (q.expect + 1) % 65536 })

/-- Deliver held frames that now follow in order (R436). -/
def deliverHeld : Nat → Nat → State → State
  | 0, _, s => s
  | n + 1, p, s =>
    match (s.port p).held.find? (fun x => decide (x.1 = (s.port p).expect)) with
    | none => s
    | some x =>
      deliverHeld n p (deliverFrame p x.2 (advanceE p (s.modPort p (fun q =>
        { q with held := q.held.filter (fun y => decide (y.1 ≠ x.1)) }))))

/-- A sequenced frame is delivered, held, or discarded (R436, R437). -/
def resequence (p : Nat) (bs : List Byte) (s : State) : State :=
  let q := s.port p
  let f := parseFrame bs
  let ahead := (f.seq + 65536 - q.expect) % 65536
  if ahead = 0 then ensureAck p (deliverHeld 8 p (deliverFrame p bs (advanceE p s)))
  else if ahead ≤ 7 then
    s.modPort p (fun q => if q.held.any (fun x => decide (x.1 = f.seq)) then q else { q with held := q.held ++ [(f.seq, bs)] })
  else if ahead ≤ 32767 then sendNak p s
  else if q.quiet then s
  else sendControl p lfAck 0 s

/-! ## Reception -/

/-- A frame that the receiver keeps acts (R434 to R438, R444): every frame's ACK and CREDIT, then its own effect. -/
def takeFrame (p : Nat) (bs : List Byte) (s : State) : State :=
  let f := parseFrame bs
  if f.typ = lfHello then takeHello p f s
  else
    let s1 := takeCredit p f.credit (takeAck p f.ack s)
    if f.typ = lfAck then s1
    else if f.typ = lfNak then replayFrom p f.seq s1
    else if f.typ = lfPause then leaveUp p 4 true s1
    else resequence p bs s1

/-- The bytes of a frame's block pairs arrive at port `p` in Training, Retry or Up, for a row that names type `want`; its end
follows from LENGTH (R429). One that R433 discards counts, and in Up asks for a retransmission when its CRC fails. A HELLO
acts in all three states, every other frame in Up; one of another type is not this event. -/
def receive (want p : Nat) (pairs : List Byte) (s : State) : State :=
  let q := s.port p
  let bs := unpadded pairs
  let f := parseFrame bs
  if q.st ≠ .up ∧ q.st ≠ .training ∧ q.st ≠ .retry then s
  else if frameKept s bs = false then
    let s1 := bump16 (LNK p) 0x08 1 s
    if crcOk bs = false ∧ q.st = .up then sendNak p s1 else s1
  else if f.typ ≠ want ∨ (q.st ≠ .up ∧ want ≠ lfHello) then s
  else takeFrame p bs s

end Sys2Proof.Machine
end

