-- ==== Sys2Proof/Machine/Journal.lean ====
section
/-! DEFINITION. The journal writer (R356 to R361). -/

namespace Sys2Proof.Machine

/-- First byte of the journal's cistern region (R356). -/
abbrev journalBase : Nat := 0x1FC0000

/-- The head record: NEXT and DROPPED (R357). -/
def headRecord (nxt dropped : Nat) : List Byte := leBytes 4 nxt ++ leBytes 4 dropped ++ List.replicate 24 0

/-- JOURNAL_WRITE: the writer takes the head entry of its queue, writes it to its slot and then the head record. A write
to a dead bank is dropped (R51, R470). -/
def journalWrite (s : State) : State :=
  match s.journal.queue with
  | [] => s
  | e :: rest =>
    let s1 := cistPut (journalBase + 32 * (1 + e.seq % 8191)) e.bytes { s with journal := { s.journal with queue := rest } }
    cistPut journalBase (headRecord ((e.seq + 1) % 2 ^ 32) s1.journal.dropped) s1

/-- Write every queued entry. -/
def journalDrain : Nat → State → State
  | 0, s => s
  | n + 1, s => journalDrain n (journalWrite s)

end Sys2Proof.Machine
end

