-- ==== Sys2Proof/Machine/Channels.lean ====
section
/-! DEFINITION. Channels (06) and their part of a snapshot edge: enable, disable, shut-down, maps, learning, fault
counting (18), retirement, re-admission and the epoch boundary. Each is one operation on one channel, called both by the
snapshot edge and by the command that names it. -/

namespace Sys2Proof.Machine

/-! ## Enable and disable (R156 to R163) -/

/-- Written CH_CTRL.ENABLE of channel `c`. -/
def wantsEnable (s : State) (c : Nat) : Bool := s.bit (CH c) 0x00 15

/-- Something of the channel's own is still running or in flight (R159). Sweep parts that are still pending count and
still start: R159 drops none, as R471 does for Retired (DESIGN CHOICE, log entry 64). -/
def outstanding (s : State) (c : Nat) : Bool :=
  let ch := s.chan c
  !ch.parts.isEmpty || (ch.learn.sweepOn && !ch.learn.sweepBad) || !(ch.learn.parts.isEmpty) ||
    s.ops.any (fun o => match o.issuer with | .engine _ _ (some x) => x == c | _ => false)

/-- The channel enters Active from Off or Stopping (R158, R313, R320, R339, R366, R370, R360). -/
def enterActive (c : Nat) (s : State) : State :=
  setChState c .active (s.modChan c (fun ch =>
    { ch with enabled := true, rearmed := false, done := false, dep := false, prevRep := none, prevEng := none,
              stepped := true,
              learn := { ch.learn with pos := 0, exp := s.fld (CH c) 0x04 0 5, tainted := false, hold := false,
                                       clear := true, swaps := 0 },
              drift := { ch.drift with counter := 0, refresh := true } }))

/-- ENABLE = 1 takes effect on a channel that is Off (R156): Active, or Retired with a retired mark. -/
def enterEnabled (c : Nat) (s : State) : State :=
  if (s.chan c).retMark then
    setChState c .retired (s.modChan c (fun ch =>
      { ch with enabled := true, rearmed := false, done := false,
                learn := { ch.learn with hold := false, clear := true } }))
  else enterActive c s

/-- The shut-down of a Stopping channel completes (R159, R160, R161, R317): traces cleared, a READY swaps, and the
channel reads Off, or waits in Stopping for the next snapshot edge when it is re-armed. -/
def finishShutdown (c : Nat) (s : State) : State :=
  let s1 := s.modLearn c (fun l => { l with clear := true })
  let s2 := if (s.chan c).learn.ready then swapBanks c s1 else s1
  if (s.chan c).rearmed then s2.modChan c (fun ch => { ch with done := true })
  else setChState c .off (s2.modChan c (fun ch => { ch with done := false }))

/-- SHUTDOWN_COMPLETE: the last outstanding work of a Stopping channel has completed. -/
def shutdown (c : Nat) (s : State) : State :=
  let ch := s.chan c
  if ch.st = .stopping ∧ ch.done = false ∧ outstanding s c = false then finishShutdown c s else s

/-- ENABLE = 1 takes effect for channel `c` on a snapshot edge (R158, R161). -/
def enableEdge (c : Nat) (s : State) : State :=
  let ch := s.chan c
  if wantsEnable s c = false then s
  else if ch.st = .off then enterEnabled c s
  else if ch.st = .stopping then
    if ch.done then enterEnabled c s else s.modChan c (fun ch => { ch with rearmed := true })
  else s

/-- No further tick program of channel `c` starts (R159): one that no engine has begun is not started. -/
def stopStarts (c : Nat) (s : State) : State :=
  if s.engs.any (fun g => match g.run with | some r => r.ofChan c | none => false) then s
  else foldS (fun x s => dropDue x c s) (List.range s.part.engines) s

/-- ENABLE = 0 takes effect for channel `c` on a snapshot edge (R159, R160, R162). -/
def disableEdge (c : Nat) (s : State) : State :=
  let ch := s.chan c
  if wantsEnable s c = true then s
  else if ch.st = .off then s
  else if ch.st = .stopping then
    let s1 := s.modChan c (fun ch => { ch with rearmed := false })
    if ch.done then setChState c .off (s1.modChan c (fun ch => { ch with done := false })) else s1
  else
    let s1 := stopStarts c (setChState c .stopping
      (s.modChan c (fun ch => { ch with enabled := false, rearmed := false, done := false })))
    if outstanding s1 c then s1 else finishShutdown c s1

/-- LEARN takes effect for channel `c` on a snapshot edge (R319). -/
def learnEdge (c : Nat) (s : State) : State :=
  s.modChan c (fun ch => { ch with learnOn := s.bit (CH c) 0x00 14 })

/-- The maps of a channel take effect on a snapshot edge, or at once while it is Off (R153). -/
def mapsEdge (c : Nat) (s : State) : State :=
  s.modChan c (fun ch => { ch with engMap := s.rd (CH c) 0x02, wellMap := s.rd (CH c) 0x03 })

/-- CH_SAMPLE_RATE and CH_DRIFT.BOUND take effect on a snapshot edge (R375). -/
def driftEdge (c : Nat) (s : State) : State :=
  s.modDrift c (fun d => { d with rate := s.rd (CH c) 0x05, bound := s.fld (CH c) 0x15 11 5 })

/-! ## Retirement and re-admission (R464 to R474, R484) -/

/-- Channel `c` enters Retired with `cause`: the retired mark, the RETIRED record and the end of its sweep (R157, R462,
R471). Pending sweep parts are dropped; with none running, SWEEP and HOLD clear and CLEAR is set on this edge. -/
def enterRetired (c cause : Nat) (s : State) : State :=
  let s1 := setChState c .retired (s.modChan c (fun ch => { ch with retMark := true }))
  let s2 := faultRecord 16 c 0xFF 0 4 cause s1
  let l := (s.chan c).learn
  if l.sweepOn = false then s2
  else
    let running := l.parts.filter (fun e => !((s.eng e).sweeps.contains c))
    settleSweep c ((dropPending c s2).modLearn c (fun l => { l with parts := running, sweepBad := true }))

/-- A retirement of channel `c` with `cause` (R468, R484): Retired from a counting state, the mark in Off or Stopping. -/
def retireChannel (c cause : Nat) (s : State) : State :=
  let ch := s.chan c
  if ch.st.counting then enterRetired c cause s
  else if ch.st = .off ∨ ch.st = .stopping then s.modChan c (fun ch => { ch with retMark := true })
  else s

/-- An engine of the channel's map is retired. -/
def mapRetired (s : State) (c : Nat) : Bool := (chanEngines s c).any (fun e => (s.eng e).retired)

/-- SHADOW_FAIL record of channel `c` (R462, R472, R474). -/
def shadowFail (c failed cause : Nat) (s : State) : State := faultRecord 15 c c 2 failed cause s

/-- A READMIT of channel `c` reaches its snapshot edge (R472): Shadow from Retired with no retired engine, taking a
READY swap with it (R317); otherwise the command is discarded with a record of zeros. -/
def readmitChannel (c : Nat) (s : State) : State :=
  if (s.chan c).st = .retired ∧ mapRetired s c = false then
    let s1 := if (s.chan c).learn.ready then swapBanks c s else s
    setChState c .shadow (s1.modChan c (fun ch =>
      { ch with stepped := true, prevEng := none, prevRep := none,
                shadow := { left := s.fld (CH c) 0x06 0 4, cfg := nth s.faults.shadowCfg c 0, dep := false, failed := 0,
                            cause := 0, faulted := false, twinOk := false },
                learn := { ch.learn with pos := 0, exp := s.fld (CH c) 0x04 0 5, tainted := false, clear := true },
                drift := { ch.drift with refresh := true } }))
  else shadowFail c 0 0 s

/-- The fault port's commands for channel `c` act on a snapshot edge (R483). -/
def commandEdge (c : Nat) (s : State) : State :=
  let ch := s.chan c
  match ch.retireCmd with
  | some cause => retireChannel c cause (s.modChan c (fun ch => { ch with retireCmd := none }))
  | none => if ch.readmitCmd then readmitChannel c (s.modChan c (fun ch => { ch with readmitCmd := false })) else s

/-! ## Fault counting (R463 to R466) -/

/-- A Watch channel enters Active with departure state 0 (R156, R339). -/
def watchEnds (c : Nat) (s : State) : State := setChState c .active (s.modChan c (fun ch => { ch with dep := false }))

/-- The fault window of channel `c` ends (R465): IN_WIN = 0, and on a snapshot edge a Watch channel enters Active. -/
def endWindow (c : Nat) (s : State) : State :=
  let s1 := (s.modChan c (fun ch => { ch with winLeft := none })).wr (CH c) 0x12 (putFld (s.rd (CH c) 0x12) 0 8 0)
  if (s.chan c).st = .watch ∧ (s.chan c).faultTick = false then watchEnds c s1 else s1

/-- One snapshot edge of the fault window: the 2^EXP-th ends it (R465). -/
def windowEdge (c : Nat) (s : State) : State :=
  match (s.chan c).winLeft with
  | some n => if n ≤ 1 then endWindow c s else s.modChan c (fun ch => { ch with winLeft := some (n - 1) })
  | none =>
    if (s.chan c).st = .watch ∧ (s.chan c).faultTick = false then watchEnds c s else s

/-- A channel fault tick is counted on the snapshot edge after it (R464). -/
def countFault (c : Nat) (s : State) : State :=
  let ch := s.chan c
  if ch.faultTick = true ∧ ch.st.onDuty = true then
    let w := s.rd (CH c) 0x12
    let inWin := wfld w 0 8
    let w' := word (min 255 (wfld w 8 8 + 1) * 256 + min 255 (inWin + 1))
    let s1 := (s.modChan c (fun ch =>
      { ch with winLeft := if inWin = 0 then some (2 ^ s.fld (CH c) 0x14 0 5) else ch.winLeft })).wr (CH c) 0x12 w'
    if min 255 (inWin + 1) > s.fld (CH c) 0x13 0 8 then enterRetired c 1 s1
    else setChState c .watch s1
  else s

/-! ## The shadow comparison (R473, R474, R475) -/

/-- First cause for which the ending tick of a trial channel fails; 0 when none (R473). -/
def shadowCause (s : State) (c : Nat) : Nat :=
  let ch := s.chan c
  let twin := s.chan (wfld ch.shadow.cfg 8 4)
  match ch.eng with
  | none => 1
  | some v =>
    if ch.broken then 2
    else if ch.shadow.faulted then 3
    else if ch.drift.worst = 3 then 4
    else if wbit ch.shadow.cfg 15 = false then 0
    else if ch.shadow.twinOk = false ∨ twin.repClass = 6 ∨ twin.repClass = 7 ∨ twin.repClass = 8 then 5
    else
      match twin.eng with
      | none => 6
      | some t =>
        if v.cls ≠ t.cls ∨ (Int.natAbs ((v.score : Int) - t.score)) > 16 * wfld ch.shadow.cfg 0 8 then 6 else 0

/-- The comparison of the tick that the snapshot edge ends (R473); not checked in buttress mode (R475). -/
def shadowTick (c : Nat) (s : State) : State :=
  let ch := s.chan c
  if ch.st.onTrial = true ∧ s.tick.buttressOnly = false then
    let k := shadowCause s c
    if k = 0 then s
    else s.modChan c (fun ch =>
      { ch with shadow := { ch.shadow with failed := ch.shadow.failed + 1,
                                           cause := if ch.shadow.failed = 0 then k else ch.shadow.cause } })
  else s

/-- The epoch boundary of a Shadow or Readmitting channel (R474). -/
def shadowBoundary (c : Nat) (s : State) : State :=
  let ch := s.chan c
  if ch.st.onTrial = false ∨ s.tick.buttressOnly = true then s
  else if ch.shadow.failed > 0 then
    let s1 := shadowFail c ch.shadow.failed ch.shadow.cause s
    enterRetired c 4 (s1.modChan c (fun ch => { ch with shadow := { ch.shadow with failed := 0, cause := 0 } }))
  else if ch.st = .shadow then
    let s1 := s.modChan c (fun ch => { ch with shadow := { ch.shadow with left := ch.shadow.left - 1 } })
    if ch.shadow.left ≤ 1 then setChState c .readmitting s1 else s1
  else
    let s1 := s.modChan c (fun ch => { ch with retMark := false, dep := ch.shadow.dep, winLeft := none })
    let s2 := s1.wr (CH c) 0x12 (putFld (s.rd (CH c) 0x12) 0 8 0)
    faultRecord 17 c 0xFF 0 4 0 (setChState c .active s2)

/-! ## The epoch step (R313) -/

/-- The coming snapshot edge ends the epoch of channel `c`. -/
def epochDue (s : State) (c : Nat) : Bool :=
  let ch := s.chan c
  ch.st.counting && !ch.stepped && decide (2 ^ ch.learn.exp ≤ ch.learn.pos + 1)

/-- The epoch position on a snapshot edge that does not end the epoch (R313). -/
def epochAdvance (c : Nat) (s : State) : State :=
  if (s.chan c).st.counting then s.modLearn c (fun l => { l with pos := l.pos + 1 }) else s

/-- The snapshot edge that ends the epoch: position 0, the new length in force, the shadow boundary, then the sweep
start or the CLEAR, and the journal's entry. `held` is HOLD before the edge. -/
def epochBoundary (c : Nat) (held : Bool) (rim tb : Nat) (s : State) : State :=
  endEpoch c held rim tb (shadowBoundary c ((s.modLearn c (fun l =>
    { l with pos := 0, exp := s.fld (CH c) 0x04 0 5 })).modChan c (fun ch => { ch with stepped := true })))

/-- Leaving device-wide buttress mode: CLEAR, REFRESH and a zero departure state for a counting channel (R476). -/
def leaveButtress (c : Nat) (s : State) : State :=
  if (s.chan c).st.counting then
    s.modChan c (fun ch =>
      { ch with dep := false, learn := { ch.learn with clear := true }, drift := { ch.drift with refresh := true },
                shadow := { ch.shadow with dep := false } })
  else s

/-! ## The whole of one channel's snapshot edge -/

/-- A channel on duty whose map names a retired engine enters Retired (R468). -/
def retiredMap (c : Nat) (s : State) : State :=
  if (s.chan c).st.onDuty = true ∧ mapRetired s c = true then enterRetired c 3 s else s

/-- Everything a snapshot edge at RIM count `rim` and timebase `tb` does to channel `c`, in order: maps; the sweep that
ended without READY; leaving buttress mode; the comparison of the ending tick; the end of the fault window and then the
fault count (R465); commands; LEARN; retirement with an engine of the map (R468), before a disable wins (R157); the swap;
the epoch, of a channel that still counts (R313, R471); ENABLE. -/
def channelEdge (rim tb : Nat) (leaving : Bool) (c : Nat) (s : State) : State :=
  let held := (s.chan c).learn.hold
  let s1 := shadowTick c s
  let s2 := settleSweep c (driftEdge c (mapsEdge c s1))
  let s3 := if leaving then leaveButtress c s2 else s2
  let s4 := retiredMap c (learnEdge c (commandEdge c (countFault c (windowEdge c s3))))
  let s5 := if wantsEnable s4 c then edgeSwap c s4 else s4
  let s6 := if epochDue s4 c then epochBoundary c held rim tb s5
            else if (s4.chan c).stepped then s5 else epochAdvance c s5
  let s7 := disableEdge c (enableEdge c (shutdown c s6))
  (retiredMap c s7).modChan c (fun ch =>
    { ch with stepped := false, btPrev := ch.btRec, btRec := ch.btAcc, btAcc := 0, faultTick := false,
              shadow := { ch.shadow with faulted := false } })

end Sys2Proof.Machine
end

