-- ==== Sys2Proof/Machine/Tick.lean ====
section
/-! DEFINITION. The tick (03): TICK edges and their measurement, the free-run timer, loss of TICK, the snapshot edge with
everything due on it, core ingress and program start, the guard edge. -/

namespace Sys2Proof.Machine

/-! ## TICK_CTRL (R54, R57, R60, R78) -/

/-- Clear TICK_CTRL.VALID and the count of entered intervals (R57). -/
def clearValid (s : State) : State :=
  { s with tick := { s.tick with entered := 0 } }.clrB DEV 0x20 10

/-- The written TICK_CTRL comes into force: ENABLE = 0 stops the timer, SRC = 1 starts it (R54, R59). The loss count of
SRC = 0 runs from the last accepted edge, or, before a first one, from here (R58; log entry 14). -/
def applyTickCtrl (s : State) : State :=
  let w := s.rd DEV 0x20
  let en := wbit w 15
  let src := wbit w 14
  let t := s.tick
  let fresh := !(t.en && (t.src == src))
  let free := if en && src then (if fresh then some (s.now + (s.rd DEV 0x22).toNat) else t.freeDue) else none
  let ref := if en && !src then some (t.lossRef.getD s.now) else t.lossRef
  { s with tick := { t with en := en, src := src, fallback := wbit w 13, pend := false, freeDue := free, lossRef := ref,
                            lost := t.lost && !(en && !src && fresh) } }

/-- No source delivers ticks: ENABLE = 0 in force, or TICK lost with SRC = 0. A write then cannot wait for a snapshot
edge and applies at once (log entry 20). -/
def tickIdle (s : State) : Bool := !s.tick.en || (!s.tick.src && s.tick.lost)

/-- Effect of a TICK_CTRL write beyond the stored word: it writes ENABLE and SRC, so it clears VALID (R57); R60, R78. -/
def tickCtrlWritten (s : State) : State :=
  let w := s.rd DEV 0x20
  let s1 := clearValid s
  let s2 :=
    if s1.tick.en = true ∧ s1.tick.src = true ∧ wbit w 14 = false then
      { s1 with tick := { s1.tick with
          src := false, freeDue := none, lost := false, lossRef := some (s1.tick.lossRef.getD s1.now) } }
    else s1
  let s3 := { s2 with tick := { s2.tick with pend := true } }
  if tickIdle s3 then applyTickCtrl s3 else s3

/-! ## Measurement (R56, R57) -/

/-- Enter an interval: TICK_PERIOD is the shortest of the last eight, VALID after eight; a longer one than 65,535 is not
entered and clears VALID. -/
def measure (d : Nat) (s : State) : State :=
  if d > 65535 then clearValid s
  else
    let xs := (d :: s.tick.intervals).take 8
    let s1 := { s with tick := { s.tick with intervals := xs, entered := s.tick.entered + 1 } }.wr DEV 0x21
      (word (xs.foldl min d))
    if s.tick.entered + 1 ≥ 8 then s1.setB DEV 0x20 10 else s1

/-- PERIOD of R68: the measured period, or the free-run period. -/
def tickPeriod (s : State) : Nat := if s.tick.src then (s.rd DEV 0x22).toNat else (s.rd DEV 0x21).toNat

/-- The guard point G for a GUARD_POINT word, source, VALID and period (R68). -/
def guardPoint (gp : Word) (src valid : Bool) (period : Nat) : Nat :=
  let raw := !src && !valid
  let p := if raw then 3125 else period
  let g := if wbit gp 15 then 2 * wfld gp 0 15 else if raw then 2812 else p * wfld gp 0 7 / 100
  min g (p * 98 / 100)

/-! ## Engines and commands on a snapshot edge (R166, R468) -/

/-- No tick program that engine `e` still has due starts (R166, R468). -/
def dropAllDue (e : Nat) (s : State) : State :=
  foldS (fun (r : Run) s => match r.kind with | .tick c => dropDue e c s | _ => s) (s.eng e).due s

/-- ENABLE of engine `e` takes effect on a snapshot edge (R166). -/
def engEnableEdge (e : Nat) (s : State) : State :=
  let g := s.eng e
  if s.bit (ENG e) 0x00 15 = false ∨ g.retired = true then s
  else if g.stopping = true ∧ engQuiet s e = false then s.modEng e (fun g => { g with rearmed := true })
  else s.modEng e (fun g => { g with enabled := true, stopping := false, rearmed := false })

/-- ENABLE = 0 of engine `e` takes effect on a snapshot edge (R166, 08 Edges: a pending job is dropped); no further tick
program starts. -/
def engDisableEdge (e : Nat) (s : State) : State :=
  if s.bit (ENG e) 0x00 15 = true then s
  else
    (dropAllDue e s).modEng e (fun g =>
      { g with enabled := false, stopping := (g.stopping || g.enabled), rearmed := false, bgPend := none })

/-- An engine is retired on a snapshot edge, with `cause` (R468). -/
def retireEngine (e cause : Nat) (s : State) : State :=
  let on := chansOn s e
  let s1 := (dropAllDue e s).modEng e (fun g => { g with retired := true, retireCmd := none })
  if (s.eng e).retired then s1
  else foldS (fun c s => retireChannel c 3 s) on (faultRecord 16 e 0xFF 0 0 cause s1)

/-- An engine is readmitted (R483). -/
def readmitEngine (e : Nat) (s : State) : State :=
  let s1 := s.modEng e (fun g => { g with retired := false, readmitCmd := false })
  if (s.eng e).retired then faultRecord 17 e 0xFF 0 0 0 s1 else s1

/-- Engine `e` on a snapshot edge: commands, ENABLE, and PEAK of the ended tick (R166, R254, R467). -/
def engineEdge (e : Nat) (s : State) : State :=
  let s1 :=
    match (s.eng e).retireCmd with
    | some cause => retireEngine e cause s
    | none => if (s.eng e).readmitCmd then readmitEngine e s else s
  (engDisableEdge e (engEnableEdge e s1)).modEng e (fun g => { g with peak := g.peakAcc, peakAcc := 0 })

/-! ## Core ingress and program start (R61, R62, R73 to R75, R152, R167) -/

/-- Engine `e` still runs a tick program. -/
def ticking (s : State) (e : Nat) : Bool := (s.eng e).tickWork

/-- Engine `e` can take a tick program at core ingress (R167). -/
def engReady (s : State) (e : Nat) : Bool :=
  let g := s.eng e
  g.enabled && !g.stopping && !g.retired && !ticking s e

/-- Channels whose programs start at this ingress (R75, R167, R343). -/
def startable (s : State) : List Nat :=
  if s.tick.buttressOnly then []
  else allChans.filter (fun c => (s.chan c).st.counting && (chanEngines s c).all (fun e => engReady s e))

/-- The tick is sampled for a channel (R366). -/
def isSampled (d : Drift) : Bool :=
  !wbit d.rate 15 && decide (d.counter % 2 ^ wfld d.rate 0 4 = 0) && !d.refresh

/-- Run record of channel `c`'s tick program of the present tick. -/
def tickRun (s : State) (c : Nat) : Run :=
  let d := (s.chan c).drift
  { kind := .tick c, entry := 0, len := 0, strokes := 0, pc := 0, loops := [], any := false, tickNo := s.tick.number,
    snapAt := s.tick.snapAt, snapTb := s.tick.snapTb, snaps := s.wells.map Well.tickSnap, clean := true,
    active := (s.chan c).learn.active, lean := s.tick.lean && !wbit d.rate 14 && !d.refresh,
    waitBell := none, stalled := none, post := none, halting := false, firstOp := 0, primary := false,
    bt := (s.chan c).btRec.toNat, sampled := isSampled d, row := d.counter / 2 ^ wfld d.rate 0 4 % 32, bound := d.bound }

/-- Channel `c`'s program is to start on every engine of its map: its CLEAR, refresh and sample of the tick are fixed
(R312, R366, R370). -/
def scheduleChan (c : Nat) (s : State) : State :=
  let es := chanEngines s c
  let r := tickRun s c
  let s1 := s.modChan c (fun ch =>
    { ch with ran := true, parts := es, brokenLast := false,
              learn := { ch.learn with clearNow := ch.learn.clear, clear := false },
              drift := { ch.drift with sampled := isSampled ch.drift, refreshTick := ch.drift.refresh, refresh := false,
                                       worst := 0 } })
  foldS (fun e s => s.modEng e (fun g =>
    { g with due := g.due ++ [{ r with primary := decide (mapPrimary (s.chan c).engMap = e) }] })) es s1

/-- A background operation of engine `e` is in flight (R74). -/
def bgInFlight (s : State) (e : Nat) : Bool :=
  s.ops.any (fun o => match o.issuer with | .engine x false _ => x == e | _ => false)

/-- The engine's background work overhangs: fault, tick flagged, start delayed (R74). -/
def overhangAt (e : Nat) (s : State) : State :=
  match (s.eng e).due with
  | [] => s
  | r :: _ =>
    if bgInFlight s e then
      let s1 := s.modEng e (fun g => { g with overhang := true, due := modAt g.due 0 (fun r => { r with clean := false }) })
      engineRecord e fOverhang 0 false r.kind r.tickNo s1
    else s

/-- Core ingress at engine `e`, which starts programs of this tick (`starts`) or none: background work stops at its boundary
and may overhang; on an engine that starts none the fence lifts (R73, R74). HELD counts for PEAK from here (R254). -/
def ingressAt (starts : Nat → Bool) (e : Nat) (s : State) : State :=
  let s1 := s.modEng e (fun g => { g with peakAcc := heldTags s e, peakOn := g.tickWork })
  if starts e then overhangAt e (suspendBg e s1) else s1.modEng e (fun g => { g with fenced := none })

/-- Core ingress of the present tick: programs are due in ascending channel order, and those that can start do (R61, R62). -/
def ingress (s : State) : State :=
  let cs := startable s
  let starts (e : Nat) : Bool := cs.any (fun c => (chanEngines s c).contains e)
  startAllDue (foldS (ingressAt starts) (List.range s.part.engines) (foldS scheduleChan cs s))

/-! ## The snapshot edge -/

/-- Class-8 verdicts 2 RIM after the snapshot edge (R342, R343). -/
def class8 (s : State) : State :=
  foldS (fun c s =>
    let st := (s.chan c).st
    if st.onTrial = true ∨ st = .retired ∨ (s.tick.buttressOnly = true ∧ st.onDuty = true) then latchButtress c 8 s
    else s) allChans s

/-- The BUTTRESS entry of an Off or Stopping channel with a non-zero record (R360). -/
def buttressEntry (rim tb c : Nat) (s : State) : State :=
  let ch := s.chan c
  if (ch.st = .off ∨ ch.st = .stopping) ∧ ch.btRec ≠ 0 then journal 4 c 0 0 0 ch.btRec.toNat rim tb [] s else s

/-- A channel's fields of the new tick. -/
def beginTick (c : Nat) (s : State) : State :=
  s.modChan c (fun ch =>
    { ch with latched := false, repClass := 0, eng := none, ran := false, broken := false,
              served := decide (ch.st = .active ∨ ch.st = .watch ∨ ch.st = .readmitting ∨ ch.st = .retired),
              shadow := { ch.shadow with twinOk := (s.chan (wfld ch.shadow.cfg 8 4)).st.onDuty } })

/-- Ticks whose flag may still be asked for: the present one, and those whose work still runs (R76). -/
def liveTicks (s : State) : List Nat :=
  s.tick.number :: (s.engs.flatMap (fun g =>
    (match g.run with | some r => [r.tickNo] | none => []) ++ g.due.map (fun r => r.tickNo))) ++
    s.ops.map (fun o => o.tickNo)

/-- A started snapshot edge gives each walk a SNAP0 and a SNAP1 pulse: high for the CCKn cycle that begins 2 CCKn later
(R395). While CCKn is held low none is under way (R419). -/
def snapPulse (s : State) : State :=
  if s.clo.global.isEmpty then s
  else { s with clo := { s.clo with snap0 := s.clo.snap0 ++ [3], snap1 := s.clo.snap1 ++ [3] } }

/-- The snapshot edge on RIM count `rim` (R61, R78, R177): the previous tick ends; TICK_CTRL, then engines, channels and
wells act, in that order; the guard counter starts; ingress follows; class-8 verdicts latch. With ENABLE = 0 in force, or
after the tick unit has agreed to sleep, no tick starts (R54, R509). A pending ENABLE = 0 comes into force on this edge,
which then starts none: R54 and R78 do not say whether the edge still does (DESIGN CHOICE, log entry 64). The journal's
entries of the edge are numbered in channel order (R360). -/
def snapshot (rim : Nat) (s : State) : State :=
  let s0 := if s.tick.pend then applyTickCtrl s else s
  if s0.tick.en = false ∨ s0.tick.stopped = true then s0
  else
    let tb := s0.tb
    let s1 := closeTick (collectEntries s0)
    let bo := s1.bit DEV 0x03 14
    let leaving := s1.tick.buttressOnly && !bo
    let level := s1.fld PWR 0x00 0 2
    let still := s1.power.change.isNone
    let s2 := snapPulse { s1 with
      tick := { s1.tick with number := s1.tick.number + 1, snapAt := rim, snapTb := tb, reported := false } }
    let s3 := foldS engineEdge (List.range s.part.engines) s2
    let s4 := foldS (channelEdge rim tb leaving) allChans s3
    let s5 := { s4 with tick := { s4.tick with buttressOnly := bo, open_ := true, lean := decide (level = 0) && still,
                                               guard := guardPoint (s4.rd DEV 0x28) s4.tick.src (s4.bit DEV 0x20 10) (tickPeriod s4) } }
    let s6 := foldS beginTick allChans (settleEntries (foldS (buttressEntry rim tb) allChans s5))
    let s7 := wellsEdge rim tb s6
    let s8 := class8 (ingress { s7 with tick := { s7.tick with flagged := s7.tick.flagged.filter (fun n => (liveTicks s7).contains n) } })
    formReport s8

/-! ## The events of the table -/

/-- TICK_EDGE: a rising edge on TICK, `dt` RIM after the present count (R55 to R57, R83). An early edge is a runt. An
accepted one is measured and, with SRC = 0 in force, takes its snapshot on the second RIM edge after the sampling
edge. Edges are measured, and runts flagged, also while ENABLE = 0, which R57 leaves open (DESIGN CHOICE, log entry 64). -/
def tickEdge (dt : Nat) (s : State) : State :=
  let s0 := s.pass dt
  let early := match s0.tick.lastEdge with | some t => decide (s0.now < t + 3000) | none => false
  if early then raise evTickRunt (s0.setB DEV 0x20 11)
  else
    let s1 := match s0.tick.lastEdge with | some t => measure (s0.now - t) s0 | none => s0
    let s2 := { s1 with tick := { s1.tick with lastEdge := some s1.now, lost := false, lossRef := some s1.now } }
    if s2.tick.src then s2 else snapshot (s2.now + 2) (s2.pass 2)

/-- RIM cycles without an accepted edge after which TICK is lost (R58). -/
def lossLimit (s : State) : Nat := if s.bit DEV 0x20 10 then 2 * (s.rd DEV 0x21).toNat else 100000

/-- TICK_LOST: the limit passes with SRC = 0 in force (R58). With FALLBACK the timer takes over, its first expiry on the
detecting edge. -/
def tickLost (s : State) : State :=
  match s.tick.lossRef with
  | none => s
  | some t =>
    if s.tick.src = true ∨ s.tick.lost = true then s
    else
      let s1 := raise evTickLost ((s.reach (t + lossLimit s)).setB DEV 0x20 12)
      let s2 := { s1 with tick := { s1.tick with lost := true } }
      let s3 := if s2.tick.pend then applyTickCtrl s2 else s2
      if s3.tick.fallback = true ∧ s3.tick.src = false then
        { s3 with tick := { s3.tick with src := true, freeDue := some s3.now } }.setB DEV 0x20 14
      else s3

/-- FREE_RUN_EXPIRY: the timer expires; the next interval takes the present FREE_PERIOD; the snapshot follows 3 RIM
later (R59). -/
def freeRunExpiry (s : State) : State :=
  match s.tick.freeDue with
  | none => s
  | some t =>
    let s1 := s.reach t
    let s2 := { s1 with tick := { s1.tick with freeDue := some (t + (s1.rd DEV 0x22).toNat) } }
    snapshot (s2.now + 3) (s2.pass 3)

/-- GUARD_EDGE: the guard counter reaches G (R67 to R73). -/
def guardEdge (s : State) : State :=
  if s.tick.open_ then fenceAll (closeTick (s.reach (s.tick.snapAt + s.tick.guard))) else s

/-- DELAYED_PROGRAM_START: the overhanging background operations of engine `e` have completed (R74). -/
def delayedStart (e : Nat) (s : State) : State :=
  if (s.eng e).overhang = true ∧ bgInFlight s e = false then
    startAllDue (s.modEng e (fun g => { g with overhang := false }))
  else s

/-- TRIP_HOLD_END: a channel's TRIP_N hold ends 65,536 RIM after its last start (R351). -/
def tripHoldEnd (c : Nat) (s : State) : State :=
  match (s.chan c).holdEnd with
  | none => s
  | some t => (s.reach t).modChan c (fun ch => { ch with holdEnd := none })

end Sys2Proof.Machine
end

