-- ==== Sys2Proof/Machine/Power.lean ====
section
/-! DEFINITION. The power sequencer (19): level changes, the arrival of requests, sleep entry and the exit from Hush; and
the pace monitor (R42 to R44). -/

namespace Sys2Proof.Machine

/-- Change the power sequencer. -/
def State.modPower (s : State) (f : Power → Power) : State := { s with power := f s.power }

/-! ## Levels (R487 to R492) -/

/-- VID code of a level (R487). -/
def levelVid (n : Nat) : Nat := nth [7, 15, 25, 29] n 15
/-- Built-in body-bias code of a level (R487). -/
def builtBias (n : Nat) : Nat := nth [12, 10, 8, 7] n 10
/-- Built-in assist code of a level (R487). -/
def builtAssist (n : Nat) : Nat := nth [6, 5, 2, 3] n 5
/-- Guaranteed maximum stroke period of a level in ps (R34, R487). -/
def guarantee (n : Nat) : Nat := nth [3400, 2100, 1350, 1000] n 3400

/-- VDD_CORE in mV that VID code `c` commands (R488). -/
def vidMillivolts (c : Nat) : Nat := if c ≤ 25 then 550 + 10 * c else 800 + 25 * (c - 25)
/-- Body bias in mV of code `k`, forward positive (R491). -/
def biasMillivolts (k : Nat) : Int := ((k : Int) - 8) * 50
/-- Word-line underdrive and negative bit-line in mV of an assist code (R491). -/
def assistMillivolts (k : Nat) : Nat × Nat := (nth [0, 0, 25, 50, 75] k 0, nth [0, 0, 0, 0, 0, 60, 120, 180] k 0)

/-- Present level. -/
def levelNow (s : State) : Nat := s.fld PWR 0x00 0 2

/-- VID code driven at a level: its code plus TRIM, clamped (R490). -/
def vidOf (s : State) (n : Nat) : Nat := (max 0 (min 31 ((levelVid n : Int) + sext 3 (s.fld PWR 0x08 12 3)))).toNat

/-- Body-bias code used at a level (R491). -/
def biasOf (s : State) (n : Nat) : Nat := let k := s.fld PWR 0x09 (4 * n) 4; if k = 0 then builtBias n else k

/-- Assist code used at a level (R491). -/
def assistOf (s : State) (n : Nat) : Nat := let k := s.fld PWR 0x0A (4 * n) 4; if k = 0 then builtAssist n else k

/-- One dwell in RIM cycles (R495). -/
def dwell (s : State) : Nat := 1024 * 2 ^ s.fld PWR 0x08 8 3

/-- One VID code nearer to `t`. -/
def vidStep (t v : Nat) : Nat := if v < t then v + 1 else if t < v then v - 1 else v

/-- VID moves one code of change `c` on RIM count `m`; at its target the dwell of the last step remains. -/
def stepVid (c : LevelChange) (m : Nat) (s : State) : State :=
  s.modPower (fun p => { p with vid := vidStep c.target p.vid, change := some { c with mark := m, step := .vid } })

/-- The pace monitor's conditions are broken (R43). -/
def paceBroken (s : State) : State :=
  { s with pace := { overs := 0, full := false } }.clrB DEV 0x24 15

/-- The shortened low-bit segment ends with the first VID step of a change (R372). -/
def endLean (s : State) : State :=
  { s with tick := { s.tick with lean := false }, engs := s.engs.map (fun g =>
      { g with run := g.run.map (fun r => { r with lean := false }), due := g.due.map (fun r => { r with lean := false }) }) }

/-- A level change to `n` begins (R495). To a faster level VID takes its first step at once; to a slower one the
governor, bias and assist switch first. -/
def beginChange (n : Nat) (s : State) : State :=
  let up := decide (levelNow s < n)
  let p := s.power
  let c : LevelChange :=
    { dest := n, startVid := p.vid, target := vidOf s n, step := .vid, revert := false, mark := s.now, bias := p.bias,
      assist := p.assist, gov := p.gov }
  let s1 := endLean (paceBroken (s.modPower (fun p => { p with prog := some (.level n), change := some c })))
  if up then stepVid c s.now s1
  else stepVid c (s.now + 66) (s1.modPower (fun p => { p with gov := n, bias := biasOf s n, assist := assistOf s n }))

/-! ## Requests (R494, R498 to R500) -/

/-- Set a bit of PWR_STATUS, raise PWR and the supervisor's interrupt cause (R528). -/
def powerEvent (i : Nat) (s : State) : State := supCauseSet 2 (raise evPwr (s.setB PWR 0x04 i))

/-- The queried blocks of a sleep entry, in order (R501). -/
def queryOrder (s : State) : List SleepBlock :=
  .tick :: ((List.range s.part.engines).map .engine ++ (List.range 8).map .pump ++
    (List.range s.ports.length).map .link ++ (List.range 4).map .walk ++ [.clocks] ++ (List.range 64).map .well)

/-- Walk `w`. -/
def State.walk (s : State) (w : Nat) : Walk := nth s.clo.walks w Walk.reset

/-- Change walk `w`. -/
def State.modWalk (s : State) (w : Nat) (f : Walk → Walk) : State :=
  { s with clo := { s.clo with walks := modAt s.clo.walks w f } }

/-- A walk holds an image that runs (R397). -/
def Walk.runs (w : Walk) : Bool := decide (w.mode = .running)

/-- A walk is being loaded (R397, R412). -/
def Walk.busy (w : Walk) : Bool := decide (w.mode = .loading ∨ w.mode = .release)

/-- The block is queried: a walk with a running image sees QREQ (R396, R397). -/
def queryBlock (b : SleepBlock) (s : State) : State :=
  match b with
  | .walk w => if (s.walk w).runs then s.modWalk w (fun k => { k with qreq := true }) else s
  | _ => s

/-- A sleep entry begins with its first query (R501). -/
def beginEntry (t : Nat) (s : State) : State :=
  let e := SleepEntry.mk t (queryOrder s) [] false s.now
  s.modPower (fun p => { p with prog := some (.mode t), entry := some e })

/-- A request becomes the request in progress; a level request equal to the present level completes at once (R498). -/
def startRequest (r : PowerReq) (s : State) : State :=
  match r with
  | .level n => if n = levelNow s then powerEvent 7 s else beginChange n s
  | .mode t => beginEntry t s

/-- A pending request starts (R498). -/
def startPending (s : State) : State :=
  match s.power.pend with
  | none => s
  | some r => startRequest r (s.modPower (fun p => { p with pend := none }))

/-- The request in progress ends; a pending one starts on the same edge (R498). -/
def endRequest (s : State) : State :=
  startPending (s.modPower (fun p => { p with prog := none, change := none, entry := none, committed := none }))

/-- A request reaches the sequencer (R498). -/
def arrive (r : PowerReq) (s : State) : State :=
  match s.power.prog with
  | none => startRequest r s
  | some q =>
    if r = q then s
    else
      match s.power.pend with
      | none => s.modPower (fun p => { p with pend := some r })
      | some x => if r = x then s else powerEvent 5 (s.modPower (fun p => { p with pend := some r }))

/-- A Run request from wake source `src` (R500). -/
def runRequest (src addr : Nat) (s : State) : State :=
  let s1 := match s.power.pend with
    | some (.mode _) => powerEvent 5 (s.modPower (fun p => { p with pend := none }))
    | _ => s
  if s1.power.committed.isSome then
    s1.modPower (fun p => { p with wake := match p.wake with | some w => some w | none => some (src, addr) })
  else s1.modPower (fun p => { p with entry := p.entry.map (fun e => { e with aborting := true }) })

/-! ## Events of a level change (R495 to R497) -/

/-- VID_DWELL_EXPIRY: a dwell expires: VID steps one code, or after the last step's dwell the sequencer waits for VPG. -/
def vidDwell (s : State) : State :=
  match s.power.change with
  | none => s
  | some c =>
    if c.step = .settle then s
    else
      let t := c.mark + dwell s
      let s1 := s.reach t
      if s.power.vid = c.target then s1.modPower (fun p => { p with change := some { c with step := .settle, mark := t } })
      else stepVid c t s1

/-- VPG_SETTLE: VPG is high and 1,024 RIM have passed: the level completes, or a reverted change ends (R495, R496). -/
def vpgSettle (s : State) : State :=
  match s.power.change with
  | none => s
  | some c =>
    if c.step = .vid then s
    else
      let s1 := (s.reach (c.mark + 1024)).modPower (fun p => { p with vpg := true })
      let s2 := { s1 with pace := { overs := 0, full := false } }
      if c.revert then
        endRequest (powerEvent 3 (s2.modPower (fun p => { p with bias := c.bias, assist := c.assist, gov := c.gov })))
      else
        let s3 := s2.modPower (fun p => { p with bias := biasOf s c.dest, assist := assistOf s c.dest, gov := c.dest })
        endRequest (powerEvent 7 (s3.wr PWR 0x00 (word c.dest)))

/-- VPG_TIMEOUT: VPG is not high 16 dwells after the last step: VID goes back to the code it started from (R496). -/
def vpgTimeout (s : State) : State :=
  match s.power.change with
  | none => s
  | some c =>
    if c.step = .vid ∨ c.revert = true then s
    else
      let t := c.mark + 15 * dwell s
      stepVid { c with target := c.startVid, revert := true } t
        ((s.reach t).modPower (fun p => { p with vpg := false }))

/-- VPG_FALL: VPG falls in Run with no change in progress (R497). PACE.VALID keeps its value: R43 does not say whether such a
fall unsettles VDD_CORE (DESIGN CHOICE, log entry 64). -/
def vpgFall (s : State) : State :=
  let s1 := s.modPower (fun p => { p with vpg := false })
  if s.power.change.isSome then s1 else powerEvent 2 s1

/-! ## Sleep entry (R501 to R504) -/

/-- ID of a block (R501). -/
def SleepBlock.id : SleepBlock → Nat
  | .tick => 0x01
  | .engine e => 0x10 + e
  | .pump p => 0x20 + p
  | .link n => 0x28 + n
  | .walk w => 0x30 + w
  | .clocks => 0
  | .well w => 0x40 + w

/-- Query step of a block (R501). -/
def SleepBlock.step : SleepBlock → Nat
  | .tick => 1
  | .engine _ => 2
  | .pump _ => 3
  | .link _ => 4
  | .walk _ => 5
  | .clocks => 6
  | .well _ => 7

/-- No tick is in progress (R501 step 1). -/
def tickDone (s : State) : Bool := allLatched s && s.tick.reported && s.tick.vdQueue.isEmpty

/-- Engine `e` has no background work (R501 step 2). A disabled engine agrees. -/
def engineRests (s : State) (e : Nat) : Bool :=
  let g := s.eng e
  !engStopping s e &&
    (!g.enabled || (g.sweeps.isEmpty && g.bgPend.isNone && g.susp.isNone &&
      (match g.run with | some r => r.kind.isTick | none => true)))

/-- Port `n` has nothing in flight (R457). -/
def linkRests (s : State) (n : Nat) : Bool :=
  let q := s.port n
  decide (q.st = .down ∨ q.st = .lost ∨ q.st = .retired) ||
    (q.replay.isEmpty && (portOps s n).isEmpty &&
      !s.ops.any (fun o => match o.issuer with | .peer m _ => m == n | _ => false))

/-- What a queried block answers: none while it has not answered. `perf`: every sample and marker write has been
performed in time (R501 step 7). A walk with a running image answers through its quiesce port. -/
def blockAnswer (s : State) (perf : Bool) : SleepBlock → Option Bool
  | .tick => if tickDone s then some true else none
  | .engine e => some (engineRests s e)
  | .pump p => some (!pumpBusy s p || !s.bit PMP 0x00 (8 + p))
  | .link n => some (linkRests s n)
  | .walk w => if (s.walk w).runs then none else some (!(s.walk w).busy)
  | .clocks => some true
  | .well _ => some perf

/-- A block that agrees stops (R502). A port that is not Down, Lost or Retired sends one PAUSE and transmits no more (R457). -/
def stopBlock (b : SleepBlock) (s : State) : State :=
  match b with
  | .tick => { s with tick := { s.tick with stopped := true } }
  | .link n =>
    if (s.port n).st = .down ∨ (s.port n).st = .lost ∨ (s.port n).st = .retired then s
    else (sendControl n lfPause 0 s).modPort n (fun q => { q with quiet := true, wasUp := decide (q.st = .up) })
  | _ => s

/-- A stopped block restarts (R503, R398). A port transmits again, and one that had been Up enters Retry (R457). -/
def restartBlock (b : SleepBlock) (s : State) : State :=
  match b with
  | .tick => { s with tick := { s.tick with stopped := false } }
  | .link n =>
    let s1 := s.modPort n (fun q => { q with quiet := false, wasUp := false })
    if (s.port n).wasUp then leaveUp n 4 false s1 else s1
  | .walk w => s.modWalk w (fun k => { k with qreq := false })
  | _ => s

/-- Serve the peer blocks that waited while pumps were stopped (R502, R503). -/
def servePeers (s : State) : State := foldS (fun p s => serveAll p s) (List.range s.ports.length) s

/-- Restart every stopped block, last first (R503). -/
def rollBack (bs : List SleepBlock) (s : State) : State :=
  servePeers ((foldS restartBlock bs s).modPower (fun p => { p with entry := none }))

/-- Change the number of refused sleep attempts that the steward has counted (R510). -/
def State.setTries (n : Nat) (s : State) : State := s.modSup (fun u => { u with policy := { u.policy with tries := n } })

/-- The steward sees a refusal: it tries again, PWR_MODE.RETRY times at most, and after the last refused attempt it
writes TARGET = 0 (R510). -/
def stewardRefused (s : State) : State :=
  if s.sup.image = false then s
  else if s.sup.policy.tries < s.fld PWR 0x01 4 4 then s.setTries (s.sup.policy.tries + 1)
  else (s.wr PWR 0x01 (putFld (s.rd PWR 0x01) 0 2 0)).setTries 0

/-- Block `b` refuses: roll back, record, and the supervisor leaves WFI (R503); then the steward decides whether to try
again (R510). -/
def refuseSleep (b : SleepBlock) (s : State) : State :=
  match s.power.entry with
  | none => s
  | some e =>
    let extra := match b with | .walk w => s.modWalk w (fun k => { k with qreq := false }) | _ => s
    let s1 := rollBack e.stopped extra
    let s2 := bump16 PWR 0x05 1 (s1.wr PWR 0x06 (word (e.target * 0x4000 + b.id)))
    stewardRefused (endRequest { (powerEvent 6 s2) with sup := { (powerEvent 6 s2).sup with wfi := false } })

/-- The entry aborts at the block boundary (R500). -/
def abortSleep (s : State) : State :=
  match s.power.entry with
  | none => s
  | some e =>
    let s1 := powerEvent 4 (rollBack e.stopped s)
    (endRequest { s1 with sup := { s1.sup with wfi := false } }).setTries 0

/-- The block at the head of the query agrees: it stops, and the next block is queried, the entry aborts, or it
commits (R500 to R504). -/
def agreeSleep (s : State) : State :=
  match s.power.entry with
  | none => s
  | some e =>
    match e.todo with
    | [] => s
    | b :: rest =>
      let s1 := (stopBlock b s).modPower (fun p =>
        { p with entry := some { e with todo := rest, stopped := b :: e.stopped, since := s.now } })
      if e.aborting then abortSleep s1
      else
        match rest with
        | [] => (s1.modPower (fun p => { p with entry := none, committed := some e.target })).setTries 0
        | n :: _ => queryBlock n s1

/-- SLEEP_QUERY_ANSWER: the queried block answers (R501). -/
def sleepAnswer (perf : Bool) (s : State) : State :=
  match s.power.entry with
  | none => s
  | some e =>
    match e.todo with
    | [] => s
    | b :: _ =>
      match blockAnswer s perf b with
      | none => s
      | some true => agreeSleep s
      | some false => refuseSleep b s

/-- Walk `w` is the queried block and its user logic is asked (R396). -/
def walkQueried (s : State) (w : Nat) : Bool :=
  match s.power.entry with
  | some e => decide (e.todo.head? = some (.walk w)) && (s.walk w).qreq
  | none => false

/-- QUIESCE_ANSWER: the rim samples QAGREE and QREFUSE of user logic (R396): QREFUSE refuses whatever QAGREE holds, QAGREE
alone agrees, neither is no answer. An answer after the first is ignored (R398). -/
def quiesceAnswer (w : Nat) (agree refuse : Bool) (s : State) : State :=
  if walkQueried s w = false then s
  else if refuse then refuseSleep (.walk w) s
  else if agree then agreeSleep s
  else s

/-- QUIESCE_TIMEOUT: no answer within 4,096 RIM of the query (R396). -/
def quiesceTimeout (w : Nat) (s : State) : State :=
  if walkQueried s w = false then s
  else refuseSleep (.walk w) (s.reach ((s.power.entry.map (fun e => e.since)).getD s.now + 4096))

/-- TICK_UNIT_TIMEOUT: the tick unit does not agree within 65,536 RIM (R501). -/
def tickUnitTimeout (s : State) : State :=
  match s.power.entry with
  | none => s
  | some e =>
    if e.todo.head? = some .tick ∧ tickDone s = false then refuseSleep .tick (s.reach (e.since + 65536)) else s

/-- A walk enters LOADING after it has agreed: it withdraws, as a refusal (R422). -/
def walkWithdraws (w : Nat) (s : State) : State :=
  match s.power.entry with
  | some e => if e.stopped.contains (.walk w) then refuseSleep (.walk w) s else s
  | none => s

/-! ## Hush (R504 to R506, R353) -/

/-- The drain of a committed entry: 256 RIM in which the journal's queue is written (R504). -/
def drain (s : State) : State := journalDrain 64 (s.pass 256)

/-- The device returns from Hush to Run, woken by source `src` (R506, R398, R457, R57, R52). -/
def hushExit (src addr : Nat) (s : State) : State :=
  let s1 := (s.pass 256).modPower (fun p => { p with mode := .run, wake := none, pulses := p.pulses + 1 })
  let s2 := foldS restartBlock ((queryOrder s).reverse) s1
  let s3 := clearValid { s2 with pace := { overs := 0, full := true } }
  let s4 := (s3.setB CRY 0x01 14).wr CRY 0x02 (word (addr * 256 + src))
  let s5 := powerEvent 1 (s4.wr PWR 0x01 (putFld (s4.rd PWR 0x01) 0 2 0))
  servePeers (endRequest (s5.modSup (fun u => { u with wfi := false })))

/-- HUSH_GATE: after the drain, RIM, LTX and LRX are gated; every hold ends and the buttress restarts from zero. A Run
request that came after the commit then wakes the device (R500, R504). -/
def hushGate (s : State) : State :=
  if s.power.committed ≠ some 1 then s
  else
    let s1 := (drain s).pass 2
    let s2 := s1.mapChans (fun c => { c with holdEnd := none, btAcc := 0, btRec := 0, btPrev := 0 })
    let s3 := { s2 with wells := s2.wells.map (fun (w : Well) => { w with window := [] }) }
    let s4 := s3.modPower (fun p => { p with mode := .hush })
    match s4.power.wake with
    | some (src, addr) => hushExit src addr s4
    | none => s4

/-! ## The pace monitor (R42 to R44) -/

/-- VALID's conditions (R43). -/
def paceHolds (s : State) : Bool := s.power.rimPll && s.power.change.isNone

/-- PERIOD in ps for a count of `n` rings (R42). -/
def pacePeriod (n : Nat) : Nat := if n = 0 then 4095 else min 4095 (cdiv 5120000 n)

/-- PACE_WINDOW_END: a 1,024-RIM window ends with the slowest ring's count `n` (R42 to R44). -/
def paceWindowEnd (n : Nat) (gov : Bool) (s : State) : State :=
  let s1 := s.putB DEV 0x24 14 gov
  if paceHolds s = false then paceBroken s1
  else if s.pace.full = false then { s1 with pace := { overs := 0, full := true } }
  else
    let slow := decide (guarantee (levelNow s) < pacePeriod n)
    let k := if slow then s.pace.overs + 1 else 0
    let s2 := { s1.wr DEV 0x24 (putFld (setBit (s1.rd DEV 0x24) 15) 0 12 (pacePeriod n)) with
      pace := { overs := k, full := true } }
    if k ≥ 2 then raise evPaceOver (s2.setB DEV 0x24 13) else s2

end Sys2Proof.Machine
end

