-- ==== Sys2Proof/Machine/Fabric.lean ====
section
/-! DEFINITION. The programmable fabric of the cloister (15): routing, logic cells, carry chains, MAC slices, block
memories, gate slots, global nets and user pins. The image's bit map is `Config.bitMap`; what the image says through it is
the manual's. Log entry 52 lists what the manual leaves to the model here. -/

namespace Sys2Proof.Machine

/-! ## GSR (R385, R413, R417) -/

/-- The output part of GSR is released: from release stage 1 (R413). -/
def Walk.outputsOn (k : Walk) : Bool := decide (k.mode = .running) || (decide (k.mode = .release) && decide (1 ≤ k.stage))

/-- The write part of GSR is released: from release stage 2 (R413). -/
def Walk.writesOn (k : Walk) : Bool := decide (k.mode = .running) || (decide (k.mode = .release) && decide (2 ≤ k.stage))

/-- The walk's reset part of GSR (R385, R413, R417): asserted until release stage 3. -/
def gsrReset (s : State) (w : Nat) : Bool := decide ((s.walk w).mode ≠ .running)

/-! ## Image records (R404) -/

/-- Bytes of a walk's configuration. -/
def State.cfgBytes (s : State) (w off len : Nat) : List Byte := memReadN (s.walk w).config off len

/-- A field of a record of walk `w`, by the bit map. -/
def State.field (s : State) (w off len : Nat) (f : Config.Field) : Nat := Config.bitMap f (s.cfgBytes w off len)

/-- A field of the record of the group that holds cell `i`; `f` makes the field from the cell's number in its group. -/
def State.cellField (s : State) (w i : Nat) (f : Nat → Config.Field) : Nat := s.field w (128 * (i / 8)) 128 (f (i % 8))

/-- A field of the record of the switch box at row `x.1`, column `x.2`. -/
def State.boxField (s : State) (w : Nat) (x : Nat × Nat) (f : Config.Field) : Nat :=
  s.field w (49152 + 124 * (24 * x.1 + x.2)) 124 f

/-- A field of I/O cell `i`, of MAC slice `k`, of memory `k`, of the port of the walk's well `k`, of the routing section. -/
def State.ioField (s : State) (w i : Nat) (f : Config.Field) : Nat := s.field w (96768 + 16 * i) 16 f
def State.macField (s : State) (w k : Nat) (f : Config.Field) : Nat := s.field w (97152 + 64 * k) 64 f
def State.memField (s : State) (w k : Nat) (f : Config.Field) : Nat := s.field w (97920 + 16 * k) 16 f
def State.wellField (s : State) (w k : Nat) (f : Config.Field) : Nat := s.field w (98048 + 8 * k) 8 f
def State.routeField (s : State) (w : Nat) (f : Config.Field) : Nat := s.field w 49152 47616 f

/-- Bit `k` of the boundary section from byte `off` on. -/
def State.boundaryBit (s : State) (w off k : Nat) : Bool :=
  nbit (memRead (s.walk w).config (98176 + off + k / 8)).toNat (k % 8)

/-! ## Routing (R380) -/

/-- The four lengths of a segment. -/
inductive Span where
  | l1 | l4 | l12 | long
deriving DecidableEq, Repr

/-- A segment of a walk's routing: along a row of groups or along a column (`vert`), on one track, from the crossing
`first` on. -/
structure Segment where
  span : Span
  vert : Bool
  line : Nat
  track : Nat
  first : Nat
deriving DecidableEq, Repr

/-- Tracks of a channel. -/
def Span.tracks : Span → Nat
  | .l1 => 24
  | .l4 => 16
  | .l12 => 8
  | .long => 4

/-- Crossings along the segment's channel: a walk is a grid of 24 columns and 16 rows of groups. -/
def Segment.crossings (g : Segment) : Nat := if g.vert then 16 else 24

/-- Its last crossing: no routing resource leaves its walk. -/
def Segment.last (g : Segment) : Nat :=
  let far := match g.span with | .l1 => g.first + 1 | .l4 => g.first + 4 | .l12 => g.first + 12 | .long => g.crossings
  min far (g.crossings - 1)

/-- The segment exists. -/
def Segment.ok (g : Segment) : Bool :=
  decide (g.line < (if g.vert then 24 else 16)) && decide (g.track < g.span.tracks) && decide (g.first < g.last) &&
    (decide (g.span ≠ .long) || decide (g.first = 0))

/-- Crossing number `i` of its channel, as row and column. -/
def Segment.crossing (g : Segment) (i : Nat) : Nat × Nat := if g.vert then (i, g.line) else (g.line, i)

/-- The switch boxes that its net reaches: those at its ends. -/
def Segment.ends (g : Segment) : List (Nat × Nat) := [g.crossing g.first, g.crossing g.last]

/-- The groups at which it is tapped: an L12 segment at every fourth, the others at all of theirs. -/
def Segment.taps (g : Segment) : List (Nat × Nat) :=
  let apart := match g.span with | .l12 => 4 | _ => 1
  ((List.range (g.last - g.first + 1)).filter (fun i => decide (i % apart = 0 ∨ i = g.last - g.first))).map
    (fun i => g.crossing (g.first + i))

/-- The number under which records name a segment, and back. -/
def Segment.code (g : Segment) : Nat :=
  let k := match g.span with | .l1 => 0 | .l4 => 1 | .l12 => 2 | .long => 3
  k + 4 * (b2n g.vert + 2 * (g.track + 32 * (g.line + 32 * g.first)))

/-- The segment of number `n`. -/
def Segment.ofCode (n : Nat) : Segment :=
  { span := match n % 4 with | 0 => .l1 | 1 => .l4 | 2 => .l12 | _ => .long
    vert := nbit n 2, track := n / 8 % 32, line := n / 256 % 32, first := n / 8192 }

/-- A signal of the fabric: a routing segment of walk `w`; the table, flip-flop or carry output of a cell; what an I/O
cell takes in; a bit of a MAC result, or its overflow; a bit of a memory port's read data; what a gate slot delivers; a
global net; SNAP0 or SNAP1; QREQ. -/
inductive Node where
  | low
  | segment (w : Nat) (g : Segment)
  | table (w i : Nat)
  | flop (w i : Nat)
  | cout (w i : Nat)
  | pin (w i : Nat)
  | product (w k bit : Nat)
  | excess (w k : Nat)
  | word (w p bit : Nat)
  | slot (w k : Nat)
  | net (n : Nat)
  | snap (n : Nat)
  | query (w : Nat)
deriving DecidableEq, Repr

/-- The signal of walk `w` that a record names by number `n`. -/
def Node.ofCode (w n : Nat) : Node :=
  let x := n / 16
  match n % 16 with
  | 1 => .segment w (Segment.ofCode x)
  | 2 => .table w (x % 3072)
  | 3 => .flop w (x % 3072)
  | 4 => .pin w (x % 24)
  | 5 => .product w (x / 48 % 12) (x % 48)
  | 6 => .excess w (x % 12)
  | 7 => .word w (x / 36 % 16) (x % 36)
  | 8 => .slot w (x % 128)
  | 9 => .net (x % 8)
  | 10 => .snap (x % 2)
  | 11 => .query w
  | _ => .low

/-- The group of a cell, as row and column. -/
def cellGroup (i : Nat) : Nat × Nat := (i / 192, i / 8 % 24)

/-- `n` can drive segment `g` at crossing `x`: another segment only in a switch box where both end, a cell only from the
group there (R380). -/
def Node.drives (n : Node) (g : Segment) (x : Nat × Nat) : Bool :=
  match n with
  | .segment _ h => h.ok && h.ends.contains x && g.ends.contains x
  | .table _ i => decide (cellGroup i = x)
  | .flop _ i => decide (cellGroup i = x)
  | .cout _ _ => false
  | _ => true

/-- What drives a segment: the first record along it that names a legal source. -/
def driverOf (s : State) (w : Nat) (g : Segment) : Node :=
  if g.ok = false then .low
  else
    (g.taps.findSome? (fun x =>
      let n := Node.ofCode w (s.boxField w x (.driver g.code))
      if n ≠ .low ∧ n.drives g x then some n else none)).getD .low

/-- What an input of a block takes: a segment of the walk, tapped at group `x` where the block is a cell, or a global net,
which reaches every block (R380, R382). -/
def inputOf (w code : Nat) (x : Option (Nat × Nat)) : Node :=
  match Node.ofCode w code with
  | .segment v g => if g.ok && (match x with | some c => g.taps.contains c | none => true) then .segment v g else .low
  | .net n => .net n
  | _ => .low

/-! ## Logic cells and the carry chain (R378, R379) -/

/-- A set or reset of a cell's flip-flop: unused, synchronous or asynchronous (R378). -/
inductive SetKind where
  | unused | synchronous | asynchronous
deriving DecidableEq, Repr

/-- What the image says of a logic cell (R378). -/
structure Cell where
  table : BitVec 16
  carry : Bool
  chainStart : Bool
  carryIn : Bool
  clock : Nat          -- GN0 to GN7
  falling : Bool
  gated : Bool         -- the clock enable is used
  setKind : SetKind
  setValue : Bool      -- a set, or a reset
  initial : Bool
deriving DecidableEq, Repr

/-- Logic cell `i` of walk `w`. -/
def cellOf (s : State) (w i : Nat) : Cell :=
  let on (f : Nat → Config.Field) : Bool := nbit (s.cellField w i f) 0
  { table := BitVec.ofNat 16 (s.cellField w i .table), carry := on .carry, chainStart := on .chainStart,
    carryIn := on .carryIn, clock := s.cellField w i .cellClock % 8, falling := on .cellFalling, gated := on .cellGated,
    setKind := match s.cellField w i .setKind % 4 with | 1 => .synchronous | 2 => .asynchronous | _ => .unused
    setValue := on .setValue, initial := on .cellInitial }

/-- Input `k` of a cell: I0 to I3, the clock enable 4, the set or reset 5. -/
def cellInput (s : State) (w i k : Nat) : Node :=
  inputOf w (s.cellField w i (fun n => .cellInput n k)) (some (cellGroup i))

/-- The table output for inputs I0 to I3 (R378). In carry mode the table takes the sum in place of I0 and 0 in place of
I1, and keeps I2 and I3 (R379; how the sum leaves the cell is a DESIGN CHOICE, log entry 52). -/
def Cell.output (c : Cell) (i0 i1 i2 i3 cin : Bool) : Bool :=
  let x := if c.carry then (i0 ^^ i1) ^^ cin else i0
  let y := if c.carry then false else i1
  c.table.getLsbD (b2n x + 2 * b2n y + 4 * b2n i2 + 8 * b2n i3)

/-- COUT: the majority of I0, I1 and CIN (R379). -/
def carryOut (i0 i1 cin : Bool) : Bool := (i0 && i1) || (i0 && cin) || (i1 && cin)

/-- The next value of a cell's flip-flop: an asynchronous set or reset overrides; on its clock edge a synchronous one
comes first, then the enable lets the table output in (R378). -/
def Cell.next (c : Cell) (edge enable set old d : Bool) : Bool :=
  if c.setKind = .asynchronous ∧ set = true then c.setValue
  else if edge = false then old
  else if c.setKind = .synchronous ∧ set = true then c.setValue
  else if c.gated = false ∨ enable = true then d
  else old

/-- The cell below cell `i` on the chain of its group column, counted from the bottom group upward (R379). -/
def cellBelow (i : Nat) : Option Nat :=
  if i % 8 ≠ 0 then some (i - 1) else if i < 192 then none else some (i - 192 + 7)

/-- CIN of cell `i`: what its chain starts with, or COUT of the cell below (R379). -/
def carryInto (s : State) (val : Node → Bool) (w i : Nat) : Bool :=
  let c := cellOf s w i
  if c.chainStart then c.carryIn
  else match cellBelow i with | some j => val (.cout w j) | none => c.carryIn

/-! ## MAC slices (R386, R387) -/

/-- What the image says of a MAC slice. -/
structure MacSlice where
  regA : Bool
  regB : Bool
  regM : Bool          -- the product
  regP : Bool
  sat : Bool
  clock : Nat
  falling : Bool
deriving DecidableEq, Repr

/-- MAC slice `k` of walk `w`. -/
def macOf (s : State) (w k : Nat) : MacSlice :=
  let on (f : Config.Field) : Bool := nbit (s.macField w k f) 0
  { regA := on (.macRegister 0), regB := on (.macRegister 1), regM := on (.macRegister 2), regP := on (.macRegister 3),
    sat := on .macSat, clock := s.macField w k .macClock % 8, falling := on .macFalling }

/-- P for an exact sum (R386): modulo 2^48, or clamped with SAT. -/
def macResult (sat : Bool) (x : Int) : BitVec 48 := BitVec.ofInt 48 (if sat then satS 48 x else x)

/-- The exact sum lies outside the 48-bit range (R386). -/
def macOverflow (x : Int) : Bool := decide (satS 48 x ≠ x)

/-- The product A × B (R386). -/
def macProduct (a b : BitVec 18) : BitVec 36 := BitVec.ofInt 36 (a.toInt * b.toInt)

/-- X for a mode input: 0, P itself, the cascade input, or the fabric input (R386). -/
def macX (mode : Nat) (p cascade fabric : BitVec 48) : BitVec 48 :=
  match mode with
  | 0 => 0
  | 1 => p
  | 2 => cascade
  | _ => fabric

/-- Registers of MAC slice `k`. -/
def macRegs (s : State) (w k : Nat) : MacRegs := nth (s.walk w).fabric.macs k { a := 0, b := 0, m := 0, p := 0 }

/-- A number from bit signals, least significant first. -/
def bitsOf (val : Node → Bool) (n : Nat) (f : Nat → Node) : Nat :=
  (List.range n).foldl (fun acc i => acc + b2n (val (f i)) * 2 ^ i) 0

/-- Input `k` of MAC slice `m`: A from 0, B from 18, the fabric input from 36, the mode from 84. -/
def macInput (s : State) (w m k : Nat) : Node := inputOf w (s.macField w m (.macInput k)) none

/-- A, B and their product as the slice uses them now, after its registers. -/
def macA (s : State) (val : Node → Bool) (w k : Nat) : BitVec 18 :=
  if (macOf s w k).regA then (macRegs s w k).a else BitVec.ofNat 18 (bitsOf val 18 (macInput s w k))
def macB (s : State) (val : Node → Bool) (w k : Nat) : BitVec 18 :=
  if (macOf s w k).regB then (macRegs s w k).b else BitVec.ofNat 18 (bitsOf val 18 (fun i => macInput s w k (18 + i)))
def macM (s : State) (val : Node → Bool) (w k : Nat) : BitVec 36 :=
  if (macOf s w k).regM then (macRegs s w k).m else macProduct (macA s val w k) (macB s val w k)

/-- The exact sum X + A × B of slice `k`; the cascade input is P of slice k − 1, and 0 below slice 0 (R386, R387). -/
def macExact (s : State) (val : Node → Bool) (w k : Nat) : Int :=
  let word (f : Nat → Node) : BitVec 48 := BitVec.ofNat 48 (bitsOf val 48 f)
  let mode := bitsOf val 2 (fun i => macInput s w k (84 + i))
  let x := macX mode (word (fun i => .product w k i)) (if k = 0 then 0 else word (fun i => .product w (k - 1) i))
    (word (fun i => macInput s w k (36 + i)))
  x.toInt + (macM s val w k).toInt

/-- The registers of slice `k` after an edge of its clock. -/
def macNext (s : State) (val : Node → Bool) (w k : Nat) : MacRegs :=
  { a := BitVec.ofNat 18 (bitsOf val 18 (macInput s w k))
    b := BitVec.ofNat 18 (bitsOf val 18 (fun i => macInput s w k (18 + i)))
    m := macProduct (macA s val w k) (macB s val w k)
    p := macResult (macOf s w k).sat (macExact s val w k) }

/-! ## Block memories (R388 to R390) -/

/-- Data bits of an aspect ratio, in the order of the table of R388. -/
def ratioWidth (r : Nat) : Nat := nth [1, 2, 4, 9, 18, 36] r 36

/-- Addresses of an aspect ratio (R388). -/
def ratioDepth (r : Nat) : Nat := nth [16384, 8192, 4096, 2048, 1024, 512] r 512

/-- The bits of the array that address `a` names, least significant first. Narrow ratios leave the ninth bit of each byte
unreachable (R388). -/
def ratioBits (r a : Nat) : List Nat :=
  let n := ratioWidth r
  (List.range n).map (fun i => if n ≤ 4 then 9 * ((n * a + i) / 8) + (n * a + i) % 8 else n * a + i)

/-- Bit `j` of a memory's array (R405). -/
def memBit (m : Mem) (j : Nat) : Bool := nbit (memRead m (j / 8)).toNat (j % 8)

/-- A memory with bit `j` of its array made `b`. -/
def memPutBit (m : Mem) (j : Nat) (b : Bool) : Mem :=
  let x := (memRead m (j / 8)).toNat
  memWrite m (j / 8) (byte (if b then x ||| 2 ^ (j % 8) else x &&& (255 - 2 ^ (j % 8))))

/-- What a write returns on the port's read data (R389). -/
inductive WriteMode where
  | writeFirst | readFirst | noChange
deriving DecidableEq, Repr

/-- A port on an edge of its clock: the bits it addresses, whether it writes, its data, and its mode. -/
structure PortUse where
  bits : List Nat
  write : Bool
  data : List Bool
  mode : WriteMode
deriving DecidableEq, Repr

/-- The bits that an access addresses. -/
def PortUse.read (a : PortUse) (m : Mem) : List Bool := a.bits.map (memBit m)

/-- Store an access's data, if it writes. -/
def PortUse.store (a : PortUse) (m : Mem) : Mem :=
  if a.write then foldS (fun (x : Nat × Bool) m => memPutBit m x.1 x.2) (a.bits.zip a.data) m else m

/-- Two accesses touch a common bit. -/
def PortUse.meets (a b : PortUse) : Bool := a.bits.any (fun x => b.bits.contains x)

/-- The array after the accesses of ports A and B (R390): where both write common bits, A's data is stored, or on
different nets (`same` false) the one that `pickA` says; never a mix. -/
def portsStore (a b : Option PortUse) (same pickA : Bool) (m : Mem) : Mem :=
  match a, b with
  | some x, some y =>
    if x.write && y.write && x.meets y then (if same || pickA then x else y).store m else y.store (x.store m)
  | some x, none => x.store m
  | none, some y => y.store m
  | none, none => m

/-- The read data of access `x` (R389, R390): a read that meets the other port's write returns the old data, or on different
nets the old or the new as `pickOld` says. -/
def portReads (x : PortUse) (other : Option PortUse) (same pickOld : Bool) (old : List Bool) (m m' : Mem) : List Bool :=
  if x.write then
    match x.mode with
    | .writeFirst => x.data
    | .readFirst => x.read m
    | .noChange => old
  else
    match other with
    | some y => if y.write && x.meets y && !same && !pickOld then x.read m' else x.read m
    | none => x.read m

/-- What the image says of port `p` (0 A, 1 B) of memory `k`. -/
structure PortCfg where
  ratio : Nat
  clock : Nat
  falling : Bool
  mode : WriteMode
  regOn : Bool
deriving DecidableEq, Repr

/-- Port `p` of memory `k` of walk `w`. -/
def portOf (s : State) (w k p : Nat) : PortCfg :=
  { ratio := s.memField w k (.memRatio p) % 6, clock := s.memField w k (.memClock p) % 8,
    falling := nbit (s.memField w k (.memFalling p)) 0, regOn := nbit (s.memField w k (.memRegister p)) 0
    mode := match s.memField w k (.memMode p) % 3 with | 0 => .writeFirst | 1 => .readFirst | _ => .noChange }

/-- Input `i` of port `p` of memory `k`: the address from 0, the data from 14, the write enable at 50. -/
def memInput (s : State) (w k p i : Nat) : Node := inputOf w (s.memField w k (.memInput p i)) none

/-- The access of a port on an edge of its clock. With a 36-bit port the other port is unavailable (R388); the write part
of GSR holds the write enable inactive (R385). -/
def accessOf (s : State) (val : Node → Bool) (w k p : Nat) : Option PortUse :=
  let c := portOf s w k p
  if (portOf s w k (1 - p)).ratio = 5 ∧ (c.ratio ≠ 5 ∨ p = 1) then none
  else
    some { bits := ratioBits c.ratio (bitsOf val 14 (memInput s w k p) % ratioDepth c.ratio)
           write := val (memInput s w k p 50) && (s.walk w).writesOn
           data := (List.range (ratioWidth c.ratio)).map (fun i => val (memInput s w k p (14 + i)))
           mode := c.mode }

/-- Read data and output register of a port (A 2k, B 2k + 1). -/
def memPort (s : State) (w p : Nat) : MemPort := nth (s.walk w).fabric.ports p { data := 0, reg := 0 }

/-- A number from a list of bits, least significant first. -/
def bitList (xs : List Bool) : Nat := xs.foldr (fun b acc => b2n b + 2 * acc) 0

/-! ## Gate slots (R381, R404, R415) -/

/-- The clamp mode of slots from walk `a` into walk `b`, neighbours on the ring (CLO_CLAMP). -/
def clampMode (s : State) (a b : Nat) : Nat :=
  if (a, b) = (0, 3) then s.fld CLO 0x07 14 2
  else if (a, b) = (3, 2) then s.fld CLO 0x07 12 2
  else if (a, b) = (2, 1) then s.fld CLO 0x07 10 2
  else if (a, b) = (1, 0) then s.fld CLO 0x07 8 2
  else if (a, b) = (3, 0) then s.fld CLO 0x07 6 2
  else if (a, b) = (2, 3) then s.fld CLO 0x07 4 2
  else if (a, b) = (1, 2) then s.fld CLO 0x07 2 2
  else s.fld CLO 0x07 0 2

/-- The walk that feeds incoming slot `k` of walk `b`, slots 0 to 63 or 64 to 127 (R404). -/
def slotSource (b k : Nat) : Nat := if k < 64 then (b + 3) % 4 else (b + 1) % 4

/-- The value that clamped incoming slot `k` delivers into walk `b` (R415): the image value is 0 while the walk has held
no image since reset; mode 3 holds the value that the slot passed when the clamp began. -/
def clampValue (s : State) (b k : Nat) : Bool :=
  match clampMode s (slotSource b k) b with
  | 0 => (s.walk b).held && s.boundaryBit b 0 k
  | 1 => false
  | 2 => true
  | _ => (s.walk b).fabric.slots.getLsbD k

/-- What incoming slot `k` delivers into walk `b` when its source walk drives `v` (R381, R404): `v` unchanged from the
source's release stage 1 on, its clamp value before; an unused slot of the image delivers 0. -/
def gateSlot (s : State) (b k : Nat) (v : Bool) : Bool :=
  if (s.walk b).held ∧ s.boundaryBit b 16 k = false then false
  else if (s.walk (slotSource b k)).outputsOn then v else clampValue s b k

/-- The net that the source walk of incoming slot `k` of walk `b` gives to that slot: each boundary has 64 slots in each
direction (R381); outgoing slots 0 to 63 lead to walk (w + 1) mod 4, 64 to 127 to walk (w + 3) mod 4. A net between
opposite walks passes a slot into the walk between and one out of it. -/
def slotDriver (s : State) (b k : Nat) : Node :=
  let a := slotSource b k
  inputOf a (s.routeField a (.slotOut k)) none

/-! ## User pins (R377, R392, R404, R414) -/

/-- Pin of I/O cell `i` of walk `w`, counted over IOA0-31, IOB0-31, IOC0-31: each walk has 24 in turn (R377). -/
def pinOf (w i : Nat) : Nat := 24 * w + i

/-- The clock-capable pins of source codes 2 to 5: IOA0, IOA1, IOB0 and IOB1 (R377, R403). -/
def clockPin (code : Nat) : Nat := nth [0, 1, 32, 33] (code - 2) 0

/-- Byte `i` of the global frame in effect (R403, R419). -/
def State.globalByte (s : State) (i : Nat) : Nat := (nth s.clo.global i 0).toNat

/-- The pin serves as source of CCK0 or CCK1 (R384). -/
def isCckPin (s : State) (pin : Nat) : Bool :=
  [0, 2].any (fun i => decide (2 ≤ s.globalByte i) && decide (clockPin (s.globalByte i) = pin))

/-- Weak pulls of a pin (R392). -/
inductive Pull where
  | none | up | down | keeper
deriving DecidableEq, Repr

/-- What the device does on a user pin: the level it drives with its strength in mA, or none, and its pull (R392). -/
structure Pad where
  level : Option Bool
  mA : Nat
  fast : Bool
  pull : Pull
  schmitt : Bool
deriving DecidableEq, Repr

/-- A pin that drives nothing, with pull `u`. -/
def Pad.idle (u : Pull) : Pad := { level := none, mA := 0, fast := false, pull := u, schmitt := false }

/-- The strength of drive code `d`, at 3.3 V or at 1.8 V (R404). -/
def driveStrength (high : Bool) (d : Nat) : Nat := nth (if high then [4, 8, 12, 16] else [2, 4, 8, 12]) d 0

/-- Pull code of an I/O cell record (R404). -/
def pullOf (n : Nat) : Pull :=
  match n with
  | 0 => .none
  | 1 => .up
  | 2 => .down
  | _ => .keeper

/-- The bank of a pin works at 3.3 V (R392, R393). -/
def pinHigh (s : State) (pin : Nat) : Bool :=
  let b := if pin < 32 then s.straps.bankA else if pin < 64 then s.straps.bankB else s.straps.bankC
  b = some true

/-- A pin in safe state `code` (R414); `on` and `held` are what its output did when the safe state began. The strength of
a held level is not stated and taken as that of codes 3 and 4 (log entry 52). -/
def safePad (code : Nat) (on held : Bool) : Pad :=
  match code with
  | 0 => Pad.idle .up
  | 1 => Pad.idle .down
  | 2 => if on then { Pad.idle .none with level := some held, mA := 8 } else Pad.idle .keeper
  | 3 => { Pad.idle .none with level := some false, mA := 8 }
  | _ => { Pad.idle .none with level := some true, mA := 8 }

/-- A pin under its image record (R392, R404), its output at `out` with enable `en`. -/
def imagePad (s : State) (w i : Nat) (out en : Bool) : Pad :=
  let b (k : Nat) : Nat := (memRead (s.walk w).config (96768 + 16 * i + k)).toNat
  let drives : Bool :=
    match fld (b 0) 0 2 with
    | 0 => false
    | 1 => true
    | 2 => en
    | _ => !out
  { level := if drives then some out else none
    mA := driveStrength (pinHigh s (pinOf w i)) (fld (b 1) 2 2), fast := nbit (b 0) 2, pull := pullOf (fld (b 1) 0 2)
    schmitt := nbit (b 0) 3 }

/-- What the device does on user pin `i` of walk `w` (R384, R413, R414, R417, R426, R569): under its image from release
stage 1 on; a source of CCKn only listens; before the first release safe state 0, whatever CLO_SAFE holds (R426 against
R413: log entry 52); else the stored safe state. In Hush all is held, in Dormant and in reset the pin is pulled up. -/
def userPad (s : State) (w i : Nat) (out en : Bool) : Pad :=
  let k := s.walk w
  if s.power.mode ≠ .run ∧ s.power.mode ≠ .hush then Pad.idle .up
  else if k.outputsOn then imagePad s w i out en
  else if isCckPin s (pinOf w i) then Pad.idle .none
  else if k.held = false then safePad 0 false false
  else safePad (nth s.clo.safe (pinOf w i) 0) (k.fabric.padOn.getLsbD i) (k.fabric.padLevel.getLsbD i)

/-- Register bits of an I/O cell: input, output, output enable (R404, byte 2). -/
def ioRegister (s : State) (w i r : Nat) : Bool := nbit (memRead (s.walk w).config (96768 + 16 * i + 2)).toNat r

/-- Input `k` of I/O cell `i`: the output 0, its enable 1. -/
def ioInput (s : State) (w i k : Nat) : Node := inputOf w (s.ioField w i (.ioInput k)) none

/-- Output and enable of I/O cell `i`, through their flip-flops where the record uses them. -/
def ioOutput (s : State) (val : Node → Bool) (w i : Nat) : Bool :=
  if ioRegister s w i 1 then (s.walk w).fabric.ioOut.getLsbD i else val (ioInput s w i 0)
def ioEnable (s : State) (val : Node → Bool) (w i : Nat) : Bool :=
  if ioRegister s w i 2 then (s.walk w).fabric.ioEn.getLsbD i else val (ioInput s w i 1)

/-- The level on user pin `i` of walk `w`: what the device drives, else what the board last put there. -/
def padLevel (s : State) (val : Node → Bool) (w i : Nat) : Bool :=
  ((userPad s w i (ioOutput s val w i) (ioEnable s val w i)).level).getD (s.clo.pins.getLsbD (pinOf w i))

/-! ## The value of a signal -/

/-- A signal, from the signals `val` that it depends on. -/
def signal (s : State) (val : Node → Bool) : Node → Bool
  | .low => false
  | .segment w g => val (driverOf s w g)
  | .table w i =>
    let x (k : Nat) : Bool := val (cellInput s w i k)
    (cellOf s w i).output (x 0) (x 1) (x 2) (x 3) (carryInto s val w i)
  | .flop w i =>
    let c := cellOf s w i
    if gsrReset s w = false ∧ c.setKind = .asynchronous ∧ val (cellInput s w i 5) = true then c.setValue
    else (s.walk w).fabric.cells.contains i
  | .cout w i =>
    (cellOf s w i).carry && carryOut (val (cellInput s w i 0)) (val (cellInput s w i 1)) (carryInto s val w i)
  | .pin w i => if ioRegister s w i 0 then (s.walk w).fabric.ioIn.getLsbD i else padLevel s val w i
  | .product w k b =>
    if (macOf s w k).regP then (macRegs s w k).p.getLsbD b
    else (macResult (macOf s w k).sat (macExact s val w k)).getLsbD b
  | .excess w k => macOverflow (macExact s val w k)
  | .word w p b =>
    if (portOf s w (p / 2) (p % 2)).regOn then (memPort s w p).reg.getLsbD b else (memPort s w p).data.getLsbD b
  | .slot b k => gateSlot s b k (val (slotDriver s b k))
  | .net n => s.clo.nets.getLsbD n
  | .snap n => (if n = 0 then s.clo.snap0 else s.clo.snap1).contains 1
  | .query w => (s.walk w).qreq

/-- The value of a signal, followed `n` signals deep; a loop of tables has no value in the manual (free value, R378). -/
def signalTo (s : State) : Nat → Node → Bool
  | 0, _ => Config.outside s.free 100
  | n + 1, x => signal s (signalTo s n) x

/-- The value of a signal: no path without a loop is longer than the signals there are. -/
def State.value (s : State) (x : Node) : Bool := signalTo s (2 ^ 20) x

/-! ## Global nets and CCKn (R382 to R384, R403, R419) -/

/-- Global buffer `b` of walk `w` (R383, R404): its signal from release stage 1 on, held at 0 before, and 0 where the image
does not use it. -/
def bufferLevel (s : State) (w b : Nat) : Bool :=
  (s.walk w).outputsOn && s.boundaryBit w (32 + b) 7 && s.value (inputOf w (s.routeField w (.buffer b)) none)

/-- The level of a global net with source byte `src` (R382, R403). -/
def netLevel (s : State) (src : Nat) : Bool :=
  match src with
  | 0 => false
  | 1 => s.clo.cck.getLsbD 0
  | 2 => s.clo.cck.getLsbD 1
  | 3 | 4 | 5 | 6 => padLevel s s.value (clockPin (src - 1) / 24) (clockPin (src - 1) % 24)
  | n => if 8 ≤ n ∧ n ≤ 23 then bufferLevel s ((n - 8) / 4) ((n - 8) % 4) else false

/-- The user clocks run: a global frame is in effect, and neither Hush nor a sleep entry has gated CCK0, CCK1 and the
global nets (R399, R400, R419). -/
def userClocksOn (s : State) : Bool :=
  !s.clo.global.isEmpty && decide (s.power.mode = .run) && s.power.committed.isNone &&
    (match s.power.entry with | some e => !e.stopped.contains .clocks | none => true)

/-! ## Loading a walk (R413) -/

/-- Flip-flops at what `f` says of their initial value: 0, or the image's. -/
def bitsFrom (n : Nat) (f : Nat → Bool) : Nat := (List.range n).foldl (fun acc i => acc + b2n (f i) * 2 ^ i) 0

/-- The flip-flops of a walk at 0; its clamps and pins keep what they hold (R413, R417). -/
def Fabric.cleared (x : Fabric) : Fabric := { Fabric.reset with slots := x.slots, padOn := x.padOn, padLevel := x.padLevel }

/-- The flip-flops of walk `w` at the initial values of its image (R378, R413). -/
def initialFabric (s : State) (w : Nat) : Fabric :=
  let io (k : Nat) : BitVec 24 := BitVec.ofNat 24 (bitsFrom 24 (fun i => nbit (s.ioField w i (.ioInitial k)) 0))
  { (s.walk w).fabric with
    cells := (List.range 3072).filter (fun i => nbit (s.cellField w i .cellInitial) 0)
    ioIn := io 0, ioOut := io 1, ioEn := io 2
    macs := (List.range 12).map (fun k =>
      { a := BitVec.ofNat 18 (s.macField w k (.macInitial 0)), b := BitVec.ofNat 18 (s.macField w k (.macInitial 1)),
        m := BitVec.ofNat 36 (s.macField w k (.macInitial 2)), p := BitVec.ofNat 48 (s.macField w k (.macInitial 3)) })
    ports := (List.range 16).map (fun p =>
      { data := BitVec.ofNat 36 (s.memField w (p / 2) (.memInitial (p % 2))),
        reg := BitVec.ofNat 36 (s.memField w (p / 2) (.memInitial (p % 2))) }) }

/-- The incoming slots of walk `b` whose sources are in `ws` and pass their nets now hold those values from here on
(R415). -/
def holdSlots (ws : List Nat) (s0 : State) (b : Nat) (s : State) : State :=
  let v (k : Nat) : Bool :=
    if ws.contains (slotSource b k) ∧ (s0.walk (slotSource b k)).outputsOn then s0.value (.slot b k)
    else (s0.walk b).fabric.slots.getLsbD k
  s.modWalk b (fun k => { k with fabric := { k.fabric with slots := BitVec.ofNat 128 (bitsFrom 128 v) } })

/-- The pins of walk `w` hold what they drive now, when their image ran until here (R414). -/
def holdPads (s0 : State) (w : Nat) (s : State) : State :=
  if (s0.walk w).outputsOn = false then s
  else
    let pad (i : Nat) : Pad := userPad s0 w i (ioOutput s0 s0.value w i) (ioEnable s0 s0.value w i)
    s.modWalk w (fun k => { k with fabric := { k.fabric with
      padOn := BitVec.ofNat 24 (bitsFrom 24 (fun i => (pad i).level.isSome))
      padLevel := BitVec.ofNat 24 (bitsFrom 24 (fun i => (pad i).level = some true)) } })

end Sys2Proof.Machine
end

