-- ==== Sys2Proof/Machine/Cloister.lean ====
section
/-! DEFINITION. Loading the cloister (16): images in from the window or from flash, the checks in their order, the
staged release, safe states, and what a load means for the wells and for the logic of a walk. -/

namespace Sys2Proof.Machine

/-! ## Error codes (16, CLO_WALK_STATE.ERR) -/

abbrev clFormat : Nat := 1
abbrev clHdrCrc : Nat := 2
abbrev clBank : Nat := 3
abbrev clGlobal : Nat := 4
abbrev clUnbound : Nat := 5
abbrev clFrameCrc : Nat := 6
abbrev clHmac : Nat := 7
abbrev clLength : Nat := 8
abbrev clAbort : Nat := 9
abbrev clFlash : Nat := 10
abbrev clBusy : Nat := 11
abbrev clClock : Nat := 12

/-- Change the cloister controller. -/
def State.modClo (s : State) (f : Cloister → Cloister) : State := { s with clo := f s.clo }

/-- Walks a load targets (R412): one walk, or all four. -/
def targetWalks (t : Nat) : List Nat := if t = 4 then [0, 1, 2, 3] else [t]

/-- A load has entered LOADING (check 6 has passed). -/
def Load.inLoading (l : Load) : Bool :=
  match l.step with
  | .header => false
  | .frame types => decide (types.length < if l.target = 4 then 5 else 1)
  | _ => true

/-- A load that ends with outcome `err`: its walks go to FAILED once they were LOADING; the event rises (R411, R417,
R420; the Edges of 16 name the event for a header failure too). -/
def loadEnds (err : Nat) (s : State) : State :=
  match s.clo.load with
  | none => s
  | some l =>
    let s1 := s.modClo (fun c => { c with load := none, err := err })
    let s2 :=
      if l.inLoading then foldS (fun w s => s.modWalk w (fun k => { k with mode := .failed })) (targetWalks l.target) s1
      else s1
    raise evClo s2

/-! ## Starting and ending a load (R408, R418) -/

/-- A load that starts with CLO_CTRL word `v`. -/
def Load.start (v : Word) (now : Nat) : Load :=
  { flash := wbit v 13, target := wfld v 10 3, bound := wbit v 6, slot := wfld v 7 3, bytes := [], count := 0, length := 0,
    step := .header, last := now, gap := 0 }

/-- LOAD = 1 takes effect with CLO_CTRL word `v` (R408). -/
def cloLoad (v : Word) (s : State) : State :=
  match s.clo.load with
  | some _ => raise evClo (s.modClo (fun c => { c with err := clBusy }))
  | none => s.modClo (fun c => { c with load := some (Load.start v s.now) })

/-- ABORT = 1 takes effect (R418): ignored with no load, and once check 9 has passed. -/
def cloAbort (s : State) : State :=
  match s.clo.load with
  | none => s
  | some l =>
    match l.step with
    | .release => s
    | _ => loadEnds clAbort s

/-! ## The checks (R411) -/

/-- The load's bytes in image order. -/
def Load.image (l : Load) : List Byte := l.bytes.reverse

/-- A used bank's declared voltage differs from the sensed one (R393, check 3). -/
def bankWrong (b : Straps) (bankv i : Nat) : Bool :=
  let sensed := match i with | 0 => b.bankA | 1 => b.bankB | _ => b.bankC
  nbit bankv (3 + i) && decide (sensed ≠ some (nbit bankv i))

/-- Checks 1 to 5 on a header: 0 when all pass, else the error (R411). -/
def headerError (s : State) (l : Load) (h : List Byte) : Nat :=
  let at_ (o n : Nat) : Nat := leVal ((h.drop o).take n)
  let full := nbit (at_ 7 1) 1
  if at_ 0 4 ≠ 0x52444458 ∨ at_ 4 2 ≠ 1 ∨ at_ 6 1 ≠ 1 ∨ full ≠ decide (l.target = 4) ∨
      at_ 18 1 ≠ (if full then 0x0F else 2 ^ l.target) then clFormat
  else if crc32 (h.take 12 ++ [0, 0, 0, 0] ++ (h.drop 16).take 80) ≠ at_ 12 4 then clHdrCrc
  else if [0, 1, 2].any (fun i => bankWrong s.straps (at_ 24 1) i) then clBank
  else if full = true ∧ at_ 20 4 = 0 then clGlobal
  else if full = false ∧ at_ 20 4 ≠ s.clo.tag then clGlobal
  else if l.bound = true ∧ (nbit (at_ 7 1) 0 = true ∨ 7 < at_ 19 1) then clUnbound
  else 0

/-- Frame types a load brings, in order (R402). -/
def frameTypes (t : Nat) : List Nat := if t = 4 then [0x10, 0x20, 0x21, 0x22, 0x23] else [0x20 + t]

/-- Number of set bits of a byte. -/
def ones8 (x : Nat) : Nat := (maskList x 8).length

/-- A frame header has the type and the length it must have (check 6). -/
def frameHeaderOk (h : List Byte) (typ : Nat) : Bool :=
  let len := leVal ((h.drop 4).take 4)
  decide (leVal (h.take 2) = typ) &&
    decide (len = if typ = 0x10 then 64 else 98304 + 2304 * ones8 ((nth h 2 0).toNat))

/-- A CCKn source pair that is not reserved (R403). -/
def cckOk (src div : Nat) : Bool :=
  (decide (src = 0) && decide (4 ≤ div ∧ div ≤ 64)) || (decide (2 ≤ src ∧ src ≤ 5) && decide (div = 0))

/-- A global-net source that is not reserved (R403). -/
def gnOk (src : Nat) : Bool := decide (src ≤ 6) || decide (8 ≤ src ∧ src ≤ 23)

/-- Check 8 on a global frame: 0 or the error. -/
def globalError (s : State) (d : List Byte) : Nat :=
  let b (i : Nat) : Nat := (nth d i 0).toNat
  if (!cckOk (b 0) (b 1) || !cckOk (b 2) (b 3) || !(List.range 8).all (fun i => gnOk (b (4 + i)))) = true then clFormat
  else if (b 0 = 0 ∨ b 2 = 0) ∧ s.power.rimLock = false then clClock
  else 0

/-- `n` blocks of `len` bytes. -/
def blocksOf (len : Nat) : Nat → List Byte → List (List Byte)
  | 0, _ => []
  | n + 1, bs => bs.take len :: blocksOf len n (bs.drop len)

/-- Put initialization blocks into the memories named by a mask (R404, R405, R413). -/
def initMems (mask : Nat) (blocks : List (List Byte)) (mems : List Mem) : List Mem :=
  foldS (fun (p : Nat × List Byte) ms => modAt ms p.1 (fun m => memWriteL m 0 p.2)) ((maskList mask 8).zip blocks) mems

/-- A frame of type `typ` has passed its checks: the global frame takes effect, or a walk takes its configuration and
memory blocks (R413, R419). -/
def frameTaken (typ memInit : Nat) (d : List Byte) (s : State) : State :=
  if typ = 0x10 then s.modClo (fun c => { c with global := d.take 12 })
  else
    s.modWalk (typ - 0x20) (fun k =>
      { k with
        config := memOf 0 (d.take 98304)
        mems := initMems memInit (blocksOf 2304 (ones8 memInit) (d.drop 98304)) k.mems })

/-- The HMAC key of a binding slot: none for an empty or revoked slot (R406, R555). -/
def slotKey (s : State) (n : Nat) : Option (List Byte) :=
  if n = 0xFF then some (List.replicate 16 0)
  else
    match s.sec.slots[n]? with
    | some k => if k.used && !k.revoked then some k.key else none
    | none => none

/-- Check 9's HMAC holds (R406). -/
def hmacHolds (s : State) (img : List Byte) : Bool :=
  match slotKey s (nth img 19 0).toNat with
  | none => false
  | some k => decide (hmac k (img.take 96 ++ img.drop 128) = (img.drop 96).take 32)

/-- Replace the load in progress. -/
def State.setLoad (s : State) (l : Load) : State := s.modClo (fun c => { c with load := some l })

/-- The open and stuck inputs of well `w` are held inactive (R191, R413). -/
def quietPort (w : Nat) (s : State) : State := s.modWell w (fun g => { g with openLine := false, stuckLine := false })

/-- The first frame header passes: the target walks enter LOADING, their flip-flops at 0 and their pins and the slots they
feed in safe and clamped state, their well ports fall silent, and a walk that had agreed to a sleep entry withdraws (R191,
R412 to R415, R422). -/
def enterLoading (l : Load) (s : State) : State :=
  let ws := targetWalks l.target
  let s0 := foldS (holdPads s) ws (foldS (holdSlots ws s) [0, 1, 2, 3] s)
  let s1 := foldS (fun w s => s.modWalk w (fun k =>
    { k with mode := .loading, qreq := false, fabric := k.fabric.cleared })) ws s0
  let s2 := foldS quietPort ((List.range 64).filter (fun w => ws.contains (walkOfWell w))) s1
  raise evClo (foldS walkWithdraws ws s2)

/-- What follows once byte number `l.count` is in: the checks due there (R411). Every frame is a multiple of 16 bytes
long and the first begins at byte 128, so a frame header ends on a multiple of 16. -/
def loadChecks (s : State) (l : Load) : State :=
  match l.step with
  | .header =>
    if l.count < 128 then s
    else
      let k := headerError s l l.image
      if k ≠ 0 then loadEnds k s else s.setLoad { l with step := .frame (frameTypes l.target), length := leVal ((l.image.drop 8).take 4) }
  | .frame types =>
    let h := (l.bytes.take 16).reverse
    if l.count % 16 ≠ 0 then s
    else if frameHeaderOk h (at0' types) = false then loadEnds clFormat s
    else
      let l' := { l with
        step := .data types (nth h 2 0).toNat l.count (leVal ((h.drop 4).take 4)) (leVal ((h.drop 8).take 4)) }
      if l.inLoading then s.setLoad l' else enterLoading l (s.setLoad l')
  | .data types memInit start len crc =>
    if l.count < start + len then s
    else
      let d := (l.bytes.take len).reverse
      let typ := at0' types
      let s1 := s.wr CLO 0x10 (word (crc32 d))
      if crc32 d ≠ crc then loadEnds clFrameCrc s1
      else
        let k := if typ = 0x10 then globalError s d else 0
        if k ≠ 0 then loadEnds k s1
        else
          let l' := { l with step := match types.tail with | [] => .tail l.count | ts => .frame ts }
          (frameTaken typ memInit d s1).setLoad l'
  | _ => s
where at0' (xs : List Nat) : Nat := nth xs 0 0

/-- Check 9: the total of the bytes is LENGTH and the HMAC holds; then the walks enter RELEASE with their gap sampled and
their flip-flops at the image's initial values (R411, R413, R416). -/
def loadLast (s : State) : State :=
  match s.clo.load with
  | none => s
  | some l =>
    if l.inLoading = false ∨ l.count < l.length then s
    else if l.step = .tail l.length ∧ hmacHolds s l.image = true then
      raise evClo (foldS (fun w s => s.modWalk w (fun k =>
        { k with mode := .release, stage := 0, fabric := initialFabric s w })) (targetWalks l.target)
        (s.setLoad { l with step := .release, gap := s.fld CLO 0x02 0 12 }))
    else loadEnds clHmac s

/-- A load takes in one more byte (R409 to R411). -/
def loadByte (b : Byte) (s : State) : State :=
  match s.clo.load with
  | none => s
  | some l =>
    let l' := { l with bytes := b :: l.bytes, count := l.count + 1, last := s.now }
    loadLast (loadChecks (s.setLoad l') l')

/-- A load can take another byte: it is not released, and LENGTH is not reached (R409). -/
def Load.takes (l : Load) : Bool :=
  match l.step with
  | .release => false
  | .header => true
  | _ => decide (l.count < l.length)

/-- A word for CLO_CONFIG with INDEX `n` (R407, R409): the load's next two bytes, or false where no load takes it. -/
def cloConfigWord (n : Nat) (v : Word) (s : State) : State × Bool :=
  match s.clo.load with
  | none => (s, false)
  | some l =>
    if l.flash ∨ l.target ≠ n ∨ l.takes = false then (s, false)
    else
      let s1 := loadByte (byte (wfld v 8 8)) s
      match s1.clo.load with
      | none => (s1, true)
      | some l1 => if l1.takes then (loadByte (byte (wfld v 0 8)) s1, true) else (s1, true)

/-- Flash address of the next byte that a load reads (R410). -/
def Load.flashAddress (l : Load) : Nat := (l.slot + 1) * 0x100000 + l.count

/-- The load reads boot flash with command 0x6B at RIM ÷ 4 (`quad`), or with 0x0B at RIM ÷ 8, as SUP_BOOT.SRC says (R410,
R520); for a boot that used no flash the manual names no command, and either is taken (DESIGN CHOICE, log entry 52). -/
def flashReads (s : State) (quad : Bool) : Bool :=
  match s.fld SUP 0x02 14 2 with
  | 0 => !quad
  | 1 => quad
  | _ => true

/-- The controller holds the boot-flash interface: a load with SRC = 1 still reads (R410). -/
def flashHeld (s : State) : Bool :=
  match s.clo.load with
  | some l => l.flash && l.takes
  | none => false

/-- FLASH_IMAGE_BYTE: the boot flash answers the read of address `addr`, which the controller made with the command that
`quad` says: a byte, or none when it does not answer (R410). -/
def flashByte (addr : Nat) (quad : Bool) (b : Option Byte) (s : State) : State :=
  match s.clo.load with
  | none => s
  | some l =>
    if l.flash = false ∨ l.takes = false ∨ addr ≠ l.flashAddress ∨ flashReads s quad = false then s
    else
      match b with
      | some x => loadByte x s
      | none => loadEnds clFlash s

/-- LOAD_WORD_TIMEOUT: no word has come for 2^24 RIM (R409). -/
def loadTimeout (s : State) : State :=
  match s.clo.load with
  | none => s
  | some l => if l.flash ∨ l.step = .release then s else loadEnds clLength (s.reach (l.last + 2 ^ 24))

/-- RELEASE_STAGE: the next release stage falls on every walk of the load, on an edge of CCK0; the third leaves them RUNNING
(R416, R421). With CCK0 held low no stage falls (R419). -/
def releaseStage (s : State) : State :=
  match s.clo.load with
  | none => s
  | some l =>
    if l.step ≠ .release ∨ userClocksOn s = false then s
    else
      let ws := targetWalks l.target
      if (s.walk (nth ws 0 0)).stage < 2 then
        foldS (fun w s => s.modWalk w (fun k => { k with stage := k.stage + 1, held := true })) ws s
      else
        let s1 := foldS (fun w s => s.modWalk w (fun k => { k with mode := .running, stage := 0 })) ws s
        let tag := if l.target = 4 then leVal ((l.image.drop 20).take 4) else s.clo.tag
        raise evClo (s1.modClo (fun c => { c with load := none, err := 0, tag := tag }))

/-! ## Safe states and clamps (R414, R415) -/

/-- A word for CLO_SAFE_A to CLO_SAFE_C takes effect (R414): codes 0 to 4 store PIN's state, code 7 only selects. -/
def cloSafe (r : Nat) (v : Word) (s : State) : State :=
  let i := 32 * (r - 4) + wfld v 8 5
  let s1 := s.wr CLO r (v &&& 0x1F00)
  if wfld v 0 3 ≤ 4 then s1.modClo (fun c => { c with safe := modAt c.safe i (fun _ => wfld v 0 3) }) else s1

/-- Safe state of the pin that a CLO_SAFE register selects. -/
def safeOf (s : State) (r : Nat) : Nat := nth s.clo.safe (32 * (r - 4) + s.fld CLO r 8 5) 0

/-! ## Well ports (R191, R413, R501) -/

/-- The port of well `w` delivers what user logic presents: its walk runs, the device is in Run, and no sleep entry has
stopped the walk clocks, which stay stopped once it has committed (R191, R399, R413, R417, R501). -/
def wellPortLive (s : State) (w : Nat) : Bool :=
  decide ((s.walk (walkOfWell w)).mode = .running) && decide (s.power.mode = .run) &&
    s.power.committed.isNone && (match s.power.entry with | some e => !e.stopped.contains .clocks | none => true)

end Sys2Proof.Machine
end

