-- ==== Sys2Proof/Machine/Sec.lean ====
section
/-! DEFINITION. The SEC target (21): its windows, its command engine, binding slots and sessions. -/

namespace Sys2Proof.Machine

/-! ## Codes (21, SEC_STATUS.CODE) -/

abbrev scBadCmd : Nat := 1
abbrev scBadArg : Nat := 2
abbrev scLocked : Nat := 3
abbrev scSlotUsed : Nat := 4
abbrev scSlotEmpty : Nat := 5
abbrev scRevoked : Nat := 6
abbrev scSequence : Nat := 7
abbrev scSource : Nat := 8
abbrev scProgFail : Nat := 9

/-- Change the SEC block. -/
def State.modSec (s : State) (f : Sec → Sec) : State := { s with sec := f s.sec }

/-- `n` words of free bytes, each word its own free value (log entry 3). -/
def State.freeBytes (s : State) : Nat → List Byte × State
  | 0 => ([], s)
  | n + 1 =>
    let (i, s1) := s.takeFree
    let (bs, s2) := s1.freeBytes n
    (leBytes 2 (Config.freeWord i).toNat ++ bs, s2)

/-- Binding slot `n`. -/
def State.slot (s : State) (n : Nat) : BindSlot := nth s.sec.slots n BindSlot.fresh

/-- Change binding slot `n`. -/
def State.modSlot (s : State) (n : Nat) (f : BindSlot → BindSlot) : State :=
  s.modSec (fun c => { c with slots := modAt c.slots n f })

/-- One bit of each slot as a byte, slot 0 in bit 0. -/
def slotByte (f : BindSlot → Bool) (s : State) : Nat :=
  foldS (fun i a => a + b2n (f (s.slot i)) * 2 ^ i) (List.range 8) 0

/-- DEV_CTRL.LOCK in force (R123). -/
def locked (s : State) : Bool := s.bit DEV 0x03 15

/-! ## Windows (R544) -/

/-- Word `k` of a byte string laid out as a window. -/
def windowWord (bs : List Byte) (k : Nat) : Word := word ((nth bs (2 * k) 0).toNat * 256 + (nth bs (2 * k + 1) 0).toNat)

/-- Replace word `k` of a window's bytes. -/
def putWindow (bs : List Byte) (k : Nat) (v : Word) : List Byte :=
  modAt (modAt bs (2 * k) (fun _ => byte (wfld v 8 8))) (2 * k + 1) (fun _ => byte (wfld v 0 8))

/-- SEC_STATUS.CLASH (R545). -/
def secClash (s : State) : State := s.setB SEC 0x00 12

/-- A word written to CHAL_IN (R544, R545). -/
def chalIn (v : Word) (s : State) : State :=
  if s.sec.run.isSome then secClash s
  else if s.sec.chalPtr ≥ 32 then s
  else s.modSec (fun c => { c with chal := putWindow c.chal c.chalPtr v, chalPtr := c.chalPtr + 1 })

/-- A word read from RESP_OUT (R544). -/
def respOut (s : State) : Word × State :=
  if s.sec.respPtr ≥ 32 then (0, s)
  else (windowWord s.sec.resp s.sec.respPtr, s.modSec (fun c => { c with respPtr := c.respPtr + 1 }))

/-- A word read from ID_CERT; the pointer wraps after word 127 (R544). -/
def idCert (s : State) : Word × State :=
  (windowWord (certificate s.part) s.sec.certPtr, s.modSec (fun c => { c with certPtr := (c.certPtr + 1) % 128 }))

/-- PTR_CLR = 1 takes effect (R544, R545). -/
def ptrClear (s : State) : State :=
  if s.sec.run.isSome then secClash s else s.modSec (fun c => { c with chalPtr := 0, respPtr := 0, certPtr := 0 })

/-- A word written to BIND_DATA (R545, R551). -/
def bindData (v : Word) (s : State) : State :=
  if s.sec.run.isSome then secClash s
  else s.modSec (fun c => { c with stage := putWindow c.stage (s.fld SEC 0x05 4 3) v })

/-! ## Commands (R545 to R554) -/

/-- Source of an HMAC_UPDATE: SPACE, UNIT, ADDR and LENGTH (R550). -/
structure SecSource where
  space : Nat
  unit : Nat
  addr : Nat
  len : Nat
deriving DecidableEq, Repr

/-- The source descriptor in CHAL_IN bytes 0 to 15 (R550). -/
def parseSource (bs : List Byte) : SecSource :=
  let at_ (o n : Nat) : Nat := leVal ((bs.drop o).take n)
  { space := at_ 0 1, unit := at_ 1 1, addr := at_ 4 4, len := at_ 8 4 }

/-- A source range the device can read (R550). -/
def SecSource.ok (d : SecSource) (engines : Nat) : Bool :=
  let size := if d.space = 1 then cistSize else if d.space = 2 then storeSize else 0x20000
  decide (1 ≤ d.space ∧ d.space ≤ 3) && decide (1 ≤ d.len ∧ d.len ≤ 0x1000000) && decide (d.addr + d.len ≤ size) &&
    (decide (d.space ≠ 2) || decide (d.unit < engines))

/-- The bytes of a source (R550). -/
def SecSource.bytes (d : SecSource) (s : State) : List Byte :=
  if d.space = 1 then cistGet s d.addr d.len
  else if d.space = 2 then storeGet s d.unit d.addr d.len
  else memReadN s.sup.sram d.addr d.len

/-- A source that meets an uncorrectable error (R550). -/
def SecSource.bad (d : SecSource) (s : State) : Bool :=
  if d.space = 1 then cistBad s d.addr d.len else if d.space = 2 then storeBad s d.unit d.addr d.len else false

/-- Reading a source has the error events of its reads. -/
def SecSource.events (d : SecSource) (s : State) : State :=
  if d.space = 1 then cistReadEvents d.addr d.len none s
  else if d.space = 2 then storeReadEvents d.unit d.addr d.len none s
  else s

/-- A slot with no usable key: 0 when it has one (R546). -/
def slotError (s : State) (n : Nat) : Nat :=
  if (s.slot n).used = false then scSlotEmpty else if (s.slot n).revoked then scRevoked else 0

/-- The error checks of the acceptance edge: 0 when all pass (R546, R549, R551, R553). -/
def secError (s : State) (cmd arg : Nat) : Nat :=
  match cmd with
  | 1 => if arg ≠ 0 then scBadArg else 0
  | 2 => if arg = 0xFF then 0 else if arg > 7 then scBadArg else slotError s arg
  | 3 =>
    if arg ≠ 0 then scBadArg
    else if s.sec.session.isNone then scSequence
    else if (parseSource s.sec.chal).ok s.engs.length then 0 else scBadArg
  | 4 => if arg ≠ 0 then scBadArg else if s.sec.session.isNone then scSequence else 0
  | 5 =>
    if arg > 7 then scBadArg
    else if locked s then scLocked
    else if (s.slot arg).used then scSlotUsed
    else if s.sec.stage.all (fun b => b == 0) then scBadArg else 0
  | 6 =>
    if arg > 7 then scBadArg
    else if locked s then scLocked
    else if (s.slot arg).used = false then scSlotEmpty else 0
  | 7 => if arg > 7 then scBadArg else slotError s arg
  | _ => scBadCmd

/-- Duration in RIM of a command that passes its checks (R546). -/
def secDuration (s : State) (cmd : Nat) : Nat :=
  match cmd with
  | 1 => 600000
  | 3 => 64 + 10 * cdiv (parseSource s.sec.chal).len 64
  | 5 => 512000
  | 6 => 128000
  | 7 => 1024
  | _ => 256

/-- The KCV of a key (R554). -/
def kcvOf (key : List Byte) : List Byte := (hmac key [0x4B, 0x43, 0x56, 0x31]).take 4

/-- The KCV of a slot (R554). That of a slot whose PROGRAM has not verified does not match the staged key's, whatever its
incomplete key is (R552). -/
def slotKcv (b : BindSlot) : List Byte :=
  let k := kcvOf b.key
  if b.spoiled = some k then modAt k 0 (fun x => x ^^^ 1) else k

/-- GO = 1 takes effect with command `cmd` and `arg` from writer `sup` (R545, R546, R549, R552). An accepted PROGRAM
blows the slot's first fuse bits: until it ends the slot holds an incomplete key, a free value. -/
def secGo (sup : Bool) (cmd arg : Nat) (s : State) : State :=
  if s.sec.run.isSome then secClash s
  else
    let k := secError s cmd arg
    let r : SecRun := { cmd := cmd, arg := arg, input := s.sec.chal, code := k,
                        left := if k = 0 then secDuration s cmd else 2, start := s.now }
    let keep := decide (cmd = 3 ∨ cmd = 4)
    let s1 := (s.putB SEC 0x04 13 sup).modSec (fun c =>
      { c with run := some r, chalPtr := 0, session := if keep then c.session else none })
    if cmd = 5 ∧ k = 0 then
      let (bs, s2) := s1.freeBytes 8
      s2.modSlot arg (fun b => { b with used := true, key := bs, spoiled := some (kcvOf s2.sec.stage) })
    else s1

/-- The message SIGN signs (R548). -/
def signMessage (s : State) (challenge : List Byte) : List Byte :=
  [0x4B, 0x49, 0x44, 0x31] ++ challenge ++ identityDigest s.part ++ leBytes 2 (s.rd DEV 0x00).toNat ++
    [byte (slotByte BindSlot.used s), byte (slotByte BindSlot.revoked s)]

/-- A command ends with an error: RESP_OUT reads 0 throughout (R547). -/
def secFail (code : Nat) (s : State) : State :=
  (s.wr SEC 0x00 (putFld (setBit (s.rd SEC 0x00) 13) 8 4 code)).modSec (fun c =>
    { c with run := none, resp := List.replicate 64 0, respPtr := 0 })

/-- A command ends with output `out`; the rest of RESP_OUT is a free value, for the manual states none (R547). -/
def secDone (out : List Byte) (s : State) : State :=
  let (bs, s1) := s.freeBytes ((64 - out.length) / 2)
  (s1.wr SEC 0x00 (putFld (setBit (s1.rd SEC 0x00) 14) 8 4 0)).modSec (fun c =>
    { c with run := none, resp := out ++ bs, respPtr := 0 })

/-- The key HMAC_INIT takes from `arg`: a slot's, or 16 zero bytes (R546). -/
def initKey (s : State) (arg : Nat) : List Byte := if arg = 0xFF then List.replicate 16 0 else (s.slot arg).key

/-- A PROGRAM's fuses are verified: the key stands and its KCV is output, or the slot keeps no usable key (R551, R552;
whether the fuses verify is a free value). -/
def finishProgram (slot : Nat) (s : State) : State :=
  let (i, s1) := s.takeFree
  if Config.fuseFails i then secFail scProgFail s1
  else
    let key := s1.sec.stage
    secDone (kcvOf key)
      ((s1.modSlot slot (fun b => { b with key := key, spoiled := none })).modSec (fun c => { c with stage := List.replicate 16 0 }))

/-- HMAC_UPDATE has read its source: append it, or SOURCE and the session goes (R549, R550). -/
def finishUpdate (input : List Byte) (s : State) : State :=
  let d := parseSource input
  let s1 := d.events s
  if d.bad s then secFail scSource (s1.modSec (fun c => { c with session := none }))
  else secDone [] (s1.modSec (fun c => { c with session := c.session.map (fun x => (x.1, x.2 ++ d.bytes s)) }))

/-- SEC_COMPLETE: the running command's duration ends (R546, R547). -/
def secComplete (s : State) : State :=
  match s.sec.run with
  | none => s
  | some r =>
    let s0 := s.reach (r.start + r.left)
    if r.code ≠ 0 then secFail r.code s0
    else
      match r.cmd with
      | 1 => secDone (ecdsaSign Config.dieKey.toNat (signMessage s0 (r.input.take 32))) s0
      | 2 => secDone [] (s0.modSec (fun c => { c with session := some (initKey s0 r.arg, []) }))
      | 3 => finishUpdate r.input s0
      | 4 =>
        match s0.sec.session with
        | some (k, m) => secDone (hmac k m) (s0.modSec (fun c => { c with session := none }))
        | none => secFail scSequence s0
      | 5 => finishProgram r.arg s0
      | 6 => secDone [] (s0.modSlot r.arg (fun b => { b with revoked := true }))
      | _ => secDone (slotKcv (s0.slot r.arg)) s0

/-- A host-window word was served while an UPDATE runs, which waits 1 RIM for it (R550). -/
def updateWaits (s : State) : State :=
  s.modSec (fun c => { c with run := c.run.map (fun r => if r.cmd = 3 ∧ r.code = 0 then { r with left := r.left + 1 } else r) })

/-- SEC_STATUS as read: BUSY, the sticky bits, CODE and the fuses' USED byte. -/
def secStatus (s : State) : Word :=
  putFld (putBit (s.rd SEC 0x00) 15 s.sec.run.isSome) 0 8 (slotByte BindSlot.used s)

/-- BIND_SLOT_SEL as read. -/
def bindSel (s : State) : Word :=
  let k := s.slot (s.fld SEC 0x05 0 3)
  putBit (putBit (s.rd SEC 0x05) 15 k.used) 14 k.revoked

end Sys2Proof.Machine
end

