-- ==== Sys2Proof/Machine/Crypt.lean ====
section
/-! DEFINITION. Start-up, resets, wakes, the rim clock's source, and the timebase (20). -/

namespace Sys2Proof.Machine

/-! ## Rebuilding the device (R13, R515, R519, R532) -/

/-- Every block but the crypt at its reset value: the part, the board, the CRY registers, the timebase, the fuses of the
binding slots and the waiting commands stay; the power state is `p`. -/
def rebuild (p : Power) (s : State) : State :=
  let cry := s.regs.filter (fun x => x.1 / 256 == CRY)
  { State.fresh s.part s.straps s.sec.slots with
    regs := cry, tb := s.tb, tbase := s.tbase, power := p, free := s.free, pending := s.pending }

/-- The straps are sampled, and WAKE_ADDR.ADDR takes 0x48 + ADDR (R517). -/
def sampleStraps (s : State) : State :=
  s.wr CRY 0x03 (putFld (s.rd CRY 0x03) 0 7 (0x48 + s.straps.addr.toNat))

/-- The ready pulse of R109. -/
def readyPulse (s : State) : State := s.modPower (fun p => { p with pulses := p.pulses + 1 })

/-! ## The timebase (R534 to R537) -/

/-- Change the timebase. -/
def State.modTb (s : State) (f : Timebase → Timebase) : State := { s with tbase := f s.tbase }

/-- The timebase changes over to `src`: a log entry with the count held, NEW and OVER (R535, R537). -/
def changeover (src stop reset : Bool) (s : State) : State :=
  let e : LogEntry := { count := s.tb, stop := stop, reset := reset, seq := s.tbase.seq, src := src }
  let log := s.tbase.log ++ [e]
  let s1 := s.modTb (fun t =>
    { t with act := src, log := log.drop (log.length - 4), seq := (t.seq + 1) % 16 })
  let n := s1.fld CRY 0x0C 0 4 + 1
  let s2 := s1.wr CRY 0x0C (putFld (s1.rd CRY 0x0C) 0 4 (min 15 n))
  if n > 4 then s2.setB CRY 0x0C 14 else s2

/-- TIMEBASE_COUNT: an edge of the counting source; the 48-bit count wraps (R534). -/
def timebaseCount (s : State) : State :=
  if s.power.mode = .off then s else { s with tb := (s.tb + 1) % 2 ^ 48 }

/-- TB_CHANGEOVER: the conditions of a requested changeover hold (R535, R540): SEL differs from ACT, and a change to the
crystal needs an oscillating crystal. -/
def tbChangeover (s : State) : State :=
  let sel := s.bit CRY 0x0B 0
  if s.power.mode = .off ∨ sel = s.tbase.act then s
  else if sel = true ∧ s.straps.xtal = false then s
  else changeover sel false false (if sel then s.modTb (fun t => { t with xtalOk := true }) else s)

/-- CRYSTAL_STOP: no crystal edge for 2,048 FIO: XTAL_OK falls, and a counting crystal is left for the RC (R536). -/
def crystalStop (s : State) : State :=
  if s.power.mode = .off ∨ s.straps.xtal = false then s
  else
    let s1 := s.modTb (fun t => { t with xtalOk := false })
    if s.tbase.act = false then s1
    else
      let seq := s.tbase.seq
      let s2 := changeover false true false s1
      s2.wr CRY 0x0C (putFld (setBit (s2.rd CRY 0x0C) 15) 8 4 seq)

/-- The four words of a log entry (R537). -/
def LogEntry.words (e : LogEntry) : List Word :=
  [word e.count, word (e.count / 2 ^ 16), word (e.count / 2 ^ 32),
   bitAt true 15 ||| bitAt e.stop 14 ||| bitAt e.reset 13 ||| word (e.seq * 256) ||| bitAt e.src 0]

/-- Word `i` of a read that starts at TB_LOG: the entries, oldest first; an entry never written reads 0 (R537). -/
def tbLogWord (s : State) (i : Nat) : Word := nth (s.tbase.log.flatMap LogEntry.words) i 0

/-! ## The source of RIM (R47, R524) -/

/-- RIM moves to the rim PLL or to FIO; a pace window that the move breaks is not valid (R43, R524). -/
def moveRim (pll : Bool) (s : State) : State :=
  if s.power.rimPll = pll then s
  else
    let s1 := s.modPower (fun p => { p with rimPll := pll })
    if pll then { s1 with pace := { overs := 0, full := false } } else paceBroken s1

/-- RIM_SWITCH = 1 takes effect: it needs a locked rim PLL (R524). -/
def rimSwitch (s : State) : State := if s.power.rimLock then moveRim true s else s

/-- RIM_TO_FIO = 1 takes effect (R524). -/
def rimToFio (s : State) : State := moveRim false s

/-- PLL_LOCK_LOSS: the rim PLL loses lock, and RIM falls back to FIO (R524). -/
def pllLockLoss (s : State) : State := moveRim false (s.modPower (fun p => { p with rimLock := false }))

/-- RIM_PLL_LOCK: the rim PLL gains lock. After a Dormant wake the boot ROM, while it waits, then writes RIM_SWITCH = 1
(R524; log entry 66). -/
def rimPllLock (s : State) : State :=
  let s1 := s.modPower (fun p => { p with rimLock := true, switchDue := false })
  if s.power.switchDue then rimSwitch s1 else s1

/-! ## Cold start (R514 to R518) -/

/-- The power state of stage 0 of a cold start. -/
def Power.cold : Power :=
  { Power.reset with mode := .starting, stage := 0, refclkOk := false, rimLock := false, rimPll := false, vpg := false,
                     pulses := 0 }

/-- POWER_UP: VIN_CRYPT enters its range on a board `b`: a cold start begins; every CRY field and the timebase reset
(R513, R514). The device must have been off. -/
def powerUp (b : Straps) (s : State) : State :=
  if s.power.mode ≠ .off then s
  else { State.fresh s.part b s.sec.slots with power := Power.cold, free := s.free, pending := s.pending }

/-- The boot ROM starts at its reset vector and acts on BOOT (R514, R520): modes 0b10 and 0b11 halt it. -/
def bootRom (s : State) : State :=
  let m := s.straps.boot.toNat
  let s1 := s.wr SUP 0x02 (putFld 0 14 2 m)
  let st : SupMode := if m ≥ 2 then .halted else .boot
  let s2 := s1.modSup (fun u => { u with mode := st, wfi := false, image := false, start := none, kept := [], policy := Policy.reset, slots := u.slots.map (fun l => { l with waiting := none }) })
  if m = 3 then s2.setB SUP 0x02 13 else s2

/-- START_STAGE: the start-up stage in progress completes, and its ready bits set (R514). Stage 2 needs RESET_N high. -/
def startStage (s : State) : State :=
  if s.power.mode ≠ .starting then s
  else
    match s.power.stage with
    | 0 => s.modPower (fun p => { p with stage := 1 })
    | 1 => if s.power.resetLow then s else sampleStraps (s.modPower (fun p => { p with stage := 2, vpg := true }))
    | 2 => s.modPower (fun p => { p with stage := 3, refclkOk := true, rimLock := true, rimPll := true })
    | 3 => s.modPower (fun p => { p with stage := 4 })
    | _ => bootRom (readyPulse (s.modPower (fun p => { p with stage := 5, mode := .run, bootAt := s.now })))

/-- REFCLK_TIMEOUT: fewer than 64 REFCLK edges came: stage 3 completes with RIM on FIO (R516). -/
def refclkTimeout (s : State) : State :=
  if s.power.mode = .starting ∧ s.power.stage = 2 then
    s.modPower (fun p => { p with stage := 3, refclkOk := false, rimLock := false, rimPll := false })
  else s

/-! ## RESET_N and Off (R519, R508, R611) -/

/-- The CRY registers after a RESET_N: the wake registers and TB_SRC at their reset values; TB_GAP kept (R519). -/
def resetCry (s : State) : State :=
  { s with regs := s.regs.filter (fun x => x.1 == key CRY 0x0C) }

/-- RESET_N_ASSERT: RESET_N falls: every block but the crypt is held in reset; a counting crystal is left for the RC with
a log entry (R519). -/
def resetAssert (s : State) : State :=
  if s.power.mode = .off then s
  else
    let s1 := if s.tbase.act then changeover false false true s else s
    let p := { Power.cold with stage := min 1 s.power.stage, resetLow := true, pulses := s.power.pulses }
    rebuild p (resetCry s1)

/-- RESET_N_RELEASE: RESET_N rises: the device runs from stage 2 (R519). -/
def resetRelease (s : State) : State := s.modPower (fun p => { p with resetLow := false })

/-- CRYPT_BROWNOUT: VIN_CRYPT under 1.60 V for over 1 µs clears the crypt; the device is off until a cold start (R611,
R513). -/
def cryptBrownout (s : State) : State :=
  { State.fresh s.part s.straps s.sec.slots with
    power := { Power.cold with mode := .off }, free := s.free, pending := s.pending }

/-! ## Wakes (R530 to R533) -/

/-- The crypt latches a wake event in Dormant, unless one is latched already (R533). -/
def latchWake (src addr : Nat) (s : State) : State :=
  s.modPower (fun p => { p with wake := match p.wake with | some w => some w | none => some (src, addr) })

/-- A wake event of source `src` that is valid in Hush and in Dormant; in Run it is a Run request (R500, R530). -/
def wakeEvent (src addr : Nat) (s : State) : State :=
  match s.power.mode with
  | .run => runRequest src addr s
  | .hush => hushExit src addr s
  | .dormant => latchWake src addr s
  | _ => s

/-- A rising edge on WAKE (R530). -/
def wakeEdge (s : State) : State := wakeEvent 1 0 s

/-- A TICK edge as a wake event (R530): in Hush or Dormant, or after an entry has committed, while TICK_EN = 1. -/
def tickWake (s : State) : State := if s.bit CRY 0x04 8 then wakeEvent 4 0 s else s

/-- The listener compares a frame address (R531). -/
def listenerMatches (s : State) (a : BitVec 7) : Bool :=
  let d := a.toNat ^^^ s.fld CRY 0x03 0 7
  decide (d &&& s.fld CRY 0x04 0 7 = 0) || (s.bit CRY 0x03 15 && decide (a = 0x47))

/-- LISTENER_MATCH: a frame with address `a` arrives in Dormant (R113, R531). -/
def listenerMatch (a : BitVec 7) (s : State) : State :=
  if s.power.mode = .dormant ∧ listenerMatches s a = true then latchWake 2 a.toNat s else s

/-- DORMANT_ENTRY: the drain ends, the rim clocks stop and the header switches open: only the crypt keeps its state, and
a wake latched on the way (R13, R507, R533). -/
def dormantEntry (s : State) : State :=
  if s.power.committed ≠ some 2 then s
  else
    let p := { Power.cold with mode := .dormant, stage := 1, refclkOk := s.power.refclkOk, wake := s.power.wake,
                               pulses := s.power.pulses }
    rebuild p (drain s)

/-- DORMANT_WAKE: a latched wake event rebuilds the device on FIO and ends with the ready pulse (R532). -/
def dormantWake (s : State) : State :=
  match s.power.mode, s.power.wake with
  | .dormant, some (src, addr) =>
    let p := { Power.reset with refclkOk := s.power.refclkOk, rimLock := false, rimPll := false,
                                switchDue := true, pulses := s.power.pulses }
    let s1 := sampleStraps (rebuild p s)
    let s2 := (s1.setB CRY 0x01 15).wr CRY 0x02 (word (0x8000 + addr * 256 + src))
    bootRom (readyPulse s2)
  | _, _ => s

/-! ## CRY_STATUS (20) -/

/-- CRY_STATUS as read: the ready signals, the live inputs and the last completed stage. -/
def cryStatus (s : State) : Word :=
  let p := s.power
  let up (n : Nat) : Bool := decide (n ≤ p.stage)
  bitAt (up 1) 15 ||| bitAt (up 1) 14 ||| bitAt s.tbase.xtalOk 13 ||| bitAt p.vpg 12 ||| bitAt (up 2) 11 |||
    bitAt p.refclkOk 10 ||| bitAt p.rimLock 9 ||| bitAt (s.straps.lnkRef && up 3) 8 ||| bitAt p.rimPll 7 |||
    bitAt (up 4) 6 ||| bitAt (up 4) 5 ||| bitAt (up 5) 4 ||| word p.stage

end Sys2Proof.Machine
end

