-- ==== Sys2Proof/Machine/Windows.lean ====
section
/-! DEFINITION. The indirect window (R126 to R134, R619): the tables behind TBL_DATA, their access rules and errors. -/

namespace Sys2Proof.Machine

/-! ## What can be wrong with a window word (R133) -/

/-- The sticky bits of TBL_STATUS, in R133's order, by their bit. -/
abbrev tbNosel : Nat := 14
abbrev tbRange : Nat := 13
abbrev tbDenied : Nat := 12
abbrev tbProt : Nat := 11
abbrev tbEcc : Nat := 10

/-- TBL_SEL.TABLE and INDEX. -/
def tblTable (s : State) : Nat := s.fld DEV 0x08 8 8
def tblIndex (s : State) : Nat := s.fld DEV 0x08 0 8

/-- The window's pointer, in words (R126). -/
def tblPtr (s : State) : Nat := (s.rd DEV 0x0A).toNat * 65536 + (s.rd DEV 0x09).toNat

/-- Move the pointer on by `n`, wrapping (R94, R126). -/
def tblAdvance (n : Nat) (s : State) : State :=
  let p := (tblPtr s + n) % 2 ^ 32
  (s.wr DEV 0x09 (word (p % 65536))).wr DEV 0x0A (word (p / 65536))

/-- Bytes of a weight bank of engine `e` (R323). -/
def bankBytes (s : State) (e : Nat) : Nat := s.fld (ENG e) 0x08 0 8 * 4096

/-- INDEX names an instance of the table on this part (R128). -/
def tblInstance (s : State) (t i : Nat) : Bool :=
  match t with
  | 0x02 => decide (i < s.part.engines)
  | 0x03 => decide (i < 32) && decide (i % 16 < s.part.engines)
  | 0x04 => decide (i ≤ 0x11)
  | 0x07 => decide (i < 16)
  | 0x09 => decide (i ≤ 4)
  | 0x0B => decide (i < 64)
  | 0x0C => decide (i < 16)
  | 0x01 => decide (i = 0)
  | 0x05 => decide (i = 0)
  | 0x06 => decide (i = 0)
  | 0x08 => decide (i = 0)
  | 0x0A => decide (i = 0)
  | _ => false

/-- A word of TBL_DATA is issued into the core: the table selected lives in the cistern, an engine store or the core (R619). -/
def tblInCore (s : State) : Bool :=
  let t := tblTable s
  !(decide (t = 0x00) || decide (t = 0x09) || decide (t = 0x0A) || decide (t = 0x0B))

/-- Words of a table; none for the stream, which ignores the pointer (R128, R407). -/
def tblExtent (s : State) (t i : Nat) : Option Nat :=
  match t with
  | 0x01 => some 0x400000
  | 0x02 => some 0xC0000
  | 0x03 => some (bankBytes s (i % 16) / 2)
  | 0x04 => some 0x100
  | 0x05 => some 0x80
  | 0x06 => some 0x40
  | 0x07 => some 0x100
  | 0x08 => some 0x20000
  | 0x0A => some 0x10000
  | 0x0B => some 0x10
  | 0x0C => some 0x10
  | _ => none

/-- Store byte of word `p` of the WEIGHTS table (R128). -/
def weightByte (s : State) (i p : Nat) : Nat := (if i ≥ 16 then bankBytes s (i % 16) else 0) + 2 * p

/-- A write to WEIGHTS is refused (R131, R324). -/
def weightsDenied (s : State) (i : Nat) : Bool :=
  (chansOn s (i % 16)).any (fun c =>
    let l := (s.chan c).learn
    (s.bit (CH c) 0x00 15 && s.bit (CH c) 0x00 14) || l.sweepOn || l.ready ||
      (((s.chan c).enabled || s.bit (CH c) 0x00 15) && (l.active == decide (i ≥ 16))))

/-- SUP_STATUS.STATE: with HALT = 1 a supervisor that is not trapped is Halted (05, SUP_CTRL). -/
def supState (s : State) : SupMode :=
  if s.bit SUP 0x00 15 = true ∧ s.sup.mode ≠ .trapped then .halted else s.sup.mode

/-- The Access column and the rules on WEIGHTS and SUP_SRAM refuse the access (R128, R131, R132, R324). -/
def tblDenied (s : State) (t i : Nat) (write : Bool) : Bool :=
  match t with
  | 0x03 => write && weightsDenied s i
  | 0x08 => write
  | 0x09 => !write
  | 0x0A => decide (supState s ≠ .halted)
  | 0x0C => write
  | _ => false

/-- First of NOSEL, RANGE and DENIED that holds for the word at pointer `p` (R133). -/
def tblError (s : State) (t i p : Nat) (write : Bool) : Option Nat :=
  if tblInstance s t i = false then some tbNosel
  else if (match tblExtent s t i with | some n => decide (n ≤ p) | none => false) then some tbRange
  else if tblDenied s t i write then some tbDenied
  else none

/-- Set one sticky bit of TBL_STATUS. -/
def tblFlag (b : Nat) (s : State) : State := s.setB DEV 0x0C b

/-! ## Memory words (R129, R130) -/

/-- The two bytes of a memory word: byte 2a in bits 7:0. -/
def wordBytes (v : Word) : List Byte := [byte (wfld v 0 8), byte (wfld v 8 8)]

/-- The memory word of two bytes. -/
def bytesWord (bs : List Byte) : Word := word (leVal (bs.take 2))

/-- A window word written into the cistern at physical byte `a`; false when an uncorrectable error stops it. -/
def cistWordPut (a : Nat) (v : Word) (s : State) : State × Bool :=
  if cistBad s a 2 && !bankDead s (cistBankOf a) then (cistPut a (wordBytes v) s, false)
  else
    let s1 := cistPut a (wordBytes v) (cistReadEvents a 2 none s)
    ({ s1 with cistCe := s1.cistCe.filter (fun w => bankDead s (cistBankOf a) || !(w == a / 8)) }, true)

/-- A window word written into engine `e`'s store at byte `a`; false when an uncorrectable error stops it (R130). -/
def storeWordPut (e a : Nat) (v : Word) (s : State) : State × Bool :=
  let s1 := storeReadEvents e a 2 none s
  if storeBad s e a 2 then (s1, false)
  else
    (s1.modEng e (fun g =>
      { g with store := memWriteL g.store a (wordBytes v), ce := g.ce.filter (fun w => !(w == a / 4)) }), true)

/-- Write a keyed table word, an absent one reading 0. -/
def tablePut (k : Nat) (v : Word) (xs : List (Nat × Word)) : List (Nat × Word) := assocPut (decide (v ≠ 0)) k v xs

/-- Writable bits of word `i` of a page-table entry or an export handle (R279, R285, R9). -/
def pageMask (i : Nat) : Word := if i % 2 = 0 then 0x01FF else 0xF000
def exportMask (i : Nat) : Word := if i % 8 = 0 then 0xDF07 else 0xFFFF

/-- A LEARN_RULE word is written to the copy on every engine of the channel's map (R308). -/
def rulePut (c p : Nat) (v : Word) (s : State) : State × Bool :=
  foldS (fun e (x : State × Bool) =>
    let (s1, ok) := storeWordPut e (0x17DC00 + 512 * c + 2 * p) v x.1
    (s1, x.2 && ok)) (chanEngines s c) (s, true)

/-- The error bit of an access that met an uncorrectable error. -/
def eccFlag (x : State × Bool) : State := if x.2 then x.1 else tblFlag tbEcc x.1

/-- A DENIED word. -/
def deniedFlag (x : State × Bool) : State := if x.2 then x.1 else tblFlag tbDenied x.1

/-- The write of word `v` at pointer `p` of a table that admits it. -/
def tblWrite (t i p : Nat) (v : Word) (s : State) : State :=
  match t with
  | 0x01 =>
    match translate s 0x11 .write false (2 * p) with
    | some a => eccFlag (cistWordPut a v (updateWaits s))
    | none => tblFlag tbProt s
  | 0x02 => eccFlag (storeWordPut i (2 * p) v (updateWaits s))
  | 0x03 => eccFlag (storeWordPut (i % 16) (weightByte s i p) v (updateWaits s))
  | 0x04 => { s with tables := { s.tables with pages := tablePut (i * 256 + p) (v &&& pageMask p) s.tables.pages } }
  | 0x05 => { s with tables := { s.tables with exportTbl := tablePut p (v &&& exportMask p) s.tables.exportTbl } }
  | 0x06 => loadBell p (wfld v 0 8) s
  | 0x07 => eccFlag (rulePut i p v (updateWaits s))
  | 0x09 => deniedFlag (cloConfigWord i v s)
  | 0x0A => s.modSup (fun u => { u with sram := memWriteL u.sram (2 * p) (wordBytes v) })
  | 0x0B => deniedFlag (wellWordWrite i p v s)
  | _ => s

/-- One spare of a bank as its REPAIR word. -/
def Spare.asWord (x : Spare) : Word :=
  bitAt x.used 15 ||| bitAt x.fused 14 ||| bitAt x.field 13 ||| word (x.cause % 8 * 256 + x.column % 256)

/-- Word `p` of the REPAIR table of a cistern bank (18). -/
def repairWord (b : Bank) (p : Nat) : Word :=
  match p with
  | 0 =>
    bitAt b.retired 15 ||| bitAt b.fenced 14 ||| bitAt (decide (b.job ≠ .idle)) 13 |||
      word (b.spares.filter (fun x => x.used)).length
  | 5 => word b.corr
  | 6 => word b.uncorr
  | 7 => word b.tests
  | 8 => b.finding
  | 9 => word b.result
  | _ => if p ≤ 4 then (nth b.spares (p - 1) Spare.reset).asWord else 0

/-- Read two bytes of the cistern at physical byte `a` for the window: zero with ECC on an uncorrectable error. -/
def cistWordGet (a : Nat) (s : State) : Word × State :=
  let s1 := cistReadEvents a 2 none s
  if cistBad s a 2 && !bankDead s (cistBankOf a) then (0, tblFlag tbEcc s1) else (bytesWord (cistGet s a 2), s1)

/-- Read two bytes of engine `e`'s store for the window. -/
def storeWordGet (e a : Nat) (s : State) : Word × State :=
  let s1 := storeReadEvents e a 2 none s
  if storeBad s e a 2 then (0, tblFlag tbEcc s1) else (bytesWord (storeGet s e a 2), s1)

/-- The read of the word at pointer `p` of a table that admits it. -/
def tblRead (t i p : Nat) (s : State) : Word × State :=
  match t with
  | 0x01 =>
    match translate s 0x11 .read false (2 * p) with
    | some a => cistWordGet a (updateWaits s)
    | none => (0, tblFlag tbProt s)
  | 0x02 => storeWordGet i (2 * p) (updateWaits s)
  | 0x03 => storeWordGet (i % 16) (weightByte s i p) (updateWaits s)
  | 0x04 => (pageWord s i (p / 2) (p % 2), s)
  | 0x05 => ((assoc s.tables.exportTbl p).getD 0, s)
  | 0x06 => (word (s.bell p).count, s)
  | 0x07 => storeWordGet (mapPrimary (s.chan i).engMap) (0x17DC00 + 512 * i + 2 * p) (updateWaits s)
  | 0x08 => cistWordGet (journalBase + 2 * p) (updateWaits s)
  | 0x0A => (bytesWord (memReadN s.sup.sram (2 * p) 2), s)
  | 0x0B => (wellWord s i p, s)
  | 0x0C => (repairWord (s.bank i) p, s)
  | _ => (0, s)

/-- WINDOW_WRITE: a word written to TBL_DATA (R126, R133). -/
def windowWrite (v : Word) (s : State) : State :=
  let t := tblTable s
  let i := tblIndex s
  let p := tblPtr s
  tblAdvance 1 (match tblError s t i p true with | some b => tblFlag b s | none => tblWrite t i p v s)

/-- The word at pointer `p` of the selected table, read through TBL_DATA (R126, R133). -/
def windowWordAt (t i p : Nat) (s : State) : Word × State :=
  match tblError s t i p false with
  | some b => (0, tblFlag b s)
  | none => tblRead t i p s

/-- `n` words read from pointer `p` on, which wraps. -/
def windowWords (t i p : Nat) : Nat → State → List Word × State
  | 0, s => ([], s)
  | n + 1, s =>
    let (w, s1) := windowWordAt t i p s
    let (ws, s2) := windowWords t i ((p + 1) % 2 ^ 32) n s1
    (w :: ws, s2)

/-- A read of `n` words at TBL_DATA: the pointer moves on by `n` when the command is accepted (R94). -/
def windowReads (n : Nat) (s : State) : List Word × State :=
  windowWords (tblTable s) (tblIndex s) (tblPtr s) n (tblAdvance n s)

end Sys2Proof.Machine
end

