-- ==== Sys2Proof/Machine/Boot.lean ====
section
/-! DEFINITION. The supervisor's boot and its control (20, 05): image checks, GO, HALT, RESTART, traps and WFI. -/

namespace Sys2Proof.Machine

/-! ## Steward images (R522, R523) -/

/-- A field of an image. -/
def imageField (img : List Byte) (o n : Nat) : Nat := leVal ((img.drop o).take n)

/-- Code bytes an image header declares. -/
def imageLength (img : List Byte) : Nat := imageField img 8 4

/-- LENGTH and ENTRY lie in their ranges (R522, check 3). -/
def imageSizeOk (img : List Byte) : Bool :=
  let n := imageLength img
  let e := imageField img 12 4
  decide (n % 4 = 0 ∧ 4 ≤ n ∧ n ≤ 122880) && decide (e % 2 = 0 ∧ e < n)

/-- The checks of R523 in order: 0 when the image passes, else the CODE. `flash`: check 1 is made. -/
def bootError (flash : Bool) (img : List Byte) : Nat :=
  let head := img.take 4
  if flash = true ∧ (head = List.replicate 4 0xFF ∨ head = List.replicate 4 0) then 1
  else if imageField img 0 4 ≠ 0x5754534B ∨ imageField img 4 2 ≠ 1 ∨ crc32 (img.take 20) ≠ imageField img 20 4 then 2
  else if imageSizeOk img = false then 4
  else
    let code := (img.drop 128).take (imageLength img)
    if crc32 code ≠ imageField img 16 4 then 2
    else if nbit (imageField img 6 1) 0 = true ∧
        Config.imageSigned (img.take 32 ++ code ++ (img.drop 32).take 64) = false then 3
    else 0

/-- The boot ROM ends its checks of an image with SUP_BOOT.SRC = `src` (R523): the steward starts at its entry point in SRAM,
or it is halted. Its wait for RIM_LOCK is over (R524). -/
def bootEnds (src : Nat) (img : List Byte) (code : Nat) (s0 : State) : State :=
  let s := s0.modPower (fun p => { p with switchDue := false })
  let base := setBit (putFld 0 14 2 src) 13
  if code = 0 then
    (s.wr SUP 0x02 (putBit base 12 (nbit (imageField img 6 1) 0))).modSup (fun u =>
      { u with mode := .running, image := true, start := some (0x10000080 + imageField img 12 4), wfi := false })
  else (s.wr SUP 0x02 (putFld (setBit base 11) 8 3 code)).modSup (fun u => { u with mode := .halted })

/-- FLASH_BOOT: the boot ROM has read `image` from boot flash (R520, R521): the header and, when its length can be held,
the code, go to SRAM, and the image is checked. The event needs a boot ROM in a flash mode and all the bytes it reads; it
waits while a cloister load holds the flash (R410). -/
def flashBoot (image : List Byte) (quad : Bool) (s : State) : State :=
  let m := s.straps.boot.toNat
  let need := 128 + (if imageSizeOk image then imageLength image else 0)
  if supState s ≠ .boot ∨ flashHeld s = true ∨ m ≠ (if quad then 1 else 0) ∨ image.length < need then s
  else bootEnds m image (bootError true image) (s.modSup (fun u => { u with sram := memWriteL u.sram 0 (image.take need) }))

/-- The boot ROM accepts GO (R525): it holds STATE = Halted with FAIL = 1, or in modes 0b10 and 0b11. -/
def goAccepted (s : State) : Bool :=
  !s.bit SUP 0x00 15 && decide (s.sup.mode = .halted) && (s.bit SUP 0x02 11 || decide (2 ≤ s.straps.boot.toNat))

/-- GO = 1 takes effect (R525): checks 2 to 5 on the image in SRAM. -/
def supGo (s : State) : State :=
  if goAccepted s = false then s
  else
    let head := memReadN s.sup.sram 0 128
    let img := head ++ memReadN s.sup.sram 128 (if imageSizeOk head then imageLength head else 0)
    bootEnds 2 img (bootError false img) s

/-- GO_TIMEOUT: in mode 0b10 no GO has come within 2^28 RIM of stage 5 (R525). -/
def goTimeout (s : State) : State :=
  if s.straps.boot = 2 ∧ s.sup.mode = .halted ∧ s.bit SUP 0x02 13 = false ∧ s.bit SUP 0x02 11 = false then
    let s1 := s.reach (s.power.bootAt + 2 ^ 28)
    s1.wr SUP 0x02 (putFld (setBit (s1.rd SUP 0x02) 11) 8 3 5)
  else s

/-- RESTART = 1 takes effect: the supervisor starts at the boot-ROM vector with SRAM kept; ignored while HALT = 1 (05). -/
def supRestart (s : State) : State := if s.bit SUP 0x00 15 then s else bootRom s

/-- HALT is written (05): the supervisor stops, or resumes where it stopped. -/
def supHalt (on : Bool) (s : State) : State := s.putB SUP 0x00 15 on

/-- SUP_TRAP: an unrecoverable trap with cause word `cause` (R462, 05). A stopped supervisor takes none. -/
def supTrap (cause : Word) (s : State) : State :=
  match supState s with
  | .boot | .running =>
    faultRecord 14 0 0xFF 0 cause.toNat 0 ((s.setB SUP 0x01 10).modSup (fun u => { u with mode := .trapped, wfi := false }))
  | _ => s

/-- SUP_WFI: the supervisor begins WFI; with TARGET 1 or 2 it makes a mode request 2 RIM later (R499). -/
def supWfi (s : State) : State :=
  if supState s ≠ .running then s
  else
    let s1 := s.modSup (fun u => { u with wfi := true })
    let t := s.fld PWR 0x01 0 2
    if t = 1 ∨ t = 2 then arrive (.mode t) (s1.pass 2) else s1

/-! ## Waking the supervisor (R143, R528) -/

/-- HOST_DB = 1 takes effect: HOST_REQ and its interrupt (R143, R528). -/
def hostDoorbell (s : State) : State := supCauseSet 1 (s.modSup (fun u => { u with hostReq := true }))

/-- HANDOVER: the store with bit 0 = 1 sets READY (R528). -/
def handover (s : State) : State := s.modSup (fun u => { u with ready := true })

/-- A store to the interrupt cause clears bits 2:0 where it holds 1 (R528). -/
def causeClear (v : W32) (s : State) : State := s.modSup (fun u => { u with cause := u.cause &&& ~~~ (v &&& 7) })

/-- The interrupt cause as read: bit 3 follows the fault queue (R528). -/
def causeWord (s : State) : W32 := s.sup.cause ||| (if s.faults.queue.isEmpty then 0 else 8)

end Sys2Proof.Machine
end

