-- ==== Sys2Proof/Machine/Pins.lean ====
section
/-! DEFINITION. The pins as functions of the state: TRIP_N, ALERT_N, VID, the status word's MODE, the probe taps (04, 13,
16, 19, 22). -/

namespace Sys2Proof.Machine

/-- The TRIP_SAFE hold of TRIP_N (R352). -/
def tripSafeHold (s : State) : Bool := s.straps.tripSafe && !locked s

/-- The device pulls TRIP_N low (R351 to R353, R570). -/
def tripLow (s : State) : Bool :=
  match s.power.mode with
  | .run => tripSafeHold s || allChans.any (fun c => (s.chan c).holdEnd.isSome)
  | .starting => s.power.resetLow || decide (s.power.stage < 2) || tripSafeHold s
  | _ => false

/-- The device pulls ALERT_N low for an unmasked event (R108, R136); the ready pulses of R109 are counted apart. -/
def alertLow (s : State) : Bool :=
  decide (s.rd DEV 0x05 &&& ~~~ (s.rd DEV 0x06) ≠ 0) && decide (s.power.mode = .run ∨ s.power.mode = .hush)

/-- The code driven on VID[4:0] (R490, R505, R573). -/
def vidPins (s : State) : Nat :=
  match s.power.mode with
  | .run => s.power.vid
  | .hush => s.power.vid
  | _ => 15

/-- MODE of the status word (R95). -/
def statusMode (s : State) : Nat :=
  if s.power.mode = .hush then 2 else if s.sup.ready = false then 3 else if s.power.prog.isSome then 1 else 0

/-- Tap `t` of walk `w` (R413, R424): taps 0 to 59 the design's nets, 0 on those it does not declare, and all 0 before
release stage 1; 60 and 61 SNAP0 and SNAP1; 62 QREQ; 63 the reset part of GSR. -/
def probeTap (s : State) (w t : Nat) : Bool :=
  if t < 60 then (s.walk w).outputsOn && s.value (inputOf w (s.routeField w (.tap t)) none)
  else if t = 60 then s.value (.snap 0)
  else if t = 61 then s.value (.snap 1)
  else if t = 62 then s.value (.query w)
  else gsrReset s w

/-- Probe pin `n` (R424): 0 with EN = 0, else the selected tap of its walk. -/
def probePin (s : State) (n : Nat) : Bool := s.bit CLO (0x08 + n) 15 && probeTap s (n / 2) (s.fld CLO (0x08 + n) 0 6)

end Sys2Proof.Machine
end

