-- ==== Sys2Proof/Machine/RegRead.lean ====
section
/-! DEFINITION. What a register reads (05): the stored word with its live fields, and the read windows. -/

namespace Sys2Proof.Machine

/-! ## Device, supervisor and power -/

/-- DEV_STATUS as read (05). -/
def devStatus (s : State) : Word :=
  (s.rd DEV 0x04 &&& 0xC000) ||| bitAt (tripLow s) 13 ||| bitAt (alertLow s) 12 ||| bitAt s.sup.ready 11 |||
    bitAt s.straps.tripSafe 7 ||| word (s.straps.boot.toNat * 32 + s.straps.addr.toNat * 4)

/-- Code of SUP_STATUS.STATE (05). -/
def SupMode.code : SupMode → Nat
  | .boot => 0
  | .running => 1
  | .halted => 2
  | .trapped => 3

/-- SUP_STATUS as read (05). -/
def supStatus (s : State) : Word :=
  word ((supState s).code * 0x4000) ||| bitAt s.sup.wfi 13 ||| bitAt s.sup.hostReq 12 ||| (s.rd SUP 0x01 &&& 0x0C00)

/-- KIND and value of a request (19). -/
def PowerReq.kind : PowerReq → Bool
  | .level _ => false
  | .mode _ => true

/-- VALUE of a request (19). -/
def PowerReq.value : PowerReq → Nat
  | .level n => n
  | .mode t => t

/-- PWR_PENDING as read (19). -/
def pwrPending (s : State) : Word :=
  match s.power.pend with
  | none => 0
  | some r => bitAt true 15 ||| bitAt r.kind 14 ||| word r.value

/-- PWR_STATUS.STEP (19): the query step being answered, 8 after the commit. -/
def pwrStep (s : State) : Nat :=
  if s.power.committed.isSome then 8
  else
    match s.power.entry with
    | some e => (match e.todo with | b :: _ => b.step | [] => 0)
    | none => 0

/-- PWR_STATUS as read (19). -/
def pwrStatus (s : State) : Word :=
  (s.rd PWR 0x04 &&& 0x00FE) |||
    (match s.power.prog with
     | none => 0
     | some r => bitAt true 15 ||| bitAt r.kind 14 ||| word (r.value * 0x1000)) |||
    word (pwrStep s * 256)

/-- PMP_STATUS as read (05). -/
def pmpStatus (s : State) : Word :=
  foldS (fun k (w : Word) => w ||| bitAt (pumpBusy s k) (8 + k) ||| bitAt (s.pump k).retired k) (List.range 8) 0

/-! ## Links and the cloister -/

/-- Code of LNK_STATE.STATE (R441). -/
def LinkSt.code : LinkSt → Nat
  | .down => 0
  | .training => 1
  | .up => 2
  | .retry => 3
  | .lost => 4
  | .retired => 5

/-- LNK_STATE as read (17). -/
def lnkState (s : State) (p : Nat) : Word :=
  let q := s.port p
  (s.rd (LNK p) 0x01 &&& 0xE000) ||| bitAt q.paused 12 |||
    word (q.reason % 16 * 256 + min 31 q.attempts * 8 + q.st.code)

/-- Code of a walk state (16). -/
def WalkMode.code : WalkMode → Nat
  | .empty => 0
  | .loading => 1
  | .release => 3
  | .running => 4
  | .failed => 5

/-- CLO_WALK_STATE as read (16). -/
def walkState (s : State) : Word :=
  word (s.clo.err * 4096 + (s.walk 3).mode.code * 512 + (s.walk 2).mode.code * 64 + (s.walk 1).mode.code * 8 +
    (s.walk 0).mode.code)

/-! ## Channels and engines -/

/-- CH_STATE as read (06). -/
def chState (s : State) (c : Nat) : Word :=
  let ch := s.chan c
  word ((if ch.st = .shadow then ch.shadow.left % 16 else 0) * 256) ||| bitAt ch.lateLast 7 ||| bitAt ch.brokenLast 6 |||
    bitAt (decide (ch.st = .stopping)) 5 ||| bitAt (decide (ch.st = .retired)) 4 |||
    bitAt (decide (ch.st = .readmitting)) 3 ||| bitAt (decide (ch.st = .shadow)) 2 |||
    bitAt (decide (ch.st = .watch)) 1 ||| bitAt (decide (ch.st = .active)) 0

/-- Bits 4:0 of ENG_STATE, one-hot apart from Off: RETIRED, STOPPING, TICK, BG, IDLE. -/
def engMode (s : State) (e : Nat) : Word :=
  let g := s.eng e
  if g.retired then 16
  else if engStopping s e then 8
  else match g.run with
    | some r => if r.kind.isTick then 2 else 4
    | none => if g.enabled then 1 else 0

/-- ENG_STATE as read (08). -/
def engState (s : State) (e : Nat) : Word :=
  let g := s.eng e
  word (g.fault * 4096) ||| bitAt g.bgRefused 9 ||| bitAt g.bgPend.isSome 8 ||| bitAt g.fenced.isSome 7 |||
    bitAt g.rearmed 6 ||| bitAt g.faulted 5 ||| engMode s e

/-- ENG_PC as read (08). -/
def engPc (s : State) (e : Nat) : Word :=
  let g := s.eng e
  match g.faultPc, g.run with
  | some i, _ => word i
  | none, some r => word r.pc
  | none, none => word g.lastPc

/-- ENG_TAGS_HELD as read (09). -/
def engTags (s : State) (e : Nat) : Word := word ((s.eng e).peak * 256 + heldTags s e)

/-- ENG_CTRL.PSEL. -/
def engPsel (s : State) (e : Nat) : Nat := s.fld (ENG e) 0x00 4 4

/-- ENG_BANK as read (12): SIZE, and the learning state of channel PSEL. -/
def engBank (s : State) (e : Nat) : Word :=
  let l := (s.chan (engPsel s e)).learn
  bitAt l.active 15 ||| bitAt l.ready 14 ||| bitAt l.sweepOn 13 ||| bitAt l.hold 12 ||| bitAt l.foreign 11 |||
    (s.rd (ENG e) 0x08 &&& 0x00FF)

/-! ## One register -/

/-- Register `r` of single target `t`, which is no window, as read. -/
def regRead (s : State) (t r : Nat) : Word :=
  let w := s.rd t r
  if t = DEV then
    match r with
    | 0x04 => devStatus s
    | 0x18 => word (freeTags s)
    | _ => w
  else if t = SUP then (if r = 0x01 then supStatus s else w)
  else if t = PWR then
    match r with
    | 0x00 => putBit w 15 s.power.change.isSome
    | 0x03 => pwrPending s
    | 0x04 => pwrStatus s
    | 0x08 => putFld w 0 5 (vidPins s)
    | _ => w
  else if t = CRY then
    match r with
    | 0x00 => cryStatus s
    | 0x08 => word s.tb
    | 0x09 => word (s.tb / 2 ^ 16)
    | 0x0A => word (s.tb / 2 ^ 32)
    | 0x0B => putBit w 8 s.tbase.act
    | _ => w
  else if t = SEC then
    match r with
    | 0x00 => secStatus s
    | 0x05 => bindSel s
    | 0x06 => windowWord s.sec.stage (s.fld SEC 0x05 4 3)
    | _ => w
  else if t = PMP then (if r = 0x01 then pmpStatus s else w)
  else if t = CLO then
    if r = 0x01 then walkState s
    else if 4 ≤ r ∧ r ≤ 6 then putFld w 0 3 (safeOf s r)
    else w
  else if 0x08 ≤ t ∧ t < 0x0C then (if r = 0x01 then lnkState s (t - 0x08) else w)
  else if 0x10 ≤ t ∧ t < 0x20 then
    let c := t - 0x10
    match r with
    | 0x00 => putBit w 13 (s.chan c).rearmed
    | 0x01 => chState s c
    | 0x11 => putBit w 11 (tripping s c)
    | 0x15 => putBit w 10 ((s.chan c).drift.refresh || (s.chan c).drift.refreshTick)
    | _ => w
  else if 0x20 ≤ t ∧ t < 0x30 then
    let e := t - 0x20
    match r with
    | 0x01 => engState s e
    | 0x02 => engPc s e
    | 0x03 => engTags s e
    | 0x07 => word (programStrokes s e (engPsel s e))
    | 0x08 => engBank s e
    | _ => w
  else w

/-- A register that is a window: reading it has an effect (R92). -/
def isWindow (t r : Nat) : Bool :=
  (decide (t = DEV) && decide (r = 0x0B)) || (decide (t = SEC) && decide (1 ≤ r ∧ r ≤ 3)) ||
    (decide (t = CRY) && decide (r = 0x0F))

/-- `n` words from a window that counts its own words. -/
def drawWords (f : State → Word × State) : Nat → State → List Word × State
  | 0, s => ([], s)
  | n + 1, s =>
    let (w, s1) := f s
    let (ws, s2) := drawWords f n s1
    (w :: ws, s2)

/-- `n` words read at window register `r` of target `t` (R94, R537, R544). CHAL_IN is write-only and reads 0 (R12). -/
def windowRegRead (t r n : Nat) (s : State) : List Word × State :=
  if t = DEV then windowReads n s
  else if t = CRY then ((List.range n).map (fun i => tbLogWord s i), s)
  else if r = 2 then drawWords respOut n s
  else if r = 3 then drawWords idCert n s
  else (List.replicate n 0, s)

/-- One word read from register `r` of single target `t`; an offset the target does not implement reads 0 (R93). -/
def wordRead (t r : Nat) (s : State) : Word × State :=
  match regInfo s.part s.straps t r with
  | none => (0, s)
  | some _ =>
    if isWindow t r then
      let (ws, s1) := windowRegRead t r 1 s
      (nth ws 0 0, s1)
    else (regRead s t r, s)

end Sys2Proof.Machine
end

