-- ==== Sys2Proof/Machine/RegWrite.lean ====
section
/-! DEFINITION. Writing a register (R9 to R12, R104, R123, R138): reserved encodings, LOCK, cross-register constraints, the
stored word, and what the write does. -/

namespace Sys2Proof.Machine

/-! ## Reserved encodings (R10) -/

/-- A GUARD_POINT word outside its ranges (R68). -/
def guardReserved (v : Word) : Bool :=
  if wbit v 15 then decide (wfld v 0 15 < 250)
  else !decide (50 ≤ wfld v 0 7 ∧ wfld v 0 7 ≤ 98) || decide (wfld v 7 8 ≠ 0)

/-- A code outside a closed range. -/
def outside (x lo hi : Nat) : Bool := decide (x < lo) || decide (hi < x)

/-- A channel register's word holds a reserved encoding (06, 12, 14, 18). -/
def chReserved (p : Part) (r : Nat) (v : Word) : Bool :=
  match r with
  | 0x02 => decide (p.engines ≤ wfld v 0 4 + wfld v 4 3)
  | 0x03 => decide (63 < wfld v 8 6 + wfld v 0 6)
  | 0x04 => outside (wfld v 0 5) 8 16
  | 0x05 => outside (wfld v 0 4) 4 12
  | 0x06 => decide (wfld v 0 4 = 0)
  | 0x14 => outside (wfld v 0 5) 8 20
  | _ => false

/-- A link register's word holds a reserved encoding (17). -/
def lnkReserved (r : Nat) (v : Word) : Bool :=
  match r with
  | 0x00 => decide (wfld v 8 2 = 3) || decide (wfld v 6 2 = 3)
  | 0x02 => decide (v = 0)
  | 0x03 => decide (wfld v 0 8 = 0)
  | 0x05 => outside (wfld v 0 3) 0 4
  | 0x07 => decide (v = 0)
  | _ => false

/-- A word for register `r` of target `t` holds a reserved encoding (R10). -/
def reservedWord (p : Part) (t r : Nat) (v : Word) : Bool :=
  if t = DEV then
    match r with
    | 0x08 => decide (0x0C < wfld v 8 8)
    | 0x22 => outside v.toNat 0x0C35 0xC350
    | 0x28 => guardReserved v
    | _ => false
  else if t = PWR then
    match r with
    | 0x01 => decide (wfld v 0 2 = 3)
    | 0x0A => (List.range 4).any (fun n => decide (8 ≤ wfld v (4 * n) 4))
    | _ => false
  else if t = PMP then decide (r = 0x02) && decide (v = 0)
  else if t = CLO then
    match r with
    | 0x00 => decide (5 ≤ wfld v 10 3)
    | 0x02 => decide (wfld v 0 12 = 0)
    | 0x04 | 0x05 | 0x06 => decide (wfld v 0 3 = 5 ∨ wfld v 0 3 = 6)
    | _ => false
  else if 0x08 ≤ t ∧ t < 0x0C then lnkReserved r v
  else if 0x10 ≤ t ∧ t < 0x20 then chReserved p r v
  else if 0x20 ≤ t ∧ t < 0x30 then decide (r = 0x08) && decide (0xBF ≤ wfld v 0 8)
  else false

/-! ## LOCK (R123, R125) -/

/-- The word would change an RWL field of register `r` of target `t`. A CLO_SAFE word changes PIN, or the stored state of
PIN where its code is not 7 (16). -/
def changesLocked (s : State) (t r : Nat) (i : RegInfo) (v : Word) : Bool :=
  if t = CLO ∧ 4 ≤ r ∧ r ≤ 6 then
    decide (wfld v 8 5 ≠ s.fld CLO r 8 5) || (decide (wfld v 0 3 ≤ 4) && decide (wfld v 0 3 ≠ safeOf s r))
  else decide ((v ^^^ s.rd t r) &&& word i.rwl ≠ 0)

/-! ## Cross-register constraint (R138) -/

/-- The retry window of an enabled port, in units of 1,024 RIM, against the transfer timeout in the same unit. -/
def linkConstraint (en : Bool) (rt rm timeout : Nat) : Bool := !en || decide (rt * rm < timeout)

/-- The word would break a constraint. -/
def breaksConstraint (s : State) (t r : Nat) (v : Word) : Bool :=
  let en (n : Nat) : Bool := s.bit (LNK n) 0x00 15
  let rt (n : Nat) : Nat := (s.rd (LNK n) 0x02).toNat
  let rm (n : Nat) : Nat := s.fld (LNK n) 0x03 0 8
  let to_ : Nat := (s.rd PMP 0x02).toNat
  if t = PMP ∧ r = 0x02 then (List.range s.part.links).any (fun n => !linkConstraint (en n) (rt n) (rm n) v.toNat)
  else if 0x08 ≤ t ∧ t < 0x0C then
    let n := t - 0x08
    match r with
    | 0x00 => !linkConstraint (wbit v 15) (rt n) (rm n) to_
    | 0x02 => !linkConstraint (en n) v.toNat (rm n) to_
    | 0x03 => !linkConstraint (en n) (rt n) (wfld v 0 8) to_
    | _ => false
  else false

/-! ## Effects of a write -/

/-- BG_START = 1 takes effect on engine `e` with job BG_SEL (R224). -/
def bgStart (e : Nat) (s : State) : State :=
  let g := s.eng e
  let busy := g.bgPend.isSome || [g.run, g.susp].any (fun r =>
    match r with
    | some x => (match x.kind with | .job _ => true | _ => false)
    | none => false)
  if g.enabled && !g.retired && !engStopping s e && !busy then
    startBackground e (s.modEng e (fun g => { g with bgPend := some (s.fld (ENG e) 0x00 8 5), bgRefused := false }))
  else s.modEng e (fun g => { g with bgRefused := true })

/-- CLR_FAULT = 1 takes effect on engine `e` (R221). -/
def clrFault (e : Nat) (s : State) : State :=
  s.modEng e (fun g => { g with faulted := false, fault := 0, faultPc := none })

/-- A write of ENG_BANK.SIZE: discarded with CFG_CONFLICT unless every channel that maps the engine is Off (R323). -/
def bankSize (e : Nat) (v : Word) (s : State) : State :=
  if (chansOn s e).all (fun c => decide ((s.chan c).st = .off)) then s.wr (ENG e) 0x08 (v &&& 0x00FF) else cfgConflict s

/-- PMP_CTRL is written: a pump enabled while its operations are in flight accepts again once the last has completed
(R142). -/
def pmpCtrl (v : Word) (s : State) : State :=
  let old := s.rd PMP 0x00
  foldS (fun k s =>
    if wbit v (8 + k) = true ∧ wbit old (8 + k) = false ∧ pumpBusy s k = true then
      s.modPump k (fun q => { q with reopening := some s.nextOp })
    else s) (List.range 8) (s.wr PMP 0x00 (v &&& 0xFF00))

/-- SEC_CTRL is written by the supervisor or another writer (R544, R545): PTR_CLR first, then the command. -/
def secCtrl (sup : Bool) (v : Word) (s : State) : State :=
  let s1 := if wbit v 14 then ptrClear s else s
  if wbit v 15 then secGo sup (wfld v 8 4) (wfld v 0 8) s1 else s1

/-- CLO_CTRL is written: LOAD and ABORT are judged on the load in progress before the write. -/
def cloCtrl (v : Word) (s : State) : State :=
  let s0 := s.wr CLO 0x00 (v &&& 0x3FC0)
  let s1 := if wbit v 15 then cloLoad v s0 else s0
  if wbit v 14 = true ∧ s.clo.load.isSome = true then cloAbort s1 else s1

/-- TB_SRC is written (R524, R535). -/
def tbSrc (v : Word) (s : State) : State :=
  let s1 := s.wr CRY 0x0B (v &&& 1)
  let s2 := if wbit v 15 then rimSwitch s1 else s1
  if wbit v 14 then rimToFio s2 else s2

/-- SUP_CTRL is written (05). -/
def supCtrl (v : Word) (s : State) : State :=
  let s1 := supHalt (wbit v 15) s
  let s2 := if wbit v 14 then supRestart s1 else s1
  let s3 := if wbit v 13 then supGo s2 else s2
  if wbit v 0 then hostDoorbell s3 else s3

/-- LNK_INJ_MODE is written: SHOT = 1 arms a one-shot (R459). -/
def injMode (p : Nat) (v : Word) (s : State) : State :=
  let s1 := s.wr (LNK p) 0x05 (v &&& 0xC007)
  if wbit v 15 then s1.modPort p (fun q => { q with shot := true }) else s1

/-- LNK_INJ_SEED is written (R458). -/
def injSeed (p : Nat) (v : Word) (s : State) : State := (s.wr (LNK p) 0x07 v).modPort p (fun q => { q with lfsr := v })

/-- CH_FAULT_COUNT is written: it loads, and IN_WIN = 0 ends the fault window (R465). -/
def faultCount (c : Nat) (v : Word) (s : State) : State :=
  let s1 := s.wr (CH c) 0x12 v
  if wfld v 0 8 = 0 then s1.modChan c (fun ch => { ch with winLeft := none }) else s1

/-- The stored word after a write: RW and RWL fields take the value, W1C bits written as 1 clear. -/
def storedWord (i : RegInfo) (old v : Word) : Word :=
  let m := word (i.rw ||| i.rwl)
  ((old &&& ~~~ m) ||| (v &&& m)) &&& ~~~ (v &&& word i.w1c)

/-- What a write of a device register does beyond its stored word. -/
def devEffect (r : Nat) (v : Word) (s : State) : State :=
  match r with
  | 0x19 => if wbit v 15 then s.wr DEV 0x19 (word (freeTags s)) else s
  | 0x20 => tickCtrlWritten s
  | _ => s

/-- A write of SUP register `r`: `s1` holds the stored word, `s` the state before (05, 20). -/
def supPut (sup : Bool) (r : Nat) (v : Word) (s s1 : State) : State :=
  if r = 0x00 then supCtrl v s
  else if sup = true ∧ 0x0C ≤ r ∧ r ≤ 0x0F then s.wr SUP r v
  else s1

/-- A write of PWR register `r`, the stored word in place (19); a write of PWR_MODE starts the steward's count of
sleep attempts again (R510). -/
def pwrPut (r : Nat) (v : Word) (s1 : State) : State :=
  if r = 0x01 then (if wfld v 0 2 = 0 then runRequest 3 0 s1 else s1).setTries 0
  else if r = 0x02 then arrive (.level (wfld v 0 2)) s1
  else s1

/-- A write of CRY register `r` (20). -/
def cryPut (r : Nat) (v : Word) (s s1 : State) : State :=
  if r = 0x0B then tbSrc v s
  else if r = 0x0C ∧ wbit v 14 = true then s1.wr CRY 0x0C (putFld (s1.rd CRY 0x0C) 0 4 0)
  else s1

/-- A write of SEC register `r` (21). -/
def secPut (sup : Bool) (r : Nat) (v : Word) (s s1 : State) : State :=
  if r = 0x04 then secCtrl sup v s else if r = 0x06 then bindData v s else s1

/-- A write of CLO register `r` (16). -/
def cloPut (r : Nat) (v : Word) (s s1 : State) : State :=
  if r = 0x00 then cloCtrl v s else if 4 ≤ r ∧ r ≤ 6 then cloSafe r v s else s1

/-- A write of register `r` of link port `p` (17). -/
def lnkPut (p r : Nat) (v : Word) (s s1 : State) : State :=
  if r = 0x00 then linkControl p s1
  else if r = 0x05 then injMode p v s
  else if r = 0x07 then injSeed p v s
  else s1

/-- A write of register `r` of channel `c` (06). -/
def chPut (c r : Nat) (v : Word) (s s1 : State) : State :=
  if r = 0x02 ∨ r = 0x03 then (if (s.chan c).st = .off then mapsEdge c s1 else s1)
  else if r = 0x12 then faultCount c v s
  else s1

/-- A write of register `r` of engine `e` (08). -/
def engPut (e r : Nat) (v : Word) (s s1 : State) : State :=
  if r = 0x00 then
    let s2 := if wbit v 13 then clrFault e s1 else s1
    if wbit v 14 then bgStart e s2 else s2
  else if r = 0x08 then bankSize e v s
  else s1

/-- The write of word `v` to register `r` of target `t`, described by `i`, by the supervisor (`sup`) or another writer:
the stored word and its effect. -/
def regPut (sup : Bool) (t r : Nat) (i : RegInfo) (v : Word) (s : State) : State :=
  let old := s.rd t r
  let s1 := s.wr t r (storedWord i old v)
  if t = DEV then devEffect r v s1
  else if t = SUP then supPut sup r v s s1
  else if t = PWR then pwrPut r v s1
  else if t = CRY then cryPut r v s s1
  else if t = SEC then secPut sup r v s s1
  else if t = PMP then (if r = 0x00 then pmpCtrl v s else s1)
  else if t = CLO then cloPut r v s s1
  else if 0x08 ≤ t ∧ t < 0x0C then lnkPut (t - 0x08) r v s s1
  else if 0x10 ≤ t ∧ t < 0x20 then chPut (t - 0x10) r v s s1
  else if 0x20 ≤ t ∧ t < 0x30 then engPut (t - 0x20) r v s s1
  else s1

/-- A word written to window register `r` of target `t`; a read-only window ignores it (R9). -/
def windowRegWrite (t r : Nat) (v : Word) (s : State) : State :=
  if t = DEV then windowWrite v s else if t = SEC ∧ r = 0x01 then chalIn v s else s

/-- A word written to register `r` of single target `t` with `lk` the LOCK that governs it. The flag says that the word
was rejected: a reserved encoding, or an RWL field it would change (R10, R96, R123). A rejected word writes nothing. -/
def wordWrite (sup lk : Bool) (t r : Nat) (v : Word) (s : State) : State × Bool :=
  match regInfo s.part s.straps t r with
  | none => (s, false)
  | some i =>
    if isWindow t r then (windowRegWrite t r v s, false)
    else if reservedWord s.part t r v then (s, true)
    else if lk && changesLocked s t r i v then (s, true)
    else if breaksConstraint s t r v then (cfgConflict s, false)
    else (regPut sup t r i v s, false)

/-! ## Groups (R102, R122) -/

/-- Members of a group target: the single targets its mask names (R102, R119, R122). -/
def groupMembers (s : State) (t : Nat) : Option (List Nat) :=
  match target s.part s.straps t with
  | .single _ => some [t]
  | .chGroup (some r) => some ((maskList (s.rd DEV r).toNat 16).map CH)
  | .chGroup none => some ((List.range 16).map CH)
  | .engGroup (some r) => some ((maskList (s.rd DEV r).toNat s.part.engines).map ENG)
  | .engGroup none => some ((List.range s.part.engines).map ENG)
  | .reserved => none

/-- A word written through a target, single or group: every member takes it on its own, and it is rejected once if any
member refuses it (R102, R123). -/
def targetWrite (sup lk : Bool) (t r : Nat) (v : Word) (s : State) : State × Bool :=
  match groupMembers s t with
  | none => (s, false)
  | some ms =>
    foldS (fun m (x : State × Bool) =>
      let (s1, bad) := wordWrite sup lk m r v x.1
      (s1, x.2 || bad)) ms (s, false)

end Sys2Proof.Machine
end

