-- ==== Sys2Proof/Machine/Frames.lean ====
section
/-! DEFINITION. The control port (04): write frames, read frames, outcomes and the status word; and the JTAG access path
(22). -/

namespace Sys2Proof.Machine

/-! ## Outcomes (R96) -/

abbrev ocOk : Nat := 0
abbrev ocCrc : Nat := 1
abbrev ocLength : Nat := 2
abbrev ocAddress : Nat := 3
abbrev ocGroupRead : Nat := 4
abbrev ocRejected : Nat := 5
abbrev ocAsleep : Nat := 6

/-- The device's chip address (R86). -/
def chipAddress (s : State) : Nat := 0x48 + s.straps.addr.toNat

/-- Byte `i` of a frame. -/
def frameByte (bs : List Byte) (i : Nat) : Nat := (nth bs i 0).toNat

/-- The frame is addressed to this device, by its own address or by 0x47 (R86). -/
def addressed (s : State) (bs : List Byte) : Bool :=
  !bs.isEmpty && (decide (frameByte bs 0 / 2 = chipAddress s) || decide (frameByte bs 0 / 2 = 0x47))

/-- Word `k` of a write frame, high byte first (R87). -/
def frameWord (bs : List Byte) (k : Nat) : Word := word (frameByte bs (4 + 2 * k) * 256 + frameByte bs (5 + 2 * k))

/-- N and REG break their limits (R87, R92). -/
def limitBroken (t r n : Nat) : Bool := outside n 1 128 || (!isWindow t r && decide (0xFF < r + n - 1))

/-- Offset of word `k`: a frame that starts at a window stays there (R92). -/
def wordOffset (t r k : Nat) : Nat := if isWindow t r then r else r + k

/-- Change the control port's record. -/
def State.modCtl (s : State) (f : CtlPort → CtlPort) : State := { s with ctl := f s.ctl }

/-! ## Write frames (R90, R96 to R102, R111) -/

/-- The outcome a write frame's checks give before it acts: LENGTH, CRC, ADDRESS, or OK (R96, R97). -/
def writeCheck (s : State) (bs : List Byte) : Nat :=
  let n := frameByte bs 3
  if bs.length < 4 ∨ limitBroken (frameByte bs 1) (frameByte bs 2) n = true ∨ bs.length < 5 + 2 * n then ocLength
  else if crc8 (bs.take (4 + 2 * n)) ≠ frameByte bs (4 + 2 * n) then ocCrc
  else if (groupMembers s (frameByte bs 1)).isNone then ocAddress
  else ocOk

/-- Record a write frame's outcome (R99): WLAST, FRAME_ERR, and SEQ for an executed frame. -/
def recordWrite (oc : Nat) (s : State) : State :=
  let s1 := s.modCtl (fun c =>
    { c with wlast := oc, seq := if oc = ocOk ∨ oc = ocRejected then (c.seq + 1) % 16 else c.seq, answer := none })
  if oc = ocOk ∨ oc = ocAsleep then s1 else frameError s1

/-- One word of a write frame, with `lk` the LOCK that held before the frame (R125). -/
def frameWordPut (lk : Bool) (t r : Nat) (w : Nat × Word) (x : State × Bool) : State × Bool :=
  let (s1, bad) := targetWrite false lk t (wordOffset t r w.1) w.2 x.1
  (s1, x.2 || bad)

/-- A word at offset `r` is a window word that is issued into the core, after the words of the rim (R104, R105). -/
def lateWord (s : State) (t r : Nat) : Bool := decide (t = DEV) && decide (r = 0x0B) && tblInCore s

/-- One word of a frame on the rim's edge, or, where it is issued into the core, put by for later. -/
def rimWordPut (lk : Bool) (t r : Nat) (w : Nat × Word) (x : (State × Bool) × List (Nat × Word)) :
    (State × Bool) × List (Nat × Word) :=
  if lateWord x.1.1 t (wordOffset t r w.1) then (x.1, x.2 ++ [w]) else (frameWordPut lk t r w x.1, x.2)

/-- A word at offset `r` of target `t` can clear W1C bits. -/
def clearsBits (s : State) (t r : Nat) : Bool :=
  match groupMembers s t with
  | some (m :: _) => (regInfo s.part s.straps m r).any (fun i => decide (i.w1c ≠ 0))
  | _ => false

/-- The words of a write frame take effect: those of the rim together on one edge, on which a W1C bit that is cleared and
newly set stays set, and after them the window words issued into the core, in frame order (R104, R107). -/
def frameWords (t r : Nat) (ws : List (Nat × Word)) (s : State) : State × Bool :=
  let lk := locked s
  let clears (w : Nat × Word) : Bool := clearsBits s t (wordOffset t r w.1)
  let a := foldS (frameWordPut lk t r) (ws.filter clears) (s, false)
  let b := foldS (rimWordPut lk t r) (ws.filter (fun w => !clears w)) (a, [])
  foldS (frameWordPut lk t r) b.2 b.1

/-- WRITE_FRAME in Run (R90 to R102). -/
def writeRun (bs : List Byte) (s : State) : State :=
  let oc := writeCheck s bs
  if oc ≠ ocOk then recordWrite oc s
  else
    let ws := (List.range (frameByte bs 3)).map (fun k => (k, frameWord bs k))
    let (s1, bad) := frameWords (frameByte bs 1) (frameByte bs 2) ws s
    recordWrite (if bad then ocRejected else ocOk) s1

/-- WRITE_FRAME in Hush: nothing is executed; a frame whose CRC matches starts the exit (R97, R111). R111 does not say which
other errors keep the device asleep: the model lets LENGTH do so, and not ADDRESS (DESIGN CHOICE, log entry 64). -/
def writeHush (bs : List Byte) (s : State) : State :=
  let oc := writeCheck s bs
  if oc = ocLength ∨ oc = ocCrc then recordWrite oc s
  else hushExit 3 (frameByte bs 0 / 2) (recordWrite (if oc = ocOk then ocAsleep else oc) s)

/-! ## Read frames (R94, R95, R98, R103, R105, R110, R518) -/

/-- The status word with RCUR = `rcur` (R95). -/
def statusWord (s : State) (rcur : Nat) : Word :=
  bitAt (s.bit DEV 0x04 15) 15 ||| word (s.ctl.wlast % 8 * 4096 + rcur % 8 * 512) ||| bitAt (alertLow s) 8 |||
    bitAt (tripLow s) 7 ||| bitAt (locked s) 6 ||| word (statusMode s * 16 + s.ctl.seq % 16)

/-- A 16-bit word, high byte first. -/
def wireBytes (w : Word) : List Byte := [byte (wfld w 8 8), byte (wfld w 0 8)]

/-- Drive an answer: the status word, the data words and the CRC-8 over both (R87). -/
def drive (rcur : Nat) (ws : List Word) (s : State) : State :=
  let body := wireBytes (statusWord s rcur) ++ ws.flatMap wireBytes
  s.modCtl (fun c => { c with answer := some (body ++ [byte (crc8 body)]) })

/-- Word of offset `r` read through a group: the OR over the members, and whether the register may be ORed (R103, R121).
An offset the members do not implement reads 0 without error (R93). -/
def groupWord (s : State) (ms : List Nat) (ch : Bool) (r : Nat) : Word × Bool :=
  let regs := if ch then chRegs s.part 0 else engRegs
  match assoc regs r with
  | none => (0, true)
  | some i => if i.orr then (foldS (fun m (w : Word) => w ||| regRead s m r) ms 0, true) else (0, false)

/-- CP_MISO stays released. -/
def noAnswer (s : State) : State := s.modCtl (fun c => { c with answer := none })

/-- WRITE_FRAME: a frame with bit 0 of byte 0 = 0, as its bytes arrived before CP_CS_N rose; CP_MISO stays released (R86,
R91, R101, R109, R518). -/
def writeFrame (bs : List Byte) (s : State) : State :=
  if addressed s bs = false ∨ frameByte bs 0 % 2 = 1 then noAnswer s
  else
    match s.power.mode with
    | .run => writeRun bs s
    | .hush => writeHush bs s
    | _ => noAnswer s

/-- Words read one after another from offsets `r + k` of single target `t`, each with its `k`. -/
def readEach (t r : Nat) : List Nat → State → List (Nat × Word) × State
  | [], s => ([], s)
  | k :: ks, s =>
    let (w, s1) := wordRead t (r + k) s
    let (ws, s2) := readEach t r ks s1
    ((k, w) :: ws, s2)

/-- The data words of a read from offset `r` of single target `t`: the words of the rim are sampled on one edge, before those
that are issued into the core (R105). -/
def readWords (t r : Nat) (ks : List Nat) (s : State) : List Word × State :=
  let late (k : Nat) : Bool := lateWord s t (r + k)
  let (xs, s1) := readEach t r (ks.filter (fun k => !late k)) s
  let (ys, s2) := readEach t r (ks.filter late) s1
  (ks.map (fun k => (assoc (xs ++ ys) k).getD 0), s2)

/-- The words and the outcome of a valid read in Run: OK or GROUP_READ (R96, R103). -/
def readData (t r n : Nat) (s : State) : List Word × Nat × State :=
  let ks := List.range n
  match target s.part s.straps t, groupMembers s t with
  | .single _, _ =>
    let (ws, s1) := if isWindow t r then windowRegRead t r n s else readWords t r ks s
    (ws, ocOk, s1)
  | .chGroup _, some ms =>
    let xs := ks.map (fun k => groupWord s ms true (r + k))
    (xs.map Prod.fst, if xs.all Prod.snd then ocOk else ocGroupRead, s)
  | .engGroup _, some ms =>
    let xs := ks.map (fun k => groupWord s ms false (r + k))
    (xs.map Prod.fst, if xs.all Prod.snd then ocOk else ocGroupRead, s)
  | _, _ => ([], ocAddress, s)

/-- The command of a read frame: all five bytes came and its CRC matches (R90). -/
def readCommandOk (bs : List Byte) : Bool := decide (5 ≤ bs.length) && decide (crc8 (bs.take 4) = frameByte bs 4)

/-- READ_FRAME in Run or in Hush, its command whole (R96 to R98, R110). A frame error of the read is recorded after the
frame's last SCK edge (R99), so the status word that the frame itself carries does not show it. A read addressed to 0x47
that also breaks a limit is answered with LENGTH: R96 leaves it unanswered, R97 and R98 answer it (DESIGN CHOICE, log
entry 64). -/
def readChecked (bs : List Byte) (s : State) : State :=
  let t := frameByte bs 1
  let r := frameByte bs 2
  let n := frameByte bs 3
  let zeros := List.replicate n (0 : Word)
  if limitBroken t r n then frameError (drive ocLength (if outside n 1 128 then [] else zeros) s)
  else if frameByte bs 0 / 2 = 0x47 then frameError (noAnswer s)
  else if (groupMembers s t).isNone then frameError (drive ocAddress zeros s)
  else if s.power.mode = .hush then drive ocAsleep zeros s
  else
    let (ws, oc, s1) := readData t r n s
    if oc = ocOk then drive oc ws s1 else frameError (drive oc ws s1)

/-- READ_FRAME before the ready pulse: only a sound read of target CRY is answered (R518). The chip address is that of the
straps, also in stage 1, before R517 has them sampled (DESIGN CHOICE, log entry 64). -/
def readStarting (bs : List Byte) (s : State) : State :=
  let r := frameByte bs 2
  let n := frameByte bs 3
  if s.power.resetLow = false ∧ readCommandOk bs = true ∧ frameByte bs 1 = CRY ∧ limitBroken CRY r n = false ∧
      frameByte bs 0 / 2 = chipAddress s then
    let (ws, oc, s1) := readData CRY r n s
    drive oc ws s1
  else noAnswer s

/-- A read command that R97 answers or executes: all five bytes came, and N or REG breaks its limit, which comes before the
CRC, or the CRC matches. -/
def readHeard (bs : List Byte) : Bool :=
  decide (5 ≤ bs.length) &&
    (limitBroken (frameByte bs 1) (frameByte bs 2) (frameByte bs 3) || decide (crc8 (bs.take 4) = frameByte bs 4))

/-- READ_FRAME: a frame with bit 0 of byte 0 = 1, as its command bytes arrived. -/
def readFrame (bs : List Byte) (s : State) : State :=
  if addressed s bs = false ∨ frameByte bs 0 % 2 = 0 then noAnswer s
  else
    match s.power.mode with
    | .run => if readHeard bs then readChecked bs s else frameError (noAnswer s)
    | .hush => if readHeard bs then readChecked bs s else frameError (noAnswer s)
    | .starting => readStarting bs s
    | _ => noAnswer s

/-- The read frame of `n` words at offset `r` of target `t`, addressed to this device. -/
def readCommand (s : State) (t r n : Nat) : List Byte :=
  let cmd := [byte (2 * chipAddress s + 1), byte t, byte r, byte n]
  cmd ++ [byte (crc8 cmd)]

/-! ## The JTAG access path (R582 to R587) -/

/-- Change the TAP. -/
def State.modTap (s : State) (f : Tap → Tap) : State := { s with tap := f s.tap }

/-- The TAP is powered: not in Off, not in Dormant (R569, R587). -/
def tapOn (s : State) : Bool := decide (s.power.mode ≠ .off ∧ s.power.mode ≠ .dormant)

/-- Update-IR of instruction `i`; EXTEST, CLAMP and HIGHZ act as BYPASS while LOCK = 1 (R585). -/
def tapInstr (i : TapIns) (s : State) : State :=
  let held := decide (i = .extest ∨ i = .clamp ∨ i = .highz) && locked s
  if tapOn s then s.modTap (fun t => { t with ins := if held then .bypass else i }) else s

/-- Test-Logic-Reset (R582). -/
def tapReset (s : State) : State := if tapOn s then s.modTap (fun t => { t with ins := .idcode }) else s

/-- The device identification register (R583). -/
def idcodeWord (p : Part) : W32 := match p with | .idp1640 => 0x116405A7 | .idp0820 => 0x108205A7

/-- What Capture-DR loads for REGACC (R586). -/
def regaccCapture (s : State) : BitVec 34 :=
  BitVec.ofNat 34 (b2n s.tap.done * 2 ^ 33 + b2n s.tap.refused * 2 ^ 32 + s.tap.addr * 2 ^ 16 + s.tap.data.toNat)

/-- A REGACC access completes with its outcome. -/
def tapDone (refused : Bool) (addr : Nat) (data : Word) (s : State) : State :=
  s.modTap (fun t => { t with done := true, refused := refused, addr := addr, data := data })

/-- One REGACC access: refused for a reserved or group target, a window, a locked write, or in Hush; a write with a
reserved encoding is discarded as any other (R10, R586). -/
def regaccAccess (wr : Bool) (t r : Nat) (v : Word) (s : State) : State :=
  let a := t * 256 + r
  let single := match target s.part s.straps t with | .single _ => true | _ => false
  let info := (regInfo s.part s.straps t r).getD {}
  if s.power.mode = .hush ∨ single = false ∨ isWindow t r = true then tapDone true a v s
  else if wr then
    if locked s && changesLocked s t r info v then tapDone true a v s
    else
      let (s1, bad) := wordWrite false false t r v s
      tapDone false a v (if bad then frameError s1 else s1)
  else
    let (w, s1) := wordRead t r s
    tapDone false a w s1

/-- REGACC_UPDATE: an Update-DR of REGACC with register contents `dr` (R586). The access completes within the event, so
DONE holds before a later Update-DR. -/
def regaccUpdate (dr : BitVec 34) (s : State) : State :=
  if s.tap.ins ≠ .regacc ∨ (s.power.mode ≠ .run ∧ s.power.mode ≠ .hush) then s
  else
    let x := dr.toNat
    regaccAccess (nbit x 33) (fld x 24 8) (fld x 16 8) (word x) s

end Sys2Proof.Machine
end

