-- ==== Sys2Proof/Machine/Repair.lean ====
section
/-! DEFINITION. Scrubbing, column tests and spare columns of the cistern banks and of the engine stores (R477 to R482),
and the commands that act on a snapshot edge for pumps, link ports and repairs (R467, R469, R483). -/

namespace Sys2Proof.Machine

/-! ## Fields of the memory records (R462) -/

/-- UNIT of a memory record: the bank, or the engine that owns the store bank. -/
def bankUnit : BankId → Nat
  | .cistern b => b
  | .store e _ => e

/-- FLAGS of a memory record: STORE. -/
def bankFlags : BankId → Nat
  | .cistern _ => 0
  | .store _ _ => 4

/-- DETAIL of a COLUMN, SPARE or EXHAUSTED record. -/
def bankDetail (column : Nat) : BankId → Nat
  | .cistern _ => column
  | .store _ b => b * 256 + column

/-- The bank exists on this part. -/
def bankExists (s : State) : BankId → Bool
  | .cistern b => decide (b < 16)
  | .store e b => decide (e < s.part.engines) && decide (b < 16)

/-- Scrubbing, tests and copies run in the bank (R470, R51). -/
def bankLive (s : State) (i : BankId) : Bool :=
  bankExists s i && (match i with | .cistern b => !bankDead s b | .store _ _ => true)

/-! ## Retiring a bank or its engine (R467, R470, R481) -/

/-- Retire cistern bank `b` with `cause`: at once, with its record; its tests and copies stop (R467, R470). -/
def retireBank (b cause : Nat) (s : State) : State :=
  if (s.bank b).retired = true ∨ 16 ≤ b then s
  else faultRecord 16 b 0xFF 0 2 cause (s.modBank b (fun k => { k with retired := true, fenced := false, job := .idle }))

/-- No spare column is left: the EXHAUSTED record, and the bank or its engine is retired (R481, R467). -/
def exhausted (i : BankId) (column : Nat) (s : State) : State :=
  let s1 := faultRecord 12 (bankUnit i) 0xFF (bankFlags i) (bankDetail column i) 0 s
  match i with
  | .cistern b => retireBank b 2 s1
  | .store e _ => s1.modEng e (fun g => { g with retireCmd := some 2, readmitCmd := false })

/-- Assign the lowest free spare of the bank to `column` for `cause`, its copy to start on the next scrub slot (R481). -/
def assignSpare (i : BankId) (column cause : Nat) (s : State) : State :=
  match (List.range 4).find? (fun k => !(nth (s.bankOf i).spares k Spare.reset).used) with
  | some k => s.modBankOf i (fun b => { b with job := .copyDue column cause k })
  | none => exhausted i column s

/-! ## The scrubber (R478) -/

/-- The scrub read of line `n` of cistern bank `b`, and the write-back of its corrected codewords. -/
def scrubLine (n b : Nat) (s : State) : State :=
  if bankDead s b then s
  else
    let a := (n % 16384 * 16 + b) * 128
    let s1 := cistReadEvents a 128 none s
    { s1 with cistCe := s1.cistCe.filter (fun w => !(hitWords s.cistCe 8 a 128).contains w) }

/-- The scrub read of granule `n` of engine `e`'s store, and the write-back of its corrected codewords. -/
def scrubGranule (n e : Nat) (s : State) : State :=
  let a := n % 6144 * 256
  let hit := hitWords (s.eng e).ce 4 a 256
  (storeReadEvents e a 256 none s).modEng e (fun g => { g with ce := g.ce.filter (fun w => !hit.contains w) })

/-- SCRUB_INTERVAL: one line of every cistern bank and one granule of every store, in turn; SCRUB = 0 stops it. -/
def scrubInterval (s : State) : State :=
  if s.faults.scrub = 0 then s
  else
    let n := s.faults.scrubPos
    let s1 := foldS (scrubLine n) (List.range 16) s
    let s2 := foldS (scrubGranule n) (List.range s.part.engines) s1
    { s2 with faults := { s2.faults with scrubPos := n + 1 } }

/-! ## The column test (R479, R480) -/

/-- Results of a column test (R480). -/
abbrev ctClean : Nat := 1
abbrev ctLine : Nat := 3
abbrev ctMulti : Nat := 4

/-- Bit positions of a codeword of the bank (R477). -/
def bankBits : BankId → Nat
  | .cistern _ => 72
  | .store _ _ => 39

/-- COLUMN_TEST: the queued test of the bank ends with `result`, the most severe of the column's bit positions, at
`bitPos`, the lowest with it (R480); a column all of whose positions are CLEAN names position 0. -/
def columnTest (i : BankId) (result bitPos : Nat) (s : State) : State :=
  match (s.bankOf i).job with
  | .test column =>
    if bankLive s i = false ∨ result < ctClean ∨ ctMulti < result ∨ bankBits i ≤ bitPos then s
    else
      let at_ := if result = ctClean then 0 else bitPos
      let s1 := s.modBankOf i (fun b =>
        { b with job := .idle, tests := min 0xFFFF (b.tests + 1), result := result
                 finding := if result = ctClean then b.finding else word (column * 256 + at_) })
      let s2 := faultRecord 10 (bankUnit i) 0xFF (bankFlags i) (bankDetail column i) (result * 256 + at_) s1
      if result = ctLine ∨ result = ctMulti then assignSpare i column result s2 else s2
  | _ => s

/-! ## Copy and switch (R481) -/

/-- SPARE_COPY: the copy starts on the bank's next scrub slot. -/
def spareCopy (i : BankId) (s : State) : State :=
  match (s.bankOf i).job with
  | .copyDue column cause k =>
    if bankLive s i then s.modBankOf i (fun b => { b with job := .copying column cause k }) else s
  | _ => s

/-- The uncorrectable codewords of a column, recorded as the copy passes them (R481). -/
def copyRecords (i : BankId) (column : Nat) (s : State) : State :=
  match i with
  | .cistern b =>
    foldS (cistUeRecord none)
      (s.cistUe.filter (fun w => decide (cistBankOf (8 * w) = b ∧ cistWordIdx (8 * w) % 256 = column))) s
  | .store e b =>
    foldS (fun w s => faultRecord 9 e 0xFF 4 b (storeWordIdx (4 * w)) s)
      ((s.eng e).ue.filter (fun w => decide (storeBankOf (4 * w) = b ∧ storeWordIdx (4 * w) % 256 = column))) s

/-- SPARE_SWITCH: the copy has ended and the column map switches to the spare. -/
def spareSwitch (i : BankId) (s : State) : State :=
  match (s.bankOf i).job with
  | .copying column cause k =>
    if bankLive s i = false then s
    else
      let s1 := (copyRecords i column s).modBankOf i (fun b =>
        { b with job := .idle
                 spares := modAt b.spares k (fun _ =>
                   { used := true, fused := false, field := true, cause := cause, column := column }) })
      faultRecord 11 (bankUnit i) 0xFF (bankFlags i) (bankDetail column i) k s1
  | _ => s

/-- A REPAIR command on its snapshot edge: a spare without a test, cause 5 (R483). One for a bank with a test or copy
waits for a later edge; one for a bank out of service is discarded. -/
def repairEdge (c : BankId × Nat) (s : State) : State :=
  if bankLive s c.1 = false then s
  else if (s.bankOf c.1).job = .idle then assignSpare c.1 c.2 5 s
  else { s with faults := { s.faults with repairCmds := s.faults.repairCmds ++ [c] } }

/-! ## Commands on a snapshot edge (R467, R469, R483) -/

/-- A pump's command: RETIRED sets or clears, with its record (R469, R462). -/
def pumpEdge (p : Nat) (s : State) : State :=
  match (s.pump p).retireCmd with
  | none => s
  | some on =>
    let s1 := s.modPump p (fun k => { k with retired := on, retireCmd := none })
    if (s.pump p).retired = on then s1 else faultRecord (if on then 16 else 17) p 0xFF 0 1 0 s1

/-- A link port's command: LNK_CTRL.RETIRE sets or clears and the port follows it (R483, R441). -/
def portEdge (c : Nat × Bool) (s : State) : State :=
  if s.ports.length ≤ c.1 then s
  else
    let s1 := linkControl c.1 (s.putB (LNK c.1) 0x00 14 c.2)
    if s.bit (LNK c.1) 0x00 14 = c.2 then s1 else faultRecord (if c.2 then 16 else 17) c.1 0xFF 0 3 0 s1

/-- The waiting commands for pumps, link ports and repairs act. -/
def unitCommands (s : State) : State :=
  let s1 := foldS pumpEdge (List.range 8) s
  let s2 := foldS portEdge s1.faults.portCmds { s1 with faults := { s1.faults with portCmds := [] } }
  foldS repairEdge s2.faults.repairCmds { s2 with faults := { s2.faults with repairCmds := [] } }

/-- Run an event that may take a snapshot edge; on one, the waiting commands act too. -/
def withEdge (f : State → State) (s : State) : State :=
  let s1 := f s
  if s1.tick.number = s.tick.number then s1 else unitCommands s1

end Sys2Proof.Machine
end

