-- ==== Sys2Proof/Machine/Stillness.lean ====
section
/-! DEFINITION. Stillness faults (R48 to R51). -/

namespace Sys2Proof.Machine

/-- The block that a peer operation served leaves its port unanswered: its last write never becomes visible (R452). -/
def forgetBlock (o : PumpOp) (s : State) : State :=
  match o.issuer with
  | .peer p x => dropBlock p x o.lane s
  | _ => s

/-- Every operation of `mine` in flight completes once with status STILL and gives back its tag (R50). -/
def completeStill (mine : PumpOp → Bool) (s : State) : State :=
  foldS (fun (o : PumpOp) s => match s.op? o.id with | some o => forgetBlock o (completeOp { o with fail := stStill } s) | none => s)
    (s.ops.filter mine) s

/-- The tick in progress, if one is, is marked PROMISE_BROKEN for a fault (R50, R501). -/
def stillTick (s : State) : State := if tickDone s then s else promiseBroken false s.tick.number [] s

/-- The tick that the tick program `r` was issued for is marked too, with its channel (R76). -/
def stillRun (r : Run) (s : State) : State :=
  match r.kind with
  | .tick c => promiseBroken false r.tickNo [c] s
  | _ => s

/-- The running program of a still engine stops (R220, R221 code 12): a tick program with its other parts, a sweep
without READY, a job. -/
def stopStill (e : Nat) (r : Run) (s : State) : State :=
  let s1 := dropWaiter e r.kind.isTick (clearRun e (holdFault e fStill (some r.pc) s))
  match r.kind with
  | .tick c =>
    let s2 := (chargeChannel c s1).modChan c (fun ch =>
      { ch with learn := { ch.learn with tainted := true }, drift := { ch.drift with refresh := true } })
    liftAfter e r.tickNo (tickPartEnded c e (stopOtherParts c e s2))
  | .sweep c => sweepTrapped c s1
  | .job _ => s1

/-- A still engine: one record, its program stopped, its operations completed, and the next program due runs. -/
def stillEngine (e : Nat) (s : State) : State :=
  match (s.eng e).run with
  | none => s
  | some r =>
    if declaredWait s e r = true ∨ s.fld (ENG e) 0x04 0 12 = 0 then s
    else
      let c := r.kind.tickChan
      let s1 := match c with
        | some c => faultRecord 3 e c (tickFlags s c) 0 0 s
        | none => faultRecord 3 e 0xFF 0 0 0 s
      startAllDue (completeStill (fun o => o.byEngine e) (stillTick (stillRun r (stopStill e r s1))))

/-- Pump `p` has work in flight that is no well wait in free-run mode, a declared wait (R48). -/
def pumpWorks (s : State) (p : Nat) : Bool := s.ops.any (fun o => o.pump == p && o.waitEnd.isNone)

/-- A still pump: one record; its operations complete. -/
def stillPump (p : Nat) (s : State) : State :=
  if pumpWorks s p = false then s
  else completeStill (fun o => o.pump == p) (stillTick (faultRecord 4 p 0xFF 0 0 0 s))

/-- A still cistern bank port: the bank is fenced, a retired one too (R51). -/
def stillBank (b : Nat) (s : State) : State :=
  if (s.bank b).fenced = true ∨ 16 ≤ b then s
  else (stillTick (faultRecord 5 b 0xFF 0 0 0 s)).modBank b (fun k => { k with fenced := true, job := .idle })

/-- A still tag pool with operations in flight: it is reset with every tag reclaimed, so every operation completes. -/
def stillPool (s : State) : State :=
  if s.ops = [] then s else completeStill (fun _ => true) (stillTick (faultRecord 6 0 0xFF 0 0 0 s))

/-- Every waiter of bell `b` receives a STILL completion and goes on, without a decrement (02 Edges). -/
def endWaits (b : Nat) (s : State) : State :=
  foldS releaseWaiter (s.bell b).waiters (s.modBell b (fun l => { l with waiters := [] }))

/-- A still bell unit with AWAITs in flight: they complete once with STILL, and the ticks they were issued for are
flagged. -/
def stillBells (s : State) : State :=
  if s.bells.all (fun b => b.waiters.isEmpty) then s
  else
    let struck := (s.engs.filterMap (fun g => g.run)).filter (fun r => r.waitBell.isSome)
    foldS endWaits (List.range 64) (foldS stillRun struck (stillTick (faultRecord 7 0 0xFF 0 0 0 s)))

/-- STILLNESS_FAULT of a unit (R50); a unit without work, or in a declared wait, is not still (R48). -/
def stillnessFault (u : StillUnit) (s : State) : State :=
  match u with
  | .engine e => stillEngine e s
  | .pump p => stillPump p s
  | .bank b => stillBank b s
  | .tagPool => stillPool s
  | .bells => stillBells s

end Sys2Proof.Machine
end

