-- ==== Sys2Proof/Machine/Supervisor.lean ====
section
/-! DEFINITION. The supervisor's accesses: its memory map (R526), the bell port (R250), the bank-command port (R325), the
fault port (R483), the post slots (R527) and the control words (R528). -/

namespace Sys2Proof.Machine

/-! ## How an access completes -/

/-- A load returns `v`. -/
def busValue (v : W32) (s : State) : State := s.modSup (fun u => { u with bus := some v, busError := false })

/-- A store completes. -/
def busDone (s : State) : State := s.modSup (fun u => { u with bus := none, busError := false })

/-- The access completes as a bus error. -/
def busError (s : State) : State := s.modSup (fun u => { u with bus := none, busError := true })

/-- The supervisor can make an access: it is in Boot or Running, and no store of its own is held for a tag (R230). -/
def supActs (s : State) : Bool :=
  decide (supState s = .boot ∨ supState s = .running) && (stalledSlots s).isEmpty

/-! ## Bell port (R250) -/

/-- RING bell `b`; INC = 0 has no effect. -/
def supRing (b : Nat) (inc : Nat) (s : State) : State :=
  if 64 ≤ b then busError s else busDone (if inc = 0 then s else supervisorRing b inc s)

/-- TRY bell `b`. -/
def supTry (b : Nat) (s : State) : State :=
  if 64 ≤ b then busError s
  else busValue (BitVec.ofNat 32 (s.bell b).count) (if (s.bell b).count = 0 then s else takeBell b s)

/-- PEEK bell `b`. -/
def supPeek (b : Nat) (s : State) : State :=
  if 64 ≤ b then busError s else busValue (BitVec.ofNat 32 (s.bell b).count) s

/-- A host write to word `b` of the BELLS table (R251). -/
def bellsWrite (b : Nat) (v : Word) (s : State) : State := if 64 ≤ b then s else loadBell b (wfld v 0 8) s

/-! ## Bank-command port (R325) -/

/-- Mark channel `c`'s standby bank ready with `foreign`; refused while SWEEP or READY is 1. -/
def bankReadyMark (c : Nat) (foreign : Bool) (s : State) : State :=
  if 16 ≤ c ∨ (s.chan c).learn.sweepOn = true ∨ (s.chan c).learn.ready = true then busError s
  else busDone (setReady c (some foreign) s)

/-! ## Fault port (R476, R478, R483, R484) -/

/-- The sixteen bytes of a fault record (R462). -/
def FaultRec.bytes (r : FaultRec) : List Byte :=
  [byte r.src, byte r.unit, byte r.chan, byte r.flags] ++ leBytes 2 r.detail ++ leBytes 2 r.detail2 ++ leBytes 4 r.rim ++
    leBytes 4 r.seq

/-- QSTAT. -/
def fltQstat (s : State) : State := busValue (BitVec.ofNat 32 (s.faults.queue.length + 65536 * s.faults.lost)) s

/-- Word `i` of the head record; with an empty queue the manual gives it no value: a free value. -/
def fltHeadRead (i : Nat) (s : State) : State :=
  match s.faults.queue with
  | r :: _ => busValue (BitVec.ofNat 32 (leVal ((r.bytes.drop (4 * (i % 4))).take 4))) s
  | [] => busValue (Config.freeBits s.free) { s with free := s.free + 1 }

/-- The steward keeps a popped record for FAULTS, at most 64, dropping the oldest (R486). -/
def keepRecord (r : FaultRec) (u : Sup) : Sup :=
  if u.image then
    let ks := u.kept ++ [r]
    { u with kept := ks.drop (ks.length - 64) }
  else u

/-- POP. -/
def fltPop (s : State) : State :=
  match s.faults.queue with
  | r :: rest => busDone ({ s with faults := { s.faults with queue := rest } }.modSup (keepRecord r))
  | [] => busDone s

/-- RETIRE of unit `i` of a KIND (R483, R484, R467): a bank at once, any other on the next snapshot edge. -/
def retireUnit (kind i : Nat) (s : State) : State :=
  match kind with
  | 0 => s.modEng i (fun g => { g with retireCmd := some 0, readmitCmd := false })
  | 1 => s.modPump i (fun p => { p with retireCmd := some true })
  | 2 => retireBank i 0 s
  | 3 => { s with faults := { s.faults with portCmds := s.faults.portCmds.filter (fun c => c.1 ≠ i) ++ [(i, true)] } }
  | 4 => s.modChan i (fun c => { c with retireCmd := some 0, readmitCmd := false })
  | _ => s

/-- READMIT of unit `i` of a KIND (R472, R483). -/
def readmitUnit (kind i : Nat) (s : State) : State :=
  match kind with
  | 0 => s.modEng i (fun g => { g with retireCmd := none, readmitCmd := true })
  | 1 => s.modPump i (fun p => { p with retireCmd := some false })
  | 3 => { s with faults := { s.faults with portCmds := s.faults.portCmds.filter (fun c => c.1 ≠ i) ++ [(i, false)] } }
  | 4 => s.modChan i (fun c => { c with retireCmd := none, readmitCmd := true })
  | _ => s

/-- KIND and INDEX of a RETIRE or READMIT word. -/
def cmdKind (v : W32) : Nat := fld v.toNat 12 4
def cmdIndex (v : W32) : Nat := fld v.toNat 0 8

/-- A store to RETIRE; a reserved KIND is a bus error. -/
def fltRetire (v : W32) (s : State) : State :=
  if 4 < cmdKind v then busError s else busDone (retireUnit (cmdKind v) (cmdIndex v) s)

/-- A store to READMIT; a reserved KIND and a cistern bank are bus errors. -/
def fltReadmit (v : W32) (s : State) : State :=
  if 4 < cmdKind v ∨ cmdKind v = 2 then busError s else busDone (readmitUnit (cmdKind v) (cmdIndex v) s)

/-- Set device-wide buttress mode whatever LOCK holds (R476). -/
def setButtress (s : State) : State := s.setB DEV 0x03 14

/-- A store to BUTTRESS: bit 0 = 1 sets the mode. -/
def fltButtress (v : W32) (s : State) : State := busDone (if v.getLsbD 0 then setButtress s else s)

/-- Queue a REPAIR of `column` for the next snapshot edge; the last one for a bank stands. -/
def queueRepair (i : BankId) (column : Nat) (s : State) : State :=
  { s with faults := { s.faults with repairCmds := s.faults.repairCmds.filter (fun c => c.1 ≠ i) ++ [(i, column)] } }

/-- The bank a REPAIR word names. -/
def repairBank (space : Bool) (x : Nat) : BankId :=
  if space then .store (fld x 12 4) (fld x 8 4) else .cistern (fld x 8 4)

/-- A store to REPAIR. -/
def fltRepair (v : W32) (s : State) : State :=
  busDone (queueRepair (repairBank (v.getLsbD 16) v.toNat) (fld v.toNat 0 8) s)

/-- A store to SCRUB (R478). -/
def fltScrub (v : W32) (s : State) : State := busDone { s with faults := { s.faults with scrub := v.truncate 16 } }

/-- A store to SHADOW_CFG of channel `c`. -/
def shadowCfg (c : Nat) (v : W32) (s : State) : State :=
  if 16 ≤ c then busError s
  else busDone { s with faults := { s.faults with shadowCfg := modAt s.faults.shadowCfg c (fun _ => v.truncate 16 &&& 0x8FFF) } }

/-! ## Post slots (R527, R229 to R232) -/

/-- Post slot `n`. -/
def State.slotOf (s : State) (n : Nat) : Slot := nth s.sup.slots n Slot.reset

/-- Change post slot `n`. -/
def State.modSlotOf (s : State) (n : Nat) (f : Slot → Slot) : State := s.modSup (fun u => { u with slots := modAt u.slots n f })

/-- The operation post slot `n` posts to pump `p`, its list entries not yet read. -/
def slotOp (s : State) (n p : Nat) : PumpOp :=
  let l := s.slotOf n
  let desc := memReadN l.desc 0 128
  let d := parseDesc desc
  { id := 0, pump := p, issuer := .supervisor n, handle := 0, ctx := 0x10, lane := 0, desc := desc,
    entries := [], listBase := l.list.toNat,
    refCount := if d.op = .window then (s.well d.src.unit).tickSnap else 0, seen := 0, filled := false, cut := false,
    tickNo := s.tick.number, started := false, waitEnd := none, prior := [], steps := 0, shown := 0, buf := [], judged := [],
    moved := false, prot := 0, ecc := 0, defer := 0, short := 0, drop := 0, fail := 0,
    port := 0, xid := none, blocks := [], xferFrom := none, xferCount := 0, xferLimit := 0 }

/-- The post of slot `n` to pump `p` takes its tag; the pump reads the first list entries from the cistern at LIST and
accepts it (R258, R621). -/
def postSlot (n p : Nat) (s : State) : State :=
  let o := slotOp s n p
  let x := readEntries (postEntries (parseDesc o.desc)) o (s.modSlotOf n (fun l => { l with busy := true, waiting := none }))
  acceptOp x.1 none x.2

/-- A store to POST of slot `n` naming pump `p`: a bus error while the slot's operation is in flight; a stall while no
tag is free for it or eight are held (R230, R231). -/
def supPost (n p : Nat) (s : State) : State :=
  if 8 ≤ n ∨ (s.slotOf n).busy = true then busError s
  else if 8 ≤ supHeld s ∨ freeTags s ≤ (stalledEngines s true).length then
    tagStall (s.modSlotOf n (fun l => { l with waiting := some p }))
  else busDone (postSlot n p s)

/-! ## Cistern accesses (R526, R239, R622) -/

/-- An issuer that is the supervisor. -/
def Issuer.isSup (i : Issuer) : Bool := match i with | .supervisor _ => true | _ => false

/-- A load of `n` bytes at virtual address `a`, in order behind the supervisor's earlier accesses to that location (R239,
R240): a refused translation is a bus error; an uncorrectable word's value is not given and is a free value. -/
def cistLoad (a n : Nat) (s0 : State) : State :=
  match translate s0 0x10 .read false a with
  | none => busError s0
  | some p =>
    let s := orderIssuer Issuer.isSup false [(p, n)] s0
    let s1 := cistReadEvents p n none s
    if cistBad s p n && !bankDead s (cistBankOf p) then
      busValue (BitVec.ofNat 32 ((Config.freeBits s1.free).toNat % 256 ^ n)) { s1 with free := s1.free + 1 }
    else busValue (BitVec.ofNat 32 (leVal (cistGet s p n))) s1

/-- A store of the low `n` bytes of `v` at virtual address `a`, in order behind all the supervisor's earlier accesses (R241):
into an uncorrectable codeword it is discarded with a bus error (R622). -/
def cistStore (a n : Nat) (v : W32) (s0 : State) : State :=
  match translate s0 0x10 .write false a with
  | none => busError s0
  | some p =>
    let s := orderIssuer Issuer.isSup true [] s0
    let s1 := cistPut p (leBytes n v.toNat) s
    if cistBad s p n && !bankDead s (cistBankOf p) then busError s1 else busDone s1

/-! ## Register accesses (R123, R526) -/

/-- A word load of register `r` of target `t`; a reserved target, or a group read of a register that is not OR-readable,
is a bus error. -/
def regLoad (t r : Nat) (s : State) : State :=
  let (ws, oc, s1) := readData t r 1 s
  if oc = ocOk then busValue (BitVec.ofNat 32 (nth ws 0 0).toNat) s1 else busError s1

/-- A word store to register `r` of target `t`: a word that LOCK refuses is a bus error; a reserved encoding sets
FRAME_ERR (R10, R123). -/
def regStore (t r : Nat) (v : Word) (s : State) : State :=
  if (groupMembers s t).isNone then busError s
  else
    let (s1, bad) := targetWrite true (locked s) t r v s
    let (_, enc) := targetWrite true false t r v s
    if enc then busDone (frameError s1) else if bad then busError s1 else busDone s1

/-! ## The memory map (R526) -/

/-- A region of the memory map and where an address lies in it. -/
inductive Region where
  | rom (o : Nat)
  | sram (o : Nat)
  | reg (t r : Nat)
  | bell (o : Nat)
  | bank (o : Nat)
  | flt (o : Nat)
  | post (slot o : Nat)
  | ctl (o : Nat)
  | cistern (a : Nat)
  | hole
deriving DecidableEq, Repr

/-- The region of an address. -/
def regionOf (a : Nat) : Region :=
  if a < 0x8000 then .rom a
  else if 0x10000000 ≤ a ∧ a < 0x10020000 then .sram (a - 0x10000000)
  else if 0x20000000 ≤ a ∧ a < 0x20040000 then .reg ((a - 0x20000000) / 0x400) (a % 0x400 / 4)
  else if 0x21000000 ≤ a ∧ a < 0x21000200 then .bell (a - 0x21000000)
  else if 0x21010000 ≤ a ∧ a < 0x21010040 then .bank (a - 0x21010000)
  else if 0x21020000 ≤ a ∧ a < 0x21020100 then .flt (a - 0x21020000)
  else if 0x21030000 ≤ a ∧ a < 0x21030800 then .post ((a - 0x21030000) / 0x100) (a % 0x100)
  else if 0x21040000 ≤ a ∧ a < 0x21040008 then .ctl (a - 0x21040000)
  else if 0x40000000 ≤ a ∧ a < 0x40800000 then .cistern (a - 0x40000000)
  else .hole

/-- The region accepts any of byte, halfword and word; the others accept words. -/
def Region.bytewise : Region → Bool
  | .rom _ => true
  | .sram _ => true
  | .cistern _ => true
  | _ => false

/-- The access has a size the region accepts and is aligned to it. -/
def accessOk (a size : Nat) : Bool :=
  decide (size = 1 ∨ size = 2 ∨ size = 4) && decide (a % size = 0) && (decide (size = 4) || (regionOf a).bytewise)

/-- A word load from the fault port. -/
def fltLoad (o : Nat) (s : State) : State :=
  if o = 0 then fltQstat s
  else if 0x10 ≤ o ∧ o < 0x20 then fltHeadRead ((o - 0x10) / 4) s
  else if o = 0x50 then busValue (s.faults.scrub.setWidth 32) s
  else if 0x80 ≤ o ∧ o < 0xC0 then busValue ((nth s.faults.shadowCfg ((o - 0x80) / 4) 0).setWidth 32) s
  else if 0xC0 ≤ o ∧ (o - 0xC0) / 4 < s.part.engines then
    busValue (BitVec.ofNat 32 (s.eng ((o - 0xC0) / 4)).corrected) s
  else busError s

/-- A word store to the fault port. -/
def fltStore (o : Nat) (v : W32) (s : State) : State :=
  if o = 0x20 then fltPop s
  else if o = 0x40 then fltRetire v s
  else if o = 0x44 then fltReadmit v s
  else if o = 0x48 then fltButtress v s
  else if o = 0x4C then fltRepair v s
  else if o = 0x50 then fltScrub v s
  else if 0x80 ≤ o ∧ o < 0xC0 then shadowCfg ((o - 0x80) / 4) v s
  else busError s

/-- A word load from a post slot. -/
def slotLoad (n o : Nat) (s : State) : State :=
  let l := s.slotOf n
  if o < 0x80 then busValue (BitVec.ofNat 32 (leVal (memReadN l.desc o 4))) s
  else if o = 0x84 then busValue (BitVec.ofNat 32 l.completion) s
  else if o = 0x88 then busValue (BitVec.ofNat 32 (b2n l.busy)) s
  else if o = 0x8C then busValue l.list s
  else busError s

/-- A word store to a post slot. -/
def slotStore (n o : Nat) (v : W32) (s : State) : State :=
  if o < 0x80 then busDone (s.modSlotOf n (fun l => { l with desc := memWriteL l.desc o (leBytes 4 v.toNat) }))
  else if o = 0x80 then supPost n (fld v.toNat 0 3) s
  else if o = 0x8C then busDone (s.modSlotOf n (fun l => { l with list := v &&& 0xFFFFFFF0 }))
  else busError s

/-- A load of `size` bytes at address `a`. -/
def supLoad (a size : Nat) (s : State) : State :=
  if accessOk a size = false then busError s
  else
    match regionOf a with
    | .rom o => busValue (BitVec.ofNat 32 (leVal ((List.range size).map (fun i => Config.bootByte (o + i))))) s
    | .sram o => busValue (BitVec.ofNat 32 (leVal (memReadN s.sup.sram o size))) s
    | .reg t r => regLoad t r s
    | .bell o => if o < 0x100 then supTry (o / 4) s else supPeek ((o - 0x100) / 4) s
    | .bank _ => busError s
    | .flt o => fltLoad o s
    | .post n o => slotLoad n o s
    | .ctl o => if o = 4 then busValue (causeWord s) s else busError s
    | .cistern p => cistLoad p size s
    | .hole => busError s

/-- A store of the low `size` bytes of `v` at address `a`. -/
def supStore (a size : Nat) (v : W32) (s : State) : State :=
  if accessOk a size = false then busError s
  else
    match regionOf a with
    | .rom _ => busError s
    | .sram o => busDone (s.modSup (fun u => { u with sram := memWriteL u.sram o (leBytes size v.toNat) }))
    | .reg t r => regStore t r (v.truncate 16) s
    | .bell o => if o < 0x100 then supRing (o / 4) (fld v.toNat 0 8) s else busError s
    | .bank o => if v.getLsbD 0 then bankReadyMark (o / 4) (v.getLsbD 1) s else busDone s
    | .flt o => fltStore o v s
    | .post n o => slotStore n o v s
    | .ctl o =>
      if o = 4 then busDone (causeClear v s) else busDone (if v.getLsbD 0 then handover s else s)
    | .cistern p => cistStore p size v s
    | .hole => busError s

/-- FENCE: a SEAL of the supervisor (R243). -/
def supFence (s : State) : State := sealIssuer Issuer.isSup s

end Sys2Proof.Machine
end

