-- ==== Sys2Proof/Machine/Steward.lean ====
section
/-! DEFINITION. The mailbox and the requests that the steward firmware as shipped serves: ADMIT (R80 to R82, R145 to R147,
R152, R154, R511), the fault requests (R485) and WEXPORT and WIMPORT (R327 to R333, R555). -/

namespace Sys2Proof.Machine

/-! ## The mailbox (R143, R145) -/

/-- Word `i` of the request. -/
def mbox (s : State) (i : Nat) : Word := s.rd SUP (0x08 + i)

/-- Request code. -/
def mboxCode (s : State) : Nat := wfld (mbox s 0) 8 8

/-- The firmware serves requests: a checked image runs, has handed over, and HOST_REQ is set (R145, R529). -/
def mboxOpen (s : State) : Bool :=
  s.sup.hostReq && s.sup.image && s.sup.ready && decide (supState s = .running) && (stalledSlots s).isEmpty

/-- The supervisor has read the request: HOST_REQ clears (R143). -/
def takeRequest (s : State) : State := s.modSup (fun u => { u with hostReq := false, wfi := false })

/-- The reply: code and SEQ echoed, the result words, then REPLY and its event (R143, R145, R135). -/
def mboxReply (m0 : Word) (result low w6 w7 : Nat) (s : State) : State :=
  let s1 := ((((s.wr SUP 0x0C m0).wr SUP 0x0D (word (result * 256 + low))).wr SUP 0x0E (word w6)).wr SUP 0x0F (word w7))
  raise evMbox (s1.setB SUP 0x01 11)

/-- Serve a request of code `code` with `f`, which gives the result, the low byte and the two last words. -/
def serveRequest (code : Nat) (f : State → State × Nat × Nat × Nat × Nat) (s : State) : State :=
  if mboxOpen s && decide (mboxCode s = code) then
    let m0 := mbox s 0
    let (s1, result, low, w6, w7) := f (takeRequest s)
    mboxReply m0 result low w6 w7 s1
  else s

/-! ## Admission tests (R80, R82, R225) -/

/-- The engines of a map word that the part has. -/
def wordEngines (s : State) (w : Word) : List Nat := (mapEngines w).filter (fun e => decide (e < s.part.engines))

/-- The configuration before a request: the channels that count, with the maps in force. -/
def admitBefore (s : State) : List (Nat × List Nat) :=
  (allChans.filter (fun c => (s.chan c).st.counting)).map (fun c => (c, chanEngines s c))

/-- The channel counts after a request that admits the enabling of `mask`. -/
def countsAfter (s : State) (mask : Nat) (extra : Option Nat) (c : Nat) : Bool :=
  let ch := s.chan c
  ch.st.counting || decide (extra = some c) ||
    (decide (ch.st = .off ∨ ch.st = .stopping) && !ch.retMark && (nbit mask c || s.bit (CH c) 0x00 15))

/-- The engines that each channel's map names after a request: `mapped` gives one channel a new map word. -/
def mapAfter (s : State) (mapped : Option (Nat × Word)) (c : Nat) : Nat × List Nat :=
  let w := match mapped with
    | some (d, w) => if d = c then w else s.rd (CH c) 0x02
    | none => s.rd (CH c) 0x02
  (c, wordEngines s w)

/-- The configuration after a request. -/
def admitAfter (s : State) (mask : Nat) (extra : Option Nat) (mapped : Option (Nat × Word)) : List (Nat × List Nat) :=
  (allChans.filter (countsAfter s mask extra)).map (mapAfter s mapped)

/-- S_e: the program strokes of the configuration's channels on engine `e` (R80, R204). -/
def strokesOn (s : State) (cfg : List (Nat × List Nat)) (e : Nat) : Nat :=
  ((cfg.filter (fun x => x.2.contains e)).map (fun x => programStrokes s e x.1)).foldl (· + ·) 0

/-- D_e: the largest DRAIN of engine `e`'s valid background entries (R225). -/
def drainOn (s : State) (e : Nat) : Nat :=
  ((List.range 48).map (fun k => let d := dirEntry s e (16 + k); if d.valid then d.drain else 0)).foldl max 0

/-- Engines with tick-mode work in a configuration, ascending. -/
def loaded (s : State) (cfg : List (Nat × List Nat)) : List Nat :=
  (List.range s.part.engines).filter (fun e => cfg.any (fun x => x.2.contains e))

/-- The first refusal of a configuration at stroke period `t` (ps) with guard `g` and period `p` (RIM): 1 GUARD or
2 DRAIN, and the engine (R80). -/
def refusal (s : State) (cfg : List (Nat × List Nat)) (t g p : Nat) : Option (Nat × Nat) :=
  (loaded s cfg).findSome? (fun e =>
    if 40000 + (strokesOn s cfg e + 14) * t > 5000 * g then some (1, e)
    else if drainOn s e * t > 5000 * (p - g) then some (2, e)
    else none)

/-- The smallest guard-test margin of a configuration, in strokes, saturating (R145). -/
def smallestMargin (s : State) (cfg : List (Nat × List Nat)) (t g : Nat) : Nat :=
  ((loaded s cfg).map (fun e => (5000 * g - 40000) / t - 14 - strokesOn s cfg e)).foldl min 0xFFFF

/-- TICK_CTRL.SRC = 0 and VALID = 0: no period has been measured. -/
def unmeasured (s : State) : Bool := !s.bit DEV 0x20 14 && !s.bit DEV 0x20 10

/-- Guard point and period after a request that gives GUARD_POINT `gp` and FREE_PERIOD `fp` (R68). -/
def admitTimes (s : State) (gp fp : Word) : Nat × Nat :=
  let src := s.bit DEV 0x20 14
  let p := if src then fp.toNat else (s.rd DEV 0x21).toNat
  (guardPoint gp src (s.bit DEV 0x20 10) p, p)

/-- A level change is in progress or asked for. -/
def levelBusy (s : State) : Bool :=
  s.power.change.isSome || [s.power.prog, s.power.pend].any (fun r => match r with | some (.level _) => true | _ => false)

/-- An engine that a channel with EXTRA > 0 names, whatever its state, carries another channel: `maps` are all the channels',
`cfg` those that count (R152). -/
def sharesEngine (maps cfg : List (Nat × List Nat)) : Bool :=
  maps.any (fun x => decide (1 < x.2.length) &&
    cfg.any (fun y => decide (x.1 ≠ y.1) && x.2.any (fun e => y.2.contains e)))

/-! ## Moving a channel's programs (R154, R333, R485) -/

/-- Copy the entries of memory `src` in `[lo, hi)` over those of `dst`. -/
def memCopy (lo hi : Nat) (src dst : Mem) : Mem :=
  dst.filter (fun c => decide (c.1 < lo)) ++ src.filter (fun c => decide (lo ≤ c.1 ∧ c.1 < hi)) ++
    dst.filter (fun c => decide (lo ≤ c.1 ∧ hi ≤ c.1))

/-- Copy store bytes `[lo, hi)` of engine `a` to engine `b`, error marks with them. -/
def copyRange (a b : Nat) (x : Nat × Nat) (s : State) : State :=
  let g := s.eng a
  let hit (ws : List Nat) : List Nat := ws.filter (fun w => decide (x.1 ≤ 4 * w ∧ 4 * w < x.2))
  let out (ws : List Nat) : List Nat := ws.filter (fun w => !decide (x.1 ≤ 4 * w ∧ 4 * w < x.2))
  (storeReadEvents a x.1 (x.2 - x.1) none s).modEng b (fun k =>
    { k with store := memCopy x.1 x.2 g.store k.store, ue := out k.ue ++ hit g.ue, ce := out k.ce })

/-- An uncorrectable word lies in store bytes `[lo, hi)` of engine `a`. -/
def rangeBad (s : State) (a : Nat) (x : Nat × Nat) : Bool := storeBad s a x.1 (x.2 - x.1)

/-- The code of directory entry `k` of engine `e`. -/
def codeRange (s : State) (e k : Nat) : List (Nat × Nat) :=
  let d := dirEntry s e k
  if d.valid = true ∧ d.entry + 8 * d.len ≤ dirBase then [(d.entry, d.entry + 8 * d.len)] else []

/-- Directory entry `k` and channel `c`'s rule table. -/
def entryRange (k : Nat) : Nat × Nat := (dirBase + 16 * k, dirBase + 16 * k + 16)
def ruleRange (c : Nat) : Nat × Nat := (0x17DC00 + 512 * c, 0x17DC00 + 512 * c + 512)

/-- Another channel that counts uses engine `e`. -/
def usedByOther (s : State) (c e : Nat) : Bool :=
  allChans.any (fun d => decide (d ≠ c) && (s.chan d).st.counting && (chanEngines s d).contains e)

/-- What an instruction touches in a weight bank, as offsets in the bank (true), and the block of a TRACE (false): first byte
and end. -/
def Ins.reaches (i : Ins) : List (Bool × Nat × Nat) :=
  i.uses.filterMap (fun u =>
    let x := i.operand u.x
    let a := (x.val * (x.unit : Int)).toNat
    if x.bank = true ∨ (i.op = .trace ∧ u.x = 0) then some (x.bank, a, a + u.n) else none)

/-- What a tick program reaches in its bank and of its traces, instruction by instruction: its course is fixed, since it has
no branch on data (R21). -/
def programReach : Nat → State → Nat → Run → List (Bool × Nat × Nat)
  | 0, _, _, _ => []
  | k + 1, s, e, r =>
    match (fetchIns s e r).toOption.bind decodeIns with
    | none => []
    | some i0 =>
      let i := i0.strided r.loops
      match i.op with
      | .halt => []
      | .haltV => []
      | .br => []
      | .loop => programReach k s e (r.enter i)
      | _ => i.reaches ++ programReach k s e r.advance

/-- The reach of channel `c`'s tick program on engine `a`. -/
def channelReach (s : State) (c a : Nat) : List (Bool × Nat × Nat) :=
  let d := dirEntry s a c
  if d.runnable true then programReach 0x10000 s a { tickRun s c with entry := d.entry, len := d.len } else []

/-- The parts of the bank at `base` that a reach names. -/
def bankPart (base : Nat) (xs : List (Bool × Nat × Nat)) : List (Nat × Nat) :=
  (xs.filter (fun x => x.1)).map (fun x => (base + x.2.1, base + x.2.2))

/-- The traces that a reach names. -/
def tracePart (xs : List (Bool × Nat × Nat)) : List (Nat × Nat) := (xs.filter (fun x => !x.1)).map (fun x => x.2)

/-- What ADMIT with MAP = 1 copies of channel `c` from engine `a` to engine `b` (R154, R333): the tick program with its
entry, the rule table, the active bank and the traces. Where no other channel uses `b`, the whole bank and the whole region
above the banks, in which the traces lie; else only what the channel's program reaches of them. -/
def admitRanges (s : State) (c a b : Nat) : List (Nat × Nat) :=
  let n := bankBytes s a
  let base := if (s.chan c).learn.active then n else 0
  if usedByOther s c b then
    let xs := channelReach s c a
    entryRange c :: ruleRange c :: codeRange s a c ++ bankPart base xs ++ tracePart xs
  else entryRange c :: (base, base + n) :: codeRange s a c ++ [ruleRange c, (2 * n, 0x17DC00)]

/-- What READMIT with a new map copies (R485): the tick program with its entry, both bank slices and the rule table. -/
def readmitRanges (s : State) (c a b : Nat) : List (Nat × Nat) :=
  let n := bankBytes s a
  let xs := channelReach s c a
  entryRange c :: ruleRange c :: codeRange s a c ++
    (if usedByOther s c b then bankPart 0 xs ++ bankPart n xs else [(0, 2 * n)])

/-- Pairs of old and new engine of a map change, part by part; a further part copies the primary's. -/
def enginePairs (old new : List Nat) : List (Nat × Nat) :=
  ((List.range new.length).map (fun i => (nth old i (nth old 0 0), nth new i 0))).filter (fun x => decide (x.1 ≠ x.2))

/-- Copy the ranges that `f` gives for each pair. -/
def copyPairs (f : Nat → Nat → List (Nat × Nat)) (ps : List (Nat × Nat)) (s : State) : State :=
  foldS (fun (p : Nat × Nat) s => foldS (copyRange p.1 p.2) (f p.1 p.2) s) ps s

/-! ## ADMIT (R145 to R147) -/

/-- A supervisor write of one word. -/
def supWrite (t r : Nat) (v : Word) (s : State) : State := (wordWrite true (locked s) t r v s).1

/-- The lowest channel of a mask. -/
def lowestChan (mask : Nat) : Nat := ((List.range 16).find? (fun c => nbit mask c)).getD 0

/-- The MAP, PERIOD or GUARD value would be discarded as a reserved encoding. -/
def admitValueBad (s : State) (f : Word) (c : Nat) (v : Word) : Bool :=
  (wbit f 14 && reservedWord s.part (CH c) 0x02 v) || (wbit f 12 && reservedWord s.part DEV 0x22 v) ||
    (wbit f 11 && reservedWord s.part DEV 0x28 v)

/-- BAD_ARGS of R146 and R152. -/
def admitBad (s : State) (f : Word) (mask : Nat) (v : Word) (maps after : List (Nat × List Nat)) : Bool :=
  decide (1 < b2n (wbit f 14) + b2n (wbit f 12) + b2n (wbit f 11)) || decide (wfld f 11 5 = 0) ||
    (wbit f 14 && decide ((maskList mask 16).length ≠ 1)) || admitValueBad s f (lowestChan mask) v || sharesEngine maps after

/-- The granted changes are made (R147, R154, R511). -/
def admitGrant (f : Word) (c : Nat) (v : Word) (s : State) : State :=
  let s1 :=
    if wbit f 14 then
      let s0 :=
        if (s.chan c).st = .off then s
        else copyPairs (admitRanges s c) (enginePairs (chanEngines s c) (wordEngines s v)) s
      supWrite (CH c) 0x02 v s0
    else s
  let s2 := if wbit f 12 then supWrite DEV 0x22 v s1 else s1
  let s3 := if wbit f 11 then supWrite DEV 0x28 v s2 else s2
  if wbit f 13 then supWrite PWR 0x02 (word (wfld f 0 2)) s3 else s3

/-- ADMIT: the result, the low byte and the margin (R80, R82, R145 to R147). -/
def admitServe (s : State) : State × Nat × Nat × Nat × Nat :=
  let f := mbox s 1
  let mask := (mbox s 2).toNat
  let v := mbox s 3
  let c := lowestChan mask
  let mapped := if wbit f 14 then some (c, v) else none
  let after := admitAfter s (if wbit f 15 then mask else 0) none mapped
  if admitBad s f mask v (allChans.map (mapAfter s mapped)) after then (s, 4, 0xFF, 0, 0)
  else if levelBusy s then (s, 5, 0xFF, 0, 0)
  else if unmeasured s then (s, 3, 0xFF, 0, 0)
  else
    let (g, p) := admitTimes s (if wbit f 11 then v else s.rd DEV 0x28) (if wbit f 12 then v else s.rd DEV 0x22)
    let now := levelNow s
    let target := if wbit f 13 then wfld f 0 2 else now
    let t := guarantee target
    let across := if wbit f 13 then refusal s (admitBefore s) (max (guarantee now) t) g p else none
    match across.or (refusal s after t g p) with
    | some (why, e) => (s, why, e, 0, 0)
    | none => (admitGrant f c v s, 0, 0xFF, smallestMargin s after t g, 0)

/-- Codes that other requests of the firmware serve. -/
def otherCode (code : Nat) : Bool := decide (code = 0x20 ∨ code = 0x21 ∨ (0x30 ≤ code ∧ code ≤ 0x33))

/-- ADMIT: the request is served; an unknown code is answered with BAD_ARGS (R145). -/
def mboxAdmit (s : State) : State :=
  if otherCode (mboxCode s) then s
  else serveRequest (mboxCode s) (fun s => if mboxCode s = 1 then admitServe s else (s, 4, 0xFF, 0, 0)) s

/-! ## Fault requests (R485) -/

/-- Unit `i` of a KIND exists. -/
def unitExists (s : State) (kind i : Nat) : Bool :=
  match kind with
  | 0 => decide (i < s.part.engines)
  | 1 => decide (i < 8)
  | 2 => decide (i < 16)
  | 3 => decide (i < s.part.links)
  | 4 => decide (i < 16)
  | _ => false

/-- RETIRE; KIND 5 sets buttress mode. -/
def retireServe (s : State) : State × Nat × Nat × Nat × Nat :=
  let kind := wfld (mbox s 1) 12 4
  let i := wfld (mbox s 1) 0 8
  if kind = 5 then (setButtress s, 0, 0xFF, 0, 0)
  else if unitExists s kind i then (retireUnit kind i s, 0, 0xFF, 0, 0)
  else (s, 4, 0xFF, 0, 0)

/-- READMIT of channel `c` on map `w` with SHADOW_CFG `cfg`: the tests with the channel counted, the copies of a new map, then the command. -/
def readmitChan (c : Nat) (newMap : Bool) (w cfg : Word) (s : State) : State × Nat × Nat × Nat × Nat :=
  let es := wordEngines s w
  let (g, p) := admitTimes s (s.rd DEV 0x28) (s.rd DEV 0x22)
  let t := guarantee (match s.power.change with | some x => if guarantee x.dest > guarantee (levelNow s) then x.dest else levelNow s | none => levelNow s)
  if (s.chan c).st ≠ .retired then (s, 3, 0xFF, 0, 0)
  else if reservedWord s.part (CH c) 0x02 w then (s, 4, 0xFF, 0, 0)
  else if es.any (fun e => (s.eng e).retired || !(s.eng e).enabled) then (s, 6, 0xFF, 0, 0)
  else if unmeasured s then (s, 5, 0xFF, 0, 0)
  else
    match refusal s (admitAfter s 0 (some c) (some (c, w))) t g p with
    | some (why, e) => (s, why, e, 0, 0)
    | none =>
      let ps := if newMap then enginePairs (chanEngines s c) es else []
      let bad := ps.any (fun x => (readmitRanges s c x.1 x.2).any (rangeBad s x.1))
      let s1 := copyPairs (readmitRanges s c) ps s
      if bad then (s1, 7, 0xFF, 0, 0)
      else
        let s2 := if newMap then supWrite (CH c) 0x02 w s1 else s1
        let s3 := { s2 with faults := { s2.faults with
          shadowCfg := modAt s2.faults.shadowCfg c (fun _ => cfg &&& 0x8FFF) } }
        (readmitUnit 4 c s3, 0, 0xFF, (es.map (fun e => 2 ^ e)).foldl (· + ·) 0, 0)

/-- READMIT. -/
def readmitServe (s : State) : State × Nat × Nat × Nat × Nat :=
  let kind := wfld (mbox s 1) 12 4
  let i := wfld (mbox s 1) 0 8
  if unitExists s kind i = false ∨ kind = 2 then (s, 4, 0xFF, 0, 0)
  else if kind = 4 then
    let keep := decide (mbox s 3 = 0xFFFF)
    readmitChan i (!keep) (if keep then s.rd (CH i) 0x02 else mbox s 3) (mbox s 2) s
  else (readmitUnit kind i s, 0, 0xFF, 0, 0)

/-! ## The fault policy (R486) -/

/-- Note a record of unit `i` stamped `now` in a list: records of the unit that are `window` or more before it no longer
count (stamps wrap at 32 bits). With `count` of them the unit's list starts again, and the answer is true. -/
def noteHit (ts : List (Nat × Nat)) (i now window count : Nat) : List (Nat × Nat) × Bool :=
  let rest := ts.filter (fun x => decide (x.1 ≠ i))
  let mine := ts.filter (fun x => decide (x.1 = i ∧ (now + 2 ^ 32 - x.2 % 2 ^ 32) % 2 ^ 32 < window)) ++ [(i, now)]
  if count ≤ mine.length then (rest, true) else (rest ++ mine, false)

/-- Change the policy memory. -/
def State.modPolicy (f : Policy → Policy) (s : State) : State := s.modSup (fun u => { u with policy := f u.policy })

/-- A RETIRE of the firmware; a unit that does not exist is passed over. -/
def policyRetire (kind i : Nat) (s : State) : State := if unitExists s kind i then retireUnit kind i s else s

/-- A record against engine `e`: the second within 65,536 ticks retires it, and its channels are to be moved. -/
def policyEngine (e : Nat) (s : State) : State :=
  let h := noteHit s.sup.policy.engines e (s.tick.number % 2 ^ 32) 65536 2
  let s1 := s.modPolicy (fun p => { p with engines := h.1 })
  if h.2 then policyRetire 0 e (s1.modPolicy (fun p => { p with remap := p.remap ++ [e] })) else s1

/-- A record against pump `k`: the second within 65,536 ticks retires it. -/
def policyPump (k : Nat) (s : State) : State :=
  let h := noteHit s.sup.policy.pumps k (s.tick.number % 2 ^ 32) 65536 2
  let s1 := s.modPolicy (fun p => { p with pumps := h.1 })
  if h.2 then policyRetire 1 k s1 else s1

/-- A LINK_LOST of port `k` stamped `rim`: the third within 2^26 RIM retires it. -/
def policyPort (k rim : Nat) (s : State) : State :=
  let h := noteHit s.sup.policy.ports k rim (2 ^ 26) 3
  let s1 := s.modPolicy (fun p => { p with ports := h.1 })
  if h.2 then policyRetire 3 k s1 else s1

/-- An engine is spare: enabled, not retired, and named by no channel's map. -/
def spareEngine (s : State) (e : Nat) : Bool :=
  decide (e < s.part.engines) && (s.eng e).enabled && !(s.eng e).retired &&
    allChans.all (fun c => !(wordEngines s (s.rd (CH c) 0x02)).contains e)

/-- The lowest of `n` consecutive spare engines. -/
def spareRun (s : State) (n : Nat) : Option Nat :=
  (List.range s.part.engines).find? (fun e => (List.range n).all (fun i => spareEngine s (e + i)))

/-- Channel `c` was retired with its engine: if the policy moves that engine's channels, READMIT it onto the lowest spare
engines without a twin, where the admission tests pass. -/
def policyRemap (c : Nat) (s : State) : State :=
  let x := s.fld (CH c) 0x02 4 3
  if s.sup.policy.barred.contains c || !(chanEngines s c).any (fun e => s.sup.policy.remap.contains e) then s
  else
    match spareRun s (x + 1) with
    | some e => (readmitChan c true (word (x * 16 + e)) 0 s).1
    | none => s

/-- The policy's action on one record (R486). -/
def policyAct (r : FaultRec) (s : State) : State :=
  let inStore := nbit r.flags 2
  match r.src with
  | 3 => policyEngine r.unit s
  | 4 => policyPump r.unit s
  | 5 => setButtress (policyRetire 2 r.unit s)
  | 6 => setButtress s
  | 7 => setButtress s
  | 9 => if inStore then policyEngine r.unit s else s
  | 12 =>
    if inStore then s.modPolicy (fun p => { p with remap := p.remap ++ [r.unit] })
    else setButtress (policyRetire 2 r.unit s)
  | 13 => policyPort r.unit r.rim s
  | 15 => s.modPolicy (fun p => { p with barred := p.barred ++ [r.unit] })
  | 16 => if r.detail = 4 ∧ r.detail2 = 3 then policyRemap r.unit s else s
  | _ => s

/-- FLT_POP: the firmware pops the head record, keeps it for FAULTS, and its policy acts on it; code of another image
only pops. -/
def stewardPop (s : State) : State :=
  match s.faults.queue with
  | r :: _ => if s.sup.image then policyAct r (fltPop s) else fltPop s
  | [] => fltPop s

/-- The firmware pops every queued record, keeps it, at most 64, and acts on it (R486). -/
def keepAll (s : State) : State :=
  let q := s.faults.queue
  foldS (fun r s => policyAct r (s.modSup (keepRecord r))) q { s with faults := { s.faults with queue := [] } }

/-- FAULTS: copy kept records in queue order into the buffer and drop them. -/
def faultsServe (s : State) : State × Nat × Nat × Nat × Nat :=
  let a := (mbox s 2).toNat * 512
  let n := (mbox s 3).toNat
  if n < 1 ∨ 32 < n ∨ cistSize < a + 16 * n then (s, 4, 0xFF, 0, 0)
  else
    let s1 := keepAll s
    let rs := s1.sup.kept.take n
    let s2 := foldS (fun (i : Nat) s => cistPut (a + 16 * i) ((nth (rs.map FaultRec.bytes) i [])) s) (List.range rs.length) s1
    let s3 := s2.modSup (fun u => { u with kept := u.kept.drop n })
    (s3, 0, 0xFF, rs.length, s3.sup.kept.length + s3.faults.queue.length)

/-- REPAIR: assign and copy the lowest free spare of the bank. -/
def repairServe (s : State) : State × Nat × Nat × Nat × Nat :=
  let x := (mbox s 1).toNat
  let i := repairBank (wbit (mbox s 2) 0) x
  let b := s.bankOf i
  if bankExists s i = false then (s, 4, 0xFF, 0, 0)
  else if bankLive s i = false then (s, 3, 0xFF, 0, 0)
  else if b.job ≠ .idle then (s, 5, 0xFF, 0, 0)
  else
    match (List.range 4).find? (fun k => !(nth b.spares k Spare.reset).used) with
    | none => (s, 6, 0xFF, 0, 0)
    | some k => (queueRepair i (fld x 0 8) s, 0, 0xFF, k, 0)

/-- MBOX_RETIRE, MBOX_READMIT, MBOX_FAULTS and MBOX_REPAIR. -/
def mboxRetire (s : State) : State := serveRequest 0x30 retireServe s
def mboxReadmit (s : State) : State := serveRequest 0x31 readmitServe s
def mboxFaults (s : State) : State := serveRequest 0x32 faultsServe s
def mboxRepair (s : State) : State := serveRequest 0x33 repairServe s

/-! ## Sleep and start of the firmware (R510, R529) -/

/-- The firmware does not execute WFI for a sleep target now: a request is open, or TRIP reads 1 (R510). -/
def sleepHeld (s : State) : Bool :=
  s.sup.image && decide (s.fld PWR 0x01 0 2 ≠ 0) && (s.sup.hostReq || wbit (devStatus s) 13)

/-- SUP_WFI: the supervisor begins WFI (R499); the firmware does not while its conditions for sleep fail (R510). -/
def stewardWfi (s : State) : State := if sleepHeld s then s else supWfi s

/-- HANDOVER: before the store, the firmware selects the crystal for the timebase if XTAL_OK = 1 (R528, R529). -/
def stewardHandover (s : State) : State :=
  let s1 := if s.sup.image && !s.sup.ready && s.tbase.xtalOk then supWrite CRY 0x0B 1 s else s
  busDone (handover s1)

/-! ## Weight images (R327 to R332, R555) -/

/-- Store bytes of the bank `act` of engine `e`. -/
def bankData (s : State) (e : Nat) (act : Bool) : List Byte :=
  storeGet s e (if act then bankBytes s e else 0) (bankBytes s e)

/-- The LEARN_RULE tables of the channels `cs` on engine `e`, ascending. -/
def ruleData (s : State) (e : Nat) (cs : List Nat) : List Byte := cs.flatMap (fun c => storeGet s e (ruleRange c).1 512)

/-- A section header. -/
def sectionHeader (typ : Nat) (d : List Byte) : List Byte :=
  leBytes 2 typ ++ leBytes 2 0 ++ leBytes 4 d.length ++ leBytes 4 (crc32 d) ++ leBytes 4 0

/-- Channels as a mask. -/
def chanMask (cs : List Nat) : Nat := (cs.map (fun c => 2 ^ c)).foldl (· + ·) 0

/-- Image length (R327). -/
def imageBytes (size chans : Nat) : Nat := 160 + size * 4096 + 512 * chans

/-- Header bytes 0 to 95 with HDR_CRC `crc`. -/
def weightHeader (s : State) (e slot tag crc : Nat) (cs : List Nat) (act : Bool) : List Byte :=
  let size := bankBytes s e / 4096
  let low := (s.chan (nth cs 0 0)).learn
  let fl := b2n (decide (slot = 0xF)) + 2 * b2n (cs.any (fun c => (s.chan c).learn.foreign))
  ([0x58, 0x44, 0x44, 0x52] : List Byte) ++ leBytes 2 1 ++ [byte 2, byte fl] ++ leBytes 4 (imageBytes size cs.length) ++
    leBytes 4 crc ++ leBytes 2 (match s.part with | .idp1640 => 0x1640 | .idp0820 => 0x0820) ++ leBytes 2 (chanMask cs) ++
    [byte e, byte (b2n act), byte (if slot = 0xF then 0xFF else slot), byte 2] ++ leBytes 2 size ++ leBytes 2 tag ++
    leBytes 4 (if cs = [] then 0 else low.epochs) ++ identityDigest s.part ++ leBytes 6 s.tb ++ List.replicate 26 0

/-- The HMAC key of a request's slot (R328). -/
def weightKey (s : State) (slot : Nat) : List Byte := if slot = 0xF then List.replicate 16 0 else (s.slot slot).key

/-- The slot of a request holds a key, or none is named (R555). -/
def weightSlotOk (s : State) (slot : Nat) : Bool :=
  decide (slot = 0xF) || (decide (slot < 8) && (s.slot slot).used && !(s.slot slot).revoked)

/-- The key of an image's BIND_SLOT: 16 zero bytes for 0xFF; none for a slot without a key (R328, R555). -/
def imageKey (s : State) (b : Nat) : Option (List Byte) :=
  if b = 0xFF then some (List.replicate 16 0)
  else if b < 8 ∧ (s.slot b).used = true ∧ (s.slot b).revoked = false then some (s.slot b).key
  else none

/-- Channel `c` is frozen: Off, or with LEARN = 0 in force, and with SWEEP = 0 and READY = 0 (R330). -/
def frozen (s : State) (c : Nat) : Bool :=
  (decide ((s.chan c).st = .off) || !(s.chan c).learnOn) && !(s.chan c).learn.sweepOn && !(s.chan c).learn.ready

/-- The common checks of WEXPORT and WIMPORT (R330, R555): 2 BAD_ARGS, 1 NOT_FROZEN, 0 none. A request is served within one
command, so none arrives while one is served and BUSY is not answered (log entry 64). -/
def weightError (s : State) (e slot : Nat) (cs : List Nat) : Nat :=
  if s.part.engines ≤ e ∨ weightSlotOk s slot = false then 2
  else if !cs.all (frozen s) then 1
  else if cs.any (fun c => (s.chan c).learn.active != (s.chan (nth cs 0 0)).learn.active) then 2
  else 0

/-- Write the 160 B of headers into the buffer, line by line. -/
def putHeaders (a : Nat) (bs : List Byte) (s : State) : State := cistPut (a + 128) (bs.drop 128) (cistPut a (bs.take 128) s)

/-- The reads that an image of engine `e`'s bank `act` takes. -/
def imageReads (e : Nat) (act : Bool) (cs : List Nat) (s : State) : State :=
  let n := bankBytes s e
  foldS (fun c s => storeReadEvents e (ruleRange c).1 512 none s) cs
    (storeReadEvents e (if act then n else 0) n none s)

/-- The HMAC over the header bytes 0 to 95, the section headers and the data (R328). -/
def weightHmac (key h x1 d1 x2 d2 : List Byte) : List Byte := hmac key (h ++ x1 ++ d1 ++ x2 ++ d2)

/-- What a WEXPORT or WIMPORT leaves in the SEC block, whose session computes its HMAC and is closed before the reply (21,
Sequences; R558): OWNER names the supervisor, DONE is set, the HMAC stands in RESP_OUT, and CHAL_IN holds a source
descriptor, whose bytes the manual does not give (log entry 66). -/
def sealSession (tag : List Byte) (s : State) : State :=
  if s.sec.run.isSome then s
  else
    let (bs, s1) := s.freeBytes 8
    secDone tag ((s1.putB SEC 0x04 13 true).modSec (fun c =>
      { c with chal := bs ++ c.chal.drop 16, chalPtr := 0, session := none }))

/-- WEXPORT (R331). -/
def wexportServe (s : State) : State × Nat × Nat × Nat × Nat :=
  let e := wfld (mbox s 1) 12 4
  let slot := wfld (mbox s 1) 8 4
  let cs := if e < s.part.engines then chansOn s e else []
  let err := weightError s e slot cs
  if err ≠ 0 then (s, err, 0xFF, chanMask cs, 0)
  else
    let act := match cs with | c :: _ => (s.chan c).learn.active | [] => false
    let h0 := weightHeader s e slot (mbox s 3).toNat 0 cs act
    let h := weightHeader s e slot (mbox s 3).toNat (crc32 h0) cs act
    let d1 := bankData s e act
    let d2 := ruleData s e cs
    let x1 := sectionHeader 1 d1
    let x2 := sectionHeader 2 d2
    let tag := weightHmac (weightKey s slot) h x1 d1 x2 d2
    (putHeaders ((mbox s 2).toNat * 512) (h ++ tag ++ x1 ++ x2) (imageReads e act cs (sealSession tag s)), 0, 0xFF, chanMask cs, 0)

/-- A field of the header area. -/
def area (bs : List Byte) (o n : Nat) : Nat := leVal ((bs.drop o).take n)

/-- FORMAT of a header area (R332). -/
def weightFormatOk (h : List Byte) : Bool :=
  let size := area h 24 2
  let chans := (maskList (area h 18 2) 16).length
  decide (area h 0 4 = 0x52444458 ∧ area h 4 2 = 1 ∧ area h 6 1 = 2 ∧ area h 23 1 = 2) &&
    decide (area h 12 4 = crc32 (h.take 12 ++ List.replicate 4 0 ++ (h.drop 16).take 80)) &&
    decide (area h 128 2 = 1 ∧ area h 144 2 = 2) &&
    decide (area h 8 4 = imageBytes size chans ∧ area h 132 4 = size * 4096 ∧ area h 148 4 = 512 * chans)

/-- The HMAC of a header area and its data under its own key; none without a key (R328, R555). -/
def areaHmac (s : State) (h d1 d2 : List Byte) : Option (List Byte) :=
  (imageKey s (area h 22 1)).map (fun key => weightHmac key (h.take 96) ((h.drop 128).take 16) d1 ((h.drop 144).take 16) d2)

/-- The session of a WIMPORT whose check of the HMAC is made, with result `bad`. -/
def importSession (bad : Nat) (tag : Option (List Byte)) (s : State) : State :=
  match tag with
  | some t => if bad = 0 ∨ bad = 6 then sealSession t s else s
  | none => s

/-- The first check of WIMPORT that fails: 3 FORMAT, 4 MISMATCH, 5 CRC, 6 HMAC, 0 none (R332). -/
def importError (s : State) (e tag : Nat) (cs : List Nat) (h d1 d2 : List Byte) : Nat :=
  if weightFormatOk h = false then 3
  else if area h 20 1 ≠ e ∨ area h 18 2 ≠ chanMask cs ∨ area h 24 2 ≠ bankBytes s e / 4096 ∨ area h 26 2 ≠ tag then 4
  else if area h 136 4 ≠ crc32 d1 ∨ area h 152 4 ≠ crc32 d2 then 5
  else
    if areaHmac s h d1 d2 = some ((h.drop 96).take 32) then 0 else 6

/-- The image of engine `e` has passed for channel `c`; it is marked ready once every engine of its map has passed. -/
def importChan (e : Nat) (foreign : Bool) (c : Nat) (s : State) : State :=
  let s1 := s.modLearn c (fun l => { l with imports := if l.imports.contains e then l.imports else l.imports ++ [e], epochs := 0 })
  if (chanEngines s1 c).all (fun x => (s1.chan c).learn.imports.contains x) then setReady c (some foreign) s1 else s1

/-- WIMPORT (R332). -/
def wimportServe (s : State) : State × Nat × Nat × Nat × Nat :=
  let e := wfld (mbox s 1) 12 4
  let slot := wfld (mbox s 1) 8 4
  let cs := if e < s.part.engines then chansOn s e else []
  let err := weightError s e slot cs
  if err ≠ 0 then (s, err, 0xFF, chanMask cs, 0)
  else
    let a := (mbox s 2).toNat * 512
    let h := cistGet s a 128 ++ cistGet s (a + 128) 32
    let standby := match cs with | c :: _ => !(s.chan c).learn.active | [] => true
    let bad := importError s e (mbox s 3).toNat cs h (bankData s e standby) (ruleData s e cs)
    let s0 := importSession bad (areaHmac s h (bankData s e standby) (ruleData s e cs)) s
    let s1 := imageReads e standby cs (cistReadEvents (a + 128) 32 none (cistReadEvents a 128 none s0))
    if bad ≠ 0 then (s1, bad, 0xFF, chanMask cs, 0)
    else
      let foreign := decide ((h.drop 32).take 32 ≠ identityDigest s.part)
      let all := cs.all (fun c => (chanEngines s c).all (fun x => decide (x = e) || (s.chan c).learn.imports.contains x))
      (foldS (importChan e foreign) cs s1, if all then 0 else 8, 0xFF, chanMask cs, b2n foreign + 2 * (area h 7 1 % 2))

/-- WEXPORT and WIMPORT. -/
def mboxWexport (s : State) : State := serveRequest 0x20 wexportServe s
def mboxWimport (s : State) : State := serveRequest 0x21 wimportServe s

/-! ## Tag grants (R232, R233) -/

/-- Grant one free tag to each stalled post of `es`, ascending, while any is free. -/
def grantEngines (tick : Bool) (es : List Nat) (s : State) : State :=
  foldS (fun e s => if freeTags s = 0 then s else grantEngine tick e s) es s

/-- Grant to the supervisor's held post, within its cap. -/
def grantSupervisor (s : State) : State :=
  foldS (fun n s =>
    if freeTags s = 0 ∨ 8 ≤ supHeld s then s
    else match (s.slotOf n).waiting with | some p => busDone (postSlot n p s) | none => s) (stalledSlots s) s

/-- Grant to the pumps' peer services, port by port. -/
def grantPeers (s : State) : State :=
  foldS (fun p s =>
    if freeTags s = 0 ∨ (s.port p).peers.all (fun b => !(b.stalled && b.op.isNone)) = true then s
    else (serveNext true p s).1) (List.range s.ports.length) s

/-- TAG_GRANT: the free tags go to the waiting posts in the order of R232. A background program fenced while its issued post
waits takes its tag like any other: the fence stops only later issue (R73). -/
def tagGrant (s : State) : State :=
  let s1 := grantEngines true (stalledEngines s true) s
  let s2 := grantPeers (grantSupervisor s1)
  grantEngines false (stalledEngines s2 false) s2

end Sys2Proof.Machine
end

