-- ==== Sys2Proof/Machine/Gate.lean ====
section
/-! DEFINITION. In which power state a row's event acts, and the small operations that rows share. -/

namespace Sys2Proof.Machine

/-! ## Power states in which a row acts -/

/-- The row acts whatever the power state. -/
def always (f : State → State) (s : State) : Host.Outcome State Fault Refusal := .next (f s)

/-- The row acts in Run; in any other power state the units it concerns are stopped, in reset or unpowered. -/
def whenRun (f : State → State) (s : State) : Host.Outcome State Fault Refusal :=
  .next (if s.power.mode = .run then f s else s)

/-- The row acts in Run and in Hush. -/
def whenUp (f : State → State) (s : State) : Host.Outcome State Fault Refusal :=
  .next (if s.power.mode = .run ∨ s.power.mode = .hush then f s else s)

/-- The row acts while VIN_CRYPT is present. -/
def whenPowered (f : State → State) (s : State) : Host.Outcome State Fault Refusal :=
  .next (if s.power.mode = .off then s else f s)

/-- The row is an access of the supervisor: it acts in Run, while the supervisor can make one. -/
def whenSup (f : State → State) (s : State) : Host.Outcome State Fault Refusal :=
  .next (if s.power.mode = .run ∧ supActs s = true then f s else s)

/-! ## Units that exist -/

/-- Act on channel `c` of sixteen. -/
def forChan (c : Nat) (f : State → State) (s : State) : State := if c < 16 then f s else s

/-- Act on engine `e` of the part. -/
def forEngine (e : Nat) (f : State → State) (s : State) : State := if e < s.part.engines then f s else s

/-- Act on well `w` of 64. -/
def forWell (w : Nat) (f : State → State) (s : State) : State := if w < 64 then f s else s

/-- Act on link port `p` of the part. -/
def forPort (p : Nat) (f : State → State) (s : State) : State := if p < s.part.links then f s else s

/-- Act on one of the two lanes of link port `p` (17). -/
def forLane (p lane : Nat) (f : State → State) (s : State) : State := if p < s.part.links ∧ lane < 2 then f s else s

/-! ## Words written and read by the host -/

/-- A word that the host writes to register `r` of target `t`: one that is rejected sets FRAME_ERR (R10, R96, R123). -/
def hostWord (t r : Nat) (v : Word) (s : State) : State :=
  let (s1, bad) := wordWrite false (locked s) t r v s
  if bad then frameError s1 else s1

/-- A read frame of `n` words at offset `r` of target `t` (R94, R537, R544). -/
def readAt (t r n : Nat) (s : State) : State := readFrame (readCommand s t r n) s

/-- A word written to register `r` of target `t` by the host, the supervisor or the JTAG access path (R104, R123). -/
def registerWrite (src : Source) (t r : Nat) (v : Word) (s : State) : State :=
  match src with
  | .host =>
    let (s1, bad) := targetWrite false (locked s) t r v s
    if bad = true ∨ (groupMembers s t).isNone = true then frameError s1 else s1
  | .supervisor => regStore t r v s
  | .jtag => regaccAccess true t r v s

/-! ## Events with a guard of their own -/

/-- A rising edge on TICK, `dt` RIM after the present count (R55, R83, R530): in Run a tick edge, and after an entry has
committed also a wake event; in Hush and Dormant a wake event only. -/
def tickPin (dt : Nat) (s : State) : State :=
  if s.power.mode = .run then
    let s1 := withEdge (tickEdge dt) s
    if s.power.committed.isSome then tickWake s1 else s1
  else tickWake s

/-- A tick is past its snapshot edge and uses the values that held there: it is open, or tick programs of it are due or
running (R78). -/
def midTick (s : State) : Bool := s.tick.open_ || s.engs.any Engine.tickWork

/-- A field is stored, and takes effect as on a snapshot edge; during a tick it is only stored, for the next snapshot edge
(R78; log entry 16). -/
def onEdge (store effect : State → State) (s : State) : State := if midTick s then store s else effect (store s)

/-- A sample presented on well `w`'s port, `dt` RIM after the present count; a walk that has not released the port
presents none (R172, R416). -/
def samplePort (w data : Nat) (valid opn stuck : Bool) (dt : Nat) (s : State) : State :=
  let s1 := s.pass dt
  if w < 64 ∧ wellPortLive s w = true then presentSample w data valid opn stuck s1 else s1

/-- The fault window of channel `c` ends, when one is open (R465). -/
def windowExpires (c : Nat) (s : State) : State := if (s.chan c).winLeft.isSome then endWindow c s else s

/-- Channel `c`'s epoch ends on the coming snapshot edge, when its position says so (R313). -/
def epochEnds (c : Nat) (s : State) : State :=
  if epochDue s c then epochBoundary c (s.chan c).learn.hold s.now s.tb s else s

end Sys2Proof.Machine
end

