-- ==== Sys2Proof/Machine/RowsChannel.lean ====
section
/-! DEFINITION. The meanings of the rows of the channels and their learning state (06, 12, 18). -/

namespace Sys2Proof.Machine

/-- CH_ENABLE (R158): CH_CTRL.ENABLE = 1 takes effect at a snapshot edge; the channel enters Active or Retired, or is
re-armed. -/
def execChEnable (c : Nat) (s : State) : Host.Outcome State Fault Refusal :=
  whenRun (forChan c (onEdge (fun s => s.setB (CH c) 0x00 15) (enableEdge c))) s

/-- CH_DISABLE (R159): CH_CTRL.ENABLE = 0 takes effect at a snapshot edge and the channel enters Stopping. -/
def execChDisable (c : Nat) (s : State) : Host.Outcome State Fault Refusal :=
  whenRun (forChan c (onEdge (fun s => s.clrB (CH c) 0x00 15) (disableEdge c))) s

/-- SHUTDOWN_COMPLETE (R160): The last outstanding work of a Stopping channel completes and the channel enters Off. -/
def execShutdownComplete (c : Nat) (s : State) : Host.Outcome State Fault Refusal :=
  whenRun (forChan c (shutdown c)) s

/-- CH_LEARN (R319): CH_CTRL.LEARN takes effect at the next snapshot edge, freezing or resuming learning. -/
def execChLearn (c : Nat) (s : State) : Host.Outcome State Fault Refusal := whenRun (forChan c (onEdge id (learnEdge c))) s

/-- IN_WIN_CLEAR (R465): A host write of 0 to IN_WIN ends the fault window. -/
def execInWinClear (c : Nat) (s : State) : Host.Outcome State Fault Refusal :=
  whenRun (forChan c (fun s => hostWord (CH c) 0x12 (s.rd (CH c) 0x12 &&& 0xFF00) s)) s

/-- FAULT_WINDOW_END (R465): The fault window expires after 2^EXP ticks; IN_WIN clears and a Watch channel returns to
Active. -/
def execFaultWindowEnd (c : Nat) (s : State) : Host.Outcome State Fault Refusal :=
  whenRun (forChan c (windowExpires c)) s

/-- EPOCH_END (R313): A channel's epoch position reaches 2^EXP on a snapshot edge. -/
def execEpochEnd (c : Nat) (s : State) : Host.Outcome State Fault Refusal := whenRun (forChan c (epochEnds c)) s

/-- SWEEP_COMPLETE (R316): The last sweep part's completion reaches the rim, and READY is set. -/
def execSweepComplete (c : Nat) (s : State) : Host.Outcome State Fault Refusal :=
  whenRun (forChan c (completeSweep c)) s

/-- BANK_SWAP (R317): On the first qualifying edge after READY, ACTIVE toggles and CLEAR is set. The row is taken as that edge
for the channel, wherever it stands between snapshot edges (R26; log entry 16). -/
def execBankSwap (c : Nat) (s : State) : Host.Outcome State Fault Refusal := whenRun (forChan c (edgeSwap c)) s

end Sys2Proof.Machine
end

