-- ==== Sys2Proof/Machine/RowsCloister.lean ====
section
/-! DEFINITION. The meanings of the rows of the cloister: loading, release, safe states and quiesce (15, 16). -/

namespace Sys2Proof.Machine

/-- CLO_LOAD (R408): CLO_CTRL.LOAD starts a cloister load, or is refused with BUSY. -/
def execCloLoad (v : Word) (s : State) : Host.Outcome State Fault Refusal :=
  whenRun (hostWord CLO 0x00 (setBit (clrBit v 14) 15)) s

/-- CLO_ABORT (R418): CLO_CTRL.ABORT ends a load in progress. -/
def execCloAbort (s : State) : Host.Outcome State Fault Refusal :=
  whenRun (fun s => hostWord CLO 0x00 (setBit (s.rd CLO 0x00) 14) s) s

/-- CLO_CONFIG_WORD (R409): A CLO_CONFIG window word feeds two image bytes to the load. -/
def execCloConfigWord (v : Word) (s : State) : Host.Outcome State Fault Refusal :=
  whenRun (fun s => if tblTable s = 0x09 then windowWrite v s else s) s

/-- LOAD_WORD_TIMEOUT (R409): No word arrives for 2^24 RIM and the load fails with LENGTH. -/
def execLoadWordTimeout (s : State) : Host.Outcome State Fault Refusal := whenRun loadTimeout s

/-- RELEASE_STAGE (R416): A release stage falls after its CCK0 count and releases outputs, writes or logic. -/
def execReleaseStage (s : State) : Host.Outcome State Fault Refusal := whenRun releaseStage s

/-- CLO_SAFE_WRITE (R414): A CLO_SAFE write stores or selects a pin's safe state. -/
def execCloSafeWrite (r : BitVec 8) (v : Word) (s : State) : Host.Outcome State Fault Refusal :=
  whenRun (fun s => if 4 ≤ r.toNat ∧ r.toNat ≤ 6 then hostWord CLO r.toNat v s else s) s

/-- QUIESCE_ANSWER (R396): User logic answers the quiesce query with QAGREE or QREFUSE. -/
def execQuiesceAnswer (w : Nat) (x : QuiesceLines) (s : State) : Host.Outcome State Fault Refusal :=
  whenRun (quiesceAnswer w x.agree x.refuse) s

/-- FLASH_IMAGE_BYTE (R411): A byte of a cloister image read from boot flash under SRC = 1 is taken in and advances
the load's checks, or the load fails with FLASH when the flash does not answer. -/
def execFlashImageByte (x : FlashRead) (s : State) : Host.Outcome State Fault Refusal :=
  whenRun (flashByte x.addr x.quad x.byte) s

end Sys2Proof.Machine
end

