-- ==== Sys2Proof/Machine/RowsEngine.lean ====
section
/-! DEFINITION. The meanings of the rows of what starts, stops and ends programs on an engine, and the posts (08, 09). -/

namespace Sys2Proof.Machine

/-- ENG_ENABLE (R166): ENG_CTRL.ENABLE = 1 takes effect at the next snapshot edge, or is latched as REARMED during
Stopping. -/
def execEngEnable (e : Nat) (s : State) : Host.Outcome State Fault Refusal :=
  whenRun (forEngine e (onEdge (fun s => s.setB (ENG e) 0x00 15) (engEnableEdge e))) s

/-- ENG_DISABLE (R166): ENG_CTRL.ENABLE = 0 stops new programs while running work completes. -/
def execEngDisable (e : Nat) (s : State) : Host.Outcome State Fault Refusal :=
  whenRun (forEngine e (onEdge (fun s => s.clrB (ENG e) 0x00 15) (engDisableEdge e))) s

/-- BG_START (R224): A write of BG_START = 1 accepts or refuses a background job. -/
def execBgStart (e : Nat) (s : State) : Host.Outcome State Fault Refusal := whenRun (forEngine e (bgStart e)) s

/-- CLR_FAULT (R221): A write of CLR_FAULT = 1 clears FAULTED and FAULT. -/
def execClrFault (e : Nat) (s : State) : Host.Outcome State Fault Refusal := whenRun (forEngine e (clrFault e)) s

/-- BANK_SIZE_WRITE (R323): A write of ENG_BANK.SIZE is accepted only while every mapped channel is Off. -/
def execBankSizeWrite (e : Nat) (size : BitVec 8) (s : State) : Host.Outcome State Fault Refusal :=
  whenRun (forEngine e (hostWord (ENG e) 0x08 (word size.toNat))) s

/-- BACKGROUND_START (R222): When no tick program is due and issue is not fenced, the engine resumes or starts a
background program. -/
def execBackgroundStart (e : Nat) (s : State) : Host.Outcome State Fault Refusal :=
  whenRun (forEngine e (startBackground e)) s

/-- HALT (R214): HALT ends a background program. -/
def execHalt (e : Nat) (s : State) : Host.Outcome State Fault Refusal :=
  whenRun (issue (fun o => decide (o = .halt)) 0 e) s

/-- HALT_V (R214): HALT.V ends a tick program and delivers its verdict lane. -/
def execHaltV (e : Nat) (strokes : Nat) (s : State) : Host.Outcome State Fault Refusal :=
  whenRun (issue (fun o => decide (o = .haltV)) strokes e) s

/-- LDT (R219): The TENS variant LDT reads a descriptor and posts a load into the store under a handle. -/
def execLdt (e : Nat) (s : State) : Host.Outcome State Fault Refusal :=
  whenRun (issue (fun o => decide (o = .tens .ldt)) 0 e) s

/-- STT (R219): The TENS variant STT reads a descriptor and posts a store from the store. -/
def execStt (e : Nat) (s : State) : Host.Outcome State Fault Refusal :=
  whenRun (issue (fun o => decide (o = .tens .stt)) 0 e) s

/-- POST (R219): The TENS variant POST posts any other pump operation. -/
def execPost (e : Nat) (s : State) : Host.Outcome State Fault Refusal :=
  whenRun (issue (fun o => decide (o = .tens .post)) 0 e) s

/-- TAG_GRANT (R232): A freed tag is granted to a waiting post in priority order, and the post completes 2 strokes
later. -/
def execTagGrant (s : State) : Host.Outcome State Fault Refusal := whenRun tagGrant s

end Sys2Proof.Machine
end

