-- ==== Sys2Proof/Machine/RowsIsa.lean ====
section
/-! DEFINITION. The meanings of the rows of the instructions of the engines: the next one of the running program issues when it is of the row (08, 11, 14). -/

namespace Sys2Proof.Machine

/-- TILE_I8_I8 (R210): TILE multiplies INT8 activations by INT8 bay weights into INT32 C. -/
def execTileI8I8 (e : Nat) (s : State) : Host.Outcome State Fault Refusal :=
  whenRun (issue (fun o => decide (o = .tile .i8i8)) 0 e) s

/-- TILE_I4_I4 (R210): TILE in mode I4×I4, with K = 64. -/
def execTileI4I4 (e : Nat) (s : State) : Host.Outcome State Fault Refusal :=
  whenRun (issue (fun o => decide (o = .tile .i4i4)) 0 e) s

/-- TILE_I8_I4 (R210): TILE in mode I8×I4. -/
def execTileI8I4 (e : Nat) (s : State) : Host.Outcome State Fault Refusal :=
  whenRun (issue (fun o => decide (o = .tile .i8i4)) 0 e) s

/-- TILE_I8_I6 (R210): TILE in mode I8×I6. -/
def execTileI8I6 (e : Nat) (s : State) : Host.Outcome State Fault Refusal :=
  whenRun (issue (fun o => decide (o = .tile .i8i6)) 0 e) s

/-- VEC_ADD (R296): VEC ADD, saturated. -/
def execVecAdd (e : Nat) (s : State) : Host.Outcome State Fault Refusal :=
  whenRun (issue (fun o => decide (o = .vec .add)) 0 e) s

/-- VEC_SUB (R296): VEC SUB, saturated. -/
def execVecSub (e : Nat) (s : State) : Host.Outcome State Fault Refusal :=
  whenRun (issue (fun o => decide (o = .vec .sub)) 0 e) s

/-- VEC_MUL (R296): VEC MUL, low half, saturated. -/
def execVecMul (e : Nat) (s : State) : Host.Outcome State Fault Refusal :=
  whenRun (issue (fun o => decide (o = .vec .mul)) 0 e) s

/-- VEC_MULH (R296): VEC MULH, high half. -/
def execVecMulh (e : Nat) (s : State) : Host.Outcome State Fault Refusal :=
  whenRun (issue (fun o => decide (o = .vec .mulh)) 0 e) s

/-- VEC_MIN (R296): VEC MIN. -/
def execVecMin (e : Nat) (s : State) : Host.Outcome State Fault Refusal :=
  whenRun (issue (fun o => decide (o = .vec .min)) 0 e) s

/-- VEC_MAX (R296): VEC MAX. -/
def execVecMax (e : Nat) (s : State) : Host.Outcome State Fault Refusal :=
  whenRun (issue (fun o => decide (o = .vec .max)) 0 e) s

/-- VEC_ABS (R296): VEC ABS, saturated. -/
def execVecAbs (e : Nat) (s : State) : Host.Outcome State Fault Refusal :=
  whenRun (issue (fun o => decide (o = .vec .abs)) 0 e) s

/-- VEC_RELU (R296): VEC RELU. -/
def execVecRelu (e : Nat) (s : State) : Host.Outcome State Fault Refusal :=
  whenRun (issue (fun o => decide (o = .vec .relu)) 0 e) s

/-- VEC_CLAMP (R296): VEC CLAMP to ±(2^IMM − 1). -/
def execVecClamp (e : Nat) (s : State) : Host.Outcome State Fault Refusal :=
  whenRun (issue (fun o => decide (o = .vec .clamp)) 0 e) s

/-- VEC_SHR (R296): VEC arithmetic shift right, rounding to nearest even. -/
def execVecShr (e : Nat) (s : State) : Host.Outcome State Fault Refusal :=
  whenRun (issue (fun o => decide (o = .vec .shr)) 0 e) s

/-- VEC_SHL (R296): VEC shift left, saturated. -/
def execVecShl (e : Nat) (s : State) : Host.Outcome State Fault Refusal :=
  whenRun (issue (fun o => decide (o = .vec .shl)) 0 e) s

/-- VEC_NARROW (R296): VEC NARROW to the next smaller type, saturated. -/
def execVecNarrow (e : Nat) (s : State) : Host.Outcome State Fault Refusal :=
  whenRun (issue (fun o => decide (o = .vec .narrow)) 0 e) s

/-- VEC_WIDEN (R296): VEC WIDEN, sign-extended. -/
def execVecWiden (e : Nat) (s : State) : Host.Outcome State Fault Refusal :=
  whenRun (issue (fun o => decide (o = .vec .widen)) 0 e) s

/-- VEC_SCALE (R297): VEC SCALE multiplies elements by the bay's block scales. -/
def execVecScale (e : Nat) (s : State) : Host.Outcome State Fault Refusal :=
  whenRun (issue (fun o => decide (o = .vec .scale)) 0 e) s

/-- VEC_LUT (R298): VEC LUT applies a 64-entry piecewise-linear table. -/
def execVecLut (e : Nat) (s : State) : Host.Outcome State Fault Refusal :=
  whenRun (issue (fun o => decide (o = .vec .lut)) 0 e) s

/-- VEC_MOVE (R211): VEC MOVE. -/
def execVecMove (e : Nat) (s : State) : Host.Outcome State Fault Refusal :=
  whenRun (issue (fun o => decide (o = .vec .move)) 0 e) s

/-- VEC_BROADCAST (R211): VEC BROADCAST of element 0. -/
def execVecBroadcast (e : Nat) (s : State) : Host.Outcome State Fault Refusal :=
  whenRun (issue (fun o => decide (o = .vec .broadcast)) 0 e) s

/-- RED_SUM (R212): RED SUM into one INT32. -/
def execRedSum (e : Nat) (s : State) : Host.Outcome State Fault Refusal :=
  whenRun (issue (fun o => decide (o = .red .sum)) 0 e) s

/-- RED_SUMSQ (R212): RED SUMSQ into one INT32. -/
def execRedSumsq (e : Nat) (s : State) : Host.Outcome State Fault Refusal :=
  whenRun (issue (fun o => decide (o = .red .sumsq)) 0 e) s

/-- RED_MAX (R212): RED MAX. -/
def execRedMax (e : Nat) (s : State) : Host.Outcome State Fault Refusal :=
  whenRun (issue (fun o => decide (o = .red .max)) 0 e) s

/-- RED_MIN (R212): RED MIN. -/
def execRedMin (e : Nat) (s : State) : Host.Outcome State Fault Refusal :=
  whenRun (issue (fun o => decide (o = .red .min)) 0 e) s

/-- CMP_GT (R212): CMP GT writes mask bits and sets ANY. -/
def execCmpGt (e : Nat) (s : State) : Host.Outcome State Fault Refusal :=
  whenRun (issue (fun o => decide (o = .cmp .gt)) 0 e) s

/-- CMP_GE (R212): CMP GE. -/
def execCmpGe (e : Nat) (s : State) : Host.Outcome State Fault Refusal :=
  whenRun (issue (fun o => decide (o = .cmp .ge)) 0 e) s

/-- CMP_LT (R212): CMP LT. -/
def execCmpLt (e : Nat) (s : State) : Host.Outcome State Fault Refusal :=
  whenRun (issue (fun o => decide (o = .cmp .lt)) 0 e) s

/-- CMP_LE (R212): CMP LE. -/
def execCmpLe (e : Nat) (s : State) : Host.Outcome State Fault Refusal :=
  whenRun (issue (fun o => decide (o = .cmp .le)) 0 e) s

/-- CMP_EQ (R212): CMP EQ. -/
def execCmpEq (e : Nat) (s : State) : Host.Outcome State Fault Refusal :=
  whenRun (issue (fun o => decide (o = .cmp .eq)) 0 e) s

/-- CMP_NE (R212): CMP NE. -/
def execCmpNe (e : Nat) (s : State) : Host.Outcome State Fault Refusal :=
  whenRun (issue (fun o => decide (o = .cmp .ne)) 0 e) s

/-- TRACE (R310): TRACE updates a 32 × 32 block of INT8 eligibility traces with stochastic rounding. -/
def execTrace (e : Nat) (s : State) : Host.Outcome State Fault Refusal :=
  whenRun (issue (fun o => decide (o = .trace)) 0 e) s

/-- SRND (R302): SRND stochastically rounds INT32 elements to INT8, INT6 or INT4. -/
def execSrnd (e : Nat) (s : State) : Host.Outcome State Fault Refusal :=
  whenRun (issue (fun o => decide (o = .srnd)) 0 e) s

/-- DGATE (R363): DGATE writes dead-zone-gated differences and advances PREV, latching the delta context. -/
def execDgate (e : Nat) (s : State) : Host.Outcome State Fault Refusal :=
  whenRun (issue (fun o => decide (o = .dgate)) 0 e) s

/-- SEAL (R242): SEAL fences the issuer's cistern accesses in a padded 30 strokes. -/
def execSeal (e : Nat) (s : State) : Host.Outcome State Fault Refusal :=
  whenRun (issue (fun o => decide (o = .seal)) 0 e) s

/-- RING (R246): RING adds INC to a bell, releasing waiters or saturating. -/
def execRing (e : Nat) (s : State) : Host.Outcome State Fault Refusal :=
  whenRun (issue (fun o => decide (o = .ring)) 0 e) s

/-- AWAIT (R247): AWAIT takes one unit from a bell, or waits while its count is zero. -/
def execAwait (e : Nat) (s : State) : Host.Outcome State Fault Refusal :=
  whenRun (issue (fun o => decide (o = .await)) 0 e) s

/-- TAGWAIT (R209): TAGWAIT waits for one handle, or for all of them, to complete. -/
def execTagwait (e : Nat) (s : State) : Host.Outcome State Fault Refusal :=
  whenRun (issue (fun o => decide (o = .tagwait)) 0 e) s

/-- LOOP (R216): LOOP repeats the body COUNT times with operand strides. -/
def execLoop (e : Nat) (s : State) : Host.Outcome State Fault Refusal :=
  whenRun (issue (fun o => decide (o = .loop)) 0 e) s

/-- BR (R209): BR always, ANY or NONE branches in background mode. -/
def execBr (e : Nat) (s : State) : Host.Outcome State Fault Refusal :=
  whenRun (issue (fun o => decide (o = .br)) 0 e) s

end Sys2Proof.Machine
end

