-- ==== Sys2Proof/Machine/RowsLink.lean ====
section
/-! DEFINITION. The meanings of the rows of the link ports (17). -/

namespace Sys2Proof.Machine

/-- LINK_ENABLE (R448): LNK_CTRL.ENABLE = 1 moves a port from Down to Training. -/
def execLinkEnable (p : Nat) (s : State) : Host.Outcome State Fault Refusal :=
  whenRun (forPort p (fun s => hostWord (LNK p) 0x00 (setBit (s.rd (LNK p) 0x00) 15) s)) s

/-- LINK_DISABLE (R447): ENABLE = 0 moves a port to Down and its transfers complete LOST. -/
def execLinkDisable (p : Nat) (s : State) : Host.Outcome State Fault Refusal :=
  whenRun (forPort p (fun s => hostWord (LNK p) 0x00 (clrBit (s.rd (LNK p) 0x00) 15) s)) s

/-- LINK_RETIRE (R441): RETIRE = 1 moves a port to Retired. -/
def execLinkRetire (p : Nat) (s : State) : Host.Outcome State Fault Refusal :=
  whenRun (forPort p (fun s => hostWord (LNK p) 0x00 (setBit (s.rd (LNK p) 0x00) 14) s)) s

/-- LINK_UNRETIRE (R448): Clearing RETIRE moves a port to Down and then to Training. -/
def execLinkUnretire (p : Nat) (s : State) : Host.Outcome State Fault Refusal :=
  whenRun (forPort p (fun s => hostWord (LNK p) 0x00 (clrBit (s.rd (LNK p) 0x00) 14) s)) s

/-- TRAINING_COMPLETE (R443): Lock, deskew and the HELLO checks are met, and the port enters Up. -/
def execTrainingComplete (p : Nat) (x : TrainingInput) (s : State) : Host.Outcome State Fault Refusal :=
  whenRun (forPort p (trainingComplete p x.hello.bytes x.lanes.lane0 x.lanes.lane1 x.hello.offset x.hello.skew)) s

/-- LANE_LOCK_LOST (R444): A lane receives blocks, loses block lock on them, and the port leaves Up for Retry. -/
def execLaneLockLost (p : Nat) (x : LaneLoss) (s : State) : Host.Outcome State Fault Refusal :=
  whenRun (forLane p x.lane (laneLockLost p x.lane x.blocks)) s

/-- HELLO (R442): A HELLO frame is received and checked, or makes an Up port enter Retry. -/
def execHello (p : Nat) (x : HelloInput) (s : State) : Host.Outcome State Fault Refusal :=
  whenRun (forPort p (fun s => receive lfHello p x.bytes (measured p x.offset x.skew s))) s

/-- ACK (R435): An ACK frame releases frames from the replay buffer. -/
def execAck (p : Nat) (bytes : List Byte) (s : State) : Host.Outcome State Fault Refusal :=
  whenRun (forPort p (receive lfAck p bytes)) s

/-- NAK (R438): A NAK frame causes retransmission from the named sequence number. -/
def execNak (p : Nat) (bytes : List Byte) (s : State) : Host.Outcome State Fault Refusal :=
  whenRun (forPort p (receive lfNak p bytes)) s

/-- PAUSE (R444): A PAUSE frame puts the port into Retry with PAUSED = 1. -/
def execPause (p : Nat) (bytes : List Byte) (s : State) : Host.Outcome State Fault Refusal :=
  whenRun (forPort p (receive lfPause p bytes)) s

/-- REQ (R453): A REQ frame makes the serving device serve the listed blocks on its pumps. -/
def execReq (p : Nat) (bytes : List Byte) (s : State) : Host.Outcome State Fault Refusal :=
  whenRun (forPort p (receive lfReq p bytes)) s

/-- RDATA (R451): An RDATA frame's payload is written into the local destination. -/
def execRdata (p : Nat) (bytes : List Byte) (s : State) : Host.Outcome State Fault Refusal :=
  whenRun (forPort p (receive lfRdata p bytes)) s

/-- WDATA (R452): A WDATA frame is written into the export by the serving device. -/
def execWdata (p : Nat) (bytes : List Byte) (s : State) : Host.Outcome State Fault Refusal :=
  whenRun (forPort p (receive lfWdata p bytes)) s

/-- WDONE (R452): A WDONE frame completes a written block. -/
def execWdone (p : Nat) (bytes : List Byte) (s : State) : Host.Outcome State Fault Refusal :=
  whenRun (forPort p (receive lfWdone p bytes)) s

/-- REFUSE (R451): A REFUSE frame marks a block refused. -/
def execRefuse (p : Nat) (bytes : List Byte) (s : State) : Host.Outcome State Fault Refusal :=
  whenRun (forPort p (receive lfRefuse p bytes)) s

/-- CANCEL (R455): A CANCEL frame stops the serving of an XID and is answered with CDONE. -/
def execCancel (p : Nat) (bytes : List Byte) (s : State) : Host.Outcome State Fault Refusal :=
  whenRun (forPort p (receive lfCancel p bytes)) s

/-- CDONE (R450): A CDONE frame returns the XID of a timed-out transfer. -/
def execCdone (p : Nat) (bytes : List Byte) (s : State) : Host.Outcome State Fault Refusal :=
  whenRun (forPort p (receive lfCdone p bytes)) s

/-- FRAME_TRANSMIT (R440): A sequenced frame is sent once replay-buffer room and credits allow; in Training and Retry the
frame due is a HELLO (R442). -/
def execFrameTransmit (p : Nat) (s : State) : Host.Outcome State Fault Refusal :=
  whenRun (forPort p (frameTransmit p)) s

/-- REPLAY_TIMER (R438): The replay timer fires and the held frames are retransmitted. -/
def execReplayTimer (p : Nat) (s : State) : Host.Outcome State Fault Refusal := whenRun (forPort p (replayTimer p)) s

/-- HELD_FRAME_TIMEOUT (R437): A held frame waits 64 LTX with E unchanged, and a NAK is sent. -/
def execHeldFrameTimeout (p : Nat) (s : State) : Host.Outcome State Fault Refusal :=
  whenRun (forPort p (heldFrameTimeout p)) s

/-- RETRY_STEP (R446): A retry window step passes and ATTEMPTS is incremented. -/
def execRetryStep (p : Nat) (s : State) : Host.Outcome State Fault Refusal := whenRun (forPort p (retryStep p)) s

/-- RETRY_WINDOW_END (R446): The retry window runs out and the port enters Lost. -/
def execRetryWindowEnd (p : Nat) (s : State) : Host.Outcome State Fault Refusal :=
  whenRun (forPort p (retryWindowEnd p)) s

/-- XFER_TIMEOUT (R455): The transfer count reaches PMP_XFER_TIMEOUT; the operation completes TIMEOUT and a CANCEL is
sent. -/
def execXferTimeout (op : Nat) (s : State) : Host.Outcome State Fault Refusal := whenRun (xferTimeout op) s

/-- INJ_ARM (R459): A write of LNK_INJ_MODE arms a one-shot or sets the rate mode and action. -/
def execInjArm (p : Nat) (v : Word) (s : State) : Host.Outcome State Fault Refusal :=
  whenRun (forPort p (hostWord (LNK p) 0x05 v)) s

/-- INJ_SEED_WRITE (R458): A write of LNK_INJ_SEED loads the injection generator. -/
def execInjSeedWrite (p : Nat) (v : Word) (s : State) : Host.Outcome State Fault Refusal :=
  whenRun (forPort p (hostWord (LNK p) 0x07 v)) s

/-- BLOCK_LOCK_REGAINED (R446): A port in Retry with PAUSED = 1 regains block lock on its receive lanes; PAUSED
returns to 0 and the retry window starts afresh. -/
def execBlockLockRegained (x : Relock) (s : State) : Host.Outcome State Fault Refusal :=
  whenRun (forPort x.port (blockLockRegained x.port x.lanes.lane0 x.lanes.lane1)) s

end Sys2Proof.Machine
end

