-- ==== Sys2Proof/Machine/RowsPort.lean ====
section
/-! DEFINITION. The meanings of the rows of the control port, the registers and the table window (04, 05). -/

namespace Sys2Proof.Machine

/-- WRITE_FRAME (R90): A control-port write frame is checked and its words are written at their home counts. -/
def execWriteFrame (bytes : List Byte) (s : State) : Host.Outcome State Fault Refusal := always (writeFrame bytes) s

/-- READ_FRAME (R105): A control-port read frame is checked and answered with the status word, data and CRC. -/
def execReadFrame (bytes : List Byte) (s : State) : Host.Outcome State Fault Refusal := always (readFrame bytes) s

/-- REGISTER_WRITE (R104): A written word takes effect in a register that has no row of its own, including W1C clears
and counter loads. -/
def execRegisterWrite (src : Source) (t : BitVec 8) (r : BitVec 8) (v : Word) (s : State) : Host.Outcome State Fault Refusal :=
  whenRun (registerWrite src t.toNat r.toNat v) s

/-- WINDOW_WRITE (R126): A TBL_DATA word is written to the selected table at the pointer, and the pointer advances. -/
def execWindowWrite (v : Word) (s : State) : Host.Outcome State Fault Refusal := whenRun (windowWrite v) s

/-- WINDOW_READ (R94): A read frame at TBL_DATA returns table words and moves the pointer on by N. -/
def execWindowRead (n : Nat) (s : State) : Host.Outcome State Fault Refusal := whenRun (readAt DEV 0x0B n) s

/-- LOCK_SET (R123): Setting DEV_CTRL.LOCK locks every RWL field until a reset. -/
def execLockSet (s : State) : Host.Outcome State Fault Refusal := whenRun (fun s => s.setB DEV 0x03 15) s

/-- BUTTRESS_ONLY (R343): DEV_CTRL.BUTTRESS_ONLY enters or leaves device-wide buttress mode at the next snapshot edge.
-/
def execButtressOnly (on : Bool) (s : State) : Host.Outcome State Fault Refusal :=
  whenRun (fun s => hostWord DEV 0x03 (putBit (s.rd DEV 0x03) 14 on) s) s

/-- TAG_LOW_WATER_RESET (R139): A write of 1 to RESET loads MARK with the present FREE. -/
def execTagLowWaterReset (s : State) : Host.Outcome State Fault Refusal := whenRun (hostWord DEV 0x19 0x8000) s

end Sys2Proof.Machine
end

