-- ==== Sys2Proof/Machine/RowsPower.lean ====
section
/-! DEFINITION. The meanings of the rows of performance levels, sleep, start-up, the crypt and time (19, 20). -/

namespace Sys2Proof.Machine

/-- LEVEL_REQUEST (R494): A PWR_REQ write makes a level request to the sequencer. -/
def execLevelRequest (level : BitVec 2) (s : State) : Host.Outcome State Fault Refusal :=
  whenRun (hostWord PWR 0x02 (word level.toNat)) s

/-- VID_DWELL_EXPIRY (R495): A dwell expires and VID steps one code. -/
def execVidDwellExpiry (s : State) : Host.Outcome State Fault Refusal := whenRun vidDwell s

/-- VPG_SETTLE (R495): After VPG is high and the settle ends, bias, assist and governor switch and the level
completes. -/
def execVpgSettle (s : State) : Host.Outcome State Fault Refusal := whenRun vpgSettle s

/-- VPG_TIMEOUT (R496): VPG is not high 16 dwells after the last step, so the change reverts with VPG_FAIL. -/
def execVpgTimeout (s : State) : Host.Outcome State Fault Refusal := whenRun vpgTimeout s

/-- VPG_FALL (R497): VPG falls in Run and VPG_LOST is set. -/
def execVpgFall (s : State) : Host.Outcome State Fault Refusal := whenRun vpgFall s

/-- MODE_RUN_WRITE (R500): A write of PWR_MODE.TARGET = 0 makes a Run request. -/
def execModeRunWrite (s : State) : Host.Outcome State Fault Refusal :=
  whenRun (fun s => hostWord PWR 0x01 (putFld (s.rd PWR 0x01) 0 2 0) s) s

/-- SLEEP_QUERY_ANSWER (R501): The queried block answers; on agreement the next block is queried. -/
def execSleepQueryAnswer (agree : Bool) (s : State) : Host.Outcome State Fault Refusal :=
  whenRun (sleepAnswer agree) s

/-- QUIESCE_TIMEOUT (R396): A walk gives no answer within 4,096 RIM and is taken as refusing. -/
def execQuiesceTimeout (w : Nat) (s : State) : Host.Outcome State Fault Refusal := whenRun (quiesceTimeout w) s

/-- TICK_UNIT_TIMEOUT (R501): The tick unit does not agree within 65,536 RIM and refuses. -/
def execTickUnitTimeout (s : State) : Host.Outcome State Fault Refusal := whenRun tickUnitTimeout s

/-- HUSH_GATE (R504): After the drain and with CP_CS_N high, RIM, LTX and LRX are gated and TRIP_N is released. -/
def execHushGate (s : State) : Host.Outcome State Fault Refusal := whenRun hushGate s

/-- DORMANT_ENTRY (R507): After the drain, the rim clocks stop and the crypt opens the header switches. -/
def execDormantEntry (s : State) : Host.Outcome State Fault Refusal := whenRun dormantEntry s

/-- WAKE_EDGE (R530): A rising edge on WAKE is a wake event. -/
def execWakeEdge (s : State) : Host.Outcome State Fault Refusal := whenPowered wakeEdge s

/-- LISTENER_MATCH (R531): The crypt listener matches a frame address in Dormant and starts a wake. -/
def execListenerMatch (addr : BitVec 7) (s : State) : Host.Outcome State Fault Refusal :=
  whenPowered (listenerMatch addr) s

/-- DORMANT_WAKE (R532): A latched wake event rebuilds the device on FIO and ends with the ready pulse. -/
def execDormantWake (s : State) : Host.Outcome State Fault Refusal := whenPowered dormantWake s

/-- POWER_UP (R514): VIN_CRYPT enters its range and a cold start begins. -/
def execPowerUp (straps : Straps) (s : State) : Host.Outcome State Fault Refusal := always (powerUp straps) s

/-- START_STAGE (R514): A cold-start stage begins when the previous stage's ready bits set. -/
def execStartStage (s : State) : Host.Outcome State Fault Refusal := whenPowered startStage s

/-- REFCLK_TIMEOUT (R516): Too few REFCLK edges arrive in 2^20 FIO, so start-up continues on FIO. -/
def execRefclkTimeout (s : State) : Host.Outcome State Fault Refusal := whenPowered refclkTimeout s

/-- RESET_N_ASSERT (R519): RESET_N falls; every block but the crypt is held in reset and TRIP_N is pulled low. -/
def execResetNAssert (s : State) : Host.Outcome State Fault Refusal := whenPowered resetAssert s

/-- RESET_N_RELEASE (R519): RESET_N rises and the device runs from stage 2. -/
def execResetNRelease (s : State) : Host.Outcome State Fault Refusal := whenPowered resetRelease s

/-- CRYPT_BROWNOUT (R611): VIN_CRYPT below 1.60 V for over 1 µs clears the crypt. -/
def execCryptBrownout (s : State) : Host.Outcome State Fault Refusal := always cryptBrownout s

/-- RIM_SWITCH (R524): TB_SRC.RIM_SWITCH moves RIM to the locked rim PLL. -/
def execRimSwitch (s : State) : Host.Outcome State Fault Refusal := whenRun rimSwitch s

/-- RIM_TO_FIO (R524): TB_SRC.RIM_TO_FIO moves RIM to FIO. -/
def execRimToFio (s : State) : Host.Outcome State Fault Refusal := whenRun rimToFio s

/-- PLL_LOCK_LOSS (R524): The rim PLL loses lock and RIM falls back to FIO. -/
def execPllLockLoss (s : State) : Host.Outcome State Fault Refusal := whenUp pllLockLoss s

/-- TB_SEL_WRITE (R535): A TB_SRC.SEL write requests or withdraws a timebase changeover. -/
def execTbSelWrite (sel : Bool) (s : State) : Host.Outcome State Fault Refusal :=
  whenRun (hostWord CRY 0x0B (bitAt sel 0)) s

/-- TB_CHANGEOVER (R535): When its conditions hold, the timebase changes source and writes a log entry. -/
def execTbChangeover (s : State) : Host.Outcome State Fault Refusal := whenPowered tbChangeover s

/-- CRYSTAL_STOP (R536): No crystal edge arrives within 2,048 FIO, so the timebase changes over to the RC and GAP is
set. -/
def execCrystalStop (s : State) : Host.Outcome State Fault Refusal := whenPowered crystalStop s

/-- TB_LOG_READ (R537): A read at TB_LOG returns the four log entries. -/
def execTbLogRead (n : Nat) (s : State) : Host.Outcome State Fault Refusal := always (readAt CRY 0x0F n) s

/-- TIMEBASE_COUNT (R534): A rising edge of the counting 32.768 kHz source increments the 48-bit timebase count, which
reaches TB_COUNT 2 RIM later. -/
def execTimebaseCount (s : State) : Host.Outcome State Fault Refusal := whenPowered timebaseCount s

/-- RIM_PLL_LOCK (R524): The rim PLL gains lock and CRY_STATUS.RIM_LOCK sets, so that a later RIM_SWITCH can move RIM
to the PLL. -/
def execRimPllLock (s : State) : Host.Outcome State Fault Refusal := whenUp rimPllLock s

end Sys2Proof.Machine
end

