-- ==== Sys2Proof/Machine/RowsPump.lean ====
section
/-! DEFINITION. The meanings of the rows of the pump operations (10, 17) and the wells (07). -/

namespace Sys2Proof.Machine

/-- PUMP_COPY (R265): The pump moves units in a COPY operation. -/
def execPumpCopy (op : Nat) (defer : Nat) (s : State) : Host.Outcome State Fault Refusal :=
  whenRun (pumpMove .copy op defer) s

/-- PUMP_RELAYOUT (R263): A RELAYOUT operation transposes tiles. -/
def execPumpRelayout (op : Nat) (defer : Nat) (s : State) : Host.Outcome State Fault Refusal :=
  whenRun (pumpMove .relayout op defer) s

/-- PUMP_GATHER (R267): A GATHER operation copies listed blocks into the store. -/
def execPumpGather (op : Nat) (defer : Nat) (s : State) : Host.Outcome State Fault Refusal :=
  whenRun (pumpMove .gather op defer) s

/-- PUMP_SCATTER (R267): A SCATTER operation copies store data to listed blocks. -/
def execPumpScatter (op : Nat) (defer : Nat) (s : State) : Host.Outcome State Fault Refusal :=
  whenRun (pumpMove .scatter op defer) s

/-- PUMP_WINDOW (R266): A WINDOW operation expands well samples into frames. -/
def execPumpWindow (op : Nat) (defer : Nat) (s : State) : Host.Outcome State Fault Refusal :=
  whenRun (pumpMove .window op defer) s

/-- PUMP_FILL (R264): A FILL operation writes the fill value. -/
def execPumpFill (op : Nat) (defer : Nat) (s : State) : Host.Outcome State Fault Refusal :=
  whenRun (pumpMove .fill op defer) s

/-- REMOTE_READ (R451): A REMOTE READ requests blocks from a peer's export. -/
def execRemoteRead (op : Nat) (s : State) : Host.Outcome State Fault Refusal := whenRun (remoteSend true op) s

/-- REMOTE_WRITE (R452): A REMOTE WRITE sends blocks to a peer's export. -/
def execRemoteWrite (op : Nat) (s : State) : Host.Outcome State Fault Refusal := whenRun (remoteSend false op) s

/-- PUMP_COMPLETION (R272): An operation completes; the completion word is written and the tag returns. -/
def execPumpCompletion (op : Nat) (s : State) : Host.Outcome State Fault Refusal := whenRun (pumpComplete op) s

/-- WELL_WAIT_END (R185): A waiting free-run well read ends its wait and presents its pieces. -/
def execWellWaitEnd (op : Nat) (s : State) : Host.Outcome State Fault Refusal := whenRun (wellWaitEnd op) s

/-- SAMPLE_CAPTURE (R172, R394): A well port registers its inputs, and a sample presented on it (VALID) is captured. -/
def execSampleCapture (w : Nat) (x : PortSample) (opn stuck : Bool) (dt : Nat) (s : State) : Host.Outcome State Fault Refusal :=
  whenRun (samplePort w x.data.toNat x.valid opn stuck dt) s

/-- WELL_ENABLE (R192): A WELL_CFG CTRL write enables a well after checking its configuration. -/
def execWellEnable (w : Nat) (s : State) : Host.Outcome State Fault Refusal :=
  whenRun (forWell w (fun s => deniedFlag (wellCtrl w (setBit (s.well w).ctrl 15) s))) s

/-- WELL_DISABLE (R193): A WELL_CFG CTRL write disables a well. -/
def execWellDisable (w : Nat) (s : State) : Host.Outcome State Fault Refusal :=
  whenRun (forWell w (fun s => deniedFlag (wellCtrl w (clrBit (s.well w).ctrl 15) s))) s

end Sys2Proof.Machine
end

