-- ==== Sys2Proof/Machine/RowsRepair.lean ====
section
/-! DEFINITION. The meanings of the rows of scrubbing, repair and the journal (18, 13). -/

namespace Sys2Proof.Machine

/-- SCRUB_INTERVAL (R478): Once per scrub interval the scrubber reads a line and a granule in each bank. -/
def execScrubInterval (s : State) : Host.Outcome State Fault Refusal := whenRun scrubInterval s

/-- COLUMN_TEST (R479): A queued column test runs its five-access pattern over the column. -/
def execColumnTest (bank : BankId) (result : Nat) (bitPos : Nat) (s : State) : Host.Outcome State Fault Refusal :=
  whenRun (columnTest bank result bitPos) s

/-- SPARE_COPY (R481): A spare-column copy starts on the bank's next scrub slot. -/
def execSpareCopy (bank : BankId) (s : State) : Host.Outcome State Fault Refusal := whenRun (spareCopy bank) s

/-- SPARE_SWITCH (R481): The column map switches to the spare when the copy count expires. -/
def execSpareSwitch (bank : BankId) (s : State) : Host.Outcome State Fault Refusal := whenRun (spareSwitch bank) s

/-- JOURNAL_WRITE (R361): The journal writer takes the head entry of its queue and writes it and the head record. -/
def execJournalWrite (s : State) : Host.Outcome State Fault Refusal := whenRun journalWrite s

end Sys2Proof.Machine
end

