-- ==== Sys2Proof/Machine/RowsSec.lean ====
section
/-! DEFINITION. The meanings of the rows of identity and binding (21). -/

namespace Sys2Proof.Machine

/-- SIGN (R548): The SEC SIGN command signs a challenge with the die key. -/
def execSign (src : Source) (arg : BitVec 8) (s : State) : Host.Outcome State Fault Refusal :=
  whenRun (secGo (decide (src = .supervisor)) 1 arg.toNat) s

/-- HMAC_INIT (R549): The SEC HMAC_INIT command opens an HMAC session keyed from a slot. -/
def execHmacInit (src : Source) (arg : BitVec 8) (s : State) : Host.Outcome State Fault Refusal :=
  whenRun (secGo (decide (src = .supervisor)) 2 arg.toNat) s

/-- HMAC_UPDATE (R550): The SEC HMAC_UPDATE command appends a source range to the session. -/
def execHmacUpdate (src : Source) (arg : BitVec 8) (s : State) : Host.Outcome State Fault Refusal :=
  whenRun (secGo (decide (src = .supervisor)) 3 arg.toNat) s

/-- HMAC_FINAL (R549): The SEC HMAC_FINAL command closes the session and outputs the HMAC. -/
def execHmacFinal (src : Source) (arg : BitVec 8) (s : State) : Host.Outcome State Fault Refusal :=
  whenRun (secGo (decide (src = .supervisor)) 4 arg.toNat) s

/-- PROGRAM (R551): The SEC PROGRAM command fuses the staged key into a binding slot. -/
def execProgram (src : Source) (arg : BitVec 8) (s : State) : Host.Outcome State Fault Refusal :=
  whenRun (secGo (decide (src = .supervisor)) 5 arg.toNat) s

/-- REVOKE (R553): The SEC REVOKE command sets a slot's revoke fuse. -/
def execRevoke (src : Source) (arg : BitVec 8) (s : State) : Host.Outcome State Fault Refusal :=
  whenRun (secGo (decide (src = .supervisor)) 6 arg.toNat) s

/-- KCV (R554): The SEC KCV command outputs a slot's key check value. -/
def execKcv (src : Source) (arg : BitVec 8) (s : State) : Host.Outcome State Fault Refusal :=
  whenRun (secGo (decide (src = .supervisor)) 7 arg.toNat) s

/-- SEC_COMPLETE (R547): A SEC command's duration ends and it completes with DONE or ERR. -/
def execSecComplete (s : State) : Host.Outcome State Fault Refusal := whenRun secComplete s

/-- PTR_CLR (R544): SEC_CTRL.PTR_CLR returns the three window pointers to 0. -/
def execPtrClr (s : State) : Host.Outcome State Fault Refusal := whenRun ptrClear s

/-- CHAL_IN_WRITE (R544): A word written to CHAL_IN is stored, and the pointer advances. -/
def execChalInWrite (v : Word) (s : State) : Host.Outcome State Fault Refusal := whenRun (chalIn v) s

/-- RESP_OUT_READ (R544): A read of RESP_OUT returns output words and advances the pointer. -/
def execRespOutRead (n : Nat) (s : State) : Host.Outcome State Fault Refusal := whenRun (readAt SEC 0x02 n) s

/-- ID_CERT_READ (R544): A read of ID_CERT returns certificate words and advances the pointer. -/
def execIdCertRead (n : Nat) (s : State) : Host.Outcome State Fault Refusal := whenRun (readAt SEC 0x03 n) s

end Sys2Proof.Machine
end

