-- ==== Sys2Proof/Machine/RowsSup.lean ====
section
/-! DEFINITION. The meanings of the rows of the supervisor, its mailbox and its ports (05, 18, 20). -/

namespace Sys2Proof.Machine

/-- ADMIT (R147): The mailbox ADMIT request runs the admission tests and grants or refuses. -/
def execAdmitReq (s : State) : Host.Outcome State Fault Refusal := whenRun mboxAdmit s

/-- WEXPORT (R331): The mailbox WEXPORT request writes the weight-image headers into the buffer. -/
def execWexport (s : State) : Host.Outcome State Fault Refusal := whenRun mboxWexport s

/-- WIMPORT (R332): The mailbox WIMPORT request verifies an image and marks channels ready. -/
def execWimport (s : State) : Host.Outcome State Fault Refusal := whenRun mboxWimport s

/-- MBOX_RETIRE (R485): The mailbox RETIRE request retires a unit or sets buttress mode. -/
def execMboxRetire (s : State) : Host.Outcome State Fault Refusal := whenRun mboxRetire s

/-- MBOX_READMIT (R485): The mailbox READMIT request readmits a unit, optionally onto a new map. -/
def execMboxReadmit (s : State) : Host.Outcome State Fault Refusal := whenRun mboxReadmit s

/-- MBOX_FAULTS (R485): The mailbox FAULTS request copies and pops fault records. -/
def execMboxFaults (s : State) : Host.Outcome State Fault Refusal := whenRun mboxFaults s

/-- MBOX_REPAIR (R485): The mailbox REPAIR request assigns and copies a spare column. -/
def execMboxRepair (s : State) : Host.Outcome State Fault Refusal := whenRun mboxRepair s

/-- SUP_HALT (R132): SUP_CTRL.HALT stops or resumes the supervisor. -/
def execSupHalt (on : Bool) (s : State) : Host.Outcome State Fault Refusal :=
  whenRun (hostWord SUP 0x00 (bitAt on 15)) s

/-- SUP_RESTART (R520): SUP_CTRL.RESTART restarts the supervisor at the boot-ROM vector. -/
def execSupRestart (s : State) : Host.Outcome State Fault Refusal :=
  whenRun (fun s => hostWord SUP 0x00 (setBit (s.rd SUP 0x00) 14) s) s

/-- SUP_GO (R525): SUP_CTRL.GO makes the boot ROM check and start a host-loaded image. -/
def execSupGo (s : State) : Host.Outcome State Fault Refusal :=
  whenRun (fun s => hostWord SUP 0x00 (setBit (s.rd SUP 0x00) 13) s) s

/-- GO_TIMEOUT (R525): In mode 0b10 no GO arrives within 2^28 RIM, so FAIL is set with CODE 5. -/
def execGoTimeout (s : State) : Host.Outcome State Fault Refusal := whenRun goTimeout s

/-- SUP_WFI (R499): WFI with TARGET Hush or Dormant makes a mode request. -/
def execSupWfi (s : State) : Host.Outcome State Fault Refusal := whenSup stewardWfi s

/-- SUP_LOAD (R526): A supervisor load from the cistern. -/
def execSupLoad (addr : Nat) (size : Nat) (s : State) : Host.Outcome State Fault Refusal :=
  whenSup (supLoad addr size) s

/-- SUP_STORE (R526): A supervisor store to the cistern. -/
def execSupStore (addr : Nat) (size : Nat) (v : W32) (s : State) : Host.Outcome State Fault Refusal :=
  whenSup (supStore addr size v) s

/-- SUP_FENCE (R243): The supervisor FENCE acts as a SEAL. -/
def execSupFence (s : State) : Host.Outcome State Fault Refusal := whenSup supFence s

/-- SUP_RING (R250): A supervisor store to the bell port rings a bell. -/
def execSupRing (b : Nat) (inc : BitVec 8) (s : State) : Host.Outcome State Fault Refusal :=
  whenSup (supRing b inc.toNat) s

/-- SUP_TRY (R250): A supervisor TRY load returns a bell's count and decrements it if non-zero. -/
def execSupTry (b : Nat) (s : State) : Host.Outcome State Fault Refusal := whenSup (supTry b) s

/-- SUP_PEEK (R250): A supervisor PEEK load returns a bell's count unchanged. -/
def execSupPeek (b : Nat) (s : State) : Host.Outcome State Fault Refusal := whenSup (supPeek b) s

/-- BELLS_WRITE (R251): A host BELLS window write loads a bell count and releases waiters. -/
def execBellsWrite (b : Nat) (v : Word) (s : State) : Host.Outcome State Fault Refusal := whenRun (bellsWrite b v) s

/-- SUP_POST (R527): A store to a post slot's POST word posts the descriptor to a pump. -/
def execSupPost (slot : Nat) (pump : BitVec 3) (s : State) : Host.Outcome State Fault Refusal :=
  whenSup (supPost slot pump.toNat) s

/-- BANK_READY_MARK (R325): A bank-command store marks a channel's standby bank ready, with its FOREIGN value. -/
def execBankReadyMark (c : Nat) (foreign : Bool) (s : State) : Host.Outcome State Fault Refusal :=
  whenSup (bankReadyMark c foreign) s

/-- FLT_QSTAT (R483): A QSTAT load returns the queue count and LOST. -/
def execFltQstat (s : State) : Host.Outcome State Fault Refusal := whenSup fltQstat s

/-- FLT_HEAD_READ (R483): A load of the head fault record. -/
def execFltHeadRead (k : Nat) (s : State) : Host.Outcome State Fault Refusal := whenSup (fltHeadRead k) s

/-- FLT_POP (R483): A POP store removes the head record. -/
def execFltPop (s : State) : Host.Outcome State Fault Refusal := whenSup stewardPop s

/-- FLT_RETIRE (R484): A fault-port RETIRE retires a unit at the next snapshot edge. -/
def execFltRetire (v : W32) (s : State) : Host.Outcome State Fault Refusal := whenSup (fltRetire v) s

/-- FLT_READMIT (R472): A fault-port READMIT readmits a unit or starts a channel's re-admission. -/
def execFltReadmit (v : W32) (s : State) : Host.Outcome State Fault Refusal := whenSup (fltReadmit v) s

/-- FLT_BUTTRESS (R476): A fault-port BUTTRESS store sets buttress mode regardless of LOCK. -/
def execFltButtress (v : W32) (s : State) : Host.Outcome State Fault Refusal := whenSup (fltButtress v) s

/-- FLT_REPAIR (R483): A fault-port REPAIR assigns a spare and copies without a test. -/
def execFltRepair (v : W32) (s : State) : Host.Outcome State Fault Refusal := whenSup (fltRepair v) s

/-- FLT_SCRUB (R478): A SCRUB store sets the scrub interval or stops scrubbing. -/
def execFltScrub (v : W32) (s : State) : Host.Outcome State Fault Refusal := whenSup (fltScrub v) s

/-- SHADOW_CFG (R483): A store sets a channel's twin and tolerance. -/
def execShadowCfg (c : Nat) (v : W32) (s : State) : Host.Outcome State Fault Refusal := whenSup (shadowCfg c v) s

/-- INT_CAUSE_CLEAR (R528): A store clears supervisor interrupt-cause bits. -/
def execIntCauseClear (v : W32) (s : State) : Host.Outcome State Fault Refusal :=
  whenSup (fun s => busDone (causeClear v s)) s

/-- HANDOVER (R528): The HANDOVER store sets DEV_STATUS.READY. -/
def execHandover (s : State) : Host.Outcome State Fault Refusal := whenSup stewardHandover s

/-- SUP_TRAP (R462): The supervisor takes an unrecoverable trap and STATE becomes Trapped. -/
def execSupTrap (cause : Word) (s : State) : Host.Outcome State Fault Refusal := whenRun (supTrap cause) s

/-- FLASH_BOOT (R521): The boot ROM reads and checks the steward image from flash. -/
def execFlashBoot (image : List Byte) (quad : Bool) (s : State) : Host.Outcome State Fault Refusal :=
  whenRun (flashBoot image quad) s

end Sys2Proof.Machine
end

