-- ==== Sys2Proof/Machine/RowsTap.lean ====
section
/-! DEFINITION. The meanings of the rows of the test access port (22). -/

namespace Sys2Proof.Machine

/-- TAP_RESET (R582): TRST_N or Test-Logic-Reset selects IDCODE and returns the pins to their functional drivers. -/
def execTapReset (s : State) : Host.Outcome State Fault Refusal := always tapReset s

/-- EXTEST (R585): The EXTEST instruction drives the pins from the boundary register, or acts as BYPASS while LOCK =
1. -/
def execExtest (s : State) : Host.Outcome State Fault Refusal := always (tapInstr .extest) s

/-- SAMPLE_PRELOAD (R582): The SAMPLE/PRELOAD instruction selects the boundary register. -/
def execSamplePreload (s : State) : Host.Outcome State Fault Refusal := always (tapInstr .sample) s

/-- IDCODE (R583): The IDCODE instruction selects the 32-bit identification register. -/
def execIdcode (s : State) : Host.Outcome State Fault Refusal := always (tapInstr .idcode) s

/-- CLAMP (R585): The CLAMP instruction holds the boundary values on the pins, or acts as BYPASS while LOCK = 1. -/
def execClamp (s : State) : Host.Outcome State Fault Refusal := always (tapInstr .clamp) s

/-- HIGHZ (R585): The HIGHZ instruction makes the boundary outputs high impedance, or acts as BYPASS while LOCK = 1.
-/
def execHighz (s : State) : Host.Outcome State Fault Refusal := always (tapInstr .highz) s

/-- REGACC (R586): The REGACC instruction selects the 34-bit register-access register. -/
def execRegacc (s : State) : Host.Outcome State Fault Refusal := always (tapInstr .regacc) s

/-- BYPASS (R582): The BYPASS instruction, or any unlisted code, selects the bypass register. -/
def execBypass (s : State) : Host.Outcome State Fault Refusal := always (tapInstr .bypass) s

/-- REGACC_UPDATE (R586): An Update-DR of REGACC starts one register access, or is refused. -/
def execRegaccUpdate (dr : BitVec 34) (s : State) : Host.Outcome State Fault Refusal := always (regaccUpdate dr) s

end Sys2Proof.Machine
end

