-- ==== Sys2Proof/Machine/RowsTick.lean ====
section
/-! DEFINITION. The meanings of the rows of the tick, the guard edge, the VD port, the pace monitor and the stillness watch (03, 13, 02). -/

namespace Sys2Proof.Machine

/-- TICK_EDGE (R55): A rising edge on TICK is accepted and, 3 RIM later, takes the snapshot that starts a tick. -/
def execTickEdge (dt : Nat) (s : State) : Host.Outcome State Fault Refusal := always (tickPin dt) s

/-- TICK_LOST (R58): No edge is accepted within 2 × PERIOD (or 100,000 RIM), so TICK is declared lost, with an
optional fallback to free-run. -/
def execTickLost (s : State) : Host.Outcome State Fault Refusal := whenRun (withEdge tickLost) s

/-- FREE_RUN_EXPIRY (R59): The free-run timer expires and takes a snapshot 3 RIM later. -/
def execFreeRunExpiry (s : State) : Host.Outcome State Fault Refusal := whenRun (withEdge freeRunExpiry) s

/-- DELAYED_PROGRAM_START (R74): A tick program delayed by in-flight background work starts on the stroke after that
work completes. -/
def execDelayedProgramStart (e : Nat) (s : State) : Host.Outcome State Fault Refusal := whenRun (delayedStart e) s

/-- GUARD_EDGE (R70): The guard counter reaches G; channels without an engine verdict get the buttress verdict with
class 7. -/
def execGuardEdge (s : State) : Host.Outcome State Fault Refusal := whenRun guardEdge s

/-- VD_REPORT (R344): The VD port drives the worst class and channel number with two VD_STB pulses, waiting for the
previous tick's pulses to end. -/
def execVdReport (s : State) : Host.Outcome State Fault Refusal := whenRun vdDrive s

/-- TRIP_HOLD_END (R351): A channel's TRIP_N hold ends 65,536 RIM after its last start. -/
def execTripHoldEnd (c : Nat) (s : State) : Host.Outcome State Fault Refusal := whenRun (tripHoldEnd c) s

/-- PACE_WINDOW_END (R42): At the end of each 1,024-RIM window the pace monitor publishes PERIOD, GOV and VALID. -/
def execPaceWindowEnd (n : Nat) (gov : Bool) (s : State) : Host.Outcome State Fault Refusal :=
  whenRun (paceWindowEnd n gov) s

/-- STILLNESS_FAULT (R50): The stillness counter reaches its limit; the unit is stopped and reset, its tags are
reclaimed and its operations complete STILL. -/
def execStillnessFault (u : StillUnit) (s : State) : Host.Outcome State Fault Refusal := whenRun (stillnessFault u) s

end Sys2Proof.Machine
end

