-- ==== Sys2Proof/Machine/Dispatch.lean ====
section
/-! DEFINITION. The dispatch: one arm per constructor of Instr, in the order of the table. -/

namespace Sys2Proof.Machine

def exec (i : Instr) (s : State) : Host.Outcome State Fault Refusal :=
  match i with
  | .tickEdge dt => Sys2Proof.Machine.execTickEdge dt s
  | .tickLost => Sys2Proof.Machine.execTickLost s
  | .freeRunExpiry => Sys2Proof.Machine.execFreeRunExpiry s
  | .delayedProgramStart e => Sys2Proof.Machine.execDelayedProgramStart e s
  | .guardEdge => Sys2Proof.Machine.execGuardEdge s
  | .vdReport => Sys2Proof.Machine.execVdReport s
  | .tripHoldEnd c => Sys2Proof.Machine.execTripHoldEnd c s
  | .paceWindowEnd n gov => Sys2Proof.Machine.execPaceWindowEnd n gov s
  | .stillnessFault u => Sys2Proof.Machine.execStillnessFault u s
  | .writeFrame bytes => Sys2Proof.Machine.execWriteFrame bytes s
  | .readFrame bytes => Sys2Proof.Machine.execReadFrame bytes s
  | .registerWrite src t r v => Sys2Proof.Machine.execRegisterWrite src t r v s
  | .windowWrite v => Sys2Proof.Machine.execWindowWrite v s
  | .windowRead n => Sys2Proof.Machine.execWindowRead n s
  | .lockSet => Sys2Proof.Machine.execLockSet s
  | .buttressOnly on => Sys2Proof.Machine.execButtressOnly on s
  | .tagLowWaterReset => Sys2Proof.Machine.execTagLowWaterReset s
  | .chEnable c => Sys2Proof.Machine.execChEnable c s
  | .chDisable c => Sys2Proof.Machine.execChDisable c s
  | .shutdownComplete c => Sys2Proof.Machine.execShutdownComplete c s
  | .chLearn c => Sys2Proof.Machine.execChLearn c s
  | .inWinClear c => Sys2Proof.Machine.execInWinClear c s
  | .faultWindowEnd c => Sys2Proof.Machine.execFaultWindowEnd c s
  | .engEnable e => Sys2Proof.Machine.execEngEnable e s
  | .engDisable e => Sys2Proof.Machine.execEngDisable e s
  | .bgStart e => Sys2Proof.Machine.execBgStart e s
  | .clrFault e => Sys2Proof.Machine.execClrFault e s
  | .bankSizeWrite e size => Sys2Proof.Machine.execBankSizeWrite e size s
  | .backgroundStart e => Sys2Proof.Machine.execBackgroundStart e s
  | .halt e => Sys2Proof.Machine.execHalt e s
  | .haltV e strokes => Sys2Proof.Machine.execHaltV e strokes s
  | .ldt e => Sys2Proof.Machine.execLdt e s
  | .stt e => Sys2Proof.Machine.execStt e s
  | .post e => Sys2Proof.Machine.execPost e s
  | .tagGrant => Sys2Proof.Machine.execTagGrant s
  | .tileI8I8 e => Sys2Proof.Machine.execTileI8I8 e s
  | .tileI4I4 e => Sys2Proof.Machine.execTileI4I4 e s
  | .tileI8I4 e => Sys2Proof.Machine.execTileI8I4 e s
  | .tileI8I6 e => Sys2Proof.Machine.execTileI8I6 e s
  | .vecAdd e => Sys2Proof.Machine.execVecAdd e s
  | .vecSub e => Sys2Proof.Machine.execVecSub e s
  | .vecMul e => Sys2Proof.Machine.execVecMul e s
  | .vecMulh e => Sys2Proof.Machine.execVecMulh e s
  | .vecMin e => Sys2Proof.Machine.execVecMin e s
  | .vecMax e => Sys2Proof.Machine.execVecMax e s
  | .vecAbs e => Sys2Proof.Machine.execVecAbs e s
  | .vecRelu e => Sys2Proof.Machine.execVecRelu e s
  | .vecClamp e => Sys2Proof.Machine.execVecClamp e s
  | .vecShr e => Sys2Proof.Machine.execVecShr e s
  | .vecShl e => Sys2Proof.Machine.execVecShl e s
  | .vecNarrow e => Sys2Proof.Machine.execVecNarrow e s
  | .vecWiden e => Sys2Proof.Machine.execVecWiden e s
  | .vecScale e => Sys2Proof.Machine.execVecScale e s
  | .vecLut e => Sys2Proof.Machine.execVecLut e s
  | .vecMove e => Sys2Proof.Machine.execVecMove e s
  | .vecBroadcast e => Sys2Proof.Machine.execVecBroadcast e s
  | .redSum e => Sys2Proof.Machine.execRedSum e s
  | .redSumsq e => Sys2Proof.Machine.execRedSumsq e s
  | .redMax e => Sys2Proof.Machine.execRedMax e s
  | .redMin e => Sys2Proof.Machine.execRedMin e s
  | .cmpGt e => Sys2Proof.Machine.execCmpGt e s
  | .cmpGe e => Sys2Proof.Machine.execCmpGe e s
  | .cmpLt e => Sys2Proof.Machine.execCmpLt e s
  | .cmpLe e => Sys2Proof.Machine.execCmpLe e s
  | .cmpEq e => Sys2Proof.Machine.execCmpEq e s
  | .cmpNe e => Sys2Proof.Machine.execCmpNe e s
  | .trace e => Sys2Proof.Machine.execTrace e s
  | .srnd e => Sys2Proof.Machine.execSrnd e s
  | .dgate e => Sys2Proof.Machine.execDgate e s
  | .seal e => Sys2Proof.Machine.execSeal e s
  | .ring e => Sys2Proof.Machine.execRing e s
  | .await e => Sys2Proof.Machine.execAwait e s
  | .tagwait e => Sys2Proof.Machine.execTagwait e s
  | .loop e => Sys2Proof.Machine.execLoop e s
  | .br e => Sys2Proof.Machine.execBr e s
  | .pumpCopy op defer => Sys2Proof.Machine.execPumpCopy op defer s
  | .pumpRelayout op defer => Sys2Proof.Machine.execPumpRelayout op defer s
  | .pumpGather op defer => Sys2Proof.Machine.execPumpGather op defer s
  | .pumpScatter op defer => Sys2Proof.Machine.execPumpScatter op defer s
  | .pumpWindow op defer => Sys2Proof.Machine.execPumpWindow op defer s
  | .pumpFill op defer => Sys2Proof.Machine.execPumpFill op defer s
  | .remoteRead op => Sys2Proof.Machine.execRemoteRead op s
  | .remoteWrite op => Sys2Proof.Machine.execRemoteWrite op s
  | .pumpCompletion op => Sys2Proof.Machine.execPumpCompletion op s
  | .wellWaitEnd op => Sys2Proof.Machine.execWellWaitEnd op s
  | .sampleCapture w sample opn stuck dt => Sys2Proof.Machine.execSampleCapture w sample opn stuck dt s
  | .wellEnable w => Sys2Proof.Machine.execWellEnable w s
  | .wellDisable w => Sys2Proof.Machine.execWellDisable w s
  | .epochEnd c => Sys2Proof.Machine.execEpochEnd c s
  | .sweepComplete c => Sys2Proof.Machine.execSweepComplete c s
  | .bankSwap c => Sys2Proof.Machine.execBankSwap c s
  | .scrubInterval => Sys2Proof.Machine.execScrubInterval s
  | .columnTest bank result bitPos => Sys2Proof.Machine.execColumnTest bank result bitPos s
  | .spareCopy bank => Sys2Proof.Machine.execSpareCopy bank s
  | .spareSwitch bank => Sys2Proof.Machine.execSpareSwitch bank s
  | .journalWrite => Sys2Proof.Machine.execJournalWrite s
  | .admitReq => Sys2Proof.Machine.execAdmitReq s
  | .wexport => Sys2Proof.Machine.execWexport s
  | .wimport => Sys2Proof.Machine.execWimport s
  | .mboxRetire => Sys2Proof.Machine.execMboxRetire s
  | .mboxReadmit => Sys2Proof.Machine.execMboxReadmit s
  | .mboxFaults => Sys2Proof.Machine.execMboxFaults s
  | .mboxRepair => Sys2Proof.Machine.execMboxRepair s
  | .supHalt on => Sys2Proof.Machine.execSupHalt on s
  | .supRestart => Sys2Proof.Machine.execSupRestart s
  | .supGo => Sys2Proof.Machine.execSupGo s
  | .goTimeout => Sys2Proof.Machine.execGoTimeout s
  | .supWfi => Sys2Proof.Machine.execSupWfi s
  | .supLoad addr size => Sys2Proof.Machine.execSupLoad addr size s
  | .supStore addr size v => Sys2Proof.Machine.execSupStore addr size v s
  | .supFence => Sys2Proof.Machine.execSupFence s
  | .supRing b inc => Sys2Proof.Machine.execSupRing b inc s
  | .supTry b => Sys2Proof.Machine.execSupTry b s
  | .supPeek b => Sys2Proof.Machine.execSupPeek b s
  | .bellsWrite b v => Sys2Proof.Machine.execBellsWrite b v s
  | .supPost slot pump => Sys2Proof.Machine.execSupPost slot pump s
  | .bankReadyMark c foreign => Sys2Proof.Machine.execBankReadyMark c foreign s
  | .fltQstat => Sys2Proof.Machine.execFltQstat s
  | .fltHeadRead k => Sys2Proof.Machine.execFltHeadRead k s
  | .fltPop => Sys2Proof.Machine.execFltPop s
  | .fltRetire v => Sys2Proof.Machine.execFltRetire v s
  | .fltReadmit v => Sys2Proof.Machine.execFltReadmit v s
  | .fltButtress v => Sys2Proof.Machine.execFltButtress v s
  | .fltRepair v => Sys2Proof.Machine.execFltRepair v s
  | .fltScrub v => Sys2Proof.Machine.execFltScrub v s
  | .shadowCfg c v => Sys2Proof.Machine.execShadowCfg c v s
  | .intCauseClear v => Sys2Proof.Machine.execIntCauseClear v s
  | .handover => Sys2Proof.Machine.execHandover s
  | .supTrap cause => Sys2Proof.Machine.execSupTrap cause s
  | .levelRequest level => Sys2Proof.Machine.execLevelRequest level s
  | .vidDwellExpiry => Sys2Proof.Machine.execVidDwellExpiry s
  | .vpgSettle => Sys2Proof.Machine.execVpgSettle s
  | .vpgTimeout => Sys2Proof.Machine.execVpgTimeout s
  | .vpgFall => Sys2Proof.Machine.execVpgFall s
  | .modeRunWrite => Sys2Proof.Machine.execModeRunWrite s
  | .sleepQueryAnswer agree => Sys2Proof.Machine.execSleepQueryAnswer agree s
  | .quiesceTimeout w => Sys2Proof.Machine.execQuiesceTimeout w s
  | .tickUnitTimeout => Sys2Proof.Machine.execTickUnitTimeout s
  | .hushGate => Sys2Proof.Machine.execHushGate s
  | .dormantEntry => Sys2Proof.Machine.execDormantEntry s
  | .wakeEdge => Sys2Proof.Machine.execWakeEdge s
  | .listenerMatch addr => Sys2Proof.Machine.execListenerMatch addr s
  | .dormantWake => Sys2Proof.Machine.execDormantWake s
  | .powerUp straps => Sys2Proof.Machine.execPowerUp straps s
  | .startStage => Sys2Proof.Machine.execStartStage s
  | .refclkTimeout => Sys2Proof.Machine.execRefclkTimeout s
  | .resetNAssert => Sys2Proof.Machine.execResetNAssert s
  | .resetNRelease => Sys2Proof.Machine.execResetNRelease s
  | .cryptBrownout => Sys2Proof.Machine.execCryptBrownout s
  | .flashBoot image quad => Sys2Proof.Machine.execFlashBoot image quad s
  | .rimSwitch => Sys2Proof.Machine.execRimSwitch s
  | .rimToFio => Sys2Proof.Machine.execRimToFio s
  | .pllLockLoss => Sys2Proof.Machine.execPllLockLoss s
  | .tbSelWrite sel => Sys2Proof.Machine.execTbSelWrite sel s
  | .tbChangeover => Sys2Proof.Machine.execTbChangeover s
  | .crystalStop => Sys2Proof.Machine.execCrystalStop s
  | .tbLogRead n => Sys2Proof.Machine.execTbLogRead n s
  | .linkEnable p => Sys2Proof.Machine.execLinkEnable p s
  | .linkDisable p => Sys2Proof.Machine.execLinkDisable p s
  | .linkRetire p => Sys2Proof.Machine.execLinkRetire p s
  | .linkUnretire p => Sys2Proof.Machine.execLinkUnretire p s
  | .trainingComplete p input => Sys2Proof.Machine.execTrainingComplete p input s
  | .laneLockLost p loss => Sys2Proof.Machine.execLaneLockLost p loss s
  | .hello p input => Sys2Proof.Machine.execHello p input s
  | .ack p bytes => Sys2Proof.Machine.execAck p bytes s
  | .nak p bytes => Sys2Proof.Machine.execNak p bytes s
  | .pause p bytes => Sys2Proof.Machine.execPause p bytes s
  | .req p bytes => Sys2Proof.Machine.execReq p bytes s
  | .rdata p bytes => Sys2Proof.Machine.execRdata p bytes s
  | .wdata p bytes => Sys2Proof.Machine.execWdata p bytes s
  | .wdone p bytes => Sys2Proof.Machine.execWdone p bytes s
  | .refuse p bytes => Sys2Proof.Machine.execRefuse p bytes s
  | .cancel p bytes => Sys2Proof.Machine.execCancel p bytes s
  | .cdone p bytes => Sys2Proof.Machine.execCdone p bytes s
  | .frameTransmit p => Sys2Proof.Machine.execFrameTransmit p s
  | .replayTimer p => Sys2Proof.Machine.execReplayTimer p s
  | .heldFrameTimeout p => Sys2Proof.Machine.execHeldFrameTimeout p s
  | .retryStep p => Sys2Proof.Machine.execRetryStep p s
  | .retryWindowEnd p => Sys2Proof.Machine.execRetryWindowEnd p s
  | .xferTimeout op => Sys2Proof.Machine.execXferTimeout op s
  | .injArm p v => Sys2Proof.Machine.execInjArm p v s
  | .injSeedWrite p v => Sys2Proof.Machine.execInjSeedWrite p v s
  | .cloLoad v => Sys2Proof.Machine.execCloLoad v s
  | .cloAbort => Sys2Proof.Machine.execCloAbort s
  | .cloConfigWord v => Sys2Proof.Machine.execCloConfigWord v s
  | .loadWordTimeout => Sys2Proof.Machine.execLoadWordTimeout s
  | .releaseStage => Sys2Proof.Machine.execReleaseStage s
  | .cloSafeWrite r v => Sys2Proof.Machine.execCloSafeWrite r v s
  | .quiesceAnswer w lines => Sys2Proof.Machine.execQuiesceAnswer w lines s
  | .sign src arg => Sys2Proof.Machine.execSign src arg s
  | .hmacInit src arg => Sys2Proof.Machine.execHmacInit src arg s
  | .hmacUpdate src arg => Sys2Proof.Machine.execHmacUpdate src arg s
  | .hmacFinal src arg => Sys2Proof.Machine.execHmacFinal src arg s
  | .program src arg => Sys2Proof.Machine.execProgram src arg s
  | .revoke src arg => Sys2Proof.Machine.execRevoke src arg s
  | .kcv src arg => Sys2Proof.Machine.execKcv src arg s
  | .secComplete => Sys2Proof.Machine.execSecComplete s
  | .ptrClr => Sys2Proof.Machine.execPtrClr s
  | .chalInWrite v => Sys2Proof.Machine.execChalInWrite v s
  | .respOutRead n => Sys2Proof.Machine.execRespOutRead n s
  | .idCertRead n => Sys2Proof.Machine.execIdCertRead n s
  | .tapReset => Sys2Proof.Machine.execTapReset s
  | .extest => Sys2Proof.Machine.execExtest s
  | .samplePreload => Sys2Proof.Machine.execSamplePreload s
  | .idcode => Sys2Proof.Machine.execIdcode s
  | .clamp => Sys2Proof.Machine.execClamp s
  | .highz => Sys2Proof.Machine.execHighz s
  | .regacc => Sys2Proof.Machine.execRegacc s
  | .bypass => Sys2Proof.Machine.execBypass s
  | .regaccUpdate dr => Sys2Proof.Machine.execRegaccUpdate dr s
  | .timebaseCount => Sys2Proof.Machine.execTimebaseCount s
  | .rimPllLock => Sys2Proof.Machine.execRimPllLock s
  | .blockLockRegained lock => Sys2Proof.Machine.execBlockLockRegained lock s
  | .flashImageByte read => Sys2Proof.Machine.execFlashImageByte read s

end Sys2Proof.Machine
end

