-- ==== Sys2Proof/Machine/UserClock.lean ====
section
/-! DEFINITION. The fabric's clocks: what one edge of the user clocks does to the logic of the walks, and the samples and
answers that user logic then gives (15). It is what a step does on an empty queue (log entry 40). -/

namespace Sys2Proof.Machine

/-- Levels on clock edges: the global nets before and after. -/
structure Edges where
  before : BitVec 8
  after : BitVec 8
deriving DecidableEq, Repr

/-- The net has the edge that a block's clock selects (R378). -/
def Edges.on (x : Edges) (net : Nat) (falling : Bool) : Bool :=
  if falling then x.before.getLsbD net && !x.after.getLsbD net else !x.before.getLsbD net && x.after.getLsbD net

/-- The levels that the board and the PLL dividers give now, and the global nets that follow (R382 to R384, R403). -/
def newLevels (s : State) : State :=
  let s1 := s.modClo (fun c => { c with pins := BitVec.ofNat 96 (bitsFrom 96 (Config.outside s.free)) })
  let cck (n : Nat) : Bool :=
    match s1.globalByte (2 * n) with
    | 0 => Config.outside s.free (96 + n)
    | x => padLevel s1 s.value (clockPin x / 24) (clockPin x % 24)
  let s2 := s1.modClo (fun c => { c with cck := BitVec.ofNat 2 (bitsFrom 2 cck) })
  let nets := BitVec.ofNat 8 (bitsFrom 8 (fun n => netLevel s2 (s.globalByte (4 + n))))
  s2.modClo (fun c => { c with nets := nets })

/-- The flip-flops of walk `w` after the edges `x`, from the signals of state `s` before them (R378, R386, R389, R392): held
while the reset part of GSR is asserted (R385). -/
def edgeFabric (s : State) (x : Edges) (w : Nat) : Fabric :=
  let f := (s.walk w).fabric
  let val := s.value
  if gsrReset s w then f
  else
    let cell (i : Nat) : Bool :=
      let c := cellOf s w i
      c.next (x.on c.clock c.falling) (val (cellInput s w i 4)) (val (cellInput s w i 5)) (f.cells.contains i) (val (.table w i))
    let io (now : BitVec 24) (level : Nat → Bool) : BitVec 24 := BitVec.ofNat 24 (bitsFrom 24 (fun i =>
      if x.on (s.ioField w i .ioClock % 8) (nbit (s.ioField w i .ioFalling) 0) then level i else now.getLsbD i))
    { f with
      cells := (List.range 3072).filter cell
      ioIn := io f.ioIn (padLevel s val w)
      ioOut := io f.ioOut (fun i => val (ioInput s w i 0))
      ioEn := io f.ioEn (fun i => val (ioInput s w i 1))
      macs := (List.range 12).map (fun k =>
        let c := macOf s w k
        if x.on c.clock c.falling then macNext s val w k else macRegs s w k) }

/-- Block memory `k` of walk `w` and its ports after the edges `x` (R388 to R390). Two ports on one edge of one net act
together; on different nets which of the two comes first is free. The write part of GSR stops writes (R385). -/
def edgeMemory (s : State) (x : Edges) (k : Nat) (w : Nat) (t : State) : State :=
  let val := s.value
  let clocked (p : Nat) : Bool := let c := portOf s w k p; x.on c.clock c.falling
  let use (p : Nat) : Option PortUse := if clocked p then accessOf s val w k p else none
  let a := portOf s w k 0
  let b := portOf s w k 1
  let same := decide (a.clock = b.clock) && decide (a.falling = b.falling)
  let m := nth (s.walk w).mems k []
  let m' := portsStore (use 0) (use 1) same (Config.outside s.free 98) m
  let port (p : Nat) : MemPort :=
    let o := memPort s w (2 * k + p)
    if gsrReset s w then o
    else
      match use p with
      | none => o
      | some u =>
        let old := (List.range 36).map (fun i => o.data.getLsbD i)
        { data := BitVec.ofNat 36 (bitList (portReads u (use (1 - p)) same (Config.outside s.free 99) old m m')), reg := o.data }
  t.modWalk w (fun q => { q with
    mems := modAt q.mems k (portsStore (use 0) (use 1) same (Config.outside s.free 98))
    fabric := { q.fabric with ports := modAt (modAt q.fabric.ports (2 * k) (fun _ => port 0)) (2 * k + 1) (fun _ => port 1) } })

/-- Walk `w` after the edges `x`. -/
def edgeWalk (s : State) (x : Edges) (w : Nat) (t : State) : State :=
  foldS (fun k t => edgeMemory s x k w t) (List.range 8) (t.modWalk w (fun q => { q with fabric := edgeFabric s x w }))

/-- SNAP pulses after a rising edge of their clock (R395). -/
def snapStep (rose : Bool) (xs : List Nat) : List Nat :=
  if rose then (xs.map (fun n => n - 1)).filter (fun n => decide (0 < n)) else xs

/-- CCKn rose from state `s` to state `t`. -/
def cckRose (s t : State) (n : Nat) : Bool := !s.clo.cck.getLsbD n && t.clo.cck.getLsbD n

/-- One set of edges of the user clocks: the board's pins, the PLL dividers and the global nets take new levels, and what
they clock takes the values its inputs had before. -/
def clockEdge (s : State) : State :=
  let s1 := newLevels s
  let x : Edges := { before := s.clo.nets, after := s1.clo.nets }
  let s2 := foldS (edgeWalk s x) [0, 1, 2, 3] s1
  s2.modClo (fun c => { c with snap0 := snapStep (cckRose s s1 0) c.snap0, snap1 := snapStep (cckRose s s1 1) c.snap1 })

/-- Input `k` of the port of well `w`: D from 0, VALID 24, OPEN 25, STUCK 26 (R394). -/
def portInput (s : State) (w k : Nat) : Bool :=
  s.value (inputOf (walkOfWell w) (s.wellField (walkOfWell w) (w % 16) (.wellInput k)) none)

/-- The SAMPLE_CAPTURE that the port of well `w` gives on these edges from state `s` to `t` (R394): it registers its inputs on
each rising edge of the CCKn that FORMAT.CCK selects; a sample, or a line that differs from the one last seen, is passed on. -/
def portCommand (s t : State) (w : Nat) : List Instr :=
  let v := portInput s w 24
  let o := portInput s w 25
  let k := portInput s w 26
  if wellPortLive s w = true ∧ cckRose s t (b2n (wbit (s.well w).format 13)) = true ∧
      (v = true ∨ o ≠ (s.well w).openLine ∨ k ≠ (s.well w).stuckLine) then
    [.sampleCapture w ⟨BitVec.ofNat 24 (bitsFrom 24 (portInput s w)), v⟩ o k 0]
  else []

/-- The QUIESCE_ANSWER that user logic of walk `w` gives on a rising edge of CCK0 (R396). -/
def quiesceCommand (s t : State) (w : Nat) : List Instr :=
  let out (n : Nat) : Bool := s.value (inputOf w (s.routeField w (.quiesce n)) none)
  if walkQueried s w = true ∧ cckRose s t 0 = true ∧ (out 0 = true ∨ out 1 = true) then [.quiesceAnswer w ⟨out 0, out 1⟩]
  else []

/-- What user logic gives on the edges from state `s` to `t`, as commands. -/
def userCommands (s t : State) : List Instr :=
  (List.range 64).flatMap (portCommand s t) ++ [0, 1, 2, 3].flatMap (quiesceCommand s t)

/-- After the edges from state `s` to `t` some RIM cycles pass, and what user logic gave waits. -/
def afterEdges (s t : State) : State :=
  { t.pass (Config.freeWord s.free).toNat with free := s.free + 1, pending := userCommands s t }

/-- Some time with no command from outside: while the user clocks run, one set of their edges, and what user logic gives on
them waits as commands; else the device idles (log entry 40). -/
def userClock (s : State) : State := if userClocksOn s = false then s else afterEdges s (clockEdge s)

end Sys2Proof.Machine
end

