-- ==== Sys2Proof/Machine/Package.lean ====
section
/-! DEFINITION. The package (22): the ball map (R562 to R568), the state of every signal's pin (R569), and the boundary cells
(R584, R585). These are observations of the state; no command depends on them. -/

namespace Sys2Proof.Machine

/-! ## Signals and rails (R568, R569) -/

/-- A supply, or ground. -/
inductive Rail where
  | core | mem | rim | crypt | pll | lnk | lnkA | ioA | ioB | ioC | cp | vss
deriving DecidableEq, Repr

/-- A signal; a differential ball has `neg` for its N leg. -/
inductive Signal where
  | cpSck | cpMosi | cpCsN | cpMiso | cpAlertN
  | tick | wake | tripN
  | vd (i : Nat) | vdStb
  | resetN | addr (i : Nat) | boot (i : Nat) | tripSafe | testEn
  | bfSck | bfCsN | bfD (i : Nat)
  | tck | tms | tdi | trstN | tdo
  | vid (i : Nat) | vpg | vsnsCore | gsnsCore
  | refclk | lnkRefclk (neg : Bool) | lnkRref | xlfIn | xlfOut
  | io (n : Nat) | prb (n : Nat)
  | tx (port lane : Nat) (neg : Bool) | rx (port lane : Nat) (neg : Bool)
deriving DecidableEq, Repr

/-- What a ball carries. -/
inductive Ball where
  | signal (x : Signal)
  | rail (r : Rail)
deriving DecidableEq, Repr

/-- A ground ball. -/
abbrev vss : Ball := .rail .vss

/-! ## The ball map (R562 to R567): rows and columns 1 to 26 -/

/-- `x` where the number is even, ground where it is odd. -/
def evenBall (n : Nat) (x : Rail) : Ball := if n % 2 = 0 then .rail x else vss

/-- Corner NW with the lanes of port `p` (R565). -/
def cornerBall (p r c : Nat) : Ball :=
  let lane (f : Nat → Nat → Bool → Signal) : Ball :=
    if c = 1 ∨ c = 4 then vss else .signal (f p (b2n (decide (4 < c))) (decide (c = 3 ∨ c = 6)))
  if r = 1 then lane .tx
  else if r = 3 then lane .rx
  else if r = 5 then (if c = 1 ∨ c = 5 then .rail .lnkA else if c = 2 ∨ c = 4 then .rail .lnk else vss)
  else if r = 6 then (if c = 2 ∨ c = 3 ∨ c = 5 then .rail .lnk else vss)
  else vss

/-- The North edge at depth `d` and column `c` (R564). -/
def northBall (d c : Nat) : Ball :=
  match d with
  | 1 => .signal (.io (c - 7))
  | 2 => if c = 7 ∨ c = 20 then .rail .ioA else if c < 18 then .signal (.io (14 + (c - 8))) else .signal (.prb (c - 18))
  | 3 => vss
  | _ => evenBall c .ioA

/-- The East edge at depth `d` and row `r`. -/
def eastBall (d r : Nat) : Ball :=
  match d with
  | 1 => .signal (.io (24 + (r - 7)))
  | 2 =>
    if r = 7 then .rail .ioA
    else if r < 18 then .signal (.io (38 + (r - 8)))
    else if r = 20 then .rail .ioB
    else .signal (.prb (2 + (r - 18)))
  | 3 => vss
  | _ => evenBall r (if r ≤ 14 then .ioA else .ioB)

/-- The South edge at depth `d` and column `c`. -/
def southBall (d c : Nat) : Ball :=
  match d with
  | 1 => .signal (.io (48 + (c - 7)))
  | 2 =>
    if c = 7 then .rail .ioB
    else if c < 18 then .signal (.io (62 + (c - 8)))
    else if c = 20 then .rail .ioC
    else .signal (.prb (4 + (c - 18)))
  | 3 => vss
  | _ => evenBall c (if c ≤ 14 then .ioB else .ioC)

/-- The West edge at depth `d` and row `r`. -/
def westBall (d r : Nat) : Ball :=
  match d with
  | 1 => .signal (.io (72 + (r - 7)))
  | 2 =>
    if r = 7 ∨ r = 20 then .rail .ioC else if r < 18 then .signal (.io (86 + (r - 8))) else .signal (.prb (6 + (r - 18)))
  | 3 => vss
  | _ => evenBall r .ioC

/-- The lines of the inner ring (R566), each from column 7 or row G on. -/
def ringE : List Ball :=
  [.signal .cpSck, .signal .cpCsN, .signal .cpMosi, .signal .cpMiso, .signal .cpAlertN, .rail .cp, .signal .tick,
   .signal .tripN, .signal (.vd 0), .signal (.vd 1), .signal (.vd 2), .signal (.vd 3), .signal .vdStb, .signal .wake]
def ringF : List Ball :=
  [vss, .signal .resetN, .signal (.addr 0), .signal (.addr 1), .signal (.addr 2), .rail .cp, .signal (.boot 0),
   .signal (.boot 1), .signal .tripSafe, vss, .rail .cp, .signal .testEn, vss, .rail .cp]
def ring22 : List Ball :=
  [vss, .signal (.lnkRefclk false), .signal (.lnkRefclk true), vss, .signal .lnkRref, vss, .signal .refclk, vss, .rail .pll,
   .rail .pll, vss, .signal .xlfIn, .signal .xlfOut, vss]
def ring21 : List Ball :=
  [vss, .rail .rim, vss, .rail .rim, vss, .rail .rim, vss, .rail .rim, .rail .crypt, .rail .crypt, vss, vss, vss, .rail .rim]
def ringAC : List Ball :=
  [.signal .bfSck, .signal .bfCsN, .signal (.bfD 0), .signal (.bfD 1), .signal (.bfD 2), .signal (.bfD 3), .rail .cp,
   .signal (.vid 0), .signal (.vid 1), .signal (.vid 2), .signal (.vid 3), .signal (.vid 4), .signal .vpg, vss]
def ringAB : List Ball :=
  [vss, .rail .cp, vss, .signal .vsnsCore, .signal .gsnsCore, vss, .rail .rim, vss, .rail .rim, vss, .rail .rim, vss,
   .rail .rim, vss]
def ring5 : List Ball :=
  [.signal .tck, .signal .tms, .signal .tdi, .signal .tdo, .signal .trstN, .rail .cp, vss, .rail .rim, vss, .rail .rim, vss,
   .rail .rim, vss, .rail .rim]

/-- The core region (R567). -/
def coreBall (i j : Nat) : Ball :=
  if (i + j) % 2 = 0 then vss else if i = 13 ∨ i = 14 then .rail .mem else .rail .core

/-- The ball in row `i` and column `j`, each 1 to 26, by regions (R563). -/
def ballAt (i j : Nat) : Ball :=
  let midRow := decide (7 ≤ i ∧ i ≤ 20)
  let midCol := decide (7 ≤ j ∧ j ≤ 20)
  if midRow && midCol then coreBall i j
  else if midCol then
    if i ≤ 4 then northBall i j
    else if i = 5 then nth ringE (j - 7) vss
    else if i = 6 then nth ringF (j - 7) vss
    else if i = 21 then nth ringAB (j - 7) vss
    else if i = 22 then nth ringAC (j - 7) vss
    else southBall (27 - i) j
  else if midRow then
    if j ≤ 4 then westBall j i
    else if j = 5 then nth ring5 (i - 7) vss
    else if j = 6 then (if i % 2 = 1 then .rail .rim else vss)
    else if j = 21 then nth ring21 (i - 7) vss
    else if j = 22 then nth ring22 (i - 7) vss
    else eastBall (27 - j) i
  else
    let south := decide (20 < i)
    let east := decide (20 < j)
    cornerBall (if south then (if east then 2 else 3) else b2n east) (if south then 27 - i else i) (if east then 27 - j else j)

/-- All 676 balls, row by row. -/
def allBalls : List Ball :=
  (List.range 26).flatMap (fun i => (List.range 26).map (fun j => ballAt (i + 1) (j + 1)))

/-- The balls of one rail (R568). -/
def railBalls (r : Rail) : Nat := (allBalls.filter (fun b => decide (b = .rail r))).length

/-! ## Pin states (R569) -/

/-- What the device does at a signal's ball. -/
inductive PinState where
  | input                        -- In
  | ignored                      -- Ign
  | floating (u : Pull)          -- Z, Z↑, Z↓
  | driven (level : Bool)        -- 0, 1, driven
  | openDrain (low : Bool)       -- OD: pulling low or not
  | answer (bytes : List Byte)   -- CP_MISO, with the bytes of the frame's answer
  | pad (p : Pad)                -- a user pin
  | lane (sending : Bool)        -- a transmit lane: sending, or idle at common mode
  | terminated                   -- a receive lane
  | analog
  | unpowered
deriving DecidableEq, Repr

/-- The columns of the signal table. -/
inductive PinColumn where
  | reset | run | hush | dormant
deriving DecidableEq, Repr

/-- The column that holds now. -/
def pinColumn (s : State) : PinColumn :=
  match s.power.mode with
  | .run => .run
  | .hush => .hush
  | .dormant => .dormant
  | _ => .reset

/-- An input that acts in every state but those of `off`. -/
def inputPin (s : State) (off : List PinColumn) : PinState := if off.contains (pinColumn s) then .ignored else .input

/-- The pin of a signal under its functional driver. The boot flash is idle between the commands that read it. -/
def functionalPin (s : State) : Signal → PinState
  | .cpSck => inputPin s [.reset]
  | .cpMosi => inputPin s [.reset]
  | .cpCsN => inputPin s [.reset]
  | .cpMiso =>
    match pinColumn s, s.ctl.answer with
    | .dormant, _ => .floating .none
    | _, some bs => .answer bs
    | _, none => .floating .none
  | .cpAlertN =>
    match pinColumn s with
    | .run => .openDrain (alertLow s)
    | .hush => .openDrain (alertLow s)
    | _ => .floating .none
  | .tick => inputPin s [.reset]
  | .wake => .input
  | .tripN => .openDrain (tripLow s)
  | .vd i =>
    match pinColumn s with
    | .reset => .driven false
    | .dormant => .floating .down
    | _ => .driven (s.tick.vd.getLsbD i)
  | .vdStb =>
    match pinColumn s with
    | .reset => .driven false
    | .dormant => .floating .down
    | _ => .driven s.tick.vdStb
  | .resetN => .input
  | .addr _ => inputPin s [.run, .hush, .dormant]
  | .boot _ => inputPin s [.run, .hush, .dormant]
  | .tripSafe => inputPin s [.run, .hush, .dormant]
  | .testEn => .ignored
  | .bfSck =>
    match pinColumn s with
    | .run => .driven false
    | .hush => .driven false
    | _ => .floating .down
  | .bfCsN =>
    match pinColumn s with
    | .run => .driven true
    | .hush => .driven true
    | _ => .floating .up
  | .bfD _ => .floating .up
  | .tck => inputPin s [.dormant]
  | .tms => inputPin s [.dormant]
  | .tdi => inputPin s [.dormant]
  | .trstN => inputPin s [.dormant]
  | .tdo => .floating .none
  | .vid i => .driven ((BitVec.ofNat 5 (vidPins s)).getLsbD i)
  | .vpg => .input
  | .vsnsCore => .analog
  | .gsnsCore => .analog
  | .refclk => inputPin s [.dormant]
  | .lnkRefclk _ => if pinColumn s = .dormant then .unpowered else .input
  | .lnkRref => if pinColumn s = .dormant then .unpowered else .analog
  | .xlfIn => .analog
  | .xlfOut => .analog
  | .io n =>
    let w := n / 24
    let i := n % 24
    .pad (userPad s w i (ioOutput s s.value w i) (ioEnable s s.value w i))
  | .prb n =>
    match pinColumn s with
    | .run => .driven (probePin s n)
    | .hush => .driven (probePin s n)
    | _ => .floating .down
  | .tx n _ _ =>
    if pinColumn s = .dormant ∨ s.part.links ≤ n then .unpowered
    else
      let st := (s.port n).st
      .lane (decide (pinColumn s = .run) && decide (st = .training ∨ st = .up ∨ st = .retry))
  | .rx n _ _ => if pinColumn s = .dormant ∨ s.part.links ≤ n then .unpowered else .terminated

/-! ## Boundary cells (R584, R585) -/

/-- Signals with a boundary cell: all but the JTAG pins, the lanes, LNK_REFCLK and the analog balls. -/
def hasCell : Signal → Bool
  | .tck => false
  | .tms => false
  | .tdi => false
  | .trstN => false
  | .tdo => false
  | .tx _ _ _ => false
  | .rx _ _ _ => false
  | .lnkRefclk _ => false
  | .vsnsCore => false
  | .gsnsCore => false
  | .lnkRref => false
  | .xlfIn => false
  | .xlfOut => false
  | _ => true

/-- The boundary cell of a signal. The cell order is in the BSDL file and not in the manual: the model takes that of the
ball map (DESIGN CHOICE, log entry 51). -/
def cellIndex (x : Signal) : Nat :=
  (allBalls.filter (fun b => match b with | .signal y => hasCell y | .rail _ => false)).idxOf (.signal x)

/-- Outputs with a cell, open-drain ones among them. -/
def cellDrives : Signal → Bool
  | .cpMiso => true
  | .cpAlertN => true
  | .tripN => true
  | .vd _ => true
  | .vdStb => true
  | .bfSck => true
  | .bfCsN => true
  | .bfD _ => true
  | .vid _ => true
  | .io _ => true
  | .prb _ => true
  | _ => false

/-- The pin of a signal: under EXTEST and CLAMP a covered output takes its boundary value, where the cell of an open-drain
signal controls its pull-down (the pull-down is on at 0); under HIGHZ it is high impedance; else its functional driver. With
its supply out of range a pin is high impedance (R609). -/
def pinState (s : State) (x : Signal) : PinState :=
  let v := nbit s.tap.boundary (cellIndex x)
  if s.power.mode = .off then .floating .none
  else if cellDrives x = false then functionalPin s x
  else
    match s.tap.ins with
    | .extest => if x = .tripN ∨ x = .cpAlertN then .openDrain (!v) else .driven v
    | .clamp => if x = .tripN ∨ x = .cpAlertN then .openDrain (!v) else .driven v
    | .highz => .floating .none
    | _ => functionalPin s x

/-- The instruction of a 6-bit code (R582): IDCODE, REGACC and the boundary instructions by their codes; every other code
selects the bypass register. -/
def TapIns.ofCode (n : Nat) : TapIns :=
  match n with
  | 0 => .extest
  | 1 => .sample
  | 2 => .idcode
  | 4 => .clamp
  | 5 => .highz
  | 16 => .regacc
  | _ => .bypass

end Sys2Proof.Machine
end

