-- ==== Sys2Proof/Safety.lean ====
section
/-! DEFINITION. What the claims say about states: the units of the device, the canonical form of its register file and
memories, the bounds of its queues and counters, and what a completed command is. -/

namespace Sys2Proof.Machine

/-- The numbers of units that a state holds: channels, wells, engines, pumps, bells, cistern banks, store bank groups,
post slots, walks and link ports. -/
structure Shape where
  chans : Nat
  wells : Nat
  engs : Nat
  pumps : Nat
  bells : Nat
  banks : Nat
  stores : Nat
  slots : Nat
  walks : Nat
  ports : Nat
deriving DecidableEq, Repr

/-- The shape of a state. -/
def State.shape (s : State) : Shape :=
  { chans := s.chans.length, wells := s.wells.length, engs := s.engs.length, pumps := s.pumps.length,
    bells := s.bells.length, banks := s.banks.length, stores := s.storeBanks.length, slots := s.sup.slots.length,
    walks := s.clo.walks.length, ports := s.ports.length }

/-- The shape the manual gives a part (R1, R2, R4): the families that both parts share, and the engines and link ports
that the part has. -/
def Part.shape (p : Part) : Shape :=
  { chans := 16, wells := 64, engs := p.engines, pumps := 8, bells := 64, banks := 16, stores := p.engines, slots := 8,
    walks := 4, ports := p.links }

/-- A state of the part `p`: the units are those of the part. -/
def State.ofPart (s : State) (p : Part) : Prop := s.part = p ∧ s.shape = Part.shape p

/-- What no command changes outside a reset: the part, the units, and the queue of waiting commands. -/
def State.frame (s : State) : Part × Shape × List Instr := (s.part, s.shape, s.pending)

/-! ## Sound states -/

/-- The register file is canonical: keys strictly rising, no entry equal to its register's reset value. -/
def RegFile.wf (p : Part) (b : Straps) (r : RegFile) : Prop :=
  r.Pairwise (fun x y => x.1 < y.1) ∧ ∀ x ∈ r, x.2 ≠ resetWord p b x.1

/-- Every engine's store is canonical. -/
def storesOk (xs : List Engine) : Prop := ∀ g ∈ xs, Memory.wf g.store = true

/-- No bell counts past 255 (R246). -/
def bellsOk (xs : List Bell) : Prop := ∀ b ∈ xs, b.count ≤ 255

/-- Every post slot's descriptor is a canonical memory. -/
def slotsOk (xs : List Slot) : Prop := ∀ l ∈ xs, Memory.wf l.desc = true

/-- A walk's configuration and block memories are canonical. -/
def Walk.ok (k : Walk) : Prop := Memory.wf k.config = true ∧ ∀ m ∈ k.mems, Memory.wf m = true

/-- Every walk's memories are canonical. -/
def walksOk (xs : List Walk) : Prop := ∀ k ∈ xs, Memory.wf k.config = true ∧ ∀ m ∈ k.mems, Memory.wf m = true

/-- A sound state: the register file and every memory canonical, and the bounds the manual sets: 64 fault records (R462),
64 queued journal entries (R361), four timebase log entries (R537), bells up to 255 (R246). -/
structure State.sound (s : State) : Prop where
  regs : RegFile.wf s.part s.straps s.regs
  cist : Memory.wf s.cist = true
  stores : storesOk s.engs
  sram : Memory.wf s.sup.sram = true
  slots : slotsOk s.sup.slots
  walks : walksOk s.clo.walks
  faults : s.faults.queue.length ≤ 64
  journal : s.journal.queue.length ≤ 64
  log : s.tbase.log.length ≤ 4
  bells : bellsOk s.bells

/-- The operations in flight stand oldest first, each under a number of its own below the next one (the model's
numbers: log entry 10). -/
def State.numbered (s : State) : Prop := s.ops.Pairwise (fun a b => a.id < b.id) ∧ ∀ o ∈ s.ops, o.id < s.nextOp

/-- No journal entries of a snapshot edge wait to be numbered: between steps there are none (R360). -/
def State.settled (s : State) : Prop := s.journal.stage = none

/-- The instruction `i` of run `r` is what engine `e` does next, and it issues: the device is in Run, the program is
running and waits neither at a bell nor for a tag, the word it fetches decodes to `i` once the strides of the open loops
are added, no trap of R206 to R208 and R214 applies, no interlock of R217 holds it, and what it reads has no
uncorrectable error (R200; the first delta TILE of a refresh tick does not read C, R371). -/
structure State.reaches (s : State) (e : Nat) (r : Run) (i : Ins) : Prop where
  up : s.power.mode = .run
  run : (s.eng e).run = some r
  bell : r.waitBell = none
  tag : r.stalled = none
  word : ∃ w i0, fetchIns s e r = .ok w ∧ decodeIns w = some i0 ∧ i = i0.strided r.loops
  lane : badLane i = false
  operands : touchTrap (touches s e r i) = 0
  mode : modeTrap r i = 0
  free : mustHold s e r i (touches s e r i) = false
  whole : ∀ x ∈ readRanges e r (refreshed s e r i) (touches s e r (refreshed s e r i)), storeBad s e x.1 x.2 = false

/-- The outcome is a next state. -/
def completes (o : Host.Outcome State Fault Refusal) : Prop := ∃ t, o = .next t

end Sys2Proof.Machine
end

