-- ==== Sys2Proof/Certificates/Slice0/Obligations.lean ====
section
/-! DEFINITION. The statements for the provers. -/

open Sys2Proof Sys2Proof.Machine

/-! ## The machine -/

/-- A step takes the command at the front of the queue and runs it on the state that holds the rest of the queue. With an
empty queue the user clocks run on while there are any, and else the device idles (log entry 40: the model's choice). -/
def Obligations.StepTakesFront : Prop :=
  ∀ (s : State),
    (∀ (c : Instr) (rest : List Instr), s.pending = c :: rest → step s = exec c (s.withPending rest)) ∧
    (s.pending = [] → step s = .next (userClock s) ∧ (userClocksOn s = false → step s = .next s))

/-- No command changes the queue of the commands that wait behind it. -/
def Obligations.CommandsKeepQueue : Prop :=
  ∀ (c : Instr) (s : State), ∃ t, exec c s = .next t ∧ t.pending = s.pending ∧ t.part = s.part

/-- Every step keeps the part and its numbers of units: channels, wells, engines, pumps, bells, banks, store banks,
post slots, walks and link ports (R1, R2, R4). -/
def Obligations.StepKeepsPart : Prop :=
  ∀ (p : Part) (s t : State), s.ofPart p → step s = .next t → t.ofPart p

/-- Every step keeps a sound state: the register file and every memory stay canonical, the fault queue holds at most
64 records, the journal queue at most 64 entries, the timebase log at most four, and no bell counts past 255; it keeps
the operations in flight numbered in the order of their acceptance, below the next number (the model's numbers: log
entry 10); and it leaves no journal entry of a snapshot edge unnumbered. -/
def Obligations.StepKeepsSound : Prop :=
  (∀ (s t : State), s.sound → step s = .next t → t.sound) ∧
  (∀ (s t : State), s.numbered → step s = .next t → t.numbered) ∧
  (∀ (s t : State), s.settled → step s = .next t → t.settled)

/-- The state after reset is a sound state of the IDP1640 with nothing in flight, every channel Off, every link port
Down, LOCK = 0, the timebase at 0, and the reset values that 05 gives DEV_ID, DEV_EVENT_MASK, FREE_PERIOD,
GUARD_POINT, PWR_LEVEL, CH_ENGINE_MAP, CH_THRESH and ENG_STILL_LIMIT. Which edge after a cold start it is, is the
model's choice: log entry 1. -/
def Obligations.ResetIsSound : Prop :=
  State.reset.ofPart .idp1640 ∧ State.reset.sound ∧ State.reset.numbered ∧ State.reset.settled ∧
    State.reset.ops = [] ∧
    (∀ c, c < 16 → (State.reset.chan c).st = .off ∧ State.reset.rd (CH c) 0x02 = word c ∧
      State.reset.rd (CH c) 0x08 = 0xFFFF) ∧
    (∀ p, p < 4 → (State.reset.port p).st = .down) ∧ (∀ e, e < 16 → State.reset.rd (ENG e) 0x04 = 0x0010) ∧
    locked State.reset = false ∧ State.reset.tb = 0 ∧ State.reset.rd DEV 0x00 = 0x1640 ∧
    State.reset.rd DEV 0x06 = 0xFFFF ∧ State.reset.rd DEV 0x22 = 0x186A ∧ State.reset.rd DEV 0x28 = 0x005A ∧
    State.reset.rd PWR 0x00 = 0x0001

/-! ## The tick, the guard, the VD port and the monitors (02, 03, 13) -/

/-- R56: an edge less than 3,000 RIM after the previous accepted edge starts no tick and enters no interval; it sets
TICK_CTRL.RUNT and raises TICK_RUNT. -/
def Obligations.EarlyTickEdgeIsRunt : Prop :=
  ∀ (dt e : Nat) (s : State), s.sound → s.power.mode = .run → s.tick.lastEdge = some e → s.now + dt < e + 3000 →
    ∃ t, exec (.tickEdge dt) s = .next t ∧ t.tick = s.tick ∧ t.rd DEV 0x21 = s.rd DEV 0x21 ∧
      t.bit DEV 0x20 11 = true ∧ t.bit DEV 0x05 evTickRunt = true ∧ t.chans = s.chans ∧ t.engs = s.engs ∧
      t.wells = s.wells

/-- TICK_EDGE: with SRC = 0 in force an accepted edge takes a snapshot edge and starts a tick (R55, R67): the edge is
entered as the last accepted one, the tick number goes up by one, and the guard counter starts from the snapshot.
FREE_RUN_EXPIRY: the timer expires, takes its snapshot 3 RIM later and runs on with the FREE_PERIOD that stands at the
expiry (R59). Each started edge begins a SNAP0 and a SNAP1 pulse while a global frame is in effect (R395). TICK_LOST: with no
edge accepted in 2 × PERIOD RIM (100,000 RIM while VALID = 0) under SRC = 0, TICK_CTRL.LOST sets and the event is raised;
with FALLBACK = 1 SRC sets and the free-run timer expires on the detecting edge (R58). -/
def Obligations.SourcesStartTicksAndLossFallsBack : Prop :=
  (∀ (dt : Nat) (s : State), s.sound → s.power.mode = .run → s.power.committed = none →
    s.tick.src = false → s.tick.stopped = false →
    (if s.tick.pend then s.bit DEV 0x20 15 else s.tick.en) = true →
    (∀ e, s.tick.lastEdge = some e → e + 3000 ≤ s.now + dt) →
    ∃ t, exec (.tickEdge dt) s = .next t ∧ t.now = s.now + dt + 2 ∧ t.tick.lastEdge = some (s.now + dt) ∧
      t.tick.number = s.tick.number + 1 ∧ t.tick.snapAt = s.now + dt + 2 ∧ t.tick.open_ = true ∧ t.tick.lost = false ∧
      (s.clo.global ≠ [] → t.clo = { s.clo with snap0 := s.clo.snap0 ++ [3], snap1 := s.clo.snap1 ++ [3] })) ∧
  (∀ (s : State) (d : Nat), s.power.mode = .run → s.tick.en = true → s.tick.pend = false → s.tick.stopped = false →
    s.tick.freeDue = some d →
    ∃ t, exec .freeRunExpiry s = .next t ∧ t.now = max s.now d + 3 ∧ t.tick.number = s.tick.number + 1 ∧
      t.tick.snapAt = max s.now d + 3 ∧ t.tick.open_ = true ∧ t.tick.freeDue = some (d + (s.rd DEV 0x22).toNat)) ∧
  (∀ (s : State) (r : Nat), s.sound → s.power.mode = .run → s.tick.src = false → s.tick.lost = false →
    s.tick.pend = false → s.tick.lossRef = some r →
    ∃ t, exec .tickLost s = .next t ∧
      t.now = max s.now (r + (if s.bit DEV 0x20 10 then 2 * (s.rd DEV 0x21).toNat else 100000)) ∧
      t.bit DEV 0x20 12 = true ∧ t.bit DEV 0x05 evTickLost = true ∧ t.tick.number = s.tick.number ∧
      (s.tick.fallback = true → t.tick.src = true ∧ t.bit DEV 0x20 14 = true ∧ t.tick.freeDue = some t.now) ∧
      (s.tick.fallback = false → t.tick.src = false ∧ t.bit DEV 0x20 14 = s.bit DEV 0x20 14))

/-- R83: in Hush, Dormant and Off the device ignores TICK and starts no ticks. R54: while ENABLE = 0 is in force
neither source starts a tick, and a tick already past its snapshot edge is left to run. -/
def Obligations.NoTickWhileDisabledOrAsleep : Prop :=
  (∀ (dt : Nat) (s : State), s.power.mode = .hush ∨ s.power.mode = .dormant ∨ s.power.mode = .off →
    ∃ t, exec (.tickEdge dt) s = .next t ∧ t.tick.number = s.tick.number ∧ t.tick.lastEdge = s.tick.lastEdge) ∧
  (∀ (dt : Nat) (s : State), s.power.mode = .run → s.tick.en = false → s.tick.pend = false →
    (∃ t, exec (.tickEdge dt) s = .next t ∧ t.tick.number = s.tick.number ∧ t.tick.open_ = s.tick.open_ ∧
      t.engs = s.engs ∧ t.chans = s.chans) ∧
    (∃ t, exec .freeRunExpiry s = .next t ∧ t.tick.number = s.tick.number ∧ t.tick.open_ = s.tick.open_ ∧
      t.engs = s.engs ∧ t.chans = s.chans))

/-- R70, R72: on the guard edge a channel in Active or Watch that has no verdict latches class 7 with score 0xFFFF,
and LATE_COUNT takes one for each such channel; a channel in another state, or one that has latched, keeps its verdict
registers. The edge stands G RIM after the snapshot (R67), and every engine's background issue is fenced (R73). -/
def Obligations.GuardEdgeLatchesLate : Prop :=
  ∀ (p : Part) (s : State), s.ofPart p → s.sound → s.power.mode = .run → s.tick.open_ = true →
    ∃ t, exec .guardEdge s = .next t ∧ t.now = max s.now (s.tick.snapAt + s.tick.guard) ∧ t.tick.open_ = false ∧
      (∀ c, c < 16 → (s.chan c).st.onDuty = true → (s.chan c).served = true → (s.chan c).latched = false →
        (t.chan c).latched = true ∧ (t.chan c).repClass = 7 ∧ t.rd (CH c) 0x10 = 0xFFFF ∧
        wfld (t.rd (CH c) 0x11) 0 4 = 7 ∧ t.bit DEV 0x05 evLate = true) ∧
      (∀ c, c < 16 → ((s.chan c).st.onDuty = false ∨ (s.chan c).latched = true) →
        (t.chan c).latched = (s.chan c).latched ∧ (t.chan c).repClass = (s.chan c).repClass ∧
        t.rd (CH c) 0x10 = s.rd (CH c) 0x10 ∧ t.rd (CH c) 0x11 = s.rd (CH c) 0x11) ∧
      (t.rd DEV 0x25).toNat = min 0xFFFF ((s.rd DEV 0x25).toNat +
        ((List.range 16).filter (fun c =>
          (s.chan c).st.onDuty && (s.chan c).served && !(s.chan c).latched)).length) ∧
      (∀ e, e < p.engines → (t.eng e).fenced = some s.tick.number)

/-- VD_REPORT: the oldest formed report is driven: VD[3:0] carry its class on the first pulse and its channel number
afterwards, with two VD_STB pulses, and nothing else of the device moves (R344). TRIP_HOLD_END: a channel's TRIP_N
hold ends 65,536 RIM after its last start, and nothing else of the channels moves (R351).
PACE_WINDOW_END (R42, R43, R44): under R43's conditions a completed window sets PERIOD = ⌈5,120,000 / N⌉ up to 4095 and
VALID = 1; OVER and the event set when two windows in a row exceed the level's guarantee; without the conditions VALID reads
0 and PERIOD holds. -/
def Obligations.ReportsHoldsAndPaceWindows : Prop :=
  (∀ (s : State) (cls c : Nat) (q : List (Nat × Nat)), s.power.mode = .run → s.tick.vdQueue = (cls, c) :: q →
    cls < 16 → c < 16 →
    ∃ t, exec .vdReport s = .next t ∧ t.tick.vdClass.toNat = cls ∧ t.tick.vd.toNat = c ∧
      t.tick.vdPulses = s.tick.vdPulses + 2 ∧ t.tick.vdStb = false ∧ t.tick.vdQueue = q ∧
      t = { s with tick := { s.tick with vd := t.tick.vd, vdClass := t.tick.vdClass, vdPulses := t.tick.vdPulses,
                                         vdStb := t.tick.vdStb, vdQueue := t.tick.vdQueue } }) ∧
  (∀ (s : State) (c u : Nat), s.power.mode = .run → (s.chan c).holdEnd = some u → c < s.chans.length →
    ∃ t, exec (.tripHoldEnd c) s = .next t ∧ t.now = max s.now u ∧ tripping t c = false ∧
      (∀ x, x ≠ c → t.chan x = s.chan x) ∧ t.regs = s.regs ∧ t.engs = s.engs ∧ t.tick = s.tick) ∧
  (∀ (n : Nat) (gov : Bool) (s : State), s.sound → s.power.mode = .run → 0 < n →
    (s.power.rimPll = true → s.power.change = none → s.pace.full = true →
      ∃ t, exec (.paceWindowEnd n gov) s = .next t ∧
        wfld (t.rd DEV 0x24) 0 12 = min 4095 ((5120000 + n - 1) / n) ∧ t.bit DEV 0x24 15 = true ∧
        t.bit DEV 0x24 14 = gov ∧ t.tick = s.tick ∧
        (guarantee (levelNow s) < min 4095 ((5120000 + n - 1) / n) → 1 ≤ s.pace.overs →
          t.bit DEV 0x24 13 = true ∧ t.bit DEV 0x05 evPaceOver = true) ∧
        (guarantee (levelNow s) ≥ min 4095 ((5120000 + n - 1) / n) ∨ s.pace.overs = 0 →
          t.bit DEV 0x24 13 = s.bit DEV 0x24 13 ∧ t.rd DEV 0x05 = s.rd DEV 0x05)) ∧
    (s.power.rimPll = false ∨ s.power.change.isSome = true →
      ∃ t, exec (.paceWindowEnd n gov) s = .next t ∧ t.bit DEV 0x24 15 = false ∧
        wfld (t.rd DEV 0x24) 0 12 = wfld (s.rd DEV 0x24) 0 12 ∧ t.tick = s.tick))

/-- The tick in progress is marked for a fault when there is one, and STILL is raised (R50). -/
def Sys2Proof.Machine.stillMarked (s t : State) : Prop :=
  t.bit DEV 0x05 evStill = true ∧ (tickDone s = false → t.bit DEV 0x26 14 = true)

/-- DELAYED_PROGRAM_START: once no background operation of the engine is in flight, the delayed tick program starts at
instruction 0 (R74), when no other engine has a program due. R48, R50 for each kind of unit that has work and is in no
declared wait: a still engine, pump or tag pool has its operations in flight all completed and its tags reclaimed, a still
bank is fenced (R51), a still bell unit's waits end without a decrement, the tick in progress is marked PROMISE_BROKEN
and STILL is raised. A unit without work is not still, nor is an engine in a declared wait or with LIMIT = 0. -/
def Obligations.DelayedStartAndStillness : Prop :=
  (∀ (e : Nat) (s : State) (r : Run) (rest : List Run), s.power.mode = .run → e < s.part.engines →
    e < s.engs.length → (s.eng e).overhang = true → bgInFlight s e = false → (s.eng e).run = none →
    (s.eng e).due = r :: rest → (∀ x, x ≠ e → (s.eng x).due = []) →
    storeBad s e (dirBase + 16 * r.kind.slot) 16 = false →
    (dirEntry s e r.kind.slot).runnable r.kind.isTick = true →
    ∃ t q, exec (.delayedProgramStart e) s = .next t ∧ (t.eng e).overhang = false ∧ (t.eng e).run = some q ∧
      q.kind = r.kind ∧ q.pc = 0 ∧ q.entry = (dirEntry s e r.kind.slot).entry ∧ q.len = (dirEntry s e r.kind.slot).len ∧
      (t.eng e).due = rest ∧ (t.eng e).store = (s.eng e).store) ∧
  (∀ (s : State), s.sound → s.power.mode = .run →
    (∀ e r, e < s.engs.length → (s.eng e).run = some r → declaredWait s e r = false → s.fld (ENG e) 0x04 0 12 ≠ 0 →
      ∃ t, exec (.stillnessFault (.engine e)) s = .next t ∧ (∀ o ∈ t.ops, o.byEngine e = false) ∧
        stillMarked s t) ∧
    (∀ p, pumpWorks s p = true →
      ∃ t, exec (.stillnessFault (.pump p)) s = .next t ∧ pumpBusy t p = false ∧ stillMarked s t) ∧
    (∀ b, b < 16 → b < s.banks.length → (s.bank b).fenced = false →
      ∃ t, exec (.stillnessFault (.bank b)) s = .next t ∧ (t.bank b).fenced = true ∧ t.ops = s.ops ∧ t.cist = s.cist ∧
        stillMarked s t) ∧
    (s.ops ≠ [] →
      ∃ t, exec (.stillnessFault .tagPool) s = .next t ∧ t.ops = [] ∧ freeTags t = 256 ∧ stillMarked s t) ∧
    (∀ b, b < 64 → (s.bell b).waiters ≠ [] → s.bells.length = 64 →
      ∃ t, exec (.stillnessFault .bells) s = .next t ∧ t.ops = s.ops ∧
        (∀ k, t.bell k = { s.bell k with waiters := [] }) ∧
        (∀ e g, (s.eng e).run = some g → (e, g.kind.isTick) ∈ (s.bell b).waiters → g.waitBell.isSome = true →
          (t.eng e).run = some { g.advance with waitBell := none }) ∧ stillMarked s t) ∧
    (∀ e, (∀ r, (s.eng e).run = some r → declaredWait s e r = true ∨ s.fld (ENG e) 0x04 0 12 = 0) →
      exec (.stillnessFault (.engine e)) s = .next s) ∧
    (∀ p, pumpWorks s p = false → exec (.stillnessFault (.pump p)) s = .next s))

/-! ## The control port, the registers and the table window (04, 05) -/

/-- A write frame to this device: byte 0 with bit 0 = 0, target, first offset, N, the words high byte first, and the CRC
(R86, R87). -/
def Sys2Proof.Machine.wordsFrame (s : State) (t r : Nat) (ws : List Word) : List Byte :=
  let body := [byte (2 * chipAddress s), byte t, byte r, byte ws.length] ++ ws.flatMap wireBytes
  body ++ [byte (crc8 body)]

/-- A WRITE_FRAME of one word to a register whose 16 bits are RW, and a REGISTER_WRITE of it by the host, the JTAG
access path or the supervisor: the register takes the word and no other register or unit changes; the frame counts in
SEQ with outcome OK (R90, R96, R99, R104). R102: a word written to a group target goes to every member: a threshold
word to CALL reaches all sixteen channels. R123 for a threshold word of a channel: while LOCK = 1 a word that would
change it is refused from the control port, with outcome REJECTED and FRAME_ERR; one that leaves it is not; while LOCK
= 0 it is written. R11: writing 0 to a W1C bit has no effect, and writing 1 clears it: DEV_EVENT after a write of `v`
holds the bits that stood and are 0 in `v`. -/
def Obligations.RegisterWordsAreWritten : Prop :=
  (∀ (s : State) (t r : Nat) (v : Word), s.sound → s.power.mode = .run →
    (t, r) ∈ [(DEV, 0x06), (DEV, 0x10), (DEV, 0x13), (DEV, 0x14), (DEV, 0x17), (SUP, 0x08), (SUP, 0x0B)] →
    (∃ u, exec (.writeFrame (wordsFrame s t r [v])) s = .next u ∧ u.rd t r = v ∧
      (∀ t' r', key t' r' ≠ key t r → u.rd t' r' = s.rd t' r') ∧
      u = { s with regs := u.regs, ctl := { s.ctl with wlast := 0, seq := (s.ctl.seq + 1) % 16, answer := none } }) ∧
    (∀ src, src = .host ∨ (src = .supervisor ∧ supActs s = true) ∨ src = .jtag →
      ∃ u, exec (.registerWrite src (BitVec.ofNat 8 t) (BitVec.ofNat 8 r) v) s = .next u ∧ u.rd t r = v ∧
        (∀ t' r', key t' r' ≠ key t r → u.rd t' r' = s.rd t' r') ∧ u.chans = s.chans ∧ u.engs = s.engs ∧
        u.cist = s.cist ∧ u.power = s.power)) ∧
  (∀ (s : State) (r : Nat) (v : Word), s.sound → s.power.mode = .run → locked s = false → 8 ≤ r → r ≤ 15 →
    ∃ u, exec (.writeFrame (wordsFrame s 0x37 r [v])) s = .next u ∧ u.ctl.wlast = 0 ∧
      (∀ c, c < 16 → u.rd (CH c) r = v) ∧
      (∀ t' r', (∀ c, c < 16 → key t' r' ≠ key (CH c) r) → u.rd t' r' = s.rd t' r')) ∧
  (∀ (s : State) (c r : Nat) (v : Word), s.sound → s.power.mode = .run → c < 16 → 8 ≤ r → r ≤ 15 →
    (locked s = true → v ≠ s.rd (CH c) r →
      ∃ u, exec (.writeFrame (wordsFrame s (CH c) r [v])) s = .next u ∧ u.rd (CH c) r = s.rd (CH c) r ∧
        u.ctl.wlast = 5 ∧ u.ctl.seq = (s.ctl.seq + 1) % 16 ∧ u.bit DEV 0x04 15 = true ∧
        u.bit DEV 0x05 evFrame = true ∧ u.chans = s.chans) ∧
    (locked s = false ∨ v = s.rd (CH c) r →
      ∃ u, exec (.writeFrame (wordsFrame s (CH c) r [v])) s = .next u ∧ u.rd (CH c) r = v ∧ u.ctl.wlast = 0 ∧
        u.rd DEV 0x04 = s.rd DEV 0x04 ∧ u.chans = s.chans)) ∧
  (∀ (s : State) (v : Word) (j : Nat), s.sound → s.power.mode = .run → j < 16 →
    ∃ u, exec (.registerWrite .host 0x00 0x05 v) s = .next u ∧
      u.bit DEV 0x05 j = (s.bit DEV 0x05 j && !wbit v j) ∧ u.ctl = s.ctl)

/-- R90, R97: in Run a write frame addressed to this device whose bytes are short or break the limits has outcome
LENGTH, else one whose CRC does not match has outcome CRC; nothing of it is executed: only DEV_STATUS.FRAME_ERR and
the event change. READ_FRAME: a sound read of `n` words of a target that is no window is answered with the status
word, the registers from the first offset on, each as it reads, and the CRC over both, and leaves the rest of the
device as it is (R87, R92, R105). -/
def Obligations.FramesAreCheckedAndAnswered : Prop :=
  (∀ (s : State) (bs : List Byte), s.sound → s.power.mode = .run → addressed s bs = true → frameByte bs 0 % 2 = 0 →
    (bs.length < 4 ∨ limitBroken (frameByte bs 1) (frameByte bs 2) (frameByte bs 3) = true ∨
        bs.length < 5 + 2 * frameByte bs 3 →
      ∃ u, exec (.writeFrame bs) s = .next u ∧ u.ctl.wlast = 2 ∧ u.ctl.seq = s.ctl.seq ∧ u.bit DEV 0x04 15 = true ∧
        (∀ t' r', key t' r' ≠ key DEV 0x04 → key t' r' ≠ key DEV 0x05 → u.rd t' r' = s.rd t' r') ∧
        u.chans = s.chans ∧ u.engs = s.engs ∧ u.cist = s.cist ∧ u.power = s.power) ∧
    (4 ≤ bs.length → limitBroken (frameByte bs 1) (frameByte bs 2) (frameByte bs 3) = false →
        5 + 2 * frameByte bs 3 ≤ bs.length →
        crc8 (bs.take (4 + 2 * frameByte bs 3)) ≠ frameByte bs (4 + 2 * frameByte bs 3) →
      ∃ u, exec (.writeFrame bs) s = .next u ∧ u.ctl.wlast = 1 ∧ u.ctl.seq = s.ctl.seq ∧ u.bit DEV 0x04 15 = true ∧
        (∀ t' r', key t' r' ≠ key DEV 0x04 → key t' r' ≠ key DEV 0x05 → u.rd t' r' = s.rd t' r') ∧
        u.chans = s.chans ∧ u.engs = s.engs ∧ u.cist = s.cist ∧ u.power = s.power)) ∧
  (∀ (s : State) (t r n : Nat), s.power.mode = .run → t ∈ [DEV, SUP, PWR, CLO, CH 0, CH 15, ENG 0, ENG 7] →
    1 ≤ n → n ≤ 128 → r + n ≤ 256 → (∀ k, k < n → isWindow t (r + k) = false) →
    ∃ u, exec (.readFrame (readCommand s t r n)) s = .next u ∧
      (let body := wireBytes (statusWord s 0) ++ (List.range n).flatMap (fun k =>
          wireBytes (if (regInfo s.part s.straps t (r + k)).isSome then regRead s t (r + k) else 0))
       u.ctl.answer = some (body ++ [byte (crc8 body)])) ∧
      u = { s with ctl := u.ctl } ∧ u.ctl.wlast = s.ctl.wlast ∧ u.ctl.seq = s.ctl.seq)

/-- WINDOW_WRITE and WINDOW_READ on an engine's store: a word takes effect in the selected table at the pointer, byte
2a in bits 7:0 and byte 2a + 1 in bits 15:8, and the pointer moves on by one; a word at or past the table's end is not
performed and sets TBL_STATUS.RANGE, and the pointer moves on all the same (R126, R128, R129, R133). WINDOW_READ: a
read frame of `n` words at TBL_DATA returns the words of the selected table from the pointer on, and moves the pointer
on by `n` (R94, R126), here on the export table. -/
def Obligations.TableWindow : Prop :=
  (∀ (s : State) (v : Word), s.sound → s.power.mode = .run → tblTable s = 2 → tblIndex s < s.part.engines →
    s.engs.length = s.part.engines →
    (tblPtr s < 0xC0000 → storeBad s (tblIndex s) (2 * tblPtr s) 2 = false →
      ∃ u, exec (.windowWrite v) s = .next u ∧ tblPtr u = tblPtr s + 1 ∧
        memRead (u.eng (tblIndex s)).store (2 * tblPtr s) = byte (v.toNat % 256) ∧
        memRead (u.eng (tblIndex s)).store (2 * tblPtr s + 1) = byte (v.toNat / 256) ∧
        (∀ a, a ≠ 2 * tblPtr s → a ≠ 2 * tblPtr s + 1 →
          memRead (u.eng (tblIndex s)).store a = memRead (s.eng (tblIndex s)).store a) ∧
        (∀ e, e ≠ tblIndex s → (u.eng e).store = (s.eng e).store) ∧ u.cist = s.cist) ∧
    (0xC0000 ≤ tblPtr s →
      ∃ u, exec (.windowWrite v) s = .next u ∧ tblPtr u = (tblPtr s + 1) % 2 ^ 32 ∧ u.bit DEV 0x0C 13 = true ∧
        u.engs = s.engs ∧ u.cist = s.cist)) ∧
  (∀ (s : State) (n : Nat), s.sound → s.power.mode = .run → tblTable s = 5 → tblIndex s = 0 → 1 ≤ n → n ≤ 128 →
    tblPtr s + n ≤ 0x80 →
    ∃ u, exec (.windowRead n) s = .next u ∧ tblPtr u = tblPtr s + n ∧ u.tables = s.tables ∧
      (∃ st : Word, let body := wireBytes st ++ (List.range n).flatMap (fun k =>
          wireBytes ((assoc s.tables.exportTbl (tblPtr s + k)).getD 0))
       u.ctl.answer = some (body ++ [byte (crc8 body)])))

/-- LOCK_SET sets LOCK and changes nothing else; from then on a host word that would change an RWL field is refused:
BUTTRESS_ONLY (R123, R343). TAG_LOW_WATER_RESET loads MARK with the present FREE (R139). -/
def Obligations.DeviceControlRows : Prop :=
  ∀ (s : State), s.sound → s.power.mode = .run →
    (∃ u, exec .lockSet s = .next u ∧ locked u = true ∧ u = { s with regs := u.regs } ∧
      (∀ t' r', key t' r' ≠ key DEV 0x03 → u.rd t' r' = s.rd t' r') ∧
      (∀ j, j < 15 → u.bit DEV 0x03 j = s.bit DEV 0x03 j)) ∧
    (∀ on, locked s = false →
      ∃ u, exec (.buttressOnly on) s = .next u ∧ u.bit DEV 0x03 14 = on ∧ u = { s with regs := u.regs } ∧
        (∀ t' r', key t' r' ≠ key DEV 0x03 → u.rd t' r' = s.rd t' r')) ∧
    (∀ on, locked s = true → on ≠ s.bit DEV 0x03 14 →
      ∃ u, exec (.buttressOnly on) s = .next u ∧ u.rd DEV 0x03 = s.rd DEV 0x03 ∧ u.bit DEV 0x04 15 = true) ∧
    (s.ops.length ≤ 256 →
      ∃ u, exec .tagLowWaterReset s = .next u ∧ (u.rd DEV 0x19).toNat = 256 - s.ops.length ∧
        u = { s with regs := u.regs } ∧ (∀ t' r', key t' r' ≠ key DEV 0x19 → u.rd t' r' = s.rd t' r'))

/-- R124: LOCK returns to 0 only through a cold start, RESET_N or a Dormant wake (whose reset acts where the power
goes): every other command, Hush and its exit among them, keeps it. -/
def Obligations.LockFallsOnlyByReset : Prop :=
  ∀ (c : Instr) (s t : State), s.sound → locked s = true → exec c s = .next t → locked t = false →
    (∃ b, c = .powerUp b) ∨ c = .cryptBrownout ∨ c = .resetNAssert ∨ c = .dormantEntry ∨ c = .dormantWake

/-! ## Rules of the whole device -/

/-- R534: the timebase counts only edges of its source, by one each, in Run, Hush and Dormant alike; besides, only a
loss or a return of VIN_CRYPT changes the count (R513, R556). -/
def Obligations.OnlyEdgesCountTimebase : Prop :=
  (∀ (s : State), s.power.mode ≠ .off → ∃ t, exec .timebaseCount s = .next t ∧ t.tb = (s.tb + 1) % 2 ^ 48 ∧
    t = { s with tb := t.tb }) ∧
  (∀ (c : Instr) (s t : State), exec c s = .next t → t.tb ≠ s.tb →
    c = .timebaseCount ∨ (∃ b, c = .powerUp b) ∨ c = .cryptBrownout)

/-- The binding fuses are one-way: whatever command comes, resets, sleep and the loss of supply among them, a slot
that is used stays used, a revoked one stays revoked (R553, R556), and a used slot is never programmed again: its key
changes only when the PROGRAM that is running on it completes (R552). -/
def Obligations.BindingFusesAreOneWay : Prop :=
  ∀ (c : Instr) (s t : State) (n : Nat), exec c s = .next t →
    ((s.slot n).used = true → (t.slot n).used = true) ∧
    ((s.slot n).revoked = true → (t.slot n).revoked = true) ∧
    ((s.slot n).used = true → (∀ r, s.sec.run = some r → r.cmd = 5 → r.arg ≠ n) → (t.slot n).key = (s.slot n).key)

/-- The device leaves Run only into Hush and Dormant by the commits of a sleep entry, into a reset, or off (R504,
R507, R513, R519). -/
def Obligations.RunIsLeftOnlyBySleepOrReset : Prop :=
  ∀ (c : Instr) (s t : State), s.power.mode = .run → exec c s = .next t → t.power.mode ≠ .run →
    (c = .hushGate ∧ s.power.committed = some 1 ∧ t.power.mode = .hush) ∨
    (c = .dormantEntry ∧ s.power.committed = some 2 ∧ t.power.mode = .dormant) ∨
    (c = .resetNAssert ∧ t.power.mode = .starting) ∨ (c = .cryptBrownout ∧ t.power.mode = .off)

/-! ## Channels and learning (06, 12, 18) -/

/-- CH_ENABLE, CH_DISABLE and CH_LEARN between ticks, where the row takes effect as on a snapshot edge; during a tick the
written field waits for the next snapshot edge (R78; log entry 16: the model's choice). CH_ENABLE (R156, R158, R161): a
channel that is Off enters Active, or Retired under a retired mark; its epoch
position and departure state are 0, CLEAR and REFRESH set, HOLD clear; CHAN is raised. A channel in Stopping is
re-armed. No other channel changes. CH_DISABLE and SHUTDOWN_COMPLETE (R159 to R162): with work outstanding the channel
enters Stopping; with none it passes through Stopping and reads Off; a re-armed channel in Stopping loses the re-arm;
and the completion of the last outstanding work takes a channel in Stopping to Off, or leaves it waiting there for its
edge when it is re-armed. CH_LEARN, IN_WIN_CLEAR and FAULT_WINDOW_END (R319, R465): LEARN comes into force; IN_WIN = 0
ends the fault window and TOTAL stands; the window's end returns a Watch channel to Active unless a fault tick waits
to be counted. -/
def Obligations.ChannelControl : Prop :=
  (∀ (p : Part) (s : State) (c : Nat), s.ofPart p → s.sound → s.power.mode = .run → c < 16 → midTick s = true →
    (∃ t, exec (.chEnable c) s = .next t ∧ t = { s with regs := t.regs } ∧ t.bit (CH c) 0x00 15 = true ∧
      t.bit (CH c) 0x00 14 = s.bit (CH c) 0x00 14 ∧ (∀ t' r', key t' r' ≠ key (CH c) 0x00 → t.rd t' r' = s.rd t' r')) ∧
    (∃ t, exec (.chDisable c) s = .next t ∧ t = { s with regs := t.regs } ∧ t.bit (CH c) 0x00 15 = false ∧
      t.bit (CH c) 0x00 14 = s.bit (CH c) 0x00 14 ∧ (∀ t' r', key t' r' ≠ key (CH c) 0x00 → t.rd t' r' = s.rd t' r')) ∧
    exec (.chLearn c) s = .next s) ∧
  (∀ (p : Part) (s : State) (c : Nat), s.ofPart p → s.sound → s.power.mode = .run → c < 16 → midTick s = false →
    ((s.chan c).st = .off → (s.chan c).retMark = false →
      ∃ t, exec (.chEnable c) s = .next t ∧ (t.chan c).st = .active ∧ (t.chan c).enabled = true ∧
        (t.chan c).learn.pos = 0 ∧ (t.chan c).learn.exp = s.fld (CH c) 0x04 0 5 ∧ (t.chan c).learn.clear = true ∧
        (t.chan c).learn.hold = false ∧ (t.chan c).drift.refresh = true ∧ (t.chan c).drift.counter = 0 ∧
        (t.chan c).dep = false ∧ t.bit (CH c) 0x00 15 = true ∧ t.bit DEV 0x05 evChan = true ∧
        (∀ x, x ≠ c → t.chan x = s.chan x) ∧ t.engs = s.engs ∧ t.wells = s.wells) ∧
    ((s.chan c).st = .off → (s.chan c).retMark = true →
      ∃ t, exec (.chEnable c) s = .next t ∧ (t.chan c).st = .retired ∧ (t.chan c).enabled = true ∧
        (∀ x, x ≠ c → t.chan x = s.chan x)) ∧
    ((s.chan c).st = .stopping → (s.chan c).done = false →
      ∃ t, exec (.chEnable c) s = .next t ∧ t.chan c = { s.chan c with rearmed := true } ∧
        (∀ x, x ≠ c → t.chan x = s.chan x))) ∧
  (∀ (p : Part) (s : State) (c : Nat), s.ofPart p → s.sound → s.power.mode = .run → c < 16 → midTick s = false →
    ((s.chan c).st.counting = true → outstanding s c = true →
      ∃ t, exec (.chDisable c) s = .next t ∧ (t.chan c).st = .stopping ∧ (t.chan c).enabled = false ∧
        t.bit (CH c) 0x00 15 = false ∧ t.bit DEV 0x05 evChan = true ∧ (∀ x, x ≠ c → t.chan x = s.chan x)) ∧
    ((s.chan c).st.counting = true → outstanding s c = false →
      ∃ t, exec (.chDisable c) s = .next t ∧ (t.chan c).st = .off ∧ (t.chan c).enabled = false ∧
        (t.chan c).learn.clear = true ∧ (∀ x, x ≠ c → t.chan x = s.chan x)) ∧
    ((s.chan c).st = .stopping → (s.chan c).done = false →
      ∃ t, exec (.chDisable c) s = .next t ∧ t.chan c = { s.chan c with rearmed := false } ∧
        (∀ x, x ≠ c → t.chan x = s.chan x)) ∧
    (∃ t, exec (.chLearn c) s = .next t ∧ t.chan c = { s.chan c with learnOn := s.bit (CH c) 0x00 14 } ∧
      (∀ x, x ≠ c → t.chan x = s.chan x) ∧ t.regs = s.regs)) ∧
  (∀ (p : Part) (s : State) (c : Nat), s.ofPart p → s.sound → s.power.mode = .run → c < 16 →
    ((s.chan c).st = .stopping → (s.chan c).done = false → outstanding s c = false →
      ∃ t, exec (.shutdownComplete c) s = .next t ∧ (t.chan c).learn.clear = true ∧
        (t.chan c).st = (if (s.chan c).rearmed then .stopping else .off) ∧ (t.chan c).done = (s.chan c).rearmed ∧
        (∀ x, x ≠ c → t.chan x = s.chan x) ∧ t.engs = s.engs) ∧
    (∃ t, exec (.inWinClear c) s = .next t ∧ t.chan c = { s.chan c with winLeft := none } ∧
      wfld (t.rd (CH c) 0x12) 0 8 = 0 ∧ wfld (t.rd (CH c) 0x12) 8 8 = wfld (s.rd (CH c) 0x12) 8 8 ∧
      (∀ x, x ≠ c → t.chan x = s.chan x)) ∧
    ((s.chan c).winLeft.isSome = true →
      ∃ t, exec (.faultWindowEnd c) s = .next t ∧ (t.chan c).winLeft = none ∧ wfld (t.rd (CH c) 0x12) 0 8 = 0 ∧
        wfld (t.rd (CH c) 0x12) 8 8 = wfld (s.rd (CH c) 0x12) 8 8 ∧
        (t.chan c).st = (if (s.chan c).st = .watch ∧ (s.chan c).faultTick = false then .active else (s.chan c).st) ∧
        (∀ x, x ≠ c → t.chan x = s.chan x)))

/-- EPOCH_END of a channel in Active or Watch (R313, R314, R315): position 0, the written length in force, one journal
entry; with ENABLE and LEARN in force and no HOLD, taint or buttress mode a sweep starts on every engine of the map,
else CLEAR sets. SWEEP_COMPLETE and BANK_SWAP (R316, R317, R320): the last part's completion sets READY, but not in
Stopping; on an edge with READY in a counting state ACTIVE toggles, READY and HOLD clear, CLEAR and REFRESH set. -/
def Obligations.EpochsAndSweeps : Prop :=
  (∀ (p : Part) (s : State) (c : Nat), s.ofPart p → s.sound → s.power.mode = .run → c < 16 →
    (s.chan c).st.onDuty = true → s.tick.buttressOnly = false → epochDue s c = true → s.settled →
    s.journal.queue.length < 64 →
    ∃ t, exec (.epochEnd c) s = .next t ∧ (t.chan c).learn.pos = 0 ∧
      (t.chan c).learn.exp = s.fld (CH c) 0x04 0 5 ∧ (t.chan c).learn.tainted = false ∧
      t.journal.queue.length = s.journal.queue.length + 1 ∧ (∀ x, x ≠ c → t.chan x = s.chan x) ∧
      (s.bit (CH c) 0x00 15 = true → (s.chan c).learnOn = true → (s.chan c).learn.hold = false →
        (s.chan c).learn.tainted = false →
        (t.chan c).learn.sweepOn = true ∧ (t.chan c).learn.hold = true ∧ (t.chan c).learn.parts = chanEngines s c ∧
          (∀ e, e ∈ chanEngines s c → e < p.engines → c ∈ (t.eng e).sweeps) ∧
          (t.chan c).learn.clear = (s.chan c).learn.clear) ∧
      (s.bit (CH c) 0x00 15 = false ∨ (s.chan c).learnOn = false ∨ (s.chan c).learn.hold = true ∨
          (s.chan c).learn.tainted = true →
        (t.chan c).learn.sweepOn = (s.chan c).learn.sweepOn ∧ (t.chan c).learn.clear = true ∧ t.engs = s.engs)) ∧
  (∀ (p : Part) (s : State) (c : Nat), s.ofPart p → s.power.mode = .run → c < 16 →
    ((s.chan c).learn.sweepOn = true → (s.chan c).learn.parts = [] → (s.chan c).learn.sweepBad = false →
      (s.chan c).st ≠ .off →
      ∃ t, exec (.sweepComplete c) s = .next t ∧ (t.chan c).learn.sweepOn = false ∧
        (t.chan c).learn.ready = (if (s.chan c).st = .stopping then (s.chan c).learn.ready else true) ∧
        (t.chan c).learn.active = (s.chan c).learn.active ∧ (∀ x, x ≠ c → t.chan x = s.chan x) ∧ t.engs = s.engs) ∧
    ((s.chan c).learn.ready = true → (s.chan c).st.counting = true →
      ∃ t, exec (.bankSwap c) s = .next t ∧ (t.chan c).learn.active = !(s.chan c).learn.active ∧
        (t.chan c).learn.ready = false ∧ (t.chan c).learn.hold = false ∧ (t.chan c).learn.clear = true ∧
        (t.chan c).drift.refresh = true ∧ (t.chan c).st = (s.chan c).st ∧ (∀ x, x ≠ c → t.chan x = s.chan x) ∧
        t.engs = s.engs ∧ t.regs = s.regs))

/-! ## Engines (08) -/

/-- ENG_ENABLE, ENG_DISABLE and CLR_FAULT (R166, R221); ENABLE acts between ticks as on a snapshot edge, and waits for the
next one during a tick (log entry 16: the model's choice): ENABLE comes into force, or re-arms a stopping engine that
still works; ENABLE = 0 stops new programs and drops a pending job while what runs goes on; CLR_FAULT clears FAULTED
and FAULT. BG_START (R224): an engine in force, not retired or stopping, with no job running or pending accepts the
job BG_SEL, which pends while background issue is closed; any other start only sets BG_REFUSED. BANK_SIZE_WRITE (R323,
R10): SIZE is written while every channel that maps the engine is Off; otherwise the write is discarded with
CFG_CONFLICT; 0xBF to 0xFF are reserved and set FRAME_ERR. BACKGROUND_START (R222): while background issue is open the
fenced program resumes; with none, an enabled engine starts its lowest pending sweep, else its pending job; while it
is closed nothing starts. -/
def Obligations.EngineControlAndJobs : Prop :=
  (∀ (p : Part) (s : State) (e : Nat), s.ofPart p → s.sound → s.power.mode = .run → e < p.engines → midTick s = true →
    (∃ t, exec (.engEnable e) s = .next t ∧ t = { s with regs := t.regs } ∧ t.bit (ENG e) 0x00 15 = true ∧
      (∀ t' r', key t' r' ≠ key (ENG e) 0x00 → t.rd t' r' = s.rd t' r')) ∧
    (∃ t, exec (.engDisable e) s = .next t ∧ t = { s with regs := t.regs } ∧ t.bit (ENG e) 0x00 15 = false ∧
      (∀ t' r', key t' r' ≠ key (ENG e) 0x00 → t.rd t' r' = s.rd t' r'))) ∧
  (∀ (p : Part) (s : State) (e : Nat), s.ofPart p → s.sound → s.power.mode = .run → e < p.engines → midTick s = false →
    ((s.eng e).retired = false → (s.eng e).stopping = false ∨ engQuiet s e = true →
      ∃ t, exec (.engEnable e) s = .next t ∧
        t.eng e = { s.eng e with enabled := true, stopping := false, rearmed := false } ∧
        t.bit (ENG e) 0x00 15 = true ∧ (∀ x, x ≠ e → t.eng x = s.eng x) ∧ t.chans = s.chans) ∧
    ((s.eng e).retired = false → (s.eng e).stopping = true → engQuiet s e = false →
      ∃ t, exec (.engEnable e) s = .next t ∧ t.eng e = { s.eng e with rearmed := true } ∧
        (∀ x, x ≠ e → t.eng x = s.eng x) ∧ t.chans = s.chans) ∧
    (∃ t, exec (.engDisable e) s = .next t ∧
      t.eng e = { s.eng e with enabled := false, rearmed := false, bgPend := none,
                               stopping := ((s.eng e).stopping || (s.eng e).enabled) } ∧
      t.bit (ENG e) 0x00 15 = false ∧ (∀ x, x ≠ e → t.eng x = s.eng x) ∧ t.chans = s.chans ∧ t.ops = s.ops)) ∧
  (∀ (p : Part) (s : State) (e : Nat), s.ofPart p → s.sound → s.power.mode = .run → e < p.engines →
    (∃ t, exec (.clrFault e) s = .next t ∧
      t.eng e = { s.eng e with faulted := false, fault := 0, faultPc := none } ∧
      (∀ x, x ≠ e → t.eng x = s.eng x) ∧ t.regs = s.regs ∧ t.chans = s.chans)) ∧
  (∀ (p : Part) (s : State) (e : Nat), s.ofPart p → s.power.mode = .run → e < p.engines →
    ((s.eng e).enabled = true → (s.eng e).retired = false → engStopping s e = false → (s.eng e).bgPend = none →
      (∀ r, (s.eng e).run = some r → ∀ k, r.kind ≠ .job k) → (∀ r, (s.eng e).susp = some r → ∀ k, r.kind ≠ .job k) →
      (bgOpen s e = false →
        ∃ t, exec (.bgStart e) s = .next t ∧
          t.eng e = { s.eng e with bgPend := some (s.fld (ENG e) 0x00 8 5), bgRefused := false } ∧
          (∀ x, x ≠ e → t.eng x = s.eng x)) ∧
      (bgOpen s e = true → (s.eng e).susp = none → (s.eng e).sweeps = [] →
        storeBad s e (dirBase + 16 * (32 + s.fld (ENG e) 0x00 8 5)) 16 = false →
        (dirEntry s e (32 + s.fld (ENG e) 0x00 8 5)).runnable false = true →
        ∃ t q, exec (.bgStart e) s = .next t ∧ (t.eng e).run = some q ∧ q.kind = .job (s.fld (ENG e) 0x00 8 5) ∧
          q.pc = 0 ∧ (t.eng e).bgPend = none ∧ (t.eng e).bgRefused = false)) ∧
    ((s.eng e).enabled = false ∨ (s.eng e).retired = true ∨ engStopping s e = true ∨ (s.eng e).bgPend.isSome = true →
      ∃ t, exec (.bgStart e) s = .next t ∧ t.eng e = { s.eng e with bgRefused := true } ∧
        (∀ x, x ≠ e → t.eng x = s.eng x) ∧ t.regs = s.regs)) ∧
  (∀ (p : Part) (s : State) (e : Nat) (size : BitVec 8), s.ofPart p → s.sound → s.power.mode = .run → e < p.engines →
    (size.toNat < 0xBF → (∀ c, c ∈ chansOn s e → (s.chan c).st = .off) →
      ∃ t, exec (.bankSizeWrite e size) s = .next t ∧
        t.fld (ENG e) 0x08 0 8 = size.toNat ∧ t = { s with regs := t.regs } ∧
        (∀ t' r', key t' r' ≠ key (ENG e) 0x08 → t.rd t' r' = s.rd t' r')) ∧
    (size.toNat < 0xBF → (∃ c, c ∈ chansOn s e ∧ (s.chan c).st ≠ .off) →
      ∃ t, exec (.bankSizeWrite e size) s = .next t ∧ t.rd (ENG e) 0x08 = s.rd (ENG e) 0x08 ∧
        t.bit DEV 0x04 14 = true ∧ t.bit DEV 0x05 evCfg = true ∧ t.engs = s.engs) ∧
    (0xBF ≤ size.toNat →
      ∃ t, exec (.bankSizeWrite e size) s = .next t ∧ t.rd (ENG e) 0x08 = s.rd (ENG e) 0x08 ∧
        t.bit DEV 0x04 15 = true ∧ t.engs = s.engs)) ∧
  (∀ (p : Part) (s : State) (e : Nat), s.ofPart p → s.power.mode = .run → e < p.engines →
    (∀ r, bgOpen s e = true → (s.eng e).susp = some r →
      ∃ t, exec (.backgroundStart e) s = .next t ∧ t.eng e = { s.eng e with run := some r, susp := none } ∧
        (∀ x, x ≠ e → t.eng x = s.eng x)) ∧
    (∀ c rest, bgOpen s e = true → (s.eng e).susp = none → (s.eng e).enabled = true → (s.eng e).sweeps = c :: rest →
      storeBad s e (dirBase + 16 * (16 + c)) 16 = false → (dirEntry s e (16 + c)).runnable false = true →
      ∃ t q, exec (.backgroundStart e) s = .next t ∧ (t.eng e).run = some q ∧ q.kind = .sweep c ∧ q.pc = 0 ∧
        (t.eng e).sweeps = rest ∧ (t.eng e).bgPend = (s.eng e).bgPend) ∧
    (∀ k, bgOpen s e = true → (s.eng e).susp = none → (s.eng e).enabled = true → (s.eng e).sweeps = [] →
      (s.eng e).bgPend = some k → storeBad s e (dirBase + 16 * (32 + k)) 16 = false →
      (dirEntry s e (32 + k)).runnable false = true →
      ∃ t q, exec (.backgroundStart e) s = .next t ∧ (t.eng e).run = some q ∧ q.kind = .job k ∧ q.pc = 0 ∧
        (t.eng e).bgPend = none) ∧
    (bgOpen s e = false → ∃ t, exec (.backgroundStart e) s = .next t ∧ t = s))

/-! ## The instructions of the engines (08, 11, 12, 14) -/

/-- What an instruction of engine `e` that posts nothing may change: the engine, of the channels their sampling state (a
run of TILEs that ends, R364), the column tests that corrected reads queue (R478), and the model's counter of free
values. -/
def Sys2Proof.Machine.engineOnly (s t : State) (e : Nat) : Prop :=
  t = { s with engs := t.engs, chans := t.chans, storeBanks := t.storeBanks, free := t.free } ∧
  (∀ x, x ≠ e → t.eng x = s.eng x) ∧ (∀ c, t.chan c = { s.chan c with drift := (t.chan c).drift })

/-- The bytes of engine `e`'s store outside `n` bytes from `a` read as before. -/
def Sys2Proof.Machine.storeKept (s t : State) (e a n : Nat) : Prop :=
  ∀ x, x < a ∨ a + n ≤ x → memRead (t.eng e).store x = memRead (s.eng e).store x

/-- Element `j` of width `w` at byte `a` of engine `e`'s store (R288). -/
def Sys2Proof.Machine.storeElem (s : State) (e a w j : Nat) : Int :=
  elemAt w (leVal (storeGet s e (a + w * j / 8) (if w = 4 then 1 else w / 8))) (if w = 4 then j % 2 else 0)

/-- The signed range of `w` bits saturates a value (R296). -/
def Sys2Proof.Machine.clampTo (w : Nat) (x : Int) : Int := max (-(2 ^ (w - 1))) (min (2 ^ (w - 1) - 1) x)

/-- `q` is the integer nearest to x ÷ d, the even one of two (R296). -/
def Sys2Proof.Machine.nearestEven (q x : Int) (d : Nat) : Prop :=
  2 * (x - q * d) ≤ d ∧ -(d : Int) ≤ 2 * (x - q * d) ∧ ((2 * (x - q * d) = d ∨ 2 * (x - q * d) = -(d : Int)) → q % 2 = 0)

/-- The row of a VEC function. -/
def Sys2Proof.Machine.vecRow (e : Nat) : VecOp → Instr
  | .add => .vecAdd e
  | .sub => .vecSub e
  | .mul => .vecMul e
  | .mulh => .vecMulh e
  | .min => .vecMin e
  | .max => .vecMax e
  | .abs => .vecAbs e
  | .relu => .vecRelu e
  | .clamp => .vecClamp e
  | .shr => .vecShr e
  | .shl => .vecShl e
  | .narrow => .vecNarrow e
  | .widen => .vecWiden e
  | .scale => .vecScale e
  | .lut => .vecLut e
  | .move => .vecMove e
  | .broadcast => .vecBroadcast e

/-- Element `j` of a VEC result, from the D element `x` and the S2 element `y` before it, the first S2 element `y0` and
the S2 bytes (R296 to R298). -/
def Sys2Proof.Machine.vecElement (o : VecOp) (w imm j : Nat) (x y y0 : Int) (s2 : List Byte) (z : Int) : Prop :=
  match o with
  | .add => z = clampTo w (x + y)
  | .sub => z = clampTo w (x - y)
  | .mul => z = clampTo w (x * y)
  | .mulh => z * 2 ^ w ≤ x * y ∧ x * y < (z + 1) * 2 ^ w
  | .min => z = min x y
  | .max => z = max x y
  | .abs => z = clampTo w y.natAbs
  | .relu => z = max 0 y
  | .clamp => z = clampTo w (max (-(2 ^ imm - 1)) (min (2 ^ imm - 1) y))
  | .shr => nearestEven z y (2 ^ imm)
  | .shl => z = clampTo w (y * 2 ^ imm)
  | .narrow => z = clampTo (w / 2) y
  | .widen => z = y
  | .move => z = y
  | .broadcast => z = y0
  | .scale => ∃ q, nearestEven q (x * e4m3Q (nth s2 (j % 64 / 8) 0).toNat) 512 ∧ z = clampTo w q
  | .lut =>
    let u := (x + 2 ^ (w - 1)).toNat
    let b := elemAt 16 (leVal s2) (2 * (u / 2 ^ (w - 6)))
    let m := elemAt 16 (leVal s2) (2 * (u / 2 ^ (w - 6)) + 1)
    ∃ q, nearestEven q (m * (u % 2 ^ (w - 6) : Nat)) (2 ^ (w - 6)) ∧ z = clampTo w (b + q)

/-- The seventeen VEC rows (R211, R296 to R298): each of the 64 N elements of the destination takes its function's
value of the elements before the instruction, the program goes on, and nothing else is written. -/
def Obligations.VectorRowsWriteElements : Prop :=
  ∀ (s : State) (e : Nat) (r : Run) (i : Ins) (o : VecOp), s.reaches e r i → i.op = .vec o →
    let w := etypeWidth i.et
    let d := atOf (touches s e r i) 0
    let s2 := atOf (touches s e r i) 1
    ∃ t, exec (vecRow e o) s = .next t ∧ (t.eng e).run = some r.advance ∧
      (∀ j, j < 64 * i.n → vecElement o w i.imm j (storeElem s e d w j) (storeElem s e s2 w j) (storeElem s e s2 w 0)
        (storeGet s e s2 (o.s2Bytes w (64 * i.n))) (storeElem t e d (o.dWidth w) j)) ∧
      storeKept s t e d (64 * i.n * o.dWidth w / 8) ∧ engineOnly s t e ∧ t.free = s.free ∧
      (t.eng e).gen = (s.eng e).gen ∧ (t.eng e).delta = (s.eng e).delta

/-- The row of a RED function. -/
def Sys2Proof.Machine.redRow (e : Nat) : RedOp → Instr
  | .sum => .redSum e
  | .sumsq => .redSumsq e
  | .max => .redMax e
  | .min => .redMin e

/-- The row of a CMP function. -/
def Sys2Proof.Machine.cmpRow (e : Nat) : CmpOp → Instr
  | .gt => .cmpGt e
  | .ge => .cmpGe e
  | .lt => .cmpLt e
  | .le => .cmpLe e
  | .eq => .cmpEq e
  | .ne => .cmpNe e

/-- The relation a CMP function tests (R212). -/
def Sys2Proof.Machine.cmpHolds (o : CmpOp) (x y : Int) : Prop :=
  match o with
  | .gt => x > y
  | .ge => x ≥ y
  | .lt => x < y
  | .le => x ≤ y
  | .eq => x = y
  | .ne => x ≠ y

/-- RED_SUM, RED_SUMSQ, RED_MAX and RED_MIN (R212, R296): the first INT32 of the destination lane takes the reduction
of the 64 N elements, sums saturated at the end, and the other 12 bytes are 0. The six CMP rows (R212): bit j of the
mask is the comparison of elements j, against element 0 under BCAST, and ANY is set by this instruction alone. -/
def Obligations.ReductionsAndComparisons : Prop :=
  (∀ (s : State) (e : Nat) (r : Run) (i : Ins) (o : RedOp), s.reaches e r i → i.op = .red o →
    let xs := (List.range (64 * i.n)).map (storeElem s e (atOf (touches s e r i) 0) (etypeWidth i.et))
    let d := atOf (touches s e r i) 1
    ∃ t, exec (redRow e o) s = .next t ∧ (t.eng e).run = some r.advance ∧
      (match o with
       | .sum => storeElem t e d 32 0 = clampTo 32 xs.sum
       | .sumsq => storeElem t e d 32 0 = clampTo 32 (xs.map (fun x => x * x)).sum
       | .max => storeElem t e d 32 0 ∈ xs ∧ ∀ x ∈ xs, x ≤ storeElem t e d 32 0
       | .min => storeElem t e d 32 0 ∈ xs ∧ ∀ x ∈ xs, storeElem t e d 32 0 ≤ x) ∧
      (∀ k, 4 ≤ k → k < 16 → memRead (t.eng e).store (d + k) = 0) ∧
      storeKept s t e d 16 ∧ engineOnly s t e ∧ t.free = s.free ∧ (t.eng e).gen = (s.eng e).gen) ∧
  (∀ (s : State) (e : Nat) (r : Run) (i : Ins) (o : CmpOp), s.reaches e r i → i.op = .cmp o →
    let w := etypeWidth i.et
    let x := storeElem s e (atOf (touches s e r i) 0) w
    let y := fun j => storeElem s e (atOf (touches s e r i) 1) w (if i.flag then 0 else j)
    let d := atOf (touches s e r i) 2
    ∃ t a, exec (cmpRow e o) s = .next t ∧ (t.eng e).run = some { r.advance with any := a } ∧
      (∀ j, j < 64 * i.n → (nbit (memRead (t.eng e).store (d + j / 8)).toNat (j % 8) = true ↔ cmpHolds o (x j) (y j))) ∧
      (a = true ↔ ∃ j, j < 64 * i.n ∧ cmpHolds o (x j) (y j)) ∧
      storeKept s t e d (8 * i.n) ∧ engineOnly s t e ∧ t.free = s.free ∧ (t.eng e).gen = (s.eng e).gen)

/-- The row of a TILE mode. -/
def Sys2Proof.Machine.tileRow (e : Nat) : TileMode → Instr
  | .i8i8 => .tileI8I8 e
  | .i4i4 => .tileI4I4 e
  | .i8i4 => .tileI8I4 e
  | .i8i6 => .tileI8I6 e

/-- A product of a TILE (R305): exact, or, while the low-bit segment runs shortened and both operands are not 0, right
but for its bits 3:0. -/
def Sys2Proof.Machine.productOf (short : Bool) (a b p : Int) : Prop :=
  if short = true ∧ a ≠ 0 ∧ b ≠ 0 then p / 16 = a * b / 16 else p = a * b

/-- The four TILE rows (R210, R293 to R295, R305): element (row, col) of C takes the sum over K of the scaled products
of A's row and B's column, on top of the old element under ACC (which a delta run's first TILE ignores in a refresh
tick, R371), saturated to INT32. While the segment runs shortened, products of non-zero operands are open in bits 3:0:
the free values of log entry 3. -/
def Obligations.TileRowsMultiply : Prop :=
  ∀ (s : State) (e : Nat) (r : Run) (i : Ins) (m : TileMode), s.reaches e r i → i.op = .tile m →
    let ts := touches s e r i
    let a := atOf ts 0
    let c := atOf ts 2
    let b := leVal (storeGet s e (atOf ts 1) m.bBytes)
    let acc := i.flag && !(refreshing s r && (tileDelta (s.eng e) m ts).isSome && !continuesRun (s.eng e) m ts)
    ∃ t, exec (tileRow e m) s = .next t ∧ (t.eng e).run = some r.advance ∧
      (∀ row col, row < 32 → col < 32 → ∃ p : Nat → Int,
        (∀ k, k < m.k → productOf (r.lean && !refreshing s r) (storeElem s e a m.aWidth (m.k * row + k))
          (bayElem m b (m.k * col + k)) (p k)) ∧
        storeElem t e c 32 (32 * row + col) =
          clampTo 32 ((if acc then storeElem s e c 32 (32 * row + col) else 0) +
            ((List.range m.k).map (fun k => bayQ m b (m.k * col + k) * p k)).sum)) ∧
      storeKept s t e c 4096 ∧ engineOnly s t e ∧ (t.eng e).gen = (s.eng e).gen ∧ (t.eng e).delta = (s.eng e).delta

/-- The rounding generator of an engine after `n` draws (R299). -/
def Sys2Proof.Machine.draws (g : W32) : Nat → W32
  | 0 => g
  | n + 1 => genStep (draws g n)

/-- Stochastic rounding of v ÷ 2^sh by draw `u` to `w` bits (R302). -/
def Sys2Proof.Machine.roundsTo (w sh : Nat) (v : Int) (u : W32) (z : Int) : Prop :=
  ∃ f : Int, ∃ r : Nat, v = f * 2 ^ sh + r ∧ r < 2 ^ sh ∧
    z = clampTo w (if u.toNat < r * 2 ^ (32 - sh) ∧ sh ≠ 0 then f + 1 else f)

/-- SRND (R302): each element, in order, is rounded by one draw of the engine's generator and written as INT8 or INT4,
or as INT6 with 21 to a lane (R289). TRACE (R310 to R312, R213): element (k, c) becomes λ times the old one (0 under
CLEAR) plus x_k y_c, rounded by one draw; under HOLD the generator moves on and nothing is written. DGATE (R362, R363,
R371): where |CUR − PREV| is at most DZ the difference written is 0, elsewhere it is the saturated difference; PREV
moves on by what was written; in a refresh tick of INT8 both are CUR. With INT8 the delta context is latched. -/
def Obligations.RoundingRows : Prop :=
  ((∀ (s : State) (e : Nat) (r : Run) (i : Ins), s.reaches e r i → i.op = .srnd →
    let x := atOf (touches s e r i) 0
    let d := atOf (touches s e r i) 1
    ∃ t, exec (.srnd e) s = .next t ∧ (t.eng e).run = some r.advance ∧
      (i.et = 0 → ∀ j, j < 64 * i.n →
        roundsTo 8 i.imm (storeElem s e x 32 j) (draws (s.eng e).gen (j + 1)) (storeElem t e d 8 j)) ∧
      (i.et = 1 → ∀ j, j < 21 * i.n →
        roundsTo 6 i.imm (storeElem s e x 32 j) (draws (s.eng e).gen (j + 1))
          (sext 6 (leVal (storeGet t e (d + 16 * (j / 21)) 16) >>> (6 * (j % 21))))) ∧
      (i.et = 2 → ∀ j, j < 64 * i.n →
        roundsTo 4 i.imm (storeElem s e x 32 j) (draws (s.eng e).gen (j + 1)) (storeElem t e d 4 j)) ∧
      (t.eng e).gen = draws (s.eng e).gen (srndCount i.et i.n) ∧ storeKept s t e d (srndBytes i.et i.n) ∧
      engineOnly s t e ∧ t.free = s.free) ∧
  (∀ (s : State) (e : Nat) (r : Run) (i : Ins), s.reaches e r i → i.op = .trace →
    let ts := touches s e r i
    let z := atOf ts 0
    let rule := leVal (storeGet s e (ruleAddr e r i.imm + 2) 2)
    let l := (s.chan (r.kind.chanOf e)).learn
    let clear := r.kind.isTick && l.clearNow
    let hold := (match r.kind with | .job _ => false | _ => l.hold)
    ∃ t, exec (.trace e) s = .next t ∧ (t.eng e).run = some r.advance ∧
      (t.eng e).gen = draws (s.eng e).gen 1024 ∧ engineOnly s t e ∧ t.free = s.free ∧
      (hold = true → (t.eng e).store = (s.eng e).store) ∧
      (hold = false → storeKept s t e z 1024 ∧ ∀ k c, k < 32 → c < 32 →
        roundsTo 8 (8 + fld rule 0 4)
          ((fld rule 8 8 : Nat) * (if clear then 0 else storeElem s e z 8 (32 * k + c)) * 2 ^ fld rule 0 4 +
            storeElem s e (atOf ts 1) 8 k * storeElem s e (atOf ts 2) 8 c * 256)
          (draws (s.eng e).gen (32 * k + c + 1)) (storeElem t e z 8 (32 * k + c))))) ∧
  (∀ (s : State) (e : Nat) (r : Run) (i : Ins), s.reaches e r i → i.op = .dgate →
    let w := etypeWidth i.et
    let ts := touches s e r i
    let bytes := 64 * i.n * w / 8
    let cur := storeElem s e (atOf ts 0) w
    let prev := storeElem s e (atOf ts 1) w
    let fresh := decide (i.et = 0) && refreshing s r
    let diff := fun j => if fresh then cur j
      else if (cur j - prev j).natAbs ≤ i.imm then 0 else clampTo w (cur j - prev j)
    ∃ t, exec (.dgate e) s = .next t ∧ (t.eng e).run = some r.advance ∧
      (∀ j, j < 64 * i.n → storeElem t e (atOf ts 1) w j = if fresh then cur j else prev j + diff j) ∧
      (atOf ts 2 + bytes ≤ atOf ts 1 ∨ atOf ts 1 + bytes ≤ atOf ts 2 →
        ∀ j, j < 64 * i.n → storeElem t e (atOf ts 2) w j = diff j) ∧
      (∀ x, x < atOf ts 1 ∨ atOf ts 1 + bytes ≤ x → x < atOf ts 2 ∨ atOf ts 2 + bytes ≤ x →
        memRead (t.eng e).store x = memRead (s.eng e).store x) ∧
      (t.eng e).delta = (if i.et = 0 then
          some { cur := atOf ts 0 / 256, prev := atOf ts 1 / 256, dst := atOf ts 2 / 256, count := 64 * i.n }
        else (s.eng e).delta) ∧
      (t.eng e).gen = (s.eng e).gen ∧ engineOnly s t e ∧ t.free = s.free)

/-- The row of an instruction; HALT.V's row carries the strokes that the engine measured. -/
def Sys2Proof.Machine.insRow (e strokes : Nat) : EOp → Instr
  | .halt => .halt e
  | .haltV => .haltV e strokes
  | .tens .ldt => .ldt e
  | .tens .stt => .stt e
  | .tens .post => .post e
  | .tile m => tileRow e m
  | .vec o => vecRow e o
  | .red o => redRow e o
  | .cmp o => cmpRow e o
  | .trace => .trace e
  | .srnd => .srnd e
  | .dgate => .dgate e
  | .seal => .seal e
  | .ring => .ring e
  | .await => .await e
  | .tagwait => .tagwait e
  | .loop => .loop e
  | .br => .br e

/-- No tick program is due on any engine. -/
def Sys2Proof.Machine.nothingDue (s : State) : Prop := ∀ x, (s.eng x).due = []

/-- SEAL, TAGWAIT, RING and AWAIT of a program that reaches them (R209, R242, R246, R247). SEAL: every
access that an operation of its engine has presented is performed, at least one of each (R234); how many more an operation
has presented is free (log entry 30). TAGWAIT: nothing but the program counter moves.
RING: the first waiters are released, each going on after its AWAIT, the rest of INC is added, up to 255, and a
saturation is engine fault 14. AWAIT: one unit is taken from a bell that holds one, else the program waits at the
bell. LOOP, BR, HALT and HALT.V (R209, R214, R215, R216). LOOP opens its body with COUNT iterations; one that nests
too deep, leaves the enclosing body or the program traps with LOOP. BR goes to its target when its condition holds,
else on. HALT ends a background program, and a sweep's part with it. HALT.V ends a tick program's part on its engine. -/
def Obligations.ControlAndOrderingInstructions : Prop :=
  (∀ (s : State) (e : Nat) (r : Run) (i : Ins), s.reaches e r i →
    (i.op = .seal → s.numbered →
      ∃ t, exec (.seal e) s = .next t ∧ (t.eng e).run = some r.advance ∧
        (∀ o, o ∈ s.ops → o.byEngine e = true → o.presents = true →
          ∃ o', t.op? o.id = some o' ∧ (o'.moved = true ∨ max 1 o.shown ≤ o'.steps)) ∧
        t.bells = s.bells ∧ t.wells = s.wells ∧ t.tick.number = s.tick.number) ∧
    (i.op = .tagwait →
      ∃ t, exec (.tagwait e) s = .next t ∧ (t.eng e).run = some r.advance ∧ engineOnly s t e ∧
        t.eng e = { s.eng e with run := some r.advance, tileRun := none, corrected := (t.eng e).corrected } ∧ t.free = s.free ∧
        (∀ o, o ∈ s.ops → o.byEngine e = true → i.flag = false ∧ o.handle ≠ i.num)) ∧
    (i.op = .ring → i.num < s.bells.length →
      let l := s.bell i.num
      let m := min i.imm l.waiters.length
      ∃ t q, exec (.ring e) s = .next t ∧ (t.eng e).run = some q ∧ q.pc = r.advance.pc ∧ q.loops = r.advance.loops ∧
        t.bell i.num = { count := min 255 (l.count + (i.imm - m)), waiters := l.waiters.drop m } ∧
        (∀ x, x ≠ i.num → t.bell x = s.bell x) ∧
        (∀ w g, w ∈ l.waiters.take m → (s.eng w.1).run = some g → g.kind.isTick = w.2 → g.waitBell.isSome = true →
          (t.eng w.1).run = some { g.advance with waitBell := none }) ∧
        (255 < l.count + (i.imm - m) → (t.eng e).faulted = true ∧
          ((s.eng e).faulted = false → (t.eng e).fault = 14)) ∧
        (l.count + (i.imm - m) ≤ 255 → q = r.advance ∧ t.faults = s.faults ∧ t.regs = s.regs) ∧
        t.ops = s.ops ∧ t.cist = s.cist ∧ (t.eng e).store = (s.eng e).store) ∧
    (i.op = .await → i.num < s.bells.length →
      ∃ t, exec (.await e) s = .next t ∧
        ((s.bell i.num).count ≠ 0 → (t.eng e).run = some r.advance ∧
          t.bell i.num = { s.bell i.num with count := (s.bell i.num).count - 1 }) ∧
        ((s.bell i.num).count = 0 → (t.eng e).run = some { r with waitBell := some i.num } ∧
          t.bell i.num = { s.bell i.num with waiters := (s.bell i.num).waiters ++ [(e, r.kind.isTick)] }) ∧
        (∀ x, x ≠ i.num → t.bell x = s.bell x) ∧ t.regs = s.regs ∧ t.ops = s.ops ∧ t.cist = s.cist ∧
        (∀ x, x ≠ e → t.eng x = s.eng x))) ∧
  (∀ (s : State) (e : Nat) (r : Run) (i : Ins), s.reaches e r i →
    (i.op = .loop → r.loops.length < 4 → (∀ f fs, r.loops = f :: fs → r.pc + 1 + i.num ≤ f.last) →
        r.pc + 1 + i.num < r.len →
      ∃ t, exec (.loop e) s = .next t ∧ engineOnly s t e ∧ t.free = s.free ∧
        (t.eng e).run = some { r with
          pc := r.pc + 1,
          loops := { first := r.pc + 1, last := r.pc + 1 + i.num, count := i.imm + 1, iter := 0, s1 := atI i.strides 0,
                     s2 := atI i.strides 1, s3 := atI i.strides 2 } :: r.loops }) ∧
    (i.op = .loop → nothingDue s →
        (4 ≤ r.loops.length ∨ (∃ f fs, r.loops = f :: fs ∧ f.last < r.pc + 1 + i.num) ∨ r.len ≤ r.pc + 1 + i.num) →
      ∃ t, exec (.loop e) s = .next t ∧ (t.eng e).run = none ∧ (t.eng e).faulted = true ∧
        ((s.eng e).faulted = false → (t.eng e).fault = 7 ∧ (t.eng e).faultPc = some r.pc)) ∧
    (i.op = .br → (∀ f fs, r.loops = f :: fs → (f.first : Int) ≤ r.pc + sext 16 i.aux ∧ (r.pc : Int) + sext 16 i.aux ≤ f.last) →
      ∃ t, exec (.br e) s = .next t ∧ engineOnly s t e ∧ t.free = s.free ∧ (t.eng e).store = (s.eng e).store ∧
        (i.num = 0 ∨ (i.num = 1 ∧ r.any = true) ∨ (i.num = 2 ∧ r.any = false) →
          0 ≤ (r.pc : Int) + sext 16 i.aux →
          ∃ q, (t.eng e).run = some q ∧ (q.pc : Int) = r.pc + sext 16 i.aux ∧ q.loops = r.loops) ∧
        ((i.num = 1 ∧ r.any = false) ∨ (i.num = 2 ∧ r.any = true) → (t.eng e).run = some r.advance)) ∧
    (i.op = .halt →
      ∃ t, exec (.halt e) s = .next t ∧ (t.eng e).run = none ∧ (t.eng e).lastPc = r.pc ∧
        (t.eng e).store = (s.eng e).store ∧ (∀ x, x ≠ e → t.eng x = s.eng x) ∧ t.regs = s.regs ∧ t.ops = s.ops ∧
        (∀ c, r.kind = .sweep c → c < s.chans.length →
          (t.chan c).learn.parts = (s.chan c).learn.parts.filter (fun x => x ≠ e)) ∧
        ((∃ k, r.kind = .job k) → t.chans = s.chans)) ∧
    (∀ c strokes, i.op = .haltV → r.kind = .tick c → c < s.chans.length → nothingDue s →
      ∃ t, exec (.haltV e strokes) s = .next t ∧ (t.eng e).run = none ∧ (t.eng e).lastPc = r.pc ∧
        (t.eng e).store = (s.eng e).store ∧ e ∉ (t.chan c).parts ∧
        (∀ x, x ∈ (s.chan c).parts → x ≠ e → x ∈ (t.chan c).parts) ∧
        (r.primary = false → (t.chan c).latched = (s.chan c).latched ∧ t.rd (CH c) 0x10 = s.rd (CH c) 0x10) ∧
        (r.primary = true → s.tick.open_ = true → s.tick.number = r.tickNo → (s.chan c).st = .active →
            (s.chan c).latched = false →
          (t.chan c).latched = true ∧
          t.rd (CH c) 0x10 = word (leVal (storeGet s e (atOf (touches s e r i) 0) 2)))))

/-- LDT, STT and POST (R218, R219, R229 to R235), and TAG_GRANT (R232, R233). With a tag free beyond the posts that
wait ahead of it, the post takes one: the program goes on, and a descriptor that passes acceptance is in flight under
its handle. One that fails completes at once and gives its tag back; with no tag the post waits with the
descriptor as read, and the stall is counted. A TAG_GRANT gives a free tag to the one post that waits. -/
def Obligations.PostsTakeTags : Prop :=
  (∀ (s : State) (e : Nat) (r : Run) (i : Ins) (v : Variant), s.reaches e r i → i.op = .tens v → s.numbered →
    let at_ := atOf (touches s e r i) 0
    let d := parseDesc (storeGet s e at_ 128)
    (r.kind.isTick = true → d.op ≠ .remote) →
    (tagsAhead s e r.kind.isTick < freeTags s →
      ∃ t q, exec (insRow e 0 (.tens v)) s = .next t ∧ (t.eng e).run = some q ∧ q.pc = r.advance.pc ∧
        q.loops = r.advance.loops ∧ t.nextOp = s.nextOp + 1 ∧
        (pumpAccepts s i.num = true → formatBad d (some v) false s.part.engines (windowWidth s d) = false →
            alignBad d = false → d.op ≠ .remote →
          q = r.advance ∧ t.ops.length = s.ops.length + 1 ∧ (t.eng e).store = (s.eng e).store ∧
          (∀ k x, s.op? k = some x → ∃ n, x.shown ≤ n ∧ t.op? k = some { x with shown := n }) ∧
          ∃ o, t.op? s.nextOp = some o ∧ o.id = s.nextOp ∧ o.pump = i.num ∧ o.handle = i.aux ∧ o.byEngine e = true ∧
            o.lane = at_ / 16 ∧ o.desc = storeGet s e at_ 128 ∧ o.tickMode = r.kind.isTick ∧ o.fail = 0 ∧
            o.moved = false ∧ o.steps = 0 ∧ (o.started = true ∨ d.op = .window)) ∧
        (pumpAccepts s i.num = false ∨ formatBad d (some v) false s.part.engines (windowWidth s d) = true ∨
            alignBad d = true →
          t.ops = s.ops ∧ (t.eng e).faulted = true ∧
          leVal (storeGet t e (at_ + 12) 1) = (if pumpAccepts s i.num = false then 7
            else if formatBad d (some v) false s.part.engines (windowWidth s d) = true then 3 else 2))) ∧
    (freeTags s ≤ tagsAhead s e r.kind.isTick →
      ∃ t o, exec (insRow e 0 (.tens v)) s = .next t ∧
        (t.eng e).run = some { r with stalled := some r.pc, post := some (v.code, o), clean := false } ∧
        o.desc = storeGet s e at_ 128 ∧ o.pump = i.num ∧ o.handle = i.aux ∧ o.lane = at_ / 16 ∧
        t.ops = s.ops ∧ t.nextOp = s.nextOp ∧
        t.bit DEV 0x05 evTagStall = true ∧ t.rd DEV 0x1A = satAdd16 (s.rd DEV 0x1A) 1 ∧
        (t.eng e).store = (s.eng e).store)) ∧
  (∀ (s : State) (e v : Nat) (r : Run) (o : PumpOp), s.power.mode = .run → s.ops.length < 256 →
    stalledEngines s true ++ stalledEngines s false = [e] → stalledSlots s = [] → (∀ p, (s.port p).peers = []) →
    (s.eng e).run = some r → r.stalled.isSome = true → r.post = some (v, o) → r.halting = false →
    ∃ t q, exec .tagGrant s = .next t ∧ (t.eng e).run = some q ∧ q.stalled = none ∧ q.post = none ∧
      q.pc = r.advance.pc ∧ t.nextOp = s.nextOp + 1)

/-- What stops a program at issue (R206, R207, R208, R214, R215, R220, R221, R462): an undefined word or a descriptor
lane that is no multiple of 16 is ILLEGAL, whatever row names it; then BANK before RANGE; then the mode's traps. A
program that traps leaves its engine, the engine holds the first fault's code and index, and one ENGINE_TRAP record is
written. A program that waits, and an instruction of another row, change nothing. -/
def Obligations.TrapsStopThePrograms : Prop :=
  ∀ (s : State) (e strokes : Nat) (r : Run) (o : EOp), s.power.mode = .run → (s.eng e).run = some r →
    (r.waitBell = none → r.stalled = none → nothingDue s → s.faults.queue.length < 64 →
      ∀ code : Nat,
        (fetchIns s e r = .error code ∧ code = 4 ∨
         (∃ w, fetchIns s e r = .ok w ∧
           (decodeIns w = none ∧ code = 1 ∨
            ∃ i0, decodeIns w = some i0 ∧ i0.op = o ∧
              (badLane (i0.strided r.loops) = true ∧ code = 1 ∨
               badLane (i0.strided r.loops) = false ∧ code ≠ 0 ∧
                 (touchTrap (touches s e r (i0.strided r.loops)) = code ∨
                  touchTrap (touches s e r (i0.strided r.loops)) = 0 ∧ modeTrap r (i0.strided r.loops) = code))))) →
        ∃ t f, exec (insRow e strokes o) s = .next t ∧ (t.eng e).run = none ∧ (t.eng e).lastPc = r.pc ∧
          (t.eng e).faulted = true ∧
          ((s.eng e).faulted = false → (t.eng e).fault = code ∧ (t.eng e).faultPc = some r.pc) ∧
          t.faults.queue = s.faults.queue ++ [f] ∧ f.src = 1 ∧ f.unit = e ∧ f.detail = code ∧ f.detail2 = r.pc % 65536 ∧
          (t.eng e).store = (s.eng e).store ∧ t.cist = s.cist ∧ t.ops = s.ops ∧
          (∀ c, r.kind = .tick c → c < s.chans.length →
            (t.chan c).learn.tainted = true ∧ (t.chan c).drift.refresh = true) ∧
          (∀ c, r.kind = .sweep c → c < s.chans.length →
            (t.chan c).learn.sweepBad = true ∧ (t.chan c).learn.parts = [])) ∧
    (r.waitBell.isSome = true ∨ r.stalled.isSome = true → exec (insRow e strokes o) s = .next s) ∧
    (∀ w i0, fetchIns s e r = .ok w → decodeIns w = some i0 → i0.op ≠ o → exec (insRow e strokes o) s = .next s)

/-! ## Pumps and wells (07, 10) -/

/-- The row that moves the pieces of an operation of a kind. -/
def Sys2Proof.Machine.pumpRow (i defer : Nat) : DOp → Option Instr
  | .copy => some (.pumpCopy i defer)
  | .relayout => some (.pumpRelayout i defer)
  | .gather => some (.pumpGather i defer)
  | .scatter => some (.pumpScatter i defer)
  | .window => some (.pumpWindow i defer)
  | .fill => some (.pumpFill i defer)
  | _ => none

/-- No access that the issuer of operation `o` presented before it still waits (R239 to R241). -/
def Sys2Proof.Machine.quietBefore (s : State) (o : PumpOp) : Prop :=
  ∀ p, p ∈ o.prior → ∀ q, s.op? p.1 = some q → q.presents = false

/-- From state `s` to `t` the pieces of operation `o`, number `i`, have moved, and it has the deferral `defer`. -/
def Sys2Proof.Machine.piecesMoved (s t : State) (i defer : Nat) (o : PumpOp) : Prop :=
  let d := parseDesc o.desc
  (∃ o', t.op? i = some o' ∧ o'.moved = true ∧ o'.defer = (if o.tickMode then defer else 0) ∧
    o' = { o with moved := true, steps := o'.steps, shown := o'.shown, buf := [], entries := o'.entries,
                  judged := o'.judged, prot := o'.prot, ecc := o'.ecc, drop := o'.drop, short := o'.short,
                  defer := o'.defer, fail := o'.fail } ∧
    (d.op ≠ .window → o'.short = o.short)) ∧
  t.ops.length = s.ops.length ∧ (∀ e, (t.eng e).run = (s.eng e).run) ∧ t.wells = s.wells ∧ t.tick = s.tick ∧
  t.ports = s.ports ∧ t.power = s.power ∧ t.now = s.now ∧
  (quietBefore s o → (∀ k, k ≠ i → t.op? k = s.op? k) ∧ (d.dst.space ≠ .cistern → t.cist = s.cist) ∧
    (∀ e, d.dst.space ≠ .store ∨ e ≠ storeEngine o d.dst → (t.eng e).store = (s.eng e).store))

/-- PUMP_COPY, PUMP_RELAYOUT, PUMP_GATHER, PUMP_SCATTER, PUMP_WINDOW and PUMP_FILL (R263 to R267, R274): the
operation's pieces move, once, and only a tick-mode operation reports deferral. The bytes written lie in the
destination's space: the cistern, or the store of the engine that posted it or that a supervisor's descriptor names;
earlier accesses of the same issuer that its order asks for go first (R239 to R241), and where none waits no other
operation changes. No program moves. An operation that waits is left alone, as is one of another kind; one whose pieces
have moved takes only the deferral. PUMP_COPY and PUMP_FILL into a store, lane by lane (R262 to R265, R268): with every
source page readable, no uncorrectable error, every bank in service and every destination allowed, each unit with a
destination address takes its source lane, or the FILL value where the source has none, and no other byte of the store
changes; DROP counts the units without a destination. -/
def Obligations.PumpRows : Prop :=
  (∀ (s : State) (i defer : Nat) (o : PumpOp), s.numbered → s.power.mode = .run → s.op? i = some o →
    o.started = true → o.moved = false → (variantOf (parseDesc o.desc)).isSome = true →
    ((parseDesc o.desc).op = .copy → ∃ t, exec (.pumpCopy i defer) s = .next t ∧ piecesMoved s t i defer o) ∧
    ((parseDesc o.desc).op = .relayout → ∃ t, exec (.pumpRelayout i defer) s = .next t ∧ piecesMoved s t i defer o) ∧
    ((parseDesc o.desc).op = .gather → ∃ t, exec (.pumpGather i defer) s = .next t ∧ piecesMoved s t i defer o) ∧
    ((parseDesc o.desc).op = .scatter → ∃ t, exec (.pumpScatter i defer) s = .next t ∧ piecesMoved s t i defer o) ∧
    ((parseDesc o.desc).op = .window → ∃ t, exec (.pumpWindow i defer) s = .next t ∧ piecesMoved s t i defer o) ∧
    ((parseDesc o.desc).op = .fill → ∃ t, exec (.pumpFill i defer) s = .next t ∧ piecesMoved s t i defer o)) ∧
  (∀ (s : State) (i defer : Nat) (row : Instr) (o : PumpOp), s.numbered → s.power.mode = .run → s.op? i = some o →
    pumpRow i defer (parseDesc o.desc).op = some row →
    (o.started = true → o.moved = true →
      ∃ t, exec row s = .next t ∧ t.op? i = some { o with defer := if o.tickMode then defer else 0 } ∧
        t = { s with ops := t.ops } ∧ (∀ k, k ≠ i → t.op? k = s.op? k)) ∧
    (o.started = false → exec row s = .next s) ∧
    (∀ k r, k ≠ (parseDesc o.desc).op → pumpRow i defer k = some r → exec r s = .next s)) ∧
  (∀ (s : State) (i defer e : Nat) (tick : Bool) (c : Option Nat) (o : PumpOp), s.numbered → s.power.mode = .run →
    s.op? i = some o → o.issuer = .engine e tick c → e < s.engs.length → o.started = true → o.moved = false →
    o.steps = 0 → o.buf = [] → o.prot = 0 → o.ecc = 0 → quietBefore s o →
    let d := parseDesc o.desc
    (d.op = .copy ∧ d.src.space = .cistern ∨ d.op = .fill ∧ d.src.space = .none) → d.dst.space = .store →
    (∀ u, u ∈ unitPairs d → ∀ a, u.1 = some a → a % 16 = 0 ∧ ∃ p, translate s o.ctx .read false a = some p ∧
      cistBad s p 16 = false ∧ bankDead s (cistBankOf p) = false) →
    (∀ u, u ∈ unitPairs d → ∀ a, u.2 = some a → storeRefused s e tick true [a] = false) →
    (unitPairs d).Pairwise (fun u v => ∀ a b, u.2 = some a → v.2 = some b → a + 16 ≤ b ∨ b + 16 ≤ a) →
    ∃ row t o', pumpRow i defer d.op = some row ∧ exec row s = .next t ∧ t.op? i = some o' ∧ o'.moved = true ∧
      o'.prot = 0 ∧ o'.ecc = 0 ∧ o'.drop = ((unitPairs d).filter (fun u => u.2.isNone)).length ∧
      (∀ u, u ∈ unitPairs d → ∀ a, u.2 = some a →
        storeGet t e a.toNat 16 = (match u.1 with
          | some b => cistGet s ((translate s o.ctx .read false b).getD 0) 16
          | none => (List.range 4).flatMap (fun _ => leBytes 4 d.fill))) ∧
      (∀ x : Nat, (∀ u, u ∈ unitPairs d → ∀ a, u.2 = some a → (x : Int) < a ∨ a + 16 ≤ x) →
        memRead (t.eng e).store x = memRead (s.eng e).store x))

/-- PUMP_COMPLETION and WELL_WAIT_END (R185, R235, R272, R275, R276, R277): an operation whose pieces have moved
completes: its tag returns, and its completion word, the least count and status, goes to lane bytes 12 to 15 of its
descriptor, or to its post slot; a fault status of an engine's operation is engine fault 13. A waiting well read ends
its wait with the last sample's capture, with the well's disable or its walk's load, and at the latest at its limit; its
pieces may then move. -/
def Obligations.OperationsCompleteAndWaitsEnd : Prop :=
  ∀ (s : State) (i : Nat) (o : PumpOp), s.numbered → s.power.mode = .run → s.op? i = some o →
    (o.moved = true →
      ∃ t, exec (.pumpCompletion i) s = .next t ∧ t.ops = s.ops.filter (fun x => x.id ≠ i) ∧
        t.ops.length + 1 = s.ops.length ∧
        (∀ e tick c, o.issuer = .engine e tick c → e < s.engs.length →
          leVal (storeGet t e (16 * o.lane + 12) 4) = min 0xFFFF o.status.2 * 65536 + min 255 o.drop * 256 + o.status.1 ∧
          storeKept s t e (16 * o.lane + 12) 4 ∧ (faultStatus o.status.1 = true → (t.eng e).faulted = true) ∧
          (∀ x, x ≠ e → t.eng x = s.eng x) ∧ t.cist = s.cist) ∧
        (∀ n, o.issuer = .supervisor n → n < s.sup.slots.length →
          (t.slotOf n).completion = min 0xFFFF o.status.2 * 65536 + min 255 o.drop * 256 + o.status.1 ∧
          (t.slotOf n).busy = false ∧ t.engs = s.engs ∧ t.cist = s.cist) ∧
        (o.status.1 = 1 → t.rd PMP 0x04 = satAdd16 (s.rd PMP 0x04) 1)) ∧
    (o.moved = false → exec (.pumpCompletion i) s = .next s) ∧
    ((parseDesc o.desc).op = .window → o.started = false →
      let g := s.well (parseDesc o.desc).src.unit
      ∃ t, exec (.wellWaitEnd i) s = .next t ∧
        t.op? i = some { o with started := true, waitEnd := none, seen := g.count } ∧
        (notYet o.refCount g.count (windowLast (parseDesc o.desc)) = false ∨ g.enabled = false ∨ o.cut = true →
          t.now = s.now) ∧
        (notYet o.refCount g.count (windowLast (parseDesc o.desc)) = true → g.enabled = true → o.cut = false →
          t.now = max s.now (o.waitEnd.getD s.now)) ∧
        (∀ k, k ≠ i → t.op? k = s.op? k) ∧ t.engs = s.engs ∧ t.cist = s.cist ∧ t.regs = s.regs)

/-- SAMPLE_CAPTURE, WELL_ENABLE and WELL_DISABLE (R172 to R176, R181, R182, R186, R189, R192 to R194, R394). A live
port registers its OPEN and STUCK lines whatever VALID holds; with VALID = 0 it does nothing else. An enabled well captures a
sample that its running walk presents: the converted value goes to its place in the ring and the count moves on; one
less than 2 RIM after the last capture is dropped and counted; a well that is not enabled captures nothing.
WELL_ENABLE starts a well from nothing, also for the tick programs that kept its last snapshot count, unless its
configuration is refused, which sets DENIED; WELL_DISABLE stops capture, ends the waits on the well and keeps the rest. -/
def Obligations.WellRows : Prop :=
  ∀ (p : Part) (s : State) (w : Nat), s.ofPart p → s.sound → s.power.mode = .run → w < 64 →
    let g := s.well w
    (∀ (data : BitVec 24) (opn stuck : Bool) (dt : Nat), wellPortLive s w = true → g.enabled = true →
      ((∀ t, g.lastCap = some t → t + 2 ≤ s.now + dt) →
        let v := convertSample g.fmt data.toNat
        let a := g.ringBase + g.count % g.cap * g.width
        ∃ t, exec (.sampleCapture w ⟨data, true⟩ opn stuck dt) s = .next t ∧ t.now = s.now + dt ∧
          (t.well w).openLine = opn ∧ (t.well w).stuckLine = stuck ∧ (t.well w).count = (g.count + 1) % 2 ^ 32 ∧
          (t.well w).lastCap = some (s.now + dt) ∧
          (t.well w).wrapped = (g.wrapped || decide (g.cap ≤ g.count + 1)) ∧ (t.well w).fresh = g.fresh + 1 ∧
          (t.well w).ovr = g.ovr ∧ (∀ x, x ≠ w → t.well x = s.well x) ∧
          (bankDead s (cistBankOf a) = false → s.cistUe = [] →
            cistGet t a g.width = leBytes g.width (toU (8 * g.width) v) ∧
            (∀ x, x < a ∨ a + g.width ≤ x → memRead t.cist x = memRead s.cist x)) ∧
          (bankDead s (cistBankOf a) = true → t.cist = s.cist) ∧
          t.engs = s.engs ∧ t.ops = s.ops ∧ t.tick = s.tick) ∧
      (∀ t0, g.lastCap = some t0 → s.now + dt < t0 + 2 →
        ∃ t, exec (.sampleCapture w ⟨data, true⟩ opn stuck dt) s = .next t ∧ t.now = s.now + dt ∧
          (t.well w).count = g.count ∧ (t.well w).ovr = satAdd16 g.ovr 1 ∧ wbit (t.well w).status 15 = true ∧
          (∀ x, x ≠ w → t.well x = s.well x) ∧ t.cist = s.cist ∧ t.chans = s.chans ∧ t.regs = s.regs)) ∧
    (∀ (data : BitVec 24) (valid opn stuck : Bool) (dt : Nat), g.enabled = false ∨ valid = false →
      wellPortLive s w = true →
      ∃ t, exec (.sampleCapture w ⟨data, valid⟩ opn stuck dt) s = .next t ∧
        t.well w = { g with openLine := opn, stuckLine := stuck } ∧ (∀ x, x ≠ w → t.well x = s.well x) ∧
        t = { s with wells := t.wells, now := s.now + dt }) ∧
    (∀ (data : BitVec 24) (valid opn stuck : Bool) (dt : Nat), wellPortLive s w = false →
      exec (.sampleCapture w ⟨data, valid⟩ opn stuck dt) s = .next { s with now := s.now + dt }) ∧
    (g.enabled = false → g.badConfig = false →
      ∃ t, exec (.wellEnable w) s = .next t ∧ (t.well w).enabled = true ∧ (t.well w).count = 0 ∧
        (t.well w).wrapped = false ∧ (t.well w).marked = false ∧ (t.well w).snapKept = false ∧
        (t.well w).lastCap = none ∧ (t.well w).format = g.format ∧ (t.well w).base = g.base ∧
        (t.well w).status = g.status ∧ (∀ x, x ≠ w → t.well x = s.well x) ∧
        t = { s with wells := t.wells, engs := t.engs } ∧ t.engs = s.engs.map (Engine.forget w)) ∧
    (g.enabled = false → g.badConfig = true →
      ∃ t, exec (.wellEnable w) s = .next t ∧ t.wells = s.wells ∧ t.bit DEV 0x0C tbDenied = true ∧
        t = { s with regs := t.regs }) ∧
    (g.enabled = true →
      ∃ t, exec (.wellDisable w) s = .next t ∧ (t.well w).enabled = false ∧
        t.well w = { g with ctrl := (t.well w).ctrl } ∧ (∀ x, x ≠ w → t.well x = s.well x) ∧
        t = { s with wells := t.wells, ops := t.ops } ∧
        (∀ k o, s.op? k = some o → t.op? k = some (if o.waitEnd.isSome = true ∧ (parseDesc o.desc).op = .window ∧
          (parseDesc o.desc).src.unit = w then { o with cut := true } else o)))

/-- From state `s` to `t` operation `o`, number `i`, has sent its list, and a write its blocks, by its port. -/
def Sys2Proof.Machine.remoteSent (s t : State) (i : Nat) (o : PumpOp) : Prop :=
  let d := parseDesc o.desc
  ∃ o' f fs, t.op? i = some o' ∧ o'.started = true ∧ o'.xid.isSome = true ∧
    (o'.xid = o.xid ∨ (o.xid = none ∧ o'.xid = lowestXid (s.port o.port))) ∧
    (t.port o.port).queue = (s.port o.port).queue ++ f :: fs ∧ f.typ = lfReq ∧ f.write = !d.isRead ∧
    some f.xid = o'.xid ∧ f.handle = d.handle ∧ f.block = 0 ∧
    (d.isRead = true → ∀ x, x ∈ fs → x.typ = lfReq) ∧
    (d.isRead = false → ∀ x, x ∈ fs → x.typ = lfReq ∨ x.typ = lfWdata) ∧
    (∀ k, k ≠ i → t.op? k = s.op? k) ∧ (∀ q, q ≠ o.port → t.port q = s.port q) ∧ t.cist = s.cist ∧
    (∀ e, (t.eng e).store = (s.eng e).store)

/-- REMOTE_READ and REMOTE_WRITE (R449 to R452): an operation that has its XID, or takes the lowest free one, and whose
list entries can all be used, sends its list by its port as REQ frames of consecutive blocks, and a write its blocks behind
them; the frames join the port's queue and nothing is written to memory. Entries that cannot be used do not stop it. With no
XID free it sends nothing. -/
def Obligations.RemoteRowsQueueFrames : Prop :=
  ∀ (s : State) (i : Nat) (o : PumpOp), s.numbered → s.power.mode = .run → s.op? i = some o →
    (parseDesc o.desc).op = .remote → o.started = false → o.port < s.ports.length →
    (0 < (parseDesc o.desc).listLen → (∀ q, (readLateEntries i s).op? i = some q → q.judged = []) →
      o.xid.isSome = true ∨ (lowestXid (s.port o.port)).isSome = true →
      ((parseDesc o.desc).isRead = true → ∃ t, exec (.remoteRead i) s = .next t ∧ remoteSent s t i o) ∧
      ((parseDesc o.desc).isRead = false → ∃ t, exec (.remoteWrite i) s = .next t ∧ remoteSent s t i o)) ∧
    (o.xid.isSome = true ∨ (lowestXid (s.port o.port)).isSome = true →
      ((parseDesc o.desc).isRead = true → ∃ t o', exec (.remoteRead i) s = .next t ∧ t.op? i = some o' ∧
        o'.started = true ∧ o'.xid.isSome = true ∧ t.cist = s.cist) ∧
      ((parseDesc o.desc).isRead = false → ∃ t o', exec (.remoteWrite i) s = .next t ∧ t.op? i = some o' ∧
        o'.started = true ∧ o'.xid.isSome = true ∧ t.cist = s.cist)) ∧
    (o.xid = none → lowestXid (s.port o.port) = none →
      ((parseDesc o.desc).isRead = true → ∃ t, exec (.remoteRead i) s = .next t ∧ t.ports = s.ports ∧ t.cist = s.cist ∧
        t.ops.length = s.ops.length) ∧
      ((parseDesc o.desc).isRead = false → ∃ t, exec (.remoteWrite i) s = .next t ∧ t.ports = s.ports ∧
        t.cist = s.cist ∧ t.ops.length = s.ops.length))

/-! ## Repair and the journal (13, 18) -/

/-- COLUMN_TEST, SPARE_COPY and SPARE_SWITCH (R479 to R481): a queued test ends with its result and one COLUMN record,
and a LINE or MULTI column takes the lowest free spare; the copy starts on the bank's scrub slot; the switch puts the
spare in the column's place with one SPARE record. SCRUB_INTERVAL reads the next line and granule (R478).
JOURNAL_WRITE (R356 to R361): the head entry of the queue goes to its slot, 1 to 8,191, of the journal's region, and
the head record then names the next number and the count of entries dropped; entries the queue holds keep their order. -/
def Obligations.RepairAndJournal : Prop :=
  (∀ (p : Part) (s : State) (k : BankId), s.ofPart p → s.power.mode = .run →
    (∀ e, (nth s.storeBanks e []).length = if e < p.engines then 16 else 0) → bankLive s k = true →
    (∀ column result pos, (s.bankOf k).job = .test column → 1 ≤ result → result ≤ 4 → pos < bankBits k →
      ∃ t, exec (.columnTest k result pos) s = .next t ∧ (t.bankOf k).result = result ∧
        (t.bankOf k).tests = min 0xFFFF ((s.bankOf k).tests + 1) ∧ (t.bankOf k).spares = (s.bankOf k).spares ∧
        (s.faults.queue.length < 64 → ∃ f, t.faults.queue[s.faults.queue.length]? = some f ∧ f.src = 10 ∧
          f.unit = bankUnit k ∧ f.detail2 = result * 256 + (if result = 1 then 0 else pos)) ∧
        (result ≤ 2 → (t.bankOf k).job = .idle) ∧
        (3 ≤ result → (∃ n, n < 4 ∧ (nth (s.bankOf k).spares n Spare.reset).used = false) →
          ∃ n, n < 4 ∧ (nth (s.bankOf k).spares n Spare.reset).used = false ∧
            (∀ m, m < n → (nth (s.bankOf k).spares m Spare.reset).used = true) ∧
            (t.bankOf k).job = .copyDue column result n) ∧
        t.cist = s.cist ∧ (∀ e, (t.eng e).store = (s.eng e).store)) ∧
    (∀ column cause n, (s.bankOf k).job = .copyDue column cause n →
      ∃ t, exec (.spareCopy k) s = .next t ∧ t.bankOf k = { s.bankOf k with job := .copying column cause n } ∧
        t = { s with banks := t.banks, storeBanks := t.storeBanks } ∧ (∀ j, j ≠ k → t.bankOf j = s.bankOf j)) ∧
    (∀ column cause n, (s.bankOf k).job = .copying column cause n → n < (s.bankOf k).spares.length →
      ∃ t, exec (.spareSwitch k) s = .next t ∧ (t.bankOf k).job = .idle ∧
        (t.bankOf k).spares[n]? = some { used := true, fused := false, field := true, cause := cause, column := column } ∧
        (∀ m, m ≠ n → (t.bankOf k).spares[m]? = (s.bankOf k).spares[m]?) ∧ t.cist = s.cist ∧
        (∀ e, (t.eng e).store = (s.eng e).store)) ∧
    (s.faults.scrub ≠ 0 → ∃ t, exec .scrubInterval s = .next t ∧ t.faults.scrubPos = s.faults.scrubPos + 1 ∧
      t.cist = s.cist ∧ t.cistUe = s.cistUe ∧ (∀ e, (t.eng e).store = (s.eng e).store) ∧ t.ops = s.ops) ∧
    (s.faults.scrub = 0 → exec .scrubInterval s = .next s)) ∧
  (∀ (s : State) (x : JEntry) (rest : List JEntry), s.sound → s.power.mode = .run → s.journal.queue = x :: rest →
    s.cistUe = [] → (∀ b, b < 16 → bankDead s b = false) → x.bytes.length = 32 →
    let a := journalBase + 32 * (1 + x.seq % 8191)
    ∃ t, exec .journalWrite s = .next t ∧ t.journal = { s.journal with queue := rest } ∧ cistGet t a 32 = x.bytes ∧
      leVal (cistGet t journalBase 4) = (x.seq + 1) % 2 ^ 32 ∧
      leVal (cistGet t (journalBase + 4) 4) = s.journal.dropped % 2 ^ 32 ∧
      (∀ y, (y < a ∨ a + 32 ≤ y) → (y < journalBase ∨ journalBase + 32 ≤ y) → memRead t.cist y = memRead s.cist y) ∧
      t.engs = s.engs ∧ t.regs = s.regs ∧ t.faults = s.faults)

/-! ## The mailbox (05, 12, 18, 20) -/

/-- The firmware has answered the request of `s` with a result, the low byte of its word and the two last words: the code
and SEQ are echoed, REPLY and its event are set and HOST_REQ is clear (R143, R145). -/
def Sys2Proof.Machine.answered (s t : State) (result low w6 w7 : Nat) : Prop :=
  t.sup.hostReq = false ∧ t.rd SUP 0x0C = s.rd SUP 0x08 ∧ t.rd SUP 0x0D = word (result * 256 + low) ∧
  t.rd SUP 0x0E = word w6 ∧ t.rd SUP 0x0F = word w7 ∧ t.bit SUP 0x01 11 = true ∧ t.bit DEV 0x05 evMbox = true

/-- ADMIT (R80, R82, R145 to R147): an unknown code and bad arguments are answered BAD_ARGS; a request during a level
change BUSY; one whose configuration fails a test with the test's code and the engine, and nothing is changed; a new
guard point whose configuration passes is written and the margin returned. A request for which the firmware is not
ready waits. -/
def Obligations.AdmitAnswers : Prop :=
  ∀ (s : State), s.sound → s.power.mode = .run →
    (mboxOpen s = false → exec .admitReq s = .next s) ∧
    (mboxOpen s = true →
      let f := s.rd SUP 0x09
      let v := s.rd SUP 0x0B
      (otherCode (mboxCode s) = false → mboxCode s ≠ 1 → ∃ t, exec .admitReq s = .next t ∧ answered s t 4 0xFF 0 0) ∧
      (mboxCode s = 1 → wfld f 11 5 = 0 ∨ 1 < b2n (wbit f 14) + b2n (wbit f 12) + b2n (wbit f 11) →
        ∃ t, exec .admitReq s = .next t ∧ answered s t 4 0xFF 0 0 ∧ t.chans = s.chans ∧ t.engs = s.engs ∧
          t.rd DEV 0x28 = s.rd DEV 0x28 ∧ t.rd DEV 0x22 = s.rd DEV 0x22) ∧
      (mboxCode s = 1 → wfld f 11 5 = 1 → reservedWord s.part DEV 0x28 v = false →
        sharesEngine (allChans.map (mapAfter s none)) (admitAfter s 0 none none) = false →
        (levelBusy s = true → ∃ t, exec .admitReq s = .next t ∧ answered s t 5 0xFF 0 0 ∧
          t.rd DEV 0x28 = s.rd DEV 0x28) ∧
        (levelBusy s = false → unmeasured s = false →
          let x := admitTimes s v (s.rd DEV 0x22)
          let r := refusal s (admitAfter s 0 none none) (guarantee (levelNow s)) x.1 x.2
          (∀ why e, r = some (why, e) → ∃ t, exec .admitReq s = .next t ∧ answered s t why e 0 0 ∧
            t.rd DEV 0x28 = s.rd DEV 0x28) ∧
          (r = none → ∃ t, exec .admitReq s = .next t ∧
            answered s t 0 0xFF (smallestMargin s (admitAfter s 0 none none) (guarantee (levelNow s)) x.1) 0 ∧
            t.rd DEV 0x28 = v ∧ t.chans = s.chans ∧ t.engs = s.engs ∧ t.cist = s.cist))))

/-- WEXPORT and WIMPORT (R327 to R332, R555): a channel that is not frozen is answered NOT_FROZEN; an export writes
the header, its HMAC and the section headers into the buffer; an import that fails a check is answered with the
check's code and marks nothing, and one that passes marks the channels whose engines have all passed as ready.
MBOX_RETIRE, MBOX_READMIT, MBOX_FAULTS and MBOX_REPAIR (R485, R486, R467, R472, R483): a bank retires at once and any
other unit is commanded for the next snapshot edge; FAULTS copies the oldest kept records into the buffer and drops
them (whole where no queued record calls for an action of the policy); REPAIR names the lowest free spare. -/
def Obligations.FirmwareRequests : Prop :=
  (∀ (p : Part) (s : State), s.ofPart p → s.sound → s.power.mode = .run → mboxOpen s = true →
    let e := wfld (s.rd SUP 0x09) 12 4
    let slot := wfld (s.rd SUP 0x09) 8 4
    let cs := if e < s.part.engines then chansOn s e else []
    let a := (s.rd SUP 0x0A).toNat * 512
    let tag := (s.rd SUP 0x0B).toNat
    (mboxCode s = 0x20 → weightError s e slot cs ≠ 0 →
      ∃ t, exec .wexport s = .next t ∧ answered s t (weightError s e slot cs) 0xFF (chanMask cs) 0 ∧ t.cist = s.cist) ∧
    (mboxCode s = 0x21 → weightError s e slot cs ≠ 0 →
      ∃ t, exec .wimport s = .next t ∧ answered s t (weightError s e slot cs) 0xFF (chanMask cs) 0 ∧
        t.chans = s.chans) ∧
    (mboxCode s = 0x20 → weightError s e slot cs = 0 → s.cistUe = [] → (∀ b, b < 16 → bankDead s b = false) →
      let act := (match cs with | c :: _ => (s.chan c).learn.active | [] => false)
      let h := weightHeader s e slot tag (crc32 (weightHeader s e slot tag 0 cs act)) cs act
      let x1 := sectionHeader 1 (bankData s e act)
      let x2 := sectionHeader 2 (ruleData s e cs)
      ∃ t, exec .wexport s = .next t ∧ answered s t 0 0xFF (chanMask cs) 0 ∧
        cistGet t a 160 =
          h ++ hmac (weightKey s slot) (h ++ x1 ++ bankData s e act ++ x2 ++ ruleData s e cs) ++ x1 ++ x2 ∧
        (∀ x, x < a ∨ a + 160 ≤ x → memRead t.cist x = memRead s.cist x) ∧ t.chans = s.chans ∧
        (∀ g, (t.eng g).store = (s.eng g).store)) ∧
    (mboxCode s = 0x21 → weightError s e slot cs = 0 →
      let standby := (match cs with | c :: _ => !(s.chan c).learn.active | [] => true)
      let h := cistGet s a 128 ++ cistGet s (a + 128) 32
      let bad := importError s e tag cs h (bankData s e standby) (ruleData s e cs)
      (bad ≠ 0 → ∃ t, exec .wimport s = .next t ∧ answered s t bad 0xFF (chanMask cs) 0 ∧ t.chans = s.chans) ∧
      (bad = 0 → ∃ t, exec .wimport s = .next t ∧ t.sup.hostReq = false ∧
        (t.rd SUP 0x0D = word 0x00FF ∨ t.rd SUP 0x0D = word 0x08FF) ∧ t.rd SUP 0x0E = word (chanMask cs) ∧
        (∀ c, c ∈ cs → (s.chan c).st ≠ .off →
          (∀ x, x ∈ chanEngines s c → x = e ∨ x ∈ (s.chan c).learn.imports) → (t.chan c).learn.ready = true) ∧
        (∀ c, c ∉ cs → t.chan c = s.chan c) ∧ t.cist = s.cist ∧ (∀ g, (t.eng g).store = (s.eng g).store)))) ∧
  (∀ (p : Part) (s : State), s.ofPart p → s.sound → s.power.mode = .run → mboxOpen s = true →
    let kind := wfld (s.rd SUP 0x09) 12 4
    let i := wfld (s.rd SUP 0x09) 0 8
    (mboxCode s = 0x30 → kind = 5 → ∃ t, exec .mboxRetire s = .next t ∧ answered s t 0 0xFF 0 0 ∧ t.bit DEV 0x03 14 = true) ∧
    (mboxCode s = 0x30 → kind = 2 → i < 16 → (s.bank i).retired = false →
      ∃ t, exec .mboxRetire s = .next t ∧ answered s t 0 0xFF 0 0 ∧ (t.bank i).retired = true ∧
        (∀ b, b ≠ i → t.bank b = s.bank b) ∧ t.engs = s.engs ∧ t.chans = s.chans) ∧
    (mboxCode s = 0x30 → kind = 0 → i < p.engines →
      ∃ t, exec .mboxRetire s = .next t ∧ answered s t 0 0xFF 0 0 ∧
        t.eng i = { s.eng i with retireCmd := some 0, readmitCmd := false } ∧ (∀ x, x ≠ i → t.eng x = s.eng x) ∧
        t.chans = s.chans) ∧
    (mboxCode s = 0x30 → kind = 4 → i < 16 →
      ∃ t, exec .mboxRetire s = .next t ∧ answered s t 0 0xFF 0 0 ∧
        t.chan i = { s.chan i with retireCmd := some 0, readmitCmd := false } ∧ (∀ x, x ≠ i → t.chan x = s.chan x) ∧
        t.engs = s.engs) ∧
    (mboxCode s = 0x31 → kind = 0 → i < p.engines →
      ∃ t, exec .mboxReadmit s = .next t ∧ answered s t 0 0xFF 0 0 ∧
        t.eng i = { s.eng i with retireCmd := none, readmitCmd := true } ∧ (∀ x, x ≠ i → t.eng x = s.eng x)) ∧
    (mboxCode s = 0x31 → kind = 4 → i < 16 → (s.chan i).st ≠ .retired →
      ∃ t, exec .mboxReadmit s = .next t ∧ answered s t 3 0xFF 0 0 ∧ t.chans = s.chans) ∧
    (mboxCode s = 0x30 ∧ 5 < kind ∨ mboxCode s = 0x31 ∧ (4 < kind ∨ kind = 2) →
      ∃ t, exec (if mboxCode s = 0x30 then .mboxRetire else .mboxReadmit) s = .next t ∧ answered s t 4 0xFF 0 0 ∧
        t.chans = s.chans ∧ t.engs = s.engs ∧ t.banks = s.banks) ∧
    (mboxCode s = 0x32 →
      let a := (s.rd SUP 0x0A).toNat * 512
      let n := (s.rd SUP 0x0B).toNat
      let ks := s.sup.kept ++ s.faults.queue
      1 ≤ n → n ≤ 32 → a + 16 * n ≤ 32 * 1048576 → ks.length ≤ 64 →
      (∃ t, exec .mboxFaults s = .next t ∧ t.sup.hostReq = false ∧ t.bit SUP 0x01 11 = true ∧
        t.rd SUP 0x0D = word 0x00FF ∧ t.rd SUP 0x0E = word (min n ks.length) ∧ t.sup.kept = ks.drop n ∧
        (∀ x, x < a ∨ a + 16 * n ≤ x → memRead t.cist x = memRead s.cist x)) ∧
      (s.cistUe = [] → (∀ b, b < 16 → bankDead s b = false) →
        (∀ r, r ∈ s.faults.queue → r.src ∈ [1, 2, 8, 10, 11, 14, 15, 17]) →
        ∃ t, exec .mboxFaults s = .next t ∧ answered s t 0 0xFF (min n ks.length) (ks.length - n) ∧
          t.faults.queue = [] ∧ (∀ k r, k < n → ks[k]? = some r → cistGet t (a + 16 * k) 16 = r.bytes))) ∧
    (mboxCode s = 0x33 →
      let k := repairBank (wbit (s.rd SUP 0x0A) 0) (s.rd SUP 0x09).toNat
      bankLive s k = true → (s.bankOf k).job = .idle →
      ∀ n, n < 4 → (nth (s.bankOf k).spares n Spare.reset).used = false →
        (∀ m, m < n → (nth (s.bankOf k).spares m Spare.reset).used = true) →
        ∃ t, exec .mboxRepair s = .next t ∧ answered s t 0 0xFF n 0 ∧
          (k, wfld (s.rd SUP 0x09) 0 8) ∈ t.faults.repairCmds ∧ t.banks = s.banks ∧ t.storeBanks = s.storeBanks))

/-! ## The supervisor and the fault port (05, 09, 18, 20) -/

/-- Self-clearing bits of SUP_CTRL and CLO_CTRL hold 0 (R12): every step keeps that. -/
def Sys2Proof.Machine.State.selfCleared (s : State) : Prop :=
  s.rd SUP 0x00 &&& 0x7FFF = 0 ∧ s.rd CLO 0x00 &&& 0xC03F = 0

/-- Every step keeps the self-clearing bits of SUP_CTRL and CLO_CTRL at 0, as reset leaves them (R12). -/
def Obligations.SelfClearingBitsHoldZero : Prop :=
  State.reset.selfCleared ∧ ∀ (s t : State), s.sound → s.selfCleared → step s = .next t → t.selfCleared

/-- SUP_HALT, SUP_RESTART, SUP_GO, GO_TIMEOUT, SUP_WFI and SUP_TRAP (R132, R499, R520, R523, R525, R462). HALT stops
and resumes; RESTART starts the boot ROM again with SRAM kept; GO runs the boot ROM's checks on the image in SRAM and
starts it, or sets FAIL with their code; without a GO in mode 0b10 FAIL sets with code 5; WFI with TARGET Hush or
Dormant makes a mode request 2 RIM later, but the firmware holds it back while a request is open or TRIP is 1 (R510); an
unrecoverable trap stops the supervisor with one record. SUP_LOAD, SUP_STORE and SUP_FENCE (R239, R241, R243, R526): SRAM and
a cistern page that translates take aligned bytes, halfwords and words, behind what the order of the supervisor's own
accesses asks for, and write nothing else where nothing of its operations waits; a store to ROM, a misaligned access and an
address outside the map are bus errors and change nothing; a FENCE performs the accesses that the supervisor's operations
have presented. -/
def Obligations.SupervisorRows : Prop :=
  (∀ (s : State), s.sound → s.selfCleared → s.power.mode = .run →
    (∀ on, locked s = false →
      ∃ t, exec (.supHalt on) s = .next t ∧ t.bit SUP 0x00 15 = on ∧ t = { s with regs := t.regs } ∧
        (∀ t' r', key t' r' ≠ key SUP 0x00 → t.rd t' r' = s.rd t' r')) ∧
    (s.bit SUP 0x00 15 = false →
      ∃ t, exec .supRestart s = .next t ∧ t.sup.mode = (if 2 ≤ s.straps.boot.toNat then .halted else .boot) ∧
        t.sup.sram = s.sup.sram ∧ t.sup.wfi = false ∧ t.fld SUP 0x02 14 2 = s.straps.boot.toNat ∧ t.cist = s.cist ∧
        t.engs = s.engs ∧ t.chans = s.chans ∧ t.ops = s.ops) ∧
    (goAccepted s = true →
      let head := memReadN s.sup.sram 0 128
      let img := head ++ memReadN s.sup.sram 128 (if imageSizeOk head then imageLength head else 0)
      ∃ t, exec .supGo s = .next t ∧ t.bit SUP 0x02 13 = true ∧ t.fld SUP 0x02 14 2 = 2 ∧
        (bootError false img = 0 → t.sup.mode = .running ∧ t.sup.image = true ∧ t.bit SUP 0x02 11 = false) ∧
        (bootError false img ≠ 0 → t.sup.mode = .halted ∧ t.bit SUP 0x02 11 = true ∧
          t.fld SUP 0x02 8 3 = bootError false img) ∧
        t.sup.sram = s.sup.sram ∧ t.cist = s.cist ∧ t.engs = s.engs ∧ t.chans = s.chans) ∧
    (s.straps.boot = 2 → s.sup.mode = .halted → s.bit SUP 0x02 13 = false → s.bit SUP 0x02 11 = false →
      ∃ t, exec .goTimeout s = .next t ∧ t.now = max s.now (s.power.bootAt + 2 ^ 28) ∧ t.bit SUP 0x02 11 = true ∧
        t.fld SUP 0x02 8 3 = 5 ∧ t.sup = s.sup ∧ t.cist = s.cist ∧ t.engs = s.engs) ∧
    (supActs s = true → supState s = .running →
      (s.fld PWR 0x01 0 2 = 0 → ∃ t, exec .supWfi s = .next t ∧ t = { s with sup := { s.sup with wfi := true } }) ∧
      (sleepHeld s = true → ∃ t, exec .supWfi s = .next t ∧ t = s) ∧
      (∀ m, m = 1 ∨ m = 2 → s.fld PWR 0x01 0 2 = m → sleepHeld s = false → s.power.prog = none →
        ∃ t e, exec .supWfi s = .next t ∧ t.now = s.now + 2 ∧ t.sup.wfi = true ∧ t.power.prog = some (.mode m) ∧
          t.power.entry = some e ∧ e.target = m ∧ e.todo.head? = some .tick ∧ t.regs = s.regs)) ∧
    (∀ cause, supState s = .boot ∨ supState s = .running →
      ∃ t, exec (.supTrap cause) s = .next t ∧ t.sup.mode = .trapped ∧ t.bit SUP 0x01 10 = true ∧ t.sup.sram = s.sup.sram ∧
        (s.faults.queue.length < 64 → ∃ f, t.faults.queue = s.faults.queue ++ [f] ∧ f.src = 14 ∧
          f.detail = cause.toNat) ∧ t.engs = s.engs ∧ t.chans = s.chans ∧ t.cist = s.cist)) ∧
  (∀ (s : State) (v : W32), s.sound → s.power.mode = .run → supActs s = true →
    (∀ o n, n = 1 ∨ n = 2 ∨ n = 4 → o % n = 0 → o + n ≤ 0x20000 →
      (∃ t, exec (.supStore (0x10000000 + o) n v) s = .next t ∧ memReadN t.sup.sram o n = leBytes n v.toNat ∧
        (∀ x, x < o ∨ o + n ≤ x → memRead t.sup.sram x = memRead s.sup.sram x) ∧
        t = { s with sup := { s.sup with sram := t.sup.sram, bus := none, busError := false } }) ∧
      (∃ t, exec (.supLoad (0x10000000 + o) n) s = .next t ∧
        t = { s with sup := { s.sup with bus := some (BitVec.ofNat 32 (leVal (memReadN s.sup.sram o n))),
                                         busError := false } })) ∧
    (∀ a n : Nat, n = 1 ∨ n = 2 ∨ n = 4 → a % n = 0 → a < 0x800000 → s.cistUe = [] →
      (∀ p, translate s 0x10 .write false a = some p → bankDead s (cistBankOf p) = false →
        ∃ t, exec (.supStore (0x40000000 + a) n v) s = .next t ∧ cistGet t p n = leBytes n v.toNat ∧
          t.sup.busError = false ∧
          (presentOps Issuer.isSup s = [] → (∀ x, x < p ∨ p + n ≤ x → memRead t.cist x = memRead s.cist x) ∧
            t.engs = s.engs ∧ t.regs = s.regs)) ∧
      (∀ p, translate s 0x10 .read false a = some p → bankDead s (cistBankOf p) = false →
        ∃ t, exec (.supLoad (0x40000000 + a) n) s = .next t ∧ t.sup.bus = some (BitVec.ofNat 32 (leVal (cistGet t p n))) ∧
          t.sup.busError = false ∧
          (presentOps Issuer.isSup s = [] → t.cist = s.cist ∧ t.engs = s.engs ∧ t.regs = s.regs)) ∧
      (translate s 0x10 .write false a = none →
        ∃ t, exec (.supStore (0x40000000 + a) n v) s = .next t ∧
          t = { s with sup := { s.sup with bus := none, busError := true } })) ∧
    (∀ a n, accessOk a n = false ∨ a < 0x8000 ∨ regionOf a = .hole →
      ∃ t, exec (.supStore a n v) s = .next t ∧ t = { s with sup := { s.sup with bus := none, busError := true } }) ∧
    (s.numbered → ∃ t, exec .supFence s = .next t ∧
      (∀ o, o ∈ s.ops → o.issuer.isSup = true → o.presents = true →
        ∃ o', t.op? o.id = some o' ∧ (o'.moved = true ∨ max 1 o.shown ≤ o'.steps)) ∧
      (∀ e, (t.eng e).run = (s.eng e).run) ∧ t.bells = s.bells))

/-- SUP_RING, SUP_TRY, SUP_PEEK and BELLS_WRITE (R246, R248, R250, R251): RING releases the first waiters and adds the
rest, up to 255; TRY returns the count and takes one unit if there is one; PEEK returns it; a host write loads the
count, of which waiters take units. SUP_POST, BANK_READY_MARK, INT_CAUSE_CLEAR and HANDOVER (R230, R325, R527, R528):
a free slot's descriptor that passes acceptance is in flight and the slot is busy, while a post to a busy slot is a
bus error; a bank is marked ready with its FOREIGN value unless a sweep runs or READY stands; cause bits written as 1
clear; HANDOVER sets READY, and the firmware of a checked image first selects a good crystal for the timebase (R529). -/
def Obligations.BellsAndSupervisorPorts : Prop :=
  (∀ (s : State) (b : Nat), s.sound → s.power.mode = .run → b < 64 → s.bells.length = 64 →
    let l := s.bell b
    (supActs s = true →
      (∀ inc : BitVec 8, inc ≠ 0 → let m := min inc.toNat l.waiters.length
        ∃ t, exec (.supRing b inc) s = .next t ∧
          t.bell b = { count := min 255 (l.count + (inc.toNat - m)), waiters := l.waiters.drop m } ∧
          (∀ x, x ≠ b → t.bell x = s.bell x) ∧
          (∀ w g, w ∈ l.waiters.take m → (s.eng w.1).run = some g → g.kind.isTick = w.2 → g.waitBell.isSome = true →
            (t.eng w.1).run = some { g.advance with waitBell := none }) ∧
          t.sup.busError = false ∧ t.cist = s.cist ∧ t.ops = s.ops ∧
          (l.count + (inc.toNat - m) ≤ 255 → t.faults = s.faults ∧ t.regs = s.regs)) ∧
      (∃ t, exec (.supRing b 0) s = .next t ∧ t.bells = s.bells ∧ t.engs = s.engs ∧ t.regs = s.regs) ∧
      (∃ t, exec (.supTry b) s = .next t ∧ t.sup.bus = some (BitVec.ofNat 32 l.count) ∧
        t.bell b = { l with count := l.count - 1 } ∧ (∀ x, x ≠ b → t.bell x = s.bell x) ∧ t.engs = s.engs ∧
        t.regs = s.regs) ∧
      (∃ t, exec (.supPeek b) s = .next t ∧
        t = { s with sup := { s.sup with bus := some (BitVec.ofNat 32 l.count), busError := false } })) ∧
    (∀ v : Word, let m := min (wfld v 0 8) l.waiters.length
      ∃ t, exec (.bellsWrite b v) s = .next t ∧
        t.bell b = { count := wfld v 0 8 - m, waiters := l.waiters.drop m } ∧ (∀ x, x ≠ b → t.bell x = s.bell x) ∧
        (∀ w g, w ∈ l.waiters.take m → (s.eng w.1).run = some g → g.kind.isTick = w.2 → g.waitBell.isSome = true →
          (t.eng w.1).run = some { g.advance with waitBell := none }) ∧
        t.regs = s.regs ∧ t.ops = s.ops ∧ t.cist = s.cist)) ∧
  (∀ (p : Part) (s : State), s.ofPart p → s.sound → s.numbered → s.power.mode = .run → supActs s = true →
    (∀ n (k : BitVec 3), n < 8 → (s.slotOf n).busy = false →
      let desc := memReadN (s.slotOf n).desc 0 128
      let d := parseDesc desc
      supHeld s < 8 → (stalledEngines s true).length < freeTags s → pumpAccepts s k.toNat = true →
      formatBad d none true s.part.engines (windowWidth s d) = false → alignBad d = false → d.op ≠ .remote →
      ∃ t o, exec (.supPost n k) s = .next t ∧ t.op? s.nextOp = some o ∧ t.ops.length = s.ops.length + 1 ∧
        (∀ m x, s.op? m = some x → ∃ z, x.shown ≤ z ∧ t.op? m = some { x with shown := z }) ∧ o.id = s.nextOp ∧
        o.pump = k.toNat ∧ o.issuer = .supervisor n ∧ o.desc = desc ∧ o.fail = 0 ∧ o.moved = false ∧ (t.slotOf n).busy = true ∧
        (∀ m, m ≠ n → t.slotOf m = s.slotOf m) ∧ t.sup.busError = false ∧ t.engs = s.engs ∧ t.cist = s.cist) ∧
    (∀ n (k : BitVec 3), n < 8 → (s.slotOf n).busy = true →
      ∃ t, exec (.supPost n k) s = .next t ∧ t = { s with sup := { s.sup with bus := none, busError := true } }) ∧
    (∀ c foreign, c < 16 → (s.chan c).learn.sweepOn = false → (s.chan c).learn.ready = false →
      ∃ t, exec (.bankReadyMark c foreign) s = .next t ∧ t.sup.busError = false ∧
        ((s.chan c).st ≠ .off → (t.chan c).learn.ready = true ∧ (t.chan c).learn.readyForeign = some foreign ∧
          (t.chan c).learn.active = (s.chan c).learn.active) ∧
        ((s.chan c).st = .off → (t.chan c).learn.ready = false ∧ (t.chan c).learn.foreign = foreign ∧
          (t.chan c).learn.active = !(s.chan c).learn.active) ∧
        (∀ x, x ≠ c → t.chan x = s.chan x) ∧ t.engs = s.engs ∧ t.regs = s.regs) ∧
    (∀ c foreign, c < 16 → (s.chan c).learn.sweepOn = true ∨ (s.chan c).learn.ready = true →
      ∃ t, exec (.bankReadyMark c foreign) s = .next t ∧ t.sup.busError = true ∧ t.chans = s.chans) ∧
    (∀ v : W32, ∃ t, exec (.intCauseClear v) s = .next t ∧
      (∀ j, j < 3 → t.sup.cause.getLsbD j = (s.sup.cause.getLsbD j && !v.getLsbD j)) ∧
      t = { s with sup := { s.sup with cause := t.sup.cause, bus := none, busError := false } }) ∧
    (s.sup.image = false ∨ s.sup.ready = true ∨ s.tbase.xtalOk = false →
      ∃ t, exec .handover s = .next t ∧
        t = { s with sup := { s.sup with ready := true, bus := none, busError := false } }) ∧
    (s.sup.image = true → s.sup.ready = false → s.tbase.xtalOk = true →
      ∃ t, exec .handover s = .next t ∧ t.bit CRY 0x0B 0 = true ∧
        (∀ t' r', key t' r' ≠ key CRY 0x0B → t.rd t' r' = s.rd t' r') ∧
        t = { s with regs := t.regs, sup := { s.sup with ready := true, bus := none, busError := false } }))

/-- What the steward firmware does with the record it pops (R476, R486). The second STILL_ENGINE or store MEM_UE of an
engine and the second STILL_PUMP of a pump within 65,536 ticks, and the third LINK_LOST of a port within 2^26 RIM,
retire the unit, the first ones only count; a STILL_BANK retires its bank; STILL_BANK, STILL_TAGPOOL and STILL_BELL set
buttress mode; a SHADOW_FAIL bars the channel; and a channel that was retired with an engine whose channels are moved,
and is not barred, is readmitted onto the lowest spare engines without a twin where the request READMIT would be
granted. When a record counts is the model's choice (log entry 61). -/
def Obligations.StewardPolicy : Prop :=
  ∀ (p : Part) (s : State) (r : FaultRec) (rest : List FaultRec), s.ofPart p → s.sound → s.power.mode = .run →
    supActs s = true → s.sup.image = true → s.faults.queue = r :: rest → s.tick.number < 2 ^ 32 →
    let k := r.unit
    let y := s.sup.policy
    (r.src = 3 ∨ r.src = 9 ∧ nbit r.flags 2 = true → k < p.engines →
      (y.engines = [] → ∃ t, exec .fltPop s = .next t ∧ t.sup.policy = { y with engines := [(k, s.tick.number)] } ∧
        t.engs = s.engs ∧ t.chans = s.chans) ∧
      (∀ x, y.engines = [(k, x)] → x ≤ s.tick.number → s.tick.number < x + 65536 →
        ∃ t, exec .fltPop s = .next t ∧ (t.eng k).retireCmd = some 0 ∧ (∀ e, e ≠ k → t.eng e = s.eng e) ∧
          t.sup.policy = { y with engines := [], remap := y.remap ++ [k] } ∧ t.chans = s.chans)) ∧
    (r.src = 4 → k < 8 →
      (y.pumps = [] → ∃ t, exec .fltPop s = .next t ∧ t.sup.policy = { y with pumps := [(k, s.tick.number)] } ∧
        t.pumps = s.pumps) ∧
      (∀ x, y.pumps = [(k, x)] → x ≤ s.tick.number → s.tick.number < x + 65536 →
        ∃ t, exec .fltPop s = .next t ∧ (t.pump k).retireCmd = some true ∧ (∀ e, e ≠ k → t.pump e = s.pump e) ∧
          t.sup.policy = { y with pumps := [] })) ∧
    (r.src = 13 → k < p.links → r.rim < 2 ^ 32 →
      ∀ a b, y.ports = [(k, a), (k, b)] → a ≤ b → b ≤ r.rim → r.rim < a + 2 ^ 26 →
        ∃ t, exec .fltPop s = .next t ∧ (k, true) ∈ t.faults.portCmds ∧ t.sup.policy = { y with ports := [] } ∧
          t.ports = s.ports) ∧
    (r.src = 5 → k < 16 → (s.bank k).retired = false →
      ∃ t, exec .fltPop s = .next t ∧ (t.bank k).retired = true ∧ t.bit DEV 0x03 14 = true ∧
        (∀ b, b ≠ k → t.bank b = s.bank b) ∧ t.chans = s.chans) ∧
    (r.src = 6 ∨ r.src = 7 →
      ∃ t, exec .fltPop s = .next t ∧ t.bit DEV 0x03 14 = true ∧
        (∀ t' r', key t' r' ≠ key DEV 0x03 → t.rd t' r' = s.rd t' r') ∧ t.banks = s.banks ∧ t.chans = s.chans) ∧
    (r.src = 15 → ∃ t, exec .fltPop s = .next t ∧ k ∈ t.sup.policy.barred ∧ t.chans = s.chans ∧ t.regs = s.regs) ∧
    (r.src = 16 → r.detail = 4 → r.detail2 = 3 → k < 16 →
      (k ∈ y.barred → ∃ t, exec .fltPop s = .next t ∧ t.chans = s.chans ∧ t.regs = s.regs ∧ t.engs = s.engs) ∧
      (k ∉ y.barred → (∃ e, e ∈ chanEngines s k ∧ e ∈ y.remap) →
        ∀ e, spareRun s (s.fld (CH k) 0x02 4 3 + 1) = some e →
        let w := word (s.fld (CH k) 0x02 4 3 * 16 + e)
        (readmitChan k true w 0 (fltPop s)).2.1 = 0 →
        ∃ t, exec .fltPop s = .next t ∧ (t.chan k).readmitCmd = true ∧ t.rd (CH k) 0x02 = w ∧
          t.faults.shadowCfg = s.faults.shadowCfg.set k 0 ∧ (∀ c, c ≠ k → t.chan c = s.chan c) ∧ t.cist = s.cist))

/-- The fault port (R462, R467, R472, R476, R478, R483, R484): QSTAT and the head record are returned and POP removes
the head, which the firmware of a checked image keeps; RETIRE takes a bank out at once and commands any other unit for the next
snapshot edge, READMIT commands it back, and a reserved KIND is a bus error; BUTTRESS sets buttress mode whatever LOCK
holds; REPAIR, SCRUB and SHADOW_CFG are taken. -/
def Obligations.FaultPortRows : Prop :=
  ∀ (p : Part) (s : State) (v : W32), s.ofPart p → s.sound → s.power.mode = .run → supActs s = true →
    (∃ t, exec .fltQstat s = .next t ∧
      t = { s with sup := { s.sup with bus := some (BitVec.ofNat 32 (s.faults.queue.length + 65536 * s.faults.lost)),
                                       busError := false } }) ∧
    (∀ r rest, s.faults.queue = r :: rest →
      (∀ k, k < 4 → ∃ t, exec (.fltHeadRead k) s = .next t ∧
        t = { s with sup := { s.sup with bus := some (BitVec.ofNat 32 (leVal ((r.bytes.drop (4 * k)).take 4))),
                                         busError := false } }) ∧
      (s.sup.image = false → ∃ t, exec .fltPop s = .next t ∧
        t = { s with faults := { s.faults with queue := rest }, sup := { s.sup with bus := none, busError := false } }) ∧
      (s.sup.image = true → ∃ t, exec .fltPop s = .next t ∧
        t.sup.kept = (s.sup.kept ++ [r]).drop (s.sup.kept.length - 63) ∧ t.sup.busError = false ∧
        (r.src ∈ [1, 2, 8, 10, 11, 14, 17] ∨ r.src = 9 ∧ nbit r.flags 2 = false →
          t = { s with faults := { s.faults with queue := rest },
                       sup := { s.sup with kept := t.sup.kept, bus := none, busError := false } }))) ∧
    (cmdKind v = 2 → cmdIndex v < 16 → (s.bank (cmdIndex v)).retired = false →
      ∃ t, exec (.fltRetire v) s = .next t ∧ (t.bank (cmdIndex v)).retired = true ∧ t.sup.busError = false ∧
        (∀ b, b ≠ cmdIndex v → t.bank b = s.bank b) ∧ t.engs = s.engs ∧ t.chans = s.chans) ∧
    (cmdKind v = 0 → cmdIndex v < p.engines →
      (∃ t, exec (.fltRetire v) s = .next t ∧ (t.eng (cmdIndex v)).retireCmd = some 0 ∧
        (t.eng (cmdIndex v)).readmitCmd = false ∧ (∀ x, x ≠ cmdIndex v → t.eng x = s.eng x) ∧ t.chans = s.chans) ∧
      (∃ t, exec (.fltReadmit v) s = .next t ∧ (t.eng (cmdIndex v)).readmitCmd = true ∧
        (t.eng (cmdIndex v)).retireCmd = none ∧ (∀ x, x ≠ cmdIndex v → t.eng x = s.eng x) ∧ t.chans = s.chans)) ∧
    (cmdKind v = 4 → cmdIndex v < 16 →
      (∃ t, exec (.fltRetire v) s = .next t ∧ (t.chan (cmdIndex v)).retireCmd = some 0 ∧
        (∀ x, x ≠ cmdIndex v → t.chan x = s.chan x) ∧ t.engs = s.engs) ∧
      (∃ t, exec (.fltReadmit v) s = .next t ∧ (t.chan (cmdIndex v)).readmitCmd = true ∧
        (∀ x, x ≠ cmdIndex v → t.chan x = s.chan x) ∧ t.engs = s.engs)) ∧
    (4 < cmdKind v →
      (∃ t, exec (.fltRetire v) s = .next t ∧ t = { s with sup := { s.sup with bus := none, busError := true } }) ∧
      (∃ t, exec (.fltReadmit v) s = .next t ∧ t = { s with sup := { s.sup with bus := none, busError := true } })) ∧
    (v.getLsbD 0 = true → ∃ t, exec (.fltButtress v) s = .next t ∧ t.bit DEV 0x03 14 = true ∧
      (∀ t' r', key t' r' ≠ key DEV 0x03 → t.rd t' r' = s.rd t' r') ∧ t.tick = s.tick ∧ t.chans = s.chans) ∧
    (∃ t, exec (.fltRepair v) s = .next t ∧
      (repairBank (v.getLsbD 16) v.toNat, fld v.toNat 0 8) ∈ t.faults.repairCmds ∧ t.banks = s.banks ∧
      t.storeBanks = s.storeBanks ∧ t.regs = s.regs) ∧
    (∃ t, exec (.fltScrub v) s = .next t ∧ t.faults = { s.faults with scrub := v.truncate 16 } ∧ t.regs = s.regs) ∧
    (∀ c, c < 16 → s.faults.shadowCfg.length = 16 → ∃ t, exec (.shadowCfg c v) s = .next t ∧
      t.faults.shadowCfg[c]? = some (v.truncate 16 &&& 0x8FFF) ∧
      (∀ x, x ≠ c → t.faults.shadowCfg[x]? = s.faults.shadowCfg[x]?) ∧ t.regs = s.regs ∧ t.chans = s.chans)

/-! ## Power, start-up, clocks and the timebase (19, 20) -/

/-- LEVEL_REQUEST, VID_DWELL_EXPIRY, VPG_SETTLE, VPG_TIMEOUT and VPG_FALL (R494 to R498): a request for the present
level completes at once; another begins a change, whose VID takes a step at once towards a faster level, and behind
the other codes' switch towards a slower one; each dwell steps VID one code nearer until it is there; once VPG has
settled the level, bias, assist and governor are the new level's; a timeout sends VID back, and a fall without a
change is recorded. -/
def Obligations.LevelChange : Prop :=
  ∀ (s : State), s.sound → s.power.mode = .run →
    (∀ n : BitVec 2, s.power.prog = none → levelNow s = n.toNat →
      ∃ t, exec (.levelRequest n) s = .next t ∧ t.bit PWR 0x04 7 = true ∧ t.bit DEV 0x05 evPwr = true ∧
        t.power = s.power ∧ t.rd PWR 0x02 = word n.toNat ∧ t.rd PWR 0x00 = s.rd PWR 0x00) ∧
    (∀ n : BitVec 2, s.power.prog = none → levelNow s ≠ n.toNat →
      ∃ t c, exec (.levelRequest n) s = .next t ∧ t.power.prog = some (.level n.toNat) ∧ t.power.change = some c ∧
        c.dest = n.toNat ∧ c.target = vidOf s n.toNat ∧ c.revert = false ∧
        t.power.vid = vidStep (vidOf s n.toNat) s.power.vid ∧ t.bit DEV 0x24 15 = false ∧ t.tick.lean = false ∧
        (levelNow s < n.toNat → c.mark = s.now ∧ t.power.gov = s.power.gov ∧ t.power.bias = s.power.bias) ∧
        (n.toNat < levelNow s → c.mark = s.now + 66 ∧ t.power.gov = n.toNat ∧ t.power.bias = biasOf s n.toNat ∧
          t.power.assist = assistOf s n.toNat) ∧ t.rd PWR 0x00 = s.rd PWR 0x00) ∧
    (∀ (n : BitVec 2) (q : PowerReq), s.power.prog = some q → q ≠ .level n.toNat → s.power.pend = none →
      ∃ t, exec (.levelRequest n) s = .next t ∧ t.power = { s.power with pend := some (.level n.toNat) }) ∧
    (∀ c, s.power.change = some c → c.step = .vid →
      (s.power.vid ≠ c.target →
        ∃ t, exec .vidDwellExpiry s = .next t ∧ t.power.vid = vidStep c.target s.power.vid ∧
          t.power.change = some { c with mark := c.mark + dwell s } ∧ t.now = max s.now (c.mark + dwell s) ∧
          t.regs = s.regs ∧ t.tick = s.tick) ∧
      (s.power.vid = c.target →
        ∃ t, exec .vidDwellExpiry s = .next t ∧ t.power.vid = s.power.vid ∧
          t.power.change = some { c with step := .settle, mark := c.mark + dwell s } ∧ t.regs = s.regs)) ∧
    (∀ c, s.power.change = some c → c.step = .settle →
      (c.revert = false → s.power.pend = none → c.dest < 4 →
        ∃ t, exec .vpgSettle s = .next t ∧ levelNow t = c.dest ∧ t.bit PWR 0x04 7 = true ∧ t.power.gov = c.dest ∧
          t.power.bias = biasOf s c.dest ∧ t.power.assist = assistOf s c.dest ∧ t.power.prog = none ∧
          t.power.change = none ∧ t.power.vpg = true ∧ t.power.vid = s.power.vid ∧ t.now = max s.now (c.mark + 1024)) ∧
      (c.revert = true → s.power.pend = none →
        ∃ t, exec .vpgSettle s = .next t ∧ levelNow t = levelNow s ∧ t.bit PWR 0x04 3 = true ∧ t.power.gov = c.gov ∧
          t.power.bias = c.bias ∧ t.power.assist = c.assist ∧ t.power.prog = none ∧ t.power.change = none) ∧
      (c.revert = false →
        ∃ t d, exec .vpgTimeout s = .next t ∧ t.power.vpg = false ∧ t.power.change = some d ∧ d.revert = true ∧
          d.target = c.startVid ∧ d.step = .vid ∧ t.power.vid = vidStep c.startVid s.power.vid ∧
          t.now = max s.now (c.mark + 15 * dwell s) ∧ t.regs = s.regs)) ∧
    (s.power.change = none →
      ∃ t, exec .vpgFall s = .next t ∧ t.bit PWR 0x04 2 = true ∧ t.bit DEV 0x05 evPwr = true ∧
        t.power = { s.power with vpg := false })

/-- MODE_RUN_WRITE, SLEEP_QUERY_ANSWER, QUIESCE_ANSWER, QUIESCE_TIMEOUT and TICK_UNIT_TIMEOUT (R396, R500 to R504): a
Run request before the commit marks the entry to abort; a block that agrees is stopped and the next is queried, the
last one commits the entry; a block that refuses (a walk whose QREFUSE is high, whatever its QAGREE), or a queried walk or
tick unit that does not answer in time, ends the entry with its identifier in PWR_REFUSE_LAST, one more refusal counted,
and the supervisor out of WFI; after RETRY
further attempts the firmware writes TARGET = 0 (R510). -/
def Obligations.SleepQuery : Prop :=
  ∀ (s : State) (e : SleepEntry) (b : SleepBlock) (rest : List SleepBlock), s.sound → s.power.mode = .run →
    s.power.entry = some e → e.todo = b :: rest → s.power.committed = none → s.power.pend = none →
    (∃ t, exec .modeRunWrite s = .next t ∧ t.power.entry = some { e with aborting := true } ∧ t.fld PWR 0x01 0 2 = 0 ∧
      t.power.prog = s.power.prog) ∧
    (∀ perf, blockAnswer s perf b = some true → e.aborting = false →
      ∃ t, exec (.sleepQueryAnswer perf) s = .next t ∧
        (∀ n ns, rest = n :: ns → ∃ e', t.power.entry = some e' ∧ e'.todo = rest ∧ e'.stopped = b :: e.stopped ∧
          e'.target = e.target ∧ t.power.committed = none) ∧
        (rest = [] → t.power.entry = none ∧ t.power.committed = some e.target) ∧
        (b = .tick → t.tick.stopped = true)) ∧
    (∀ perf, blockAnswer s perf b = some false →
      ∃ t, exec (.sleepQueryAnswer perf) s = .next t ∧ t.power.entry = none ∧ t.power.prog = none ∧
        t.power.committed = none ∧ t.rd PWR 0x06 = word (e.target * 0x4000 + b.id) ∧
        t.rd PWR 0x05 = satAdd16 (s.rd PWR 0x05) 1 ∧ t.bit PWR 0x04 6 = true ∧ t.sup.wfi = false ∧
        (s.sup.image = true → s.fld PWR 0x01 4 4 ≤ s.sup.policy.tries →
          t.fld PWR 0x01 0 2 = 0 ∧ t.sup.policy.tries = 0) ∧
        (s.sup.image = true → s.sup.policy.tries < s.fld PWR 0x01 4 4 →
          t.rd PWR 0x01 = s.rd PWR 0x01 ∧ t.sup.policy.tries = s.sup.policy.tries + 1) ∧
        (s.sup.image = false → t.rd PWR 0x01 = s.rd PWR 0x01)) ∧
    (∀ w, b = .walk w → (s.walk w).qreq = true →
      (e.aborting = false → ∀ n ns, rest = n :: ns →
        ∃ t e', exec (.quiesceAnswer w ⟨true, false⟩) s = .next t ∧ t.power.entry = some e' ∧ e'.todo = rest ∧
          e'.stopped = b :: e.stopped) ∧
      (∀ agree, ∃ t, exec (.quiesceAnswer w ⟨agree, true⟩) s = .next t ∧ t.power.entry = none ∧ t.power.prog = none ∧
        t.rd PWR 0x06 = word (e.target * 0x4000 + b.id) ∧ t.sup.wfi = false) ∧
      exec (.quiesceAnswer w ⟨false, false⟩) s = .next s ∧
      (∃ t, exec (.quiesceTimeout w) s = .next t ∧ t.now = max s.now (e.since + 4096) ∧ t.power.entry = none ∧
        t.rd PWR 0x06 = word (e.target * 0x4000 + b.id) ∧ t.sup.wfi = false)) ∧
    (b = .tick → tickDone s = false →
      ∃ t, exec .tickUnitTimeout s = .next t ∧ t.now = max s.now (e.since + 65536) ∧ t.power.entry = none ∧
        t.rd PWR 0x06 = word (e.target * 0x4000 + 1) ∧ t.sup.wfi = false)

/-- HUSH_GATE, DORMANT_ENTRY, WAKE_EDGE, LISTENER_MATCH and DORMANT_WAKE (R13, R504 to R507, R530 to R533). After the
drain Hush gates the clocks and ends every TRIP_N hold; Dormant keeps the crypt alone. A wake edge brings Hush back to
Run with the source recorded, and is latched in Dormant, as is a frame whose address the listener matches; the latched
wake rebuilds the device, with every register outside the crypt at its reset value. -/
def Obligations.SleepAndWake : Prop :=
  ∀ (s : State), s.sound →
    (s.power.mode = .run → s.power.committed = some 1 → s.power.wake = none →
      ∃ t, exec .hushGate s = .next t ∧ t.power.mode = .hush ∧ t.now = s.now + 258 ∧ t.journal.queue = [] ∧
        (∀ c, (t.chan c).holdEnd = none ∧ (t.chan c).btRec = 0) ∧ t.ops = s.ops ∧ t.engs = s.engs ∧ t.tb = s.tb) ∧
    (s.power.mode = .run → s.power.committed = some 2 →
      ∃ t, exec .dormantEntry s = .next t ∧ t.power.mode = .dormant ∧ t.power.wake = s.power.wake ∧ t.tb = s.tb ∧
        t.tbase = s.tbase ∧ t.sec.slots = s.sec.slots ∧ t.cist = [] ∧ t.ops = [] ∧
        (∀ r, r < 256 → t.rd CRY r = s.rd CRY r)) ∧
    (s.power.mode = .hush → s.power.pend = none →
      ∃ t, exec .wakeEdge s = .next t ∧ t.power.mode = .run ∧ t.rd CRY 0x02 = 1 ∧ t.bit CRY 0x01 14 = true ∧
        t.power.entry = none ∧ t.power.committed = none ∧ t.power.prog = none ∧ t.power.pulses = s.power.pulses + 1 ∧
        t.fld PWR 0x01 0 2 = 0 ∧ t.bit PWR 0x04 1 = true ∧ t.now = s.now + 256 ∧ t.sup.wfi = false) ∧
    (s.power.mode = .dormant → s.power.wake = none →
      (∃ t, exec .wakeEdge s = .next t ∧ t = { s with power := { s.power with wake := some (1, 0) } }) ∧
      (∀ a : BitVec 7, listenerMatches s a = true →
        ∃ t, exec (.listenerMatch a) s = .next t ∧ t = { s with power := { s.power with wake := some (2, a.toNat) } }) ∧
      (∀ a : BitVec 7, listenerMatches s a = false → exec (.listenerMatch a) s = .next s)) ∧
    (∀ src addr, s.power.mode = .dormant → s.power.wake = some (src, addr) → src < 8 → addr < 128 →
      ∃ t, exec .dormantWake s = .next t ∧ t.power.mode = .run ∧ t.power.rimPll = false ∧ t.power.wake = none ∧
        t.rd CRY 0x02 = word (0x8000 + addr * 256 + src) ∧ t.bit CRY 0x01 15 = true ∧ t.tb = s.tb ∧
        t.power.pulses = s.power.pulses + 1 ∧ t.sup.mode = (if 2 ≤ s.straps.boot.toNat then .halted else .boot) ∧
        (∀ t' r', t' < 256 → r' < 256 → t' ≠ CRY → key t' r' ≠ key SUP 0x02 →
          t.rd t' r' = resetWord s.part s.straps (key t' r')))

/-- POWER_UP, START_STAGE, REFCLK_TIMEOUT, RESET_N_ASSERT, RESET_N_RELEASE, CRYPT_BROWNOUT and FLASH_BOOT (R513 to
R525, R556, R611). A cold start has every register at its reset value and the stages in order, the fifth ending in Run
with the ready pulse; a missing REFCLK leaves RIM on FIO; RESET_N keeps the timebase, the fuses and TB_GAP, and a loss
of VIN_CRYPT only the fuses. While no walk's load holds the flash, a flash image that passes its checks starts the steward, and
any other sets FAIL with its code. -/
def Obligations.StartUpAndResets : Prop :=
  ∀ (s : State), s.sound →
    (∀ b, s.power.mode = .off →
      ∃ t, exec (.powerUp b) s = .next t ∧ t.power.mode = .starting ∧ t.power.stage = 0 ∧ t.straps = b ∧ t.part = s.part ∧
        (∀ t' r', t.rd t' r' = resetWord s.part b (key t' r')) ∧ t.tb = 0 ∧ t.cist = [] ∧ t.sec.slots = s.sec.slots) ∧
    (s.power.mode = .starting →
      (s.power.stage = 0 → ∃ t, exec .startStage s = .next t ∧ t = { s with power := { s.power with stage := 1 } }) ∧
      (s.power.stage = 1 → s.power.resetLow = true → exec .startStage s = .next s) ∧
      (s.power.stage = 1 → s.power.resetLow = false →
        ∃ t, exec .startStage s = .next t ∧ t.power.stage = 2 ∧ t.power.vpg = true ∧
          t.fld CRY 0x03 0 7 = 0x48 + s.straps.addr.toNat ∧ t = { s with power := t.power, regs := t.regs }) ∧
      (s.power.stage = 2 →
        (∃ t, exec .startStage s = .next t ∧ t = { s with power := { s.power with stage := 3, refclkOk := true,
                                                                                  rimLock := true, rimPll := true } }) ∧
        (∃ t, exec .refclkTimeout s = .next t ∧
          t = { s with power := { s.power with stage := 3, refclkOk := false, rimLock := false, rimPll := false } })) ∧
      (s.power.stage = 3 → ∃ t, exec .startStage s = .next t ∧ t = { s with power := { s.power with stage := 4 } }) ∧
      (s.power.stage = 4 → ∃ t, exec .startStage s = .next t ∧ t.power.stage = 5 ∧ t.power.mode = .run ∧
        t.power.bootAt = s.now ∧ t.power.pulses = s.power.pulses + 1 ∧
        t.sup.mode = (if 2 ≤ s.straps.boot.toNat then .halted else .boot) ∧ t.engs = s.engs ∧ t.chans = s.chans)) ∧
    (s.power.mode ≠ .off → s.tbase.act = false →
      ∃ t, exec .resetNAssert s = .next t ∧ t.power.mode = .starting ∧ t.power.resetLow = true ∧ tripLow t = true ∧
        t.tb = s.tb ∧ t.tbase = s.tbase ∧ t.sec.slots = s.sec.slots ∧ t.rd CRY 0x0C = s.rd CRY 0x0C ∧
        (∀ t' r', key t' r' ≠ key CRY 0x0C → t.rd t' r' = resetWord s.part s.straps (key t' r'))) ∧
    (s.power.mode ≠ .off →
      ∃ t, exec .resetNRelease s = .next t ∧ t = { s with power := { s.power with resetLow := false } }) ∧
    (∃ t, exec .cryptBrownout s = .next t ∧ t.power.mode = .off ∧ t.tb = 0 ∧ t.regs = [] ∧ t.cist = [] ∧
      t.sec.slots = s.sec.slots) ∧
    (∀ img quad, s.power.mode = .run → flashHeld s = false → supState s = .boot →
      s.straps.boot.toNat = (if quad then 1 else 0) →
      imageSizeOk img = true → 128 + imageLength img ≤ img.length →
      ∃ t, exec (.flashBoot img quad) s = .next t ∧ t.bit SUP 0x02 13 = true ∧
        memReadN t.sup.sram 0 (128 + imageLength img) = img.take (128 + imageLength img) ∧
        (bootError true img = 0 → t.sup.mode = .running ∧ t.sup.image = true ∧ t.bit SUP 0x02 11 = false) ∧
        (bootError true img ≠ 0 → t.sup.mode = .halted ∧ t.bit SUP 0x02 11 = true ∧
          t.fld SUP 0x02 8 3 = bootError true img))

/-- RIM_SWITCH, RIM_TO_FIO, PLL_LOCK_LOSS, RIM_PLL_LOCK, TB_SEL_WRITE, TB_CHANGEOVER, CRYSTAL_STOP and TB_LOG_READ
(R524, R534 to R537): RIM moves to the locked PLL or to FIO; the timebase changes source when it can, with the count
logged; a stopped crystal hands the count back to the RC with GAP; the log is read oldest entry first. -/
def Obligations.ClockSources : Prop :=
  ∀ (s : State), s.sound → s.power.mode = .run →
    (∃ t, exec .rimSwitch s = .next t ∧ t.power.rimPll = (s.power.rimPll || s.power.rimLock) ∧ t.regs = s.regs ∧
      t.power.rimLock = s.power.rimLock) ∧
    (∃ t, exec .rimToFio s = .next t ∧ t.power.rimPll = false ∧ t.power.rimLock = s.power.rimLock ∧
      (s.power.rimPll = true → t.bit DEV 0x24 15 = false)) ∧
    (∃ t, exec .pllLockLoss s = .next t ∧ t.power.rimPll = false ∧ t.power.rimLock = false) ∧
    (∃ t, exec .rimPllLock s = .next t ∧ t = { s with power := { s.power with rimLock := true } }) ∧
    (∀ sel, ∃ t, exec (.tbSelWrite sel) s = .next t ∧ t.bit CRY 0x0B 0 = sel ∧ t = { s with regs := t.regs } ∧
      (∀ t' r', key t' r' ≠ key CRY 0x0B → t.rd t' r' = s.rd t' r')) ∧
    (∀ sel, s.bit CRY 0x0B 0 = sel → sel ≠ s.tbase.act → (sel = true → s.straps.xtal = true) →
      ∃ t, exec .tbChangeover s = .next t ∧ t.tbase.act = sel ∧ t.tb = s.tb ∧
        (∃ x, t.tbase.log.getLast? = some x ∧ x.count = s.tb ∧ x.src = sel ∧ x.stop = false ∧ x.reset = false ∧
          x.seq = s.tbase.seq) ∧
        t.fld CRY 0x0C 0 4 = min 15 (s.fld CRY 0x0C 0 4 + 1) ∧ t.tick = s.tick ∧ t.engs = s.engs) ∧
    (s.straps.xtal = true → s.tbase.act = true →
      ∃ t, exec .crystalStop s = .next t ∧ t.tbase.act = false ∧ t.tbase.xtalOk = false ∧ t.tb = s.tb ∧
        t.bit CRY 0x0C 15 = true ∧
        (∃ x, t.tbase.log.getLast? = some x ∧ x.count = s.tb ∧ x.src = false ∧ x.stop = true)) ∧
    (∀ n, 1 ≤ n → n ≤ 16 →
      ∃ t, exec (.tbLogRead n) s = .next t ∧ t = { s with ctl := t.ctl } ∧
        ∃ st : Word, let body := wireBytes st ++ (List.range n).flatMap (fun k => wireBytes (tbLogWord s k))
          t.ctl.answer = some (body ++ [byte (crc8 body)]))

/-! ## Links (17) -/

/-- What is left of the traffic of port `p` once it has entered Down, Lost or Retired, or has restarted (R447): its REMOTE
operations have completed, no sequence state, no queue, no peer service and no XID is held. -/
def Sys2Proof.Machine.linkEmptied (s t : State) (p : Nat) : Prop :=
  (∀ o ∈ portOps s p, t.op? o.id = none) ∧ (t.port p).replay = [] ∧ (t.port p).held = [] ∧ (t.port p).queue = [] ∧
    (t.port p).peers = [] ∧ (t.port p).xids = [] ∧ (t.port p).txNext = 0 ∧ (t.port p).expect = 0 ∧
    (∀ n, n ≠ p → (t.port n).st = (s.port n).st)

/-- LINK_ENABLE, LINK_DISABLE, LINK_RETIRE and LINK_UNRETIRE (R138, R441, R447, R448): while LNK_CTRL holds no
reserved code and the retry window fits the transfer timeout, ENABLE takes a Down port to Training; clearing it takes
a port that is not retired to Down, and RETIRE to Retired, each with its transfers lost and nothing held; clearing
RETIRE under ENABLE takes it to Training. Each change of state raises LINK. -/
def Obligations.LinkControl : Prop :=
  ∀ (s : State) (p : Nat), s.sound → s.power.mode = .run → p < s.part.links → p < s.ports.length →
    reservedWord s.part (LNK p) 0x00 (s.rd (LNK p) 0x00) = false →
    (s.rd (LNK p) 0x02).toNat * s.fld (LNK p) 0x03 0 8 < (s.rd PMP 0x02).toNat →
    let q := s.port p
    (q.st = .down → s.bit (LNK p) 0x00 14 = false →
      ∃ t, exec (.linkEnable p) s = .next t ∧ (t.port p).st = .training ∧ (t.port p).seen = false ∧
        t.bit (LNK p) 0x00 15 = true ∧ t.bit DEV 0x05 evLink = true ∧ (∀ n, n ≠ p → t.port n = s.port n) ∧
        t.ops = s.ops ∧ t.engs = s.engs ∧ t.cist = s.cist) ∧
    (q.st ≠ .down → s.bit (LNK p) 0x00 14 = false →
      ∃ t, exec (.linkDisable p) s = .next t ∧ (t.port p).st = .down ∧ t.bit (LNK p) 0x00 15 = false ∧
        t.bit (LNK p) 0x04 15 = false ∧ t.bit DEV 0x05 evLink = true ∧ linkEmptied s t p) ∧
    (q.st ≠ .retired →
      ∃ t, exec (.linkRetire p) s = .next t ∧ (t.port p).st = .retired ∧ t.bit (LNK p) 0x00 14 = true ∧
        t.bit (LNK p) 0x04 15 = false ∧ t.bit DEV 0x05 evLink = true ∧ linkEmptied s t p) ∧
    (q.st = .retired → s.bit (LNK p) 0x00 15 = true →
      ∃ t, exec (.linkUnretire p) s = .next t ∧ (t.port p).st = .training ∧ t.bit (LNK p) 0x00 14 = false ∧
        t.bit DEV 0x05 evLink = true ∧ (∀ n, n ≠ p → t.port n = s.port n) ∧ t.ops = s.ops ∧ t.engs = s.engs)

/-- TRAINING_COMPLETE, LANE_LOCK_LOST, RETRY_STEP, RETRY_WINDOW_END and BLOCK_LOCK_REGAINED (R442 to R446, R462): once
both lanes of a Training or Retry port hold block lock, a HELLO that fails a check gives its REASON, 8 for an offset above
20 ppm and 9 for a skew above 16 blocks among them (the measures are the command's: log entry 65); one that passes takes a
Training port to Up with fresh sequences and 128 credits when the partner has seen ours; from Retry it resumes where both
sides' numbers fit, else it restarts under RESTARTED, or CHANGED for another partner. An Up port that loses a lane enters
Retry; there ATTEMPTS counts the steps, and the window's end makes it Lost with a fault record; a PAUSED port starts its
window afresh when both lanes lock again. -/
def Obligations.LinkTraining : Prop :=
  ∀ (s : State) (p : Nat), s.sound → s.power.mode = .run → p < s.part.links → p < s.ports.length →
    let q := s.port p
    (∀ (hello : List Byte) (b0 b1 : List (BitVec 66)) (offset : Int) (skew : Nat), hello.length = 96 →
      let h := parseHello hello
      let s1 := feedLanes p b0 b1 (measured p offset skew s)
      (q.st ≠ .training → q.st ≠ .retry → exec (.trainingComplete p ⟨⟨hello, offset, skew⟩, ⟨b0, b1⟩⟩) s = .next s) ∧
      (q.st = .training ∨ q.st = .retry → (s1.port p).locked = false →
        exec (.trainingComplete p ⟨⟨hello, offset, skew⟩, ⟨b0, b1⟩⟩) s = .next s1) ∧
      (q.st = .training ∨ q.st = .retry → (s1.port p).locked = true → helloReason s1 p h ≠ 0 →
        exec (.trainingComplete p ⟨⟨hello, offset, skew⟩, ⟨b0, b1⟩⟩) s =
          .next (s1.modPort p (fun q => { q with reason := helloReason s1 p h }))) ∧
      (q.st = .training ∨ q.st = .retry → (s1.port p).locked = true → h.version = 1 → h.devId = 0x1640 →
        h.chip ≠ chipId s → s.bit (LNK p) 0x00 13 = false ∨ h.chip = s.fld (LNK p) 0x00 10 3 →
        (20 < offset.natAbs → ∃ t, exec (.trainingComplete p ⟨⟨hello, offset, skew⟩, ⟨b0, b1⟩⟩) s = .next t ∧
          (t.port p).reason = 8 ∧ (t.port p).st = q.st) ∧
        (offset.natAbs ≤ 20 → 16 < skew → ∃ t, exec (.trainingComplete p ⟨⟨hello, offset, skew⟩, ⟨b0, b1⟩⟩) s = .next t ∧
          (t.port p).reason = 9 ∧ (t.port p).st = q.st)) ∧
      (q.st = .training ∨ q.st = .retry → (s1.port p).locked = true → helloReason s1 p h = 0 → h.seen = false →
        exec (.trainingComplete p ⟨⟨hello, offset, skew⟩, ⟨b0, b1⟩⟩) s = .next (s1.modPort p (fun q => { q with seen := true }))) ∧
      ((s1.port p).locked = true → helloReason s1 p h = 0 → h.seen = true →
        (q.st = .training →
          ∃ t, exec (.trainingComplete p ⟨⟨hello, offset, skew⟩, ⟨b0, b1⟩⟩) s = .next t ∧ (t.port p).st = .up ∧
            (t.port p).txNext = 0 ∧ (t.port p).expect = 0 ∧ (t.port p).replay = [] ∧ (t.port p).limit = 128 ∧
            (t.port p).used = 0 ∧ (t.port p).granted = 128 ∧ (t.port p).partner = h.identity ∧
            (t.port p).partnerChip = h.chip ∧ t.rd (LNK p) 0x04 = partnerWord h ∧ t.bit DEV 0x05 evLink = true ∧
            (∀ n, n ≠ p → t.port n = s.port n) ∧ t.engs = s.engs ∧ t.cist = s.cist) ∧
        (q.st = .retry → q.partner = h.identity → q.partnerChip = h.chip → resumes s.part q h = true →
          ∃ t, exec (.trainingComplete p ⟨⟨hello, offset, skew⟩, ⟨b0, b1⟩⟩) s = .next t ∧ (t.port p).st = .up ∧
            (t.port p).txNext = q.txNext ∧ (t.port p).expect = q.expect ∧ (t.port p).held = [] ∧
            (t.port p).limit = 128 ∧ (t.port p).used = 0 ∧ (t.port p).granted = 128 ∧
            (t.port p).replay = q.replay.filter (fun x => seqFrom x.1 h.rxExpect) ∧
            t.rd (LNK p) 0x09 = satAdd16 (s.rd (LNK p) 0x09) (t.port p).replay.length ∧
            t.bit (LNK p) 0x01 14 = s.bit (LNK p) 0x01 14 ∧ t.engs = s.engs ∧ t.cist = s.cist) ∧
        (q.st = .retry → q.partner = h.identity → q.partnerChip = h.chip → resumes s.part q h = false →
          ∃ t, exec (.trainingComplete p ⟨⟨hello, offset, skew⟩, ⟨b0, b1⟩⟩) s = .next t ∧ (t.port p).st = .up ∧
            t.bit (LNK p) 0x01 14 = true ∧ (t.port p).limit = 128 ∧ (t.port p).used = 0 ∧ linkEmptied s t p) ∧
        (q.st = .retry → q.partner ≠ h.identity ∨ q.partnerChip ≠ h.chip →
          ∃ t, exec (.trainingComplete p ⟨⟨hello, offset, skew⟩, ⟨b0, b1⟩⟩) s = .next t ∧ (t.port p).st = .up ∧
            t.bit (LNK p) 0x01 15 = true ∧ (t.port p).limit = 128 ∧ (t.port p).used = 0 ∧ linkEmptied s t p))) ∧
    (∀ lane ws, lane < 2 → q.st = .up →
      ((q.rx lane).loses ws = true →
        ∃ t, exec (.laneLockLost p ⟨lane, ws⟩) s = .next t ∧ (t.port p).st = .retry ∧ (t.port p).reason = 1 ∧
          (t.port p).paused = false ∧ (t.port p).attempts = 0 ∧ (t.port p).retryFrom = s.now ∧
          (t.port p).retryT = (s.rd (LNK p) 0x02).toNat ∧ (t.port p).retryMax = (s.rd (LNK p) 0x03).toNat ∧
          (t.port p).replay = q.replay ∧ t.bit DEV 0x05 evLink = true ∧ (∀ n, n ≠ p → t.port n = s.port n) ∧
          t.ops.length = s.ops.length ∧ t.engs = s.engs) ∧
      ((q.rx lane).loses ws = false →
        ∃ t, exec (.laneLockLost p ⟨lane, ws⟩) s = .next t ∧ t = { s with ports := t.ports } ∧
          t.port p = { q with rx0 := (t.port p).rx0, rx1 := (t.port p).rx1 } ∧ (∀ n, n ≠ p → t.port n = s.port n))) ∧
    (q.st = .retry → q.paused = false →
      (∃ t, exec (.retryStep p) s = .next t ∧ (t.port p).attempts = min 31 (q.attempts + 1) ∧
        t.now = max s.now (q.retryFrom + q.retryT * 1024 * (q.attempts + 1)) ∧ (t.port p).st = .retry ∧
        t.regs = s.regs ∧ t.ops = s.ops) ∧
      (∃ t, exec (.retryWindowEnd p) s = .next t ∧ (t.port p).st = .lost ∧ (t.port p).attempts = min 31 q.retryMax ∧
        t.now = max s.now (q.retryFrom + q.retryT * q.retryMax * 1024) ∧ t.bit (LNK p) 0x04 15 = false ∧
        t.bit DEV 0x05 evFault = true ∧ linkEmptied s t p ∧
        (s.ops = [] → s.faults.queue.length < 64 → ∃ r, t.faults.queue = s.faults.queue ++ [r] ∧ r.src = 13 ∧
          r.unit = p ∧ r.chan = 0xFF ∧ r.detail = q.reason % 0x10000))) ∧
    (q.st = .retry → q.paused = true →
      exec (.retryStep p) s = .next s ∧ exec (.retryWindowEnd p) s = .next s ∧
      ∀ b0 b1, let s1 := feedLanes p b0 b1 s
        (q.locked = false → (s1.port p).locked = true →
          exec (.blockLockRegained ⟨p, ⟨b0, b1⟩⟩) s = .next (s1.modPort p (fun q =>
            { q with paused := false, attempts := 0, retryFrom := s.now }))) ∧
        (q.locked = true ∨ (s1.port p).locked = false → exec (.blockLockRegained ⟨p, ⟨b0, b1⟩⟩) s = .next s1))

/-- R428, R429: a block that is coded onto a lane is read back by a receiver that holds the lane's line history; the block
pairs of a frame, received over both lanes, give back the frame, whose end the receiver finds from LENGTH; a frame put on a
port's lanes adds these pairs to them; and 64 coded blocks of the types in use lock a lane that has none against it. That
scrambling runs on over the blocks, and when a lane unlocks, is log entry 65's. -/
def Obligations.LaneBlocksCarryFrames : Prop :=
  (∀ (h : BitVec 58) (b : PlainBlock), b.payload < 2 ^ 64 →
    decodeBlock h (codeBlock h b).1 = (some b, (codeBlock h b).2)) ∧
  (∀ (h0 h1 : BitVec 58) (bs : List Byte), 20 ≤ bs.length → bs.length = 20 + leAt bs 6 2 →
    let pairs := (codeLane h0 (frameBlocks false bs)).1.zip (codeLane h1 (frameBlocks true bs)).1
    pairs.length = framePairs (leAt bs 6 2) ∧ unpadded (receivedBytes h0 h1 pairs) = bs ∧
    (∀ (s : State) (p : Nat), p < s.ports.length → (s.port p).scr0 = h0 → (s.port p).scr1 = h1 →
      ((putLanes p bs s).port p).wire = (s.port p).wire ++ pairs ∧ ((putLanes p bs s).port p).sent = (s.port p).sent ++ [bs] ∧
      (∀ n, n ≠ p → (putLanes p bs s).port n = s.port n))) ∧
  (∀ (r : LaneRx) (bs : List PlainBlock), r.lock = false → r.count = 0 → r.bad = 0 → bs.length = 64 →
    (∀ b ∈ bs, b.payload < 2 ^ 64 ∧ validBlock (some b) = true) →
    (r.run (codeLane r.hist bs).1).lock = true)

/-- FRAME_TRANSMIT, REPLAY_TIMER, HELD_FRAME_TIMEOUT, XFER_TIMEOUT, INJ_ARM and INJ_SEED_WRITE (R429, R432, R434, R435,
R437, R438, R440, R442, R450, R455, R458, R459), the rows of transmission, with no injection armed for the frames: the head of
the queue goes out with the next number once room and credits allow, in its block pairs, and is held; in Training and Retry
a HELLO goes out (log entry 65: by this row); the replay timer sends the held frames again and counts them, and the fourth
firing leaves Up; a NAK for the same number goes out once in 8,192 LTX (log entry 41: LTX in RIM cycles); a timed-out
transfer completes, and where it has an XID a CANCEL follows, the XID still taken. -/
def Obligations.LinkTransmission : Prop :=
  ∀ (s : State) (p : Nat), s.sound → s.power.mode = .run → p < s.part.links → p < s.ports.length →
    let q := s.port p
    let out (n : Nat) (f : TxFrame) : List Byte := frameBytesOf s p n (partnerOf s p) f
    (s.bit (LNK p) 0x05 14 = false → q.shot = false → q.late = none →
      (∀ f rest, canSend q = true → q.queue = f :: rest →
        ∃ t, exec (.frameTransmit p) s = .next t ∧ t = { s with ports := t.ports } ∧ (∀ n, n ≠ p → t.port n = s.port n) ∧
          t.port p = { q with
            queue := rest, txNext := (q.txNext + 1) % 65536, replay := q.replay ++ [(q.txNext, f)],
            used := (q.used + creditCost (frameSize f)) % 65536, sent := q.sent ++ [out q.txNext f],
            wire := (t.port p).wire, scr0 := (t.port p).scr0, scr1 := (t.port p).scr1 } ∧
          (t.port p).wire.length = q.wire.length + framePairs f.payload.length) ∧
      (canSend q = false → q.quiet = true ∨ (q.st ≠ .training ∧ q.st ≠ .retry) → exec (.frameTransmit p) s = .next s) ∧
      (q.quiet = false → q.st = .training ∨ q.st = .retry →
        let dst := if s.bit (LNK p) 0x00 13 then s.fld (LNK p) 0x00 10 3 else 0
        let hello : TxFrame := { (controlFrame lfHello) with payload := helloPayload s p }
        ∃ t, exec (.frameTransmit p) s = .next t ∧ t = { s with ports := t.ports } ∧ (∀ n, n ≠ p → t.port n = s.port n) ∧
          t.port p = { q with
            sent := q.sent ++ [frameBytesOf s p 0 dst hello],
            wire := (t.port p).wire, scr0 := (t.port p).scr0, scr1 := (t.port p).scr1 } ∧
          ((q.hasState = true → q.partner.length = 32) → hello.payload.length = 96) ∧
          (t.port p).wire.length = q.wire.length + framePairs hello.payload.length) ∧
      (∀ x rest, q.st = .up → q.replay = x :: rest →
        let again := q.replay.filter (fun y => seqFrom y.1 x.1)
        ∃ t, exec (.replayTimer p) s = .next t ∧ (t.port p).replay = q.replay ∧ (t.port p).firings = q.firings + 1 ∧
          (t.port p).sent = q.sent ++ again.map (fun y => out y.1 y.2) ∧
          t.rd (LNK p) 0x09 = satAdd16 (s.rd (LNK p) 0x09) again.length ∧
          (q.firings + 1 < 4 → (t.port p).st = .up) ∧
          (4 ≤ q.firings + 1 → (t.port p).st = .retry ∧ (t.port p).reason = 2))) ∧
    (q.st = .up → q.held ≠ [] →
      (q.quiet = false → (∀ e x, q.nak = some (e, x) → e ≠ q.expect ∨ x + ltx 8192 ≤ s.now) →
        ∃ t, exec (.heldFrameTimeout p) s = .next t ∧ (t.port p).nak = some (q.expect, s.now) ∧
          (t.port p).sent = q.sent ++ [out q.expect (controlFrame lfNak)] ∧ (t.port p).held = q.held ∧
          t.rd (LNK p) 0x0A = satAdd16 (s.rd (LNK p) 0x0A) 1 ∧
          (∀ t' r', key t' r' ≠ key (LNK p) 0x0A → t.rd t' r' = s.rd t' r')) ∧
      (∀ x, q.nak = some (q.expect, x) → s.now < x + ltx 8192 → exec (.heldFrameTimeout p) s = .next s)) ∧
    (∀ i o x0, s.op? i = some o → o.port = p → o.xferFrom = some x0 → o.moved = false →
      ∃ t, exec (.xferTimeout i) s = .next t ∧ t.op? i = none ∧
        t.now = max s.now (x0 + (o.xferLimit - o.xferCount)) ∧
        (t.port p).xids = q.xids ∧
        (∀ x, o.xid = some x → (t.port p).queue = q.queue ++ [{ (controlFrame lfCancel) with xid := x }]) ∧
        (o.xid = none → (t.port p).queue = q.queue)) ∧
    (∀ v : Word, wfld v 0 3 ≤ 4 →
      ∃ t, exec (.injArm p v) s = .next t ∧ t.rd (LNK p) 0x05 = v &&& 0xC007 ∧
        t.port p = { q with shot := wbit v 15 || q.shot } ∧
        (∀ t' r', key t' r' ≠ key (LNK p) 0x05 → t.rd t' r' = s.rd t' r') ∧ (∀ n, n ≠ p → t.port n = s.port n)) ∧
    (∀ v : Word,
      (v ≠ 0 → ∃ t, exec (.injSeedWrite p v) s = .next t ∧ t.rd (LNK p) 0x07 = v ∧ t.port p = { q with lfsr := v } ∧
        (∀ t' r', key t' r' ≠ key (LNK p) 0x07 → t.rd t' r' = s.rd t' r')) ∧
      (v = 0 → ∃ t, exec (.injSeedWrite p v) s = .next t ∧ t.rd (LNK p) 0x07 = s.rd (LNK p) 0x07 ∧
        t.bit DEV 0x04 15 = true ∧ t.ports = s.ports))

/-! ## Received link frames (17) -/

/-- The row of a received frame of a sequenced type. -/
def Sys2Proof.Machine.frameRow (p : Nat) (bs : List Byte) (typ : Nat) : Option Instr :=
  if typ = lfReq then some (.req p bs)
  else if typ = lfRdata then some (.rdata p bs)
  else if typ = lfWdata then some (.wdata p bs)
  else if typ = lfWdone then some (.wdone p bs)
  else if typ = lfRefuse then some (.refuse p bs)
  else if typ = lfCancel then some (.cancel p bs)
  else if typ = lfCdone then some (.cdone p bs)
  else none

/-- HELLO, ACK, NAK and PAUSE (R429, R433, R435, R438, R440, R443, R444), each as it arrives in its padded block pairs. A
HELLO makes an Up port enter Retry with REASON 3, and in training sets SEEN when it passes the checks; an ACK releases the
frames before it and its CREDIT advances the partner's grant; a NAK has every held frame from its number on sent again; a
PAUSE makes an Up port enter Retry, paused. R433, R436, R437, R439, R440 for every sequenced frame, the rows REQ, RDATA,
WDATA, WDONE, REFUSE, CANCEL and CDONE: a port that is in neither Up, Training nor Retry takes nothing, and one in Training
or Retry delivers nothing; a frame that the receiver does not keep counts in all three and delivers nothing; in Up the frame
expected is delivered, E moves on by one, and its buffer space is granted again where it is not blocks or data that wait;
one up to 7 ahead is held, one further ahead discarded with a NAK, one already delivered discarded with an ACK. -/
def Obligations.LinkFrames : Prop :=
  (∀ (s : State) (p : Nat) (bs : List Byte) (offset : Int) (skew : Nat), s.sound → s.power.mode = .run →
    p < s.part.links → p < s.ports.length → frameKept s (unpadded bs) = true →
    let q := s.port p
    let f := parseFrame (unpadded bs)
    let s1 := measured p offset skew s
    let k := helloReason s1 p (parseHello f.payload)
    let kept := q.replay.filter (fun x => seqFrom x.1 f.ack)
    (f.typ = lfHello →
      (q.st = .up → ∃ t, exec (.hello p ⟨bs, offset, skew⟩) s = .next t ∧ (t.port p).st = .retry ∧ (t.port p).reason = 3 ∧
        (t.port p).paused = false ∧ (t.port p).attempts = 0 ∧ (t.port p).replay = q.replay ∧
        (t.port p).expect = q.expect ∧ t.bit DEV 0x05 evLink = true ∧ (∀ n, n ≠ p → t.port n = s.port n) ∧
        t.engs = s.engs) ∧
      (q.st = .training ∨ q.st = .retry → k = 0 →
        exec (.hello p ⟨bs, offset, skew⟩) s = .next (s1.modPort p (fun q => { q with seen := true }))) ∧
      (q.st = .training ∨ q.st = .retry → k ≠ 0 →
        exec (.hello p ⟨bs, offset, skew⟩) s = .next (s1.modPort p (fun q => { q with reason := k })))) ∧
    (q.st = .up → seqFrom q.txNext f.ack = true →
      (f.typ = lfAck → ∃ t, exec (.ack p bs) s = .next t ∧ (t.port p).replay = kept ∧
        (kept.length < q.replay.length → (t.port p).firings = 0) ∧
        (t.port p).limit = (if seqFrom f.credit q.limit then f.credit else q.limit) ∧ (t.port p).st = .up ∧
        (t.port p).expect = q.expect ∧ (∀ n, n ≠ p → t.port n = s.port n) ∧ t = { s with ports := t.ports }) ∧
      (f.typ = lfNak → ∃ t, exec (.nak p bs) s = .next t ∧ (t.port p).replay = kept ∧ (t.port p).st = .up ∧
        t.rd (LNK p) 0x09 = satAdd16 (s.rd (LNK p) 0x09) (kept.filter (fun x => seqFrom x.1 f.seq)).length ∧
        (t.port p).txNext = q.txNext ∧ (∀ n, n ≠ p → t.port n = s.port n) ∧ t.ops = s.ops ∧ t.engs = s.engs) ∧
      (f.typ = lfPause → ∃ t, exec (.pause p bs) s = .next t ∧ (t.port p).st = .retry ∧ (t.port p).reason = 4 ∧
        (t.port p).paused = true ∧ (t.port p).replay = kept ∧ t.bit DEV 0x05 evLink = true ∧
        (∀ n, n ≠ p → t.port n = s.port n) ∧ t.engs = s.engs))) ∧
  (∀ (s : State) (p typ : Nat) (bs : List Byte) (row : Instr), s.sound → s.power.mode = .run → p < s.part.links →
    p < s.ports.length → frameRow p bs typ = some row →
    let q := s.port p
    let fr := unpadded bs
    let f := parseFrame fr
    let ahead := (f.seq + 65536 - q.expect) % 65536
    (q.st ≠ .up → q.st ≠ .training → q.st ≠ .retry → exec row s = .next s) ∧
    (q.st = .training ∨ q.st = .retry → frameKept s fr = true → exec row s = .next s) ∧
    (q.st = .up ∨ q.st = .training ∨ q.st = .retry → frameKept s fr = false →
      ∃ t, exec row s = .next t ∧ t.rd (LNK p) 0x08 = satAdd16 (s.rd (LNK p) 0x08) 1 ∧ (t.port p).expect = q.expect ∧
        (t.port p).held = q.held ∧ (t.port p).replay = q.replay ∧ t.ops = s.ops ∧ t.engs = s.engs ∧ t.cist = s.cist ∧
        (crcOk fr = true ∨ q.st ≠ .up → t.ports = s.ports)) ∧
    (q.st = .up → frameKept s fr = true → f.typ = typ →
      (ahead = 0 → q.held = [] →
        ∃ t, exec row s = .next t ∧ (t.port p).expect = (q.expect + 1) % 65536 ∧ (t.port p).held = [] ∧
          (typ = lfRdata ∨ typ = lfWdone ∨ typ = lfRefuse ∨ typ = lfCdone ∨ (typ = lfCancel ∧ q.peers = []) →
            (t.port p).granted = (q.granted + creditCost fr.length) % 65536) ∧
          (t.port p).st = .up ∧ (∃ xs, (t.port p).sent = q.sent ++ xs)) ∧
      (1 ≤ ahead → ahead ≤ 7 → (∀ x ∈ q.held, x.1 ≠ f.seq) →
        ∃ t, exec row s = .next t ∧ (t.port p).held = q.held ++ [(f.seq, fr)] ∧ (t.port p).expect = q.expect ∧
          (t.port p).granted = q.granted ∧ (t.port p).sent = q.sent ∧ t = { s with ports := t.ports }) ∧
      (8 ≤ ahead → ahead ≤ 32767 → q.nak = none → q.quiet = false →
        ∃ t, exec row s = .next t ∧ (t.port p).nak = some (q.expect, s.now) ∧ (t.port p).held = q.held ∧
          (t.port p).expect = q.expect ∧ (t.port p).sent = q.sent ++
            [frameBytesOf s p q.expect (partnerOf s p) (controlFrame lfNak)] ∧ t.ops = s.ops ∧ t.cist = s.cist) ∧
      (32768 ≤ ahead → q.quiet = false →
        ∃ t, exec row s = .next t ∧ (t.port p).held = q.held ∧ (t.port p).expect = q.expect ∧
          (t.port p).sent = q.sent ++ [frameBytesOf s p 0 (partnerOf s p) (controlFrame lfAck)] ∧
          t = { s with ports := t.ports })))

/-- RDATA, WDONE, REFUSE and CDONE at the requester, each the frame expected (R450, R451, R452, R456): the payload
goes to its place at a local store and its lanes count as received; WDONE completes and REFUSE refuses its block; an
operation whose blocks are all done or refused has moved; CDONE returns the XID of a transfer that is over; a frame
for an XID not in use does nothing. -/
def Obligations.RequesterFrames : Prop :=
  ∀ (s : State) (p : Nat) (bs : List Byte), s.sound → s.numbered → s.power.mode = .run → p < s.part.links →
    p < s.ports.length → (s.port p).st = .up → (s.port p).held = [] → frameKept s (unpadded bs) = true →
    (parseFrame (unpadded bs)).seq = (s.port p).expect →
    let f := parseFrame (unpadded bs)
    (∀ typ row, frameRow p bs typ = some row → f.typ = typ → typ = lfRdata ∨ typ = lfWdone ∨ typ = lfRefuse →
      xidOp s p f.xid = none → ∃ t, exec row s = .next t ∧ t.ops = s.ops ∧ t.engs = s.engs ∧ t.cist = s.cist ∧
        t.regs = s.regs) ∧
    (∀ o b, xidOp s p f.xid = some o → o.blocks[f.block]? = some b →
      let d := parseDesc o.desc
      (f.typ = lfWdone → d.isRead = false → b.refused = false →
        ∃ t o', exec (.wdone p bs) s = .next t ∧ t.op? o.id = some o' ∧
          o'.blocks = o.blocks.set f.block { b with done := true } ∧ o'.moved = decide (o'.openBlocks = 0) ∧
          (∀ i, i ≠ o.id → t.op? i = s.op? i) ∧ t.engs = s.engs ∧ t.cist = s.cist) ∧
      (f.typ = lfRefuse → b.done = false →
        ∃ t o', exec (.refuse p bs) s = .next t ∧ t.op? o.id = some o' ∧
          o'.blocks = o.blocks.set f.block { b with refused := true } ∧ o'.moved = decide (o'.openBlocks = 0) ∧
          (∀ i, i ≠ o.id → t.op? i = s.op? i) ∧ t.engs = s.engs ∧ t.cist = s.cist) ∧
      (∀ e tick c, f.typ = lfRdata → d.isRead = true → b.done = false → b.refused = false → d.dst.space = .store →
        o.issuer = .engine e tick c → e < s.engs.length →
        f.offset + f.len / 16 ≤ at0 d.ext 0 →
        (∀ i, i < f.len / 16 → storeRefused s e tick true [remoteLane d f.block (f.offset + i)] = false) →
        ∃ t o', exec (.rdata p bs) s = .next t ∧ t.op? o.id = some o' ∧
          (∀ i, i < f.len / 16 → storeGet t e (remoteLane d f.block (f.offset + i)).toNat 16 =
            (f.payload.drop (16 * i)).take 16) ∧
          storeKept s t e (remoteLane d f.block f.offset).toNat f.len ∧
          o'.prot = o.prot ∧ o'.ecc = o.ecc ∧ (∀ i, i ≠ o.id → t.op? i = s.op? i) ∧ t.cist = s.cist ∧
          (∀ i, i < f.len / 16 → ∃ b', o'.blocks[f.block]? = some b' ∧ f.offset + i ∈ b'.got))) ∧
    (f.typ = lfCdone → xidOp s p f.xid = none →
      ∃ t, exec (.cdone p bs) s = .next t ∧ (t.port p).xids = (s.port p).xids.filter (fun y => y ≠ f.xid) ∧
        t.ops = s.ops ∧ t.engs = s.engs ∧ t.cist = s.cist ∧ t.regs = s.regs) ∧
    (f.typ = lfCdone → (xidOp s p f.xid).isSome = true →
      ∃ t, exec (.cdone p bs) s = .next t ∧ (t.port p).xids = (s.port p).xids ∧ t.ops = s.ops)

/-- REQ, WDATA and CANCEL at the serving device, each the frame expected, with no other block waiting (R286, R451,
R452, R453, R455): a block that the export does not allow is answered with REFUSE; a read block with RDATA of the
exported lanes; the WDATA that brings a write block whole is written to them and answered with WDONE; one for no block
in service is discarded; a CANCEL drops the blocks of its XID and is answered with CDONE. The buffer space of a REQ and of
WDATA is granted again as they leave it (R440). -/
def Obligations.ServingFrames : Prop :=
  ∀ (s : State) (p : Nat) (bs : List Byte), s.sound → s.numbered → s.power.mode = .run → p < s.part.links →
    p < s.ports.length → (s.port p).st = .up → (s.port p).held = [] → frameKept s (unpadded bs) = true →
    (parseFrame (unpadded bs)).seq = (s.port p).expect →
    let q := s.port p
    let f := parseFrame (unpadded bs)
    (∀ b : PeerBlock, f.typ = lfReq → f.len = 16 → q.peers = [] →
      b = { xid := f.xid, block := f.block, write := f.write, handle := f.handle, entry := f.payload.take 16,
            op := none, stalled := false, data := [], credit := creditCost 36 } →
      (∀ k, servingPump s p = some k → pumpAsleep s k = false ∧ peerHeld s k < 16 ∧
        (stalledEngines s true).length + slotsAhead s + peersAhead s p < freeTags s) →
      (servingPump s p = none ∨ peerBase s b = none →
        ∃ t, exec (.req p bs) s = .next t ∧ (t.port p).queue = q.queue ++ [answer b lfRefuse 0 []] ∧
          (t.port p).peers = [] ∧ (t.port p).granted = (q.granted + 1) % 65536 ∧ t.ops = s.ops ∧ t.engs = s.engs ∧
          t.cist = s.cist) ∧
      (∀ base n, (servingPump s p).isSome = true → peerBase s b = some base → f.write = false →
        exportLanes s f.handle = n → 1 ≤ n → n ≤ 256 → base % 16 = 0 → s.cistUe = [] →
        (∀ x, bankDead s x = false) →
        ∃ t, exec (.req p bs) s = .next t ∧ (t.port p).peers = [] ∧ t.ops = s.ops ∧ t.engs = s.engs ∧
          t.cist = s.cist ∧ (t.port p).granted = (q.granted + 1) % 65536 ∧
          (t.port p).queue = q.queue ++ [answer b lfRdata 0 ((List.range n).flatMap (fun i =>
            cistGet s ((translate s (wfld (exportWord s f.handle 0) 8 5) .read true
              ((base + 16 * i : Nat) : Int)).getD 0) 16))])) ∧
    (∀ (b : PeerBlock) (o : PumpOp), f.typ = lfWdata → q.peers = [b] → b.is f.xid f.block = true → b.write = true →
      b.op = some o.id → s.op? o.id = some o → o.issuer = .peer p f.xid → b.data = [] → b.credit = 0 → o.refCount = 0 →
      f.offset = 0 → f.len = 16 * o.seen →
      o.listBase % 16 = 0 → s.cistUe = [] → (∀ x, bankDead s x = false) →
      (∀ i, i < o.seen → (translate s o.ctx .write true ((o.listBase + 16 * i : Nat) : Int)).isSome = true) →
      (∀ i j, i < o.seen → j < o.seen → i ≠ j → translate s o.ctx .write true ((o.listBase + 16 * i : Nat) : Int) ≠
        translate s o.ctx .write true ((o.listBase + 16 * j : Nat) : Int)) →
      ∃ t, exec (.wdata p bs) s = .next t ∧ (t.port p).queue = q.queue ++ [answer b lfWdone 0 []] ∧
        (t.port p).peers = [] ∧ (t.port p).granted = (q.granted + creditCost (20 + f.len)) % 65536 ∧ t.op? o.id = none ∧
        (∀ i, i ≠ o.id → t.op? i = s.op? i) ∧ t.engs = s.engs ∧
        (∀ i a, i < o.seen → translate s o.ctx .write true ((o.listBase + 16 * i : Nat) : Int) = some a →
          cistGet t a 16 = (f.payload.drop (16 * i)).take 16) ∧
        (∀ x, (∀ i a, i < o.seen → translate s o.ctx .write true ((o.listBase + 16 * i : Nat) : Int) = some a →
          x < a ∨ a + 16 ≤ x) → memRead t.cist x = memRead s.cist x)) ∧
    (f.typ = lfWdata → (∀ b ∈ q.peers, b.is f.xid f.block = false ∨ b.write = false) →
      ∃ t, exec (.wdata p bs) s = .next t ∧ (t.port p).peers = q.peers ∧
        (t.port p).granted = (q.granted + creditCost (20 + f.len)) % 65536 ∧ t.ops = s.ops ∧ t.cist = s.cist ∧
        t.engs = s.engs ∧ t.regs = s.regs) ∧
    (f.typ = lfCancel →
      ∃ t, exec (.cancel p bs) s = .next t ∧ (t.port p).peers = q.peers.filter (fun b => decide (b.xid ≠ f.xid)) ∧
        (t.port p).queue = q.queue ++ [{ (controlFrame lfCdone) with xid := f.xid, block := f.block }] ∧
        (∀ b ∈ q.peers, b.xid = f.xid → ∀ i, b.op = some i → t.op? i = none) ∧ t.cist = s.cist)

/-! ## The cloister (16) -/

/-- CLO_LOAD, CLO_ABORT, CLO_SAFE_WRITE, LOAD_WORD_TIMEOUT and RELEASE_STAGE (R408, R409, R414, R416, R417, R418,
R421): LOAD samples its fields and starts a load, or sets BUSY beside one in progress; ABORT, and 2^24 RIM without a
word, end a load before its release, and walks that were LOADING fail; a CLO_SAFE word stores its pin's code, or
selects alone; while the user clocks run each release stage falls on every walk of the load, and the third leaves them
RUNNING; with CCK0 held low (R419) no stage falls. -/
def Obligations.CloisterCommands : Prop :=
  ∀ (p : Part) (s : State), s.ofPart p → s.sound → s.selfCleared → s.power.mode = .run →
    (∀ v : Word, wfld v 10 3 ≤ 4 →
      (s.clo.load = none → ∃ t l, exec (.cloLoad v) s = .next t ∧ t.clo = { s.clo with load := some l } ∧
        l.flash = wbit v 13 ∧ l.target = wfld v 10 3 ∧ l.bound = wbit v 6 ∧ l.slot = wfld v 7 3 ∧ l.bytes = [] ∧
        l.count = 0 ∧ l.step = .header ∧ l.last = s.now ∧ t.rd CLO 0x00 = v &&& 0x3FC0 ∧ t.engs = s.engs ∧
        t.wells = s.wells) ∧
      (s.clo.load ≠ none → ∃ t, exec (.cloLoad v) s = .next t ∧ t.clo = { s.clo with err := 11 } ∧
        t.bit DEV 0x05 evClo = true ∧ t.engs = s.engs ∧ t.wells = s.wells)) ∧
    (∀ v : Word, 5 ≤ wfld v 10 3 → ∃ t, exec (.cloLoad v) s = .next t ∧ t.clo = s.clo ∧ t.bit DEV 0x04 15 = true) ∧
    (∀ l, s.clo.load = some l → l.step ≠ .release → l.target ≤ 4 →
      (s.fld CLO 0x00 10 3 ≤ 4 → ∃ t, exec .cloAbort s = .next t ∧ t.clo.load = none ∧ t.clo.err = 9 ∧
        t.bit DEV 0x05 evClo = true ∧ t.clo.tag = s.clo.tag ∧ (∀ w, t.walk w =
          if l.inLoading = true ∧ w ∈ targetWalks l.target then { s.walk w with mode := .failed } else s.walk w) ∧
        t.engs = s.engs ∧ t.wells = s.wells) ∧
      (l.flash = false → ∃ t, exec .loadWordTimeout s = .next t ∧ t.now = max s.now (l.last + 2 ^ 24) ∧
        t.clo.load = none ∧ t.clo.err = 8 ∧ t.bit DEV 0x05 evClo = true ∧ (∀ w, t.walk w =
          if l.inLoading = true ∧ w ∈ targetWalks l.target then { s.walk w with mode := .failed } else s.walk w) ∧
        t.engs = s.engs)) ∧
    (∀ l, s.clo.load = some l → l.step = .release → l.target ≤ 4 →
      (s.fld CLO 0x00 10 3 ≤ 4 → ∃ t, exec .cloAbort s = .next t ∧ t.clo = s.clo) ∧
      (userClocksOn s = false → exec .releaseStage s = .next s) ∧
      (userClocksOn s = true → (s.walk (if l.target = 4 then 0 else l.target)).stage < 2 →
        ∃ t, exec .releaseStage s = .next t ∧ t.clo.load = some l ∧ (∀ w, t.walk w =
          if w ∈ targetWalks l.target then { s.walk w with stage := (s.walk w).stage + 1, held := true } else s.walk w) ∧
        t.regs = s.regs) ∧
      (userClocksOn s = true → 2 ≤ (s.walk (if l.target = 4 then 0 else l.target)).stage →
        ∃ t, exec .releaseStage s = .next t ∧ t.clo.load = none ∧ t.clo.err = 0 ∧ t.bit DEV 0x05 evClo = true ∧
          (l.target ≠ 4 → t.clo.tag = s.clo.tag) ∧ (∀ w, t.walk w =
            if w ∈ targetWalks l.target then { s.walk w with mode := .running, stage := 0 } else s.walk w) ∧
          t.engs = s.engs)) ∧
    (∀ (r : BitVec 8) (v : Word), 4 ≤ r.toNat → r.toNat ≤ 6 → locked s = false → s.clo.safe.length = 96 →
      let i := 32 * (r.toNat - 4) + wfld v 8 5
      (wfld v 0 3 ≤ 4 → ∃ t, exec (.cloSafeWrite r v) s = .next t ∧ t.clo.safe = s.clo.safe.set i (wfld v 0 3) ∧
        t.fld CLO r.toNat 8 5 = wfld v 8 5 ∧ t = { s with regs := t.regs, clo := { s.clo with safe := t.clo.safe } }) ∧
      (wfld v 0 3 = 7 → ∃ t, exec (.cloSafeWrite r v) s = .next t ∧ t.clo = s.clo ∧
        t.fld CLO r.toNat 8 5 = wfld v 8 5 ∧ t = { s with regs := t.regs }) ∧
      (wfld v 0 3 = 5 ∨ wfld v 0 3 = 6 → ∃ t, exec (.cloSafeWrite r v) s = .next t ∧ t.clo = s.clo ∧
        t.bit DEV 0x04 15 = true))

/-- FLASH_IMAGE_BYTE and CLO_CONFIG_WORD, the checks of a load in their order (R407, R409 to R413, R417). A header
that fails a check ends the load with its error and no walk moves; the first sound frame header takes the target walks
to LOADING, their flip-flops at 0; a frame whose CRC fails, or a wrong HMAC, leaves them FAILED, and the last byte of a
sound image takes them to RELEASE with their configuration in place and their flip-flops at its initial values. A flash
byte counts only as the answer to the read that the load is making; a word for no such load is discarded with DENIED. -/
def Obligations.ImageBytesAreChecked : Prop :=
  ∀ (p : Part) (s : State) (l : Load), s.ofPart p → s.sound → s.power.mode = .run → s.power.entry = none → s.clo.load = some l →
    l.target ≤ 4 →
    (∀ addr quad b, l.flash = false ∨ l.takes = false ∨ addr ≠ l.flashAddress ∨ flashReads s quad = false →
      exec (.flashImageByte ⟨addr, quad, b⟩) s = .next s) ∧
    (∀ (x : Byte) (quad : Bool), l.flash = true → l.takes = true → flashReads s quad = true →
      let l1 := { l with bytes := x :: l.bytes, count := l.count + 1, last := s.now }
      let failed (t : State) : Prop := ∀ w, t.walk w =
        if w ∈ targetWalks l.target then { s.walk w with mode := .failed } else s.walk w
      (exec (.flashImageByte ⟨l.flashAddress, quad, none⟩) s = .next (loadEnds 10 s)) ∧
      (l.step = .header → l.count + 1 < 128 →
        exec (.flashImageByte ⟨l.flashAddress, quad, some x⟩) s = .next { s with clo := { s.clo with load := some l1 } }) ∧
      (l.step = .header → l.count + 1 = 128 →
        (∀ k, headerError s l1 l1.image = k → k ≠ 0 →
          ∃ t, exec (.flashImageByte ⟨l.flashAddress, quad, some x⟩) s = .next t ∧ t.clo = { s.clo with load := none, err := k } ∧
            t.bit DEV 0x05 evClo = true) ∧
        (headerError s l1 l1.image = 0 → 128 < leVal ((l1.image.drop 8).take 4) →
          exec (.flashImageByte ⟨l.flashAddress, quad, some x⟩) s = .next { s with clo := { s.clo with load := some { l1 with
            step := .frame (frameTypes l.target), length := leVal ((l1.image.drop 8).take 4) } } })) ∧
      (∀ types, l.step = .frame types → l.count + 1 < l.length →
        ((l.count + 1) % 16 ≠ 0 →
          exec (.flashImageByte ⟨l.flashAddress, quad, some x⟩) s = .next { s with clo := { s.clo with load := some l1 } }) ∧
        ((l.count + 1) % 16 = 0 → types = frameTypes l.target →
          let h := (l1.bytes.take 16).reverse
          (frameHeaderOk h (types.headD 0) = false →
            ∃ t, exec (.flashImageByte ⟨l.flashAddress, quad, some x⟩) s = .next t ∧
              t.clo = { s.clo with load := none, err := 1 } ∧
              t.bit DEV 0x05 evClo = true) ∧
          (frameHeaderOk h (types.headD 0) = true →
            ∃ t, exec (.flashImageByte ⟨l.flashAddress, quad, some x⟩) s = .next t ∧ t.bit DEV 0x05 evClo = true ∧
              (let st := LoadStep.data types (nth h 2 0).toNat (l.count + 1) (leVal ((h.drop 4).take 4))
                (leVal ((h.drop 8).take 4))
               t.clo.load = some { l1 with step := st }) ∧
              (∀ w, t.walk w = if w ∈ targetWalks l.target
                then { s.walk w with mode := .loading, qreq := false, fabric := (t.walk w).fabric }
                else { s.walk w with fabric := (t.walk w).fabric }) ∧
              (∀ w, (t.walk w).fabric = if w ∈ targetWalks l.target then (t.walk w).fabric.cleared
                else { (s.walk w).fabric with slots := (t.walk w).fabric.slots }) ∧ t.clo.err = s.clo.err ∧
                  t.clo.tag = s.clo.tag))) ∧
      (∀ w types memInit start len crc, l.step = .data types memInit start len crc → l.count + 1 = start + len →
        types = [0x20 + w] → l.target = w ∨ l.target = 4 → w < 4 → 98304 ≤ len → l.bytes.length + 1 ≥ len →
        let d := (l1.bytes.take len).reverse
        (crc32 d ≠ crc → ∃ t, exec (.flashImageByte ⟨l.flashAddress, quad, some x⟩) s = .next t ∧ t.clo.load = none ∧
          t.clo.err = 6 ∧
          t.rd CLO 0x10 = word (crc32 d) ∧ t.bit DEV 0x05 evClo = true ∧ failed t) ∧
        (crc32 d = crc → l.length = l.count + 1 → hmacHolds s l1.image = true →
          ∃ t, exec (.flashImageByte ⟨l.flashAddress, quad, some x⟩) s = .next t ∧
            t.clo.load = some { l1 with step := .release, gap := s.fld CLO 0x02 0 12 } ∧
            memReadN (t.walk w).config 0 98304 = d.take 98304 ∧ t.rd CLO 0x10 = word (crc32 d) ∧
            t.bit DEV 0x05 evClo = true ∧
            (∀ k, k ∈ targetWalks l.target → (t.walk k).mode = .release ∧ (t.walk k).stage = 0 ∧
              (t.walk k).fabric = initialFabric t k) ∧
            (∀ k, k ≠ w → (t.walk k).config = (s.walk k).config) ∧
            (∀ k, k ∉ targetWalks l.target → t.walk k = s.walk k)) ∧
        (crc32 d = crc → l.length = l.count + 1 → hmacHolds s l1.image = false →
          ∃ t, exec (.flashImageByte ⟨l.flashAddress, quad, some x⟩) s = .next t ∧ t.clo.load = none ∧ t.clo.err = 7 ∧
            t.bit DEV 0x05 evClo = true ∧ (∀ k, k ∈ targetWalks l.target → (t.walk k).mode = .failed) ∧
            (∀ k, k ∉ targetWalks l.target → t.walk k = s.walk k)))) ∧
    (∀ v : Word, tblTable s = 9 → tblIndex s ≤ 4 →
      (l.flash = false → tblIndex s = l.target → l.step = .header → l.count + 2 < 128 →
        ∃ t, exec (.cloConfigWord v) s = .next t ∧ tblPtr t = (tblPtr s + 1) % 2 ^ 32 ∧
          t.clo = { s.clo with load := some { l with
            bytes := byte (wfld v 0 8) :: byte (wfld v 8 8) :: l.bytes, count := l.count + 2, last := s.now } } ∧
          t.bit DEV 0x0C 12 = s.bit DEV 0x0C 12 ∧ t.engs = s.engs) ∧
      (l.flash = true ∨ tblIndex s ≠ l.target ∨ l.takes = false →
        ∃ t, exec (.cloConfigWord v) s = .next t ∧ t.clo = s.clo ∧ t.bit DEV 0x0C 12 = true ∧
          tblPtr t = (tblPtr s + 1) % 2 ^ 32 ∧ t.engs = s.engs))

/-- The logic of the walks: a cell in carry mode passes on the majority of I0, I1 and CIN, which comes up its group column, and
its table sees their sum (R379; how is log entry 52's choice); a MAC slice's product is exact, its overflow tells a sum outside 48 bits, and P wraps, or
clamps with SAT (R386); the addresses of every aspect ratio name bits of the array, narrow ones never a ninth bit, and no two
the same bit (R388); of two accesses to common bits on one edge port A's write stands whole, it returns what its mode says,
and the other port's read is of the old data (R389, R390); a slot passes its net from its source's first release stage on and
its clamp before (R415); a pin of a walk not yet released is in its safe state, a source of CCKn only listens (R384, R414). A
step on an empty queue runs the user clocks (log entry 40): walks held by GSR keep their flip-flops, blocked memories keep
their bits, and no other unit moves (R385, R413). -/
def Obligations.FabricLogic : Prop :=
  (∀ (s : State) (val : Node → Bool) (w i : Nat), i < 3072 →
    let c := cellOf s w i
    let x (k : Nat) : Nat := b2n (val (cellInput s w i k))
    let n := x 0 + x 1 + b2n (carryInto s val w i)
    signal s val (.cout w i) = (c.carry && decide (2 ≤ n)) ∧
    signal s val (.table w i) =
      c.table.getLsbD (if c.carry then n % 2 + 4 * x 2 + 8 * x 3 else x 0 + 2 * x 1 + 4 * x 2 + 8 * x 3) ∧
    (cellBelow i = none ↔ i < 192 ∧ i % 8 = 0) ∧
    (∀ j, cellBelow i = some j → j < i ∧ (cellGroup j).2 = (cellGroup i).2 ∧
      carryInto s val w i = if c.chainStart then c.carryIn else val (.cout w j))) ∧
  (∀ (x : Int) (a b : BitVec 18), (macProduct a b).toInt = a.toInt * b.toInt ∧
    (macOverflow x = true ↔ x < -(2 : Int) ^ 47 ∨ (2 : Int) ^ 47 ≤ x) ∧
    ((macResult false x).toNat : Int) = x % (2 : Int) ^ 48 ∧
    (macResult true x).toInt = max (-(2 : Int) ^ 47) (min ((2 : Int) ^ 47 - 1) x)) ∧
  (∀ r a, r < 6 → a < ratioDepth r →
    (ratioBits r a).length = ratioWidth r ∧ (ratioBits r a).Nodup ∧
    (∀ x ∈ ratioBits r a, x < 8 * 2304 ∧ (r < 3 → x % 9 ≠ 8)) ∧
    (∀ a', a' < ratioDepth r → a' ≠ a → ∀ x ∈ ratioBits r a, x ∉ ratioBits r a')) ∧
  (∀ (m : Mem) (x y : PortUse) (pickA pickOld : Bool) (old : List Bool), Memory.wf m = true →
    x.data.length = x.bits.length → x.bits.Nodup → x.write = true → x.meets y = true →
    let m' := portsStore (some x) (some y) true pickA m
    x.read m' = x.data ∧ (∀ j, j ∉ x.bits → memBit m' j = memBit m j) ∧ Memory.wf m' = true ∧
    portReads x (some y) true pickOld old m m' =
      (match x.mode with | .writeFirst => x.data | .readFirst => x.read m | .noChange => old) ∧
    (y.write = false → portReads y (some x) true pickOld old m m' = y.read m)) ∧
  (∀ (s : State) (b k : Nat) (v : Bool), (s.walk b).held = false ∨ s.boundaryBit b 16 k = true →
    let a := slotSource b k
    ((s.walk a).outputsOn = true → gateSlot s b k v = v) ∧
    ((s.walk a).outputsOn = false →
      (clampMode s a b = 0 → gateSlot s b k v = ((s.walk b).held && s.boundaryBit b 0 k)) ∧
      (clampMode s a b = 1 → gateSlot s b k v = false) ∧ (clampMode s a b = 2 → gateSlot s b k v = true) ∧
      (clampMode s a b = 3 → gateSlot s b k v = (s.walk b).fabric.slots.getLsbD k))) ∧
  (∀ (s : State) (w i : Nat) (out en : Bool), s.power.mode = .run → (s.walk w).outputsOn = false →
    let pad := userPad s w i out en
    let code := nth s.clo.safe (pinOf w i) 0
    (isCckPin s (pinOf w i) = true → pad = Pad.idle .none) ∧
    (isCckPin s (pinOf w i) = false → (s.walk w).held = true →
      (code = 0 → pad = Pad.idle .up) ∧ (code = 1 → pad = Pad.idle .down) ∧
      (code = 2 → (s.walk w).fabric.padOn.getLsbD i = true →
        pad.level = some ((s.walk w).fabric.padLevel.getLsbD i)) ∧
      (code = 2 → (s.walk w).fabric.padOn.getLsbD i = false → pad = Pad.idle .keeper) ∧
      (code = 3 → pad.level = some false ∧ pad.mA = 8) ∧ (code = 4 → pad.level = some true ∧ pad.mA = 8))) ∧
  (∀ s : State, s.pending = [] → userClocksOn s = true →
    ∃ t, step s = .next t ∧ t.regs = s.regs ∧ t.chans = s.chans ∧ t.engs = s.engs ∧ t.wells = s.wells ∧ t.ops = s.ops ∧
      t.ports = s.ports ∧ t.cist = s.cist ∧ t.tick = s.tick ∧ t.power = s.power ∧ s.now ≤ t.now ∧
      t.clo.load = s.clo.load ∧ t.clo.safe = s.clo.safe ∧ t.clo.global = s.clo.global ∧
      (∀ w, (t.walk w).mode = (s.walk w).mode ∧ (t.walk w).stage = (s.walk w).stage ∧
        (t.walk w).held = (s.walk w).held ∧ (t.walk w).config = (s.walk w).config ∧
        ((s.walk w).mode ≠ .running → (t.walk w).fabric = (s.walk w).fabric) ∧
        ((s.walk w).writesOn = false → (t.walk w).mems = (s.walk w).mems)))

/-! ## Identity and binding (21) -/

/-- The row of a SEC command. -/
def Sys2Proof.Machine.secRow (src : Source) (arg : BitVec 8) (n : Nat) : Option Instr :=
  match n with
  | 1 => some (.sign src arg)
  | 2 => some (.hmacInit src arg)
  | 3 => some (.hmacUpdate src arg)
  | 4 => some (.hmacFinal src arg)
  | 5 => some (.program src arg)
  | 6 => some (.revoke src arg)
  | 7 => some (.kcv src arg)
  | _ => none

/-- From state `s` to `t` SEC command number `n` with ARG `arg` has been accepted from `src` while none ran. -/
def Sys2Proof.Machine.secAccepted (s t : State) (src : Source) (arg : BitVec 8) (n : Nat) : Prop :=
  let a := arg.toNat
  ∃ r, t.sec.run = some r ∧ r.cmd = n ∧ r.arg = a ∧
    r.input = s.sec.chal ∧ r.start = s.now ∧ t.bit SEC 0x04 13 = decide (src = .supervisor) ∧ t.sec.chalPtr = 0 ∧
    t.sec.session = (if n = 3 ∨ n = 4 then s.sec.session else none) ∧
    (n = 1 ∨ n = 3 ∨ n = 4 → a ≠ 0 → r.code = 2) ∧ (5 ≤ n → 7 < a → r.code = 2) ∧
    (n = 2 → 7 < a → a ≠ 0xFF → r.code = 2) ∧ (n = 2 → a = 0xFF → r.code = 0) ∧
    (n = 3 ∨ n = 4 → a = 0 → s.sec.session = none → r.code = 7) ∧
    (n = 5 ∨ n = 6 → a ≤ 7 → locked s = true → r.code = 3) ∧
    (n = 5 → a ≤ 7 → locked s = false → (s.slot a).used = true → r.code = 4) ∧
    (n = 5 → a ≤ 7 → locked s = false → (s.slot a).used = false → (∀ b ∈ s.sec.stage, b = 0) → r.code = 2) ∧
    (n = 5 → a ≤ 7 → locked s = false → (s.slot a).used = false → (∃ b ∈ s.sec.stage, b ≠ 0) → r.code = 0) ∧
    (n = 6 → a ≤ 7 → locked s = false → r.code = if (s.slot a).used then 0 else 5) ∧
    (n = 2 ∨ n = 7 → a ≤ 7 →
      r.code = if (s.slot a).used = false then 5 else if (s.slot a).revoked then 6 else 0) ∧
    (n = 1 → a = 0 → r.code = 0) ∧ (n = 4 → a = 0 → s.sec.session ≠ none → r.code = 0) ∧
    (n = 3 → a = 0 → s.sec.session ≠ none →
      r.code = if (parseSource s.sec.chal).ok s.engs.length then 0 else 2) ∧
    r.left = (if r.code ≠ 0 then 2
      else [600000, 256, 64 + 10 * cdiv (parseSource s.sec.chal).len 64, 256, 512000, 128000, 1024].getD (n - 1) 0) ∧
    (∀ k, k < 8 → s.sec.slots.length = 8 →
      (t.slot k).used = ((s.slot k).used || decide (n = 5 ∧ r.code = 0 ∧ k = a)) ∧
      (t.slot k).revoked = (s.slot k).revoked ∧ (n ≠ 5 ∨ r.code ≠ 0 ∨ k ≠ a → t.slot k = s.slot k)) ∧
    t.engs = s.engs ∧ t.cist = s.cist ∧ t.chans = s.chans ∧ t.now = s.now

/-- SIGN, HMAC_INIT, HMAC_UPDATE, HMAC_FINAL, PROGRAM, REVOKE and KCV (R545, R546, R549, R551 to R553): beside a
running command one sets CLASH; else it is accepted with its writer as OWNER, its checks are made at once, a failed
one is to end 2 RIM later with its code, and a good one after its duration. Only UPDATE and FINAL keep an open
session, and a PROGRAM that passes its checks makes its slot USED at once, with an incomplete key (log entry 3: a free
value). -/
def Obligations.SecCommandsAccepted : Prop :=
  ∀ (s : State) (src : Source) (arg : BitVec 8), s.sound → s.power.mode = .run →
    (s.sec.run = none →
      (∃ t, exec (.sign src arg) s = .next t ∧ secAccepted s t src arg 1) ∧
      (∃ t, exec (.hmacInit src arg) s = .next t ∧ secAccepted s t src arg 2) ∧
      (∃ t, exec (.hmacUpdate src arg) s = .next t ∧ secAccepted s t src arg 3) ∧
      (∃ t, exec (.hmacFinal src arg) s = .next t ∧ secAccepted s t src arg 4) ∧
      (∃ t, exec (.program src arg) s = .next t ∧ secAccepted s t src arg 5) ∧
      (∃ t, exec (.revoke src arg) s = .next t ∧ secAccepted s t src arg 6) ∧
      (∃ t, exec (.kcv src arg) s = .next t ∧ secAccepted s t src arg 7)) ∧
    (∀ n row, secRow src arg n = some row → s.sec.run.isSome = true →
      ∃ t, exec row s = .next t ∧ t.sec = s.sec ∧ t.bit SEC 0x00 12 = true ∧ t = { s with regs := t.regs })

/-- SEC_COMPLETE (R546 to R554): a failed command sets ERR with its code, and RESP_OUT reads 0 throughout; a good one
sets DONE with its output at the head of RESP_OUT: the signature of R548's message, the HMAC of the session, the KCV
of the key, which for a slot whose PROGRAM has not verified is another than the staged key's (R552); INIT opens the session with its slot's key, UPDATE appends its source, or ends the session with SOURCE
where the source has an uncorrectable error, REVOKE revokes. A PROGRAM whose fuses verify (log entry 8: a free value)
writes the staged key. -/
def Obligations.SecCommandsComplete : Prop :=
  ∀ (s : State) (r : SecRun), s.sound → s.power.mode = .run → s.sec.run = some r → s.sec.slots.length = 8 →
    ∃ t, exec .secComplete s = .next t ∧ t.sec.run = none ∧ t.sec.respPtr = 0 ∧ t.now = max s.now (r.start + r.left) ∧
      t.cist = s.cist ∧ t.ops = s.ops ∧
      (r.code ≠ 0 → r.code < 16 → t.bit SEC 0x00 13 = true ∧ t.fld SEC 0x00 8 4 = r.code ∧
        t.sec.resp = List.replicate 64 0 ∧ t.sec.slots = s.sec.slots ∧ t.sec.session = s.sec.session) ∧
      (r.code = 0 → r.cmd ∈ [1, 2, 4, 6, 7] ∨ r.cmd = 3 ∧ (parseSource r.input).bad s = false ∨
          r.cmd = 5 ∧ Config.fuseFails s.free = false → (r.cmd = 4 → s.sec.session ≠ none) →
        t.bit SEC 0x00 14 = true ∧ t.fld SEC 0x00 8 4 = 0) ∧
      (r.code = 0 →
        (r.cmd = 1 → t.sec.slots = s.sec.slots ∧
          ∃ rest, t.sec.resp = ecdsaSign Config.dieKey.toNat (signMessage s (r.input.take 32)) ++ rest) ∧
        (r.cmd = 2 → t.sec.slots = s.sec.slots ∧ t.sec.session = some
          (if r.arg = 0xFF then List.replicate 16 0 else (s.slot r.arg).key, [])) ∧
        (r.cmd = 3 → ∀ k m, s.sec.session = some (k, m) → t.sec.slots = s.sec.slots ∧
          ((parseSource r.input).bad s = false → t.sec.session = some (k, m ++ (parseSource r.input).bytes s)) ∧
          ((parseSource r.input).bad s = true → t.sec.session = none ∧ t.bit SEC 0x00 13 = true ∧
            t.fld SEC 0x00 8 4 = 8)) ∧
        (r.cmd = 4 → ∀ k m, s.sec.session = some (k, m) → t.sec.slots = s.sec.slots ∧ t.sec.session = none ∧
          ∃ rest, t.sec.resp = hmac k m ++ rest) ∧
        (r.cmd = 5 → r.arg < 8 →
          (Config.fuseFails s.free = true → t.bit SEC 0x00 13 = true ∧ t.fld SEC 0x00 8 4 = 9 ∧
            t.sec.slots = s.sec.slots ∧ t.sec.stage = s.sec.stage) ∧
          (Config.fuseFails s.free = false → t.slot r.arg = { s.slot r.arg with key := s.sec.stage, spoiled := none } ∧
            (∀ k, k ≠ r.arg → t.slot k = s.slot k) ∧ t.sec.stage = List.replicate 16 0 ∧
            ∃ rest, t.sec.resp = kcvOf s.sec.stage ++ rest)) ∧
        (r.cmd = 6 → r.arg < 8 → t.slot r.arg = { s.slot r.arg with revoked := true } ∧
          (∀ k, k ≠ r.arg → t.slot k = s.slot k)) ∧
        (r.cmd = 7 → t.sec.slots = s.sec.slots ∧ (∃ rest, t.sec.resp = slotKcv (s.slot r.arg) ++ rest) ∧
          ((s.slot r.arg).spoiled = none →
            slotKcv (s.slot r.arg) = (hmac (s.slot r.arg).key [0x4B, 0x43, 0x56, 0x31]).take 4) ∧
          (∀ k, (s.slot r.arg).spoiled = some k → slotKcv (s.slot r.arg) ≠ k)))

/-- CHAL_IN_WRITE, PTR_CLR, RESP_OUT_READ and ID_CERT_READ (R544, R545): a word of CHAL_IN goes to bytes 2k and 2k +
1, high byte first, and past its 32 words nowhere; a write or a clear beside a running command sets CLASH and changes
nothing else; a read of RESP_OUT gives its words and 0 past them, one of ID_CERT wraps after word 127, and each moves
its pointer on. -/
def Obligations.SecWindows : Prop :=
  ∀ (s : State), s.sound → s.power.mode = .run →
    (∀ v : Word, s.sec.run = none → s.sec.chal.length = 64 →
      (s.sec.chalPtr < 32 → ∃ t, exec (.chalInWrite v) s = .next t ∧
        t.sec.chal = (s.sec.chal.set (2 * s.sec.chalPtr) (byte (v.toNat / 256))).set (2 * s.sec.chalPtr + 1)
          (byte (v.toNat % 256)) ∧ t.sec.chalPtr = s.sec.chalPtr + 1 ∧
        t = { s with sec := { s.sec with chal := t.sec.chal, chalPtr := t.sec.chalPtr } }) ∧
      (32 ≤ s.sec.chalPtr → exec (.chalInWrite v) s = .next s)) ∧
    (s.sec.run = none →
      exec .ptrClr s = .next { s with sec := { s.sec with chalPtr := 0, respPtr := 0, certPtr := 0 } }) ∧
    (s.sec.run.isSome = true → ∀ row, row = .ptrClr ∨ (∃ v, row = .chalInWrite v) →
      ∃ t, exec row s = .next t ∧ t.bit SEC 0x00 12 = true ∧ t = { s with regs := t.regs }) ∧
    (∀ n, 1 ≤ n → n ≤ 128 →
      (∃ t, exec (.respOutRead n) s = .next t ∧
        t.sec = { s.sec with respPtr := max s.sec.respPtr (min 32 (s.sec.respPtr + n)) } ∧
        t = { s with sec := t.sec, ctl := t.ctl } ∧
        ∃ st : Word, let body := wireBytes st ++ (List.range n).flatMap (fun k =>
            if s.sec.respPtr + k < 32 then
              [nth s.sec.resp (2 * (s.sec.respPtr + k)) 0, nth s.sec.resp (2 * (s.sec.respPtr + k) + 1) 0]
            else [0, 0])
          t.ctl.answer = some (body ++ [byte (crc8 body)])) ∧
      (s.sec.certPtr < 128 →
        ∃ t, exec (.idCertRead n) s = .next t ∧ t.sec = { s.sec with certPtr := (s.sec.certPtr + n) % 128 } ∧
          t = { s with sec := t.sec, ctl := t.ctl } ∧
          ∃ st : Word, let body := wireBytes st ++ (List.range n).flatMap (fun k =>
              [nth (certificate s.part) (2 * ((s.sec.certPtr + k) % 128)) 0,
               nth (certificate s.part) (2 * ((s.sec.certPtr + k) % 128) + 1) 0])
            t.ctl.answer = some (body ++ [byte (crc8 body)])))

/-! ## The test access port (22) -/

/-- The state after a REGACC access whose only trace is its outcome. -/
def Sys2Proof.Machine.accessDone (s : State) (refused : Bool) (a : Nat) (v : Word) : State :=
  { s with tap := { s.tap with done := true, refused := refused, addr := a, data := v } }

/-- TAP_RESET, EXTEST, SAMPLE_PRELOAD, IDCODE, CLAMP, HIGHZ, REGACC, BYPASS and REGACC_UPDATE (R582, R585 to R587):
the TAP takes its instruction while it is powered, EXTEST, CLAMP and HIGHZ as BYPASS while LOCK = 1; Test-Logic-Reset
selects IDCODE; in Dormant and Off it takes nothing. Under REGACC an update reads or writes one register of a single
target, and is refused for a group or reserved target, a window, in Hush, and for a locked write. With LOCK = 0 every
covered output takes its boundary value under EXTEST and CLAMP (which cell is a signal's, and that a cell at 0 pulls an
open-drain signal low: log entry 51), is high impedance under HIGHZ, and returns to its functional driver (R569) on any
other instruction. -/
def Obligations.TestAccessPort : Prop :=
  ∀ (s : State), s.sound →
    (s.power.mode = .run ∨ s.power.mode = .hush ∨ s.power.mode = .starting →
      exec .samplePreload s = .next { s with tap := { s.tap with ins := .sample } } ∧
      exec .idcode s = .next { s with tap := { s.tap with ins := .idcode } } ∧
      exec .regacc s = .next { s with tap := { s.tap with ins := .regacc } } ∧
      exec .bypass s = .next { s with tap := { s.tap with ins := .bypass } } ∧
      exec .tapReset s = .next { s with tap := { s.tap with ins := .idcode } } ∧
      exec .extest s = .next { s with tap := { s.tap with ins := if locked s then .bypass else .extest } } ∧
      exec .clamp s = .next { s with tap := { s.tap with ins := if locked s then .bypass else .clamp } } ∧
      exec .highz s = .next { s with tap := { s.tap with ins := if locked s then .bypass else .highz } }) ∧
    (s.power.mode = .run → locked s = false → ∀ x, cellDrives x = true →
      let v := nbit s.tap.boundary (cellIndex x)
      let cell : PinState := if x = .tripN ∨ x = .cpAlertN then .openDrain (!v) else .driven v
      (∃ t, exec .extest s = .next t ∧ pinState t x = cell) ∧ (∃ t, exec .clamp s = .next t ∧ pinState t x = cell) ∧
        (∃ t, exec .highz s = .next t ∧ pinState t x = .floating .none) ∧
        (∀ row, row ∈ [Instr.samplePreload, .idcode, .regacc, .bypass, .tapReset] →
          ∃ t, exec row s = .next t ∧ pinState t x = functionalPin t x)) ∧
    (s.power.mode = .dormant ∨ s.power.mode = .off → ∀ row, row ∈ [Instr.extest, .samplePreload, .idcode, .clamp,
        .highz, .regacc, .bypass, .tapReset] ∨ (∃ dr, row = .regaccUpdate dr) → exec row s = .next s) ∧
    (∀ dr : BitVec 34, s.tap.ins = .regacc →
      let t0 := fld dr.toNat 24 8
      let r0 := fld dr.toNat 16 8
      (s.power.mode = .run → nbit dr.toNat 33 = false → t0 ∈ [DEV, SUP, PWR, CRY, SEC, PMP, CLO, CH 0, CH 15, ENG 0] →
        isWindow t0 r0 = false → (regInfo s.part s.straps t0 r0).isSome = true →
        exec (.regaccUpdate dr) s = .next (accessDone s false (t0 * 256 + r0) (regRead s t0 r0))) ∧
      (s.power.mode = .run → nbit dr.toNat 33 = true → t0 = DEV → r0 = 0x06 →
        ∃ t, exec (.regaccUpdate dr) s = .next t ∧ t.rd DEV 0x06 = word dr.toNat ∧ t.tap.done = true ∧
          t.tap.refused = false ∧ t = { s with regs := t.regs, tap := t.tap }) ∧
      (s.power.mode = .run → locked s = true → nbit dr.toNat 33 = true → t0 = CH 0 → 8 ≤ r0 → r0 ≤ 15 →
        word dr.toNat ≠ s.rd (CH 0) r0 →
        exec (.regaccUpdate dr) s = .next (accessDone s true (t0 * 256 + r0) (word dr.toNat))) ∧
      (s.power.mode = .hush ∨ s.power.mode = .run ∧ (0x30 ≤ t0 ∨ isWindow t0 r0 = true) →
        exec (.regaccUpdate dr) s = .next (accessDone s true (t0 * 256 + r0) (word dr.toNat))))
end

