-- ==== Sys2Proof/Laws/Basics.lean ====
section
/-! SUPPORT. The small laws of the list, memory and register-file operations. -/

namespace Sys2Proof.Machine

/-! ## Lists -/

@[simp] theorem modAt_length {α : Type} (xs : List α) (i : Nat) (f : α → α) : (modAt xs i f).length = xs.length := by
  induction xs generalizing i with
  | nil => rfl
  | cons x xs ih => cases i <;> simp [modAt, ih]

theorem modAt_getElem? {α : Type} (xs : List α) (i j : Nat) (f : α → α) :
    (modAt xs i f)[j]? = if i = j then xs[j]?.map f else xs[j]? := by
  induction xs generalizing i j with
  | nil => simp [modAt]
  | cons x xs ih =>
    cases i <;> cases j <;> simp [modAt, ih]

theorem nth_modAt_same {α : Type} (xs : List α) (i : Nat) (f : α → α) (d : α) (h : i < xs.length) :
    nth (modAt xs i f) i d = f (nth xs i d) := by
  simp only [nth, List.getD, modAt_getElem?, if_pos]
  simp [h]

theorem nth_modAt_other {α : Type} (xs : List α) (i j : Nat) (f : α → α) (d : α) (h : i ≠ j) :
    nth (modAt xs i f) j d = nth xs j d := by
  simp [nth, List.getD, modAt_getElem?, h]

theorem foldS_nil {α σ : Type} (f : α → σ → σ) (s : σ) : foldS f [] s = s := rfl

theorem foldS_cons {α σ : Type} (f : α → σ → σ) (x : α) (xs : List α) (s : σ) :
    foldS f (x :: xs) s = foldS f xs (f x s) := rfl

/-- What each step of a fold keeps, the fold keeps. -/
theorem foldS_keeps {α σ β : Type} (g : σ → β) (f : α → σ → σ) (h : ∀ a s, g (f a s) = g s) (xs : List α) (s : σ) :
    g (foldS f xs s) = g s := by
  induction xs generalizing s with
  | nil => rfl
  | cons x xs ih => rw [foldS_cons, ih, h]

/-- A property that each step of a fold keeps holds after the fold. -/
theorem foldS_inv {α σ : Type} (P : σ → Prop) (f : α → σ → σ) (h : ∀ a s, P s → P (f a s)) (xs : List α) (s : σ)
    (hs : P s) : P (foldS f xs s) := by
  induction xs generalizing s with
  | nil => exact hs
  | cons x xs ih => exact ih _ (h x s hs)

/-! ## Memory -/

theorem memWfFrom_cons (lo k : Nat) (v : Byte) (m : Mem) :
    memWfFrom lo ((k, v) :: m) = true ↔ lo ≤ k ∧ v ≠ 0 ∧ memWfFrom (k + 1) m = true := by
  simp [memWfFrom, and_assoc]

theorem memRead_below (m : Mem) (lo a : Nat) (h : memWfFrom lo m = true) (ha : a < lo) : memRead m a = 0 := by
  cases m with
  | nil => rfl
  | cons x m =>
    obtain ⟨k, v⟩ := x
    rw [memWfFrom_cons] at h
    simp [memRead, show a < k by omega]

theorem memWfFrom_mono (m : Mem) (lo lo' : Nat) (h : memWfFrom lo m = true) (hl : lo' ≤ lo) : memWfFrom lo' m = true := by
  cases m with
  | nil => rfl
  | cons x m =>
    obtain ⟨k, v⟩ := x
    rw [memWfFrom_cons] at h ⊢
    exact ⟨by omega, h.2⟩

theorem memCons_wf (m : Mem) (lo a : Nat) (b : Byte) (ha : lo ≤ a) (h : memWfFrom (a + 1) m = true) :
    memWfFrom lo (memCons a b m) = true := by
  unfold memCons
  split
  · exact memWfFrom_mono m (a + 1) lo h (by omega)
  · next hb => exact (memWfFrom_cons lo a b m).2 ⟨ha, hb, h⟩

theorem memWrite_wf_from (m : Mem) (lo a : Nat) (b : Byte) (h : memWfFrom lo m = true) (ha : lo ≤ a) :
    memWfFrom lo (memWrite m a b) = true := by
  induction m generalizing lo with
  | nil => exact memCons_wf [] lo a b ha rfl
  | cons x m ih =>
    obtain ⟨k, v⟩ := x
    rw [memWfFrom_cons] at h
    unfold memWrite
    split
    · next hk => exact memCons_wf _ lo a b ha ((memWfFrom_cons _ _ _ _).2 ⟨by omega, h.2⟩)
    · split
      · next hk => subst hk; exact memCons_wf m lo a b ha h.2.2
      · next h1 h2 => exact (memWfFrom_cons _ _ _ _).2 ⟨h.1, h.2.1, ih (k + 1) h.2.2 (by omega)⟩

/-- A write keeps the canonical form. -/
@[simp] theorem memWrite_wf (m : Mem) (a : Nat) (b : Byte) (h : Memory.wf m = true) : Memory.wf (memWrite m a b) = true :=
  memWrite_wf_from m 0 a b h (Nat.zero_le a)

/-- A write of a list of bytes keeps the canonical form. -/
@[simp] theorem memWriteL_wf (m : Mem) (a : Nat) (bs : List Byte) (h : Memory.wf m = true) :
    Memory.wf (memWriteL m a bs) = true := by
  induction bs generalizing m a with
  | nil => exact h
  | cons b bs ih => exact ih _ _ (memWrite_wf m a b h)

theorem memOf_wf_from (a lo : Nat) (bs : List Byte) (h : lo ≤ a) : memWfFrom lo (memOf a bs) = true := by
  induction bs generalizing a lo with
  | nil => rfl
  | cons b bs ih => exact memCons_wf _ lo a b h (ih (a + 1) (a + 1) (Nat.le_refl _))

/-- A memory made of bytes is canonical. -/
@[simp] theorem memOf_wf (a : Nat) (bs : List Byte) : Memory.wf (memOf a bs) = true := memOf_wf_from a 0 bs (Nat.zero_le a)

/-- A write that skips codewords keeps the canonical form. -/
@[simp] theorem memWriteSkip_wf (skip : List Nat) (m : Mem) (a : Nat) (bs : List Byte) (h : Memory.wf m = true) :
    Memory.wf (memWriteSkip skip m a bs) = true := by
  induction bs generalizing m a with
  | nil => exact h
  | cons b bs ih =>
    refine ih _ _ ?_
    split
    · exact h
    · exact memWrite_wf m a b h

theorem memRead_memCons (a b' : Nat) (b : Byte) (m : Mem) (h : memWfFrom (a + 1) m = true) :
    memRead (memCons a b m) b' = if b' = a then b else if b' < a then 0 else memRead m b' := by
  unfold memCons
  split
  · next hb =>
    split
    · next he => subst he; rw [hb]; exact memRead_below m (b' + 1) b' h (Nat.lt_succ_self _)
    · split
      · next hl => exact memRead_below m (a + 1) b' h (by omega)
      · rfl
  · simp only [memRead]
    split
    · next hl => simp [show b' ≠ a by omega]
    · rfl

theorem memRead_memWrite_from (m : Mem) (lo a x : Nat) (b : Byte) (h : memWfFrom lo m = true) :
    memRead (memWrite m a b) x = if x = a then b else memRead m x := by
  induction m generalizing lo with
  | nil =>
    rw [memWrite, memRead_memCons a x b [] rfl]
    split
    · rfl
    · simp [memRead]
  | cons y m ih =>
    obtain ⟨k, v⟩ := y
    rw [memWfFrom_cons] at h
    unfold memWrite
    split
    · next hk =>
      rw [memRead_memCons a x b _ ((memWfFrom_cons _ _ _ _).2 ⟨by omega, h.2⟩)]
      split
      · rfl
      · split
        · next hx => simp [memRead, show x < k by omega]
        · rfl
    · split
      · next hk =>
        subst hk
        rw [memRead_memCons a x b m h.2.2]
        split
        · rfl
        · next hne =>
          simp only [memRead]
          split
          · rfl
          · simp
      · next h1 h2 =>
        simp only [memRead]
        rw [ih (k + 1) h.2.2]
        by_cases hx : x = a
        · subst hx; simp [h1, h2]
        · simp [hx]

/-- A byte read after a write: the byte written at its address, every other byte as before. -/
theorem memRead_memWrite (m : Mem) (a x : Nat) (b : Byte) (h : Memory.wf m = true) :
    memRead (memWrite m a b) x = if x = a then b else memRead m x :=
  memRead_memWrite_from m 0 a x b h

/-- A byte outside a list of bytes written reads as before. -/
theorem memRead_memWriteL_outside (m : Mem) (a x : Nat) (bs : List Byte) (h : Memory.wf m = true)
    (hx : x < a ∨ a + bs.length ≤ x) : memRead (memWriteL m a bs) x = memRead m x := by
  induction bs generalizing m a with
  | nil => rfl
  | cons b bs ih =>
    simp only [List.length_cons] at hx
    rw [memWriteL, ih _ _ (memWrite_wf m a b h) (by omega), memRead_memWrite m a x b h, if_neg (by omega)]

/-- A byte of a list of bytes written reads back. -/
theorem memRead_memWriteL_inside (m : Mem) (a i : Nat) (bs : List Byte) (h : Memory.wf m = true) (hi : i < bs.length) :
    memRead (memWriteL m a bs) (a + i) = bs[i] := by
  induction bs generalizing m a i with
  | nil => simp at hi
  | cons b bs ih =>
    cases i with
    | zero =>
      rw [memWriteL, memRead_memWriteL_outside _ _ _ _ (memWrite_wf m a b h) (by omega),
        memRead_memWrite m a _ b h]
      simp
    | succ i =>
      have hi' : i < bs.length := by simpa using hi
      rw [memWriteL, show a + (i + 1) = a + 1 + i by omega, ih _ _ i (memWrite_wf m a b h) hi']
      simp

theorem memReadN_length (m : Mem) (a n : Nat) : (memReadN m a n).length = n := by
  induction n generalizing a with
  | zero => rfl
  | succ n ih => simp [memReadN, ih]

theorem memReadN_getElem? (m : Mem) (a n i : Nat) (h : i < n) : (memReadN m a n)[i]? = some (memRead m (a + i)) := by
  induction n generalizing a i with
  | zero => omega
  | succ n ih =>
    cases i with
    | zero => simp [memReadN]
    | succ i => simp only [memReadN, List.getElem?_cons_succ]; rw [ih (a + 1) i (by omega)]; congr 2; omega

/-- The bytes just written read back. -/
theorem memReadN_memWriteL (m : Mem) (a : Nat) (bs : List Byte) (h : Memory.wf m = true) :
    memReadN (memWriteL m a bs) a bs.length = bs := by
  apply List.ext_getElem?
  intro i
  by_cases hi : i < bs.length
  · rw [memReadN_getElem? _ _ _ _ hi, memRead_memWriteL_inside m a i bs h hi]; simp [hi]
  · rw [List.getElem?_eq_none (by rw [memReadN_length]; omega), List.getElem?_eq_none (by omega)]

/-- Bytes apart from those written read as before. -/
theorem memReadN_memWriteL_apart (m : Mem) (a x n : Nat) (bs : List Byte) (h : Memory.wf m = true)
    (hx : x + n ≤ a ∨ a + bs.length ≤ x) : memReadN (memWriteL m a bs) x n = memReadN m x n := by
  induction n generalizing x with
  | zero => rfl
  | succ n ih =>
    rw [memReadN, memReadN, memRead_memWriteL_outside m a x bs h (by omega)]
    by_cases hn : n = 0
    · subst hn; rfl
    · rw [ih (x + 1) (by omega)]

/-! ## The register file -/

theorem assoc_assocPut_same {α : Type} (keep : Bool) (k : Nat) (v : α) (xs : List (Nat × α))
    (h : xs.Pairwise (fun x y => x.1 < y.1)) : assoc (assocPut keep k v xs) k = if keep then some v else none := by
  induction xs with
  | nil => cases keep <;> simp [assocPut, assoc]
  | cons x xs ih =>
    obtain ⟨j, w⟩ := x
    rw [List.pairwise_cons] at h
    have hn : ∀ ys : List (Nat × α), (∀ y ∈ ys, k < y.1) → assoc ys k = none := by
      intro ys
      induction ys with
      | nil => intro _; rfl
      | cons y ys ihy =>
        intro hy
        have := hy y (by simp)
        simp only [assoc]
        rw [if_neg (by omega)]
        exact ihy (fun z hz => hy z (by simp [hz]))
    unfold assocPut
    split
    · next hk =>
      cases keep
      · simp only [Bool.false_eq_true, if_false]
        exact hn _ (by intro y hy; rcases List.mem_cons.mp hy with rfl | hy; exact hk; have := h.1 y hy; simp at this; omega)
      · simp [assoc]
    · split
      · next hk =>
        subst hk
        cases keep
        · simp only [Bool.false_eq_true, if_false]; exact hn _ (fun y hy => h.1 y hy)
        · simp [assoc]
      · next h1 h2 => simp only [assoc, if_neg h2]; exact ih h.2

theorem assoc_assocPut_other {α : Type} (keep : Bool) (k j : Nat) (v : α) (xs : List (Nat × α)) (h : j ≠ k) :
    assoc (assocPut keep k v xs) j = assoc xs j := by
  induction xs with
  | nil => cases keep <;> simp [assocPut, assoc, h]
  | cons x xs ih =>
    obtain ⟨i, w⟩ := x
    unfold assocPut
    split
    · cases keep <;> simp [assoc, h]
    · split
      · next hk => subst hk; cases keep <;> simp [assoc, h]
      · simp [assoc, ih]

/-- A register other than the written one reads as before. -/
theorem State.rd_wr_other (s : State) (t r t' r' : Nat) (v : Word) (h : key t' r' ≠ key t r) :
    (s.wr t r v).rd t' r' = s.rd t' r' := by
  simp [State.rd, State.wr, assoc_assocPut_other _ _ _ _ _ h]

/-- The written register reads the word written. -/
theorem State.rd_wr_same (s : State) (t r : Nat) (v : Word) (h : s.regs.Pairwise (fun x y => x.1 < y.1)) :
    (s.wr t r v).rd t r = v := by
  simp only [State.rd, State.wr]
  rw [assoc_assocPut_same _ _ _ _ h]
  by_cases hv : v = resetWord s.part s.straps (key t r)
  · simp [hv]
  · simp [hv]

end Sys2Proof.Machine
end

