-- ==== Sys2Proof/Laws/State.lean ====
section
/-! SUPPORT. What each update of the device changes and what it leaves: one lemma per field and update. -/

namespace Sys2Proof.Machine

/-! ### `State.modChan` -/

@[simp] theorem State.modChan_part (s : State) (c : Nat) (f : Channel → Channel) : (s.modChan c f).part = s.part := rfl
@[simp] theorem State.modChan_straps (s : State) (c : Nat) (f : Channel → Channel) : (s.modChan c f).straps = s.straps := rfl
@[simp] theorem State.modChan_regs (s : State) (c : Nat) (f : Channel → Channel) : (s.modChan c f).regs = s.regs := rfl
@[simp] theorem State.modChan_now (s : State) (c : Nat) (f : Channel → Channel) : (s.modChan c f).now = s.now := rfl
@[simp] theorem State.modChan_tick (s : State) (c : Nat) (f : Channel → Channel) : (s.modChan c f).tick = s.tick := rfl
@[simp] theorem State.modChan_pace (s : State) (c : Nat) (f : Channel → Channel) : (s.modChan c f).pace = s.pace := rfl
@[simp] theorem State.modChan_chans (s : State) (c : Nat) (f : Channel → Channel) : (s.modChan c f).chans = modAt s.chans c f := rfl
@[simp] theorem State.modChan_wells (s : State) (c : Nat) (f : Channel → Channel) : (s.modChan c f).wells = s.wells := rfl
@[simp] theorem State.modChan_engs (s : State) (c : Nat) (f : Channel → Channel) : (s.modChan c f).engs = s.engs := rfl
@[simp] theorem State.modChan_ops (s : State) (c : Nat) (f : Channel → Channel) : (s.modChan c f).ops = s.ops := rfl
@[simp] theorem State.modChan_nextOp (s : State) (c : Nat) (f : Channel → Channel) : (s.modChan c f).nextOp = s.nextOp := rfl
@[simp] theorem State.modChan_pumps (s : State) (c : Nat) (f : Channel → Channel) : (s.modChan c f).pumps = s.pumps := rfl
@[simp] theorem State.modChan_bells (s : State) (c : Nat) (f : Channel → Channel) : (s.modChan c f).bells = s.bells := rfl
@[simp] theorem State.modChan_tables (s : State) (c : Nat) (f : Channel → Channel) : (s.modChan c f).tables = s.tables := rfl
@[simp] theorem State.modChan_cist (s : State) (c : Nat) (f : Channel → Channel) : (s.modChan c f).cist = s.cist := rfl
@[simp] theorem State.modChan_cistUe (s : State) (c : Nat) (f : Channel → Channel) : (s.modChan c f).cistUe = s.cistUe := rfl
@[simp] theorem State.modChan_cistCe (s : State) (c : Nat) (f : Channel → Channel) : (s.modChan c f).cistCe = s.cistCe := rfl
@[simp] theorem State.modChan_banks (s : State) (c : Nat) (f : Channel → Channel) : (s.modChan c f).banks = s.banks := rfl
@[simp] theorem State.modChan_storeBanks (s : State) (c : Nat) (f : Channel → Channel) : (s.modChan c f).storeBanks = s.storeBanks := rfl
@[simp] theorem State.modChan_journal (s : State) (c : Nat) (f : Channel → Channel) : (s.modChan c f).journal = s.journal := rfl
@[simp] theorem State.modChan_faults (s : State) (c : Nat) (f : Channel → Channel) : (s.modChan c f).faults = s.faults := rfl
@[simp] theorem State.modChan_ctl (s : State) (c : Nat) (f : Channel → Channel) : (s.modChan c f).ctl = s.ctl := rfl
@[simp] theorem State.modChan_sup (s : State) (c : Nat) (f : Channel → Channel) : (s.modChan c f).sup = s.sup := rfl
@[simp] theorem State.modChan_clo (s : State) (c : Nat) (f : Channel → Channel) : (s.modChan c f).clo = s.clo := rfl
@[simp] theorem State.modChan_ports (s : State) (c : Nat) (f : Channel → Channel) : (s.modChan c f).ports = s.ports := rfl
@[simp] theorem State.modChan_power (s : State) (c : Nat) (f : Channel → Channel) : (s.modChan c f).power = s.power := rfl
@[simp] theorem State.modChan_tbase (s : State) (c : Nat) (f : Channel → Channel) : (s.modChan c f).tbase = s.tbase := rfl
@[simp] theorem State.modChan_sec (s : State) (c : Nat) (f : Channel → Channel) : (s.modChan c f).sec = s.sec := rfl
@[simp] theorem State.modChan_tap (s : State) (c : Nat) (f : Channel → Channel) : (s.modChan c f).tap = s.tap := rfl
@[simp] theorem State.modChan_tb (s : State) (c : Nat) (f : Channel → Channel) : (s.modChan c f).tb = s.tb := rfl
@[simp] theorem State.modChan_free (s : State) (c : Nat) (f : Channel → Channel) : (s.modChan c f).free = s.free := rfl
@[simp] theorem State.modChan_pending (s : State) (c : Nat) (f : Channel → Channel) : (s.modChan c f).pending = s.pending := rfl

/-! ### `State.mapChans` -/

@[simp] theorem State.mapChans_part (s : State) (f : Channel → Channel) : (s.mapChans f).part = s.part := rfl
@[simp] theorem State.mapChans_straps (s : State) (f : Channel → Channel) : (s.mapChans f).straps = s.straps := rfl
@[simp] theorem State.mapChans_regs (s : State) (f : Channel → Channel) : (s.mapChans f).regs = s.regs := rfl
@[simp] theorem State.mapChans_now (s : State) (f : Channel → Channel) : (s.mapChans f).now = s.now := rfl
@[simp] theorem State.mapChans_tick (s : State) (f : Channel → Channel) : (s.mapChans f).tick = s.tick := rfl
@[simp] theorem State.mapChans_pace (s : State) (f : Channel → Channel) : (s.mapChans f).pace = s.pace := rfl
@[simp] theorem State.mapChans_chans (s : State) (f : Channel → Channel) : (s.mapChans f).chans = s.chans.map f := rfl
@[simp] theorem State.mapChans_wells (s : State) (f : Channel → Channel) : (s.mapChans f).wells = s.wells := rfl
@[simp] theorem State.mapChans_engs (s : State) (f : Channel → Channel) : (s.mapChans f).engs = s.engs := rfl
@[simp] theorem State.mapChans_ops (s : State) (f : Channel → Channel) : (s.mapChans f).ops = s.ops := rfl
@[simp] theorem State.mapChans_nextOp (s : State) (f : Channel → Channel) : (s.mapChans f).nextOp = s.nextOp := rfl
@[simp] theorem State.mapChans_pumps (s : State) (f : Channel → Channel) : (s.mapChans f).pumps = s.pumps := rfl
@[simp] theorem State.mapChans_bells (s : State) (f : Channel → Channel) : (s.mapChans f).bells = s.bells := rfl
@[simp] theorem State.mapChans_tables (s : State) (f : Channel → Channel) : (s.mapChans f).tables = s.tables := rfl
@[simp] theorem State.mapChans_cist (s : State) (f : Channel → Channel) : (s.mapChans f).cist = s.cist := rfl
@[simp] theorem State.mapChans_cistUe (s : State) (f : Channel → Channel) : (s.mapChans f).cistUe = s.cistUe := rfl
@[simp] theorem State.mapChans_cistCe (s : State) (f : Channel → Channel) : (s.mapChans f).cistCe = s.cistCe := rfl
@[simp] theorem State.mapChans_banks (s : State) (f : Channel → Channel) : (s.mapChans f).banks = s.banks := rfl
@[simp] theorem State.mapChans_storeBanks (s : State) (f : Channel → Channel) : (s.mapChans f).storeBanks = s.storeBanks := rfl
@[simp] theorem State.mapChans_journal (s : State) (f : Channel → Channel) : (s.mapChans f).journal = s.journal := rfl
@[simp] theorem State.mapChans_faults (s : State) (f : Channel → Channel) : (s.mapChans f).faults = s.faults := rfl
@[simp] theorem State.mapChans_ctl (s : State) (f : Channel → Channel) : (s.mapChans f).ctl = s.ctl := rfl
@[simp] theorem State.mapChans_sup (s : State) (f : Channel → Channel) : (s.mapChans f).sup = s.sup := rfl
@[simp] theorem State.mapChans_clo (s : State) (f : Channel → Channel) : (s.mapChans f).clo = s.clo := rfl
@[simp] theorem State.mapChans_ports (s : State) (f : Channel → Channel) : (s.mapChans f).ports = s.ports := rfl
@[simp] theorem State.mapChans_power (s : State) (f : Channel → Channel) : (s.mapChans f).power = s.power := rfl
@[simp] theorem State.mapChans_tbase (s : State) (f : Channel → Channel) : (s.mapChans f).tbase = s.tbase := rfl
@[simp] theorem State.mapChans_sec (s : State) (f : Channel → Channel) : (s.mapChans f).sec = s.sec := rfl
@[simp] theorem State.mapChans_tap (s : State) (f : Channel → Channel) : (s.mapChans f).tap = s.tap := rfl
@[simp] theorem State.mapChans_tb (s : State) (f : Channel → Channel) : (s.mapChans f).tb = s.tb := rfl
@[simp] theorem State.mapChans_free (s : State) (f : Channel → Channel) : (s.mapChans f).free = s.free := rfl
@[simp] theorem State.mapChans_pending (s : State) (f : Channel → Channel) : (s.mapChans f).pending = s.pending := rfl

/-! ### `State.modWell` -/

@[simp] theorem State.modWell_part (s : State) (w : Nat) (f : Well → Well) : (s.modWell w f).part = s.part := rfl
@[simp] theorem State.modWell_straps (s : State) (w : Nat) (f : Well → Well) : (s.modWell w f).straps = s.straps := rfl
@[simp] theorem State.modWell_regs (s : State) (w : Nat) (f : Well → Well) : (s.modWell w f).regs = s.regs := rfl
@[simp] theorem State.modWell_now (s : State) (w : Nat) (f : Well → Well) : (s.modWell w f).now = s.now := rfl
@[simp] theorem State.modWell_tick (s : State) (w : Nat) (f : Well → Well) : (s.modWell w f).tick = s.tick := rfl
@[simp] theorem State.modWell_pace (s : State) (w : Nat) (f : Well → Well) : (s.modWell w f).pace = s.pace := rfl
@[simp] theorem State.modWell_chans (s : State) (w : Nat) (f : Well → Well) : (s.modWell w f).chans = s.chans := rfl
@[simp] theorem State.modWell_wells (s : State) (w : Nat) (f : Well → Well) : (s.modWell w f).wells = modAt s.wells w f := rfl
@[simp] theorem State.modWell_engs (s : State) (w : Nat) (f : Well → Well) : (s.modWell w f).engs = s.engs := rfl
@[simp] theorem State.modWell_ops (s : State) (w : Nat) (f : Well → Well) : (s.modWell w f).ops = s.ops := rfl
@[simp] theorem State.modWell_nextOp (s : State) (w : Nat) (f : Well → Well) : (s.modWell w f).nextOp = s.nextOp := rfl
@[simp] theorem State.modWell_pumps (s : State) (w : Nat) (f : Well → Well) : (s.modWell w f).pumps = s.pumps := rfl
@[simp] theorem State.modWell_bells (s : State) (w : Nat) (f : Well → Well) : (s.modWell w f).bells = s.bells := rfl
@[simp] theorem State.modWell_tables (s : State) (w : Nat) (f : Well → Well) : (s.modWell w f).tables = s.tables := rfl
@[simp] theorem State.modWell_cist (s : State) (w : Nat) (f : Well → Well) : (s.modWell w f).cist = s.cist := rfl
@[simp] theorem State.modWell_cistUe (s : State) (w : Nat) (f : Well → Well) : (s.modWell w f).cistUe = s.cistUe := rfl
@[simp] theorem State.modWell_cistCe (s : State) (w : Nat) (f : Well → Well) : (s.modWell w f).cistCe = s.cistCe := rfl
@[simp] theorem State.modWell_banks (s : State) (w : Nat) (f : Well → Well) : (s.modWell w f).banks = s.banks := rfl
@[simp] theorem State.modWell_storeBanks (s : State) (w : Nat) (f : Well → Well) : (s.modWell w f).storeBanks = s.storeBanks := rfl
@[simp] theorem State.modWell_journal (s : State) (w : Nat) (f : Well → Well) : (s.modWell w f).journal = s.journal := rfl
@[simp] theorem State.modWell_faults (s : State) (w : Nat) (f : Well → Well) : (s.modWell w f).faults = s.faults := rfl
@[simp] theorem State.modWell_ctl (s : State) (w : Nat) (f : Well → Well) : (s.modWell w f).ctl = s.ctl := rfl
@[simp] theorem State.modWell_sup (s : State) (w : Nat) (f : Well → Well) : (s.modWell w f).sup = s.sup := rfl
@[simp] theorem State.modWell_clo (s : State) (w : Nat) (f : Well → Well) : (s.modWell w f).clo = s.clo := rfl
@[simp] theorem State.modWell_ports (s : State) (w : Nat) (f : Well → Well) : (s.modWell w f).ports = s.ports := rfl
@[simp] theorem State.modWell_power (s : State) (w : Nat) (f : Well → Well) : (s.modWell w f).power = s.power := rfl
@[simp] theorem State.modWell_tbase (s : State) (w : Nat) (f : Well → Well) : (s.modWell w f).tbase = s.tbase := rfl
@[simp] theorem State.modWell_sec (s : State) (w : Nat) (f : Well → Well) : (s.modWell w f).sec = s.sec := rfl
@[simp] theorem State.modWell_tap (s : State) (w : Nat) (f : Well → Well) : (s.modWell w f).tap = s.tap := rfl
@[simp] theorem State.modWell_tb (s : State) (w : Nat) (f : Well → Well) : (s.modWell w f).tb = s.tb := rfl
@[simp] theorem State.modWell_free (s : State) (w : Nat) (f : Well → Well) : (s.modWell w f).free = s.free := rfl
@[simp] theorem State.modWell_pending (s : State) (w : Nat) (f : Well → Well) : (s.modWell w f).pending = s.pending := rfl

/-! ### `State.modEng` -/

@[simp] theorem State.modEng_part (s : State) (e : Nat) (f : Engine → Engine) : (s.modEng e f).part = s.part := rfl
@[simp] theorem State.modEng_straps (s : State) (e : Nat) (f : Engine → Engine) : (s.modEng e f).straps = s.straps := rfl
@[simp] theorem State.modEng_regs (s : State) (e : Nat) (f : Engine → Engine) : (s.modEng e f).regs = s.regs := rfl
@[simp] theorem State.modEng_now (s : State) (e : Nat) (f : Engine → Engine) : (s.modEng e f).now = s.now := rfl
@[simp] theorem State.modEng_tick (s : State) (e : Nat) (f : Engine → Engine) : (s.modEng e f).tick = s.tick := rfl
@[simp] theorem State.modEng_pace (s : State) (e : Nat) (f : Engine → Engine) : (s.modEng e f).pace = s.pace := rfl
@[simp] theorem State.modEng_chans (s : State) (e : Nat) (f : Engine → Engine) : (s.modEng e f).chans = s.chans := rfl
@[simp] theorem State.modEng_wells (s : State) (e : Nat) (f : Engine → Engine) : (s.modEng e f).wells = s.wells := rfl
@[simp] theorem State.modEng_engs (s : State) (e : Nat) (f : Engine → Engine) : (s.modEng e f).engs = modAt s.engs e f := rfl
@[simp] theorem State.modEng_ops (s : State) (e : Nat) (f : Engine → Engine) : (s.modEng e f).ops = s.ops := rfl
@[simp] theorem State.modEng_nextOp (s : State) (e : Nat) (f : Engine → Engine) : (s.modEng e f).nextOp = s.nextOp := rfl
@[simp] theorem State.modEng_pumps (s : State) (e : Nat) (f : Engine → Engine) : (s.modEng e f).pumps = s.pumps := rfl
@[simp] theorem State.modEng_bells (s : State) (e : Nat) (f : Engine → Engine) : (s.modEng e f).bells = s.bells := rfl
@[simp] theorem State.modEng_tables (s : State) (e : Nat) (f : Engine → Engine) : (s.modEng e f).tables = s.tables := rfl
@[simp] theorem State.modEng_cist (s : State) (e : Nat) (f : Engine → Engine) : (s.modEng e f).cist = s.cist := rfl
@[simp] theorem State.modEng_cistUe (s : State) (e : Nat) (f : Engine → Engine) : (s.modEng e f).cistUe = s.cistUe := rfl
@[simp] theorem State.modEng_cistCe (s : State) (e : Nat) (f : Engine → Engine) : (s.modEng e f).cistCe = s.cistCe := rfl
@[simp] theorem State.modEng_banks (s : State) (e : Nat) (f : Engine → Engine) : (s.modEng e f).banks = s.banks := rfl
@[simp] theorem State.modEng_storeBanks (s : State) (e : Nat) (f : Engine → Engine) : (s.modEng e f).storeBanks = s.storeBanks := rfl
@[simp] theorem State.modEng_journal (s : State) (e : Nat) (f : Engine → Engine) : (s.modEng e f).journal = s.journal := rfl
@[simp] theorem State.modEng_faults (s : State) (e : Nat) (f : Engine → Engine) : (s.modEng e f).faults = s.faults := rfl
@[simp] theorem State.modEng_ctl (s : State) (e : Nat) (f : Engine → Engine) : (s.modEng e f).ctl = s.ctl := rfl
@[simp] theorem State.modEng_sup (s : State) (e : Nat) (f : Engine → Engine) : (s.modEng e f).sup = s.sup := rfl
@[simp] theorem State.modEng_clo (s : State) (e : Nat) (f : Engine → Engine) : (s.modEng e f).clo = s.clo := rfl
@[simp] theorem State.modEng_ports (s : State) (e : Nat) (f : Engine → Engine) : (s.modEng e f).ports = s.ports := rfl
@[simp] theorem State.modEng_power (s : State) (e : Nat) (f : Engine → Engine) : (s.modEng e f).power = s.power := rfl
@[simp] theorem State.modEng_tbase (s : State) (e : Nat) (f : Engine → Engine) : (s.modEng e f).tbase = s.tbase := rfl
@[simp] theorem State.modEng_sec (s : State) (e : Nat) (f : Engine → Engine) : (s.modEng e f).sec = s.sec := rfl
@[simp] theorem State.modEng_tap (s : State) (e : Nat) (f : Engine → Engine) : (s.modEng e f).tap = s.tap := rfl
@[simp] theorem State.modEng_tb (s : State) (e : Nat) (f : Engine → Engine) : (s.modEng e f).tb = s.tb := rfl
@[simp] theorem State.modEng_free (s : State) (e : Nat) (f : Engine → Engine) : (s.modEng e f).free = s.free := rfl
@[simp] theorem State.modEng_pending (s : State) (e : Nat) (f : Engine → Engine) : (s.modEng e f).pending = s.pending := rfl

/-! ### `State.modBank` -/

@[simp] theorem State.modBank_part (s : State) (b : Nat) (f : Bank → Bank) : (s.modBank b f).part = s.part := rfl
@[simp] theorem State.modBank_straps (s : State) (b : Nat) (f : Bank → Bank) : (s.modBank b f).straps = s.straps := rfl
@[simp] theorem State.modBank_regs (s : State) (b : Nat) (f : Bank → Bank) : (s.modBank b f).regs = s.regs := rfl
@[simp] theorem State.modBank_now (s : State) (b : Nat) (f : Bank → Bank) : (s.modBank b f).now = s.now := rfl
@[simp] theorem State.modBank_tick (s : State) (b : Nat) (f : Bank → Bank) : (s.modBank b f).tick = s.tick := rfl
@[simp] theorem State.modBank_pace (s : State) (b : Nat) (f : Bank → Bank) : (s.modBank b f).pace = s.pace := rfl
@[simp] theorem State.modBank_chans (s : State) (b : Nat) (f : Bank → Bank) : (s.modBank b f).chans = s.chans := rfl
@[simp] theorem State.modBank_wells (s : State) (b : Nat) (f : Bank → Bank) : (s.modBank b f).wells = s.wells := rfl
@[simp] theorem State.modBank_engs (s : State) (b : Nat) (f : Bank → Bank) : (s.modBank b f).engs = s.engs := rfl
@[simp] theorem State.modBank_ops (s : State) (b : Nat) (f : Bank → Bank) : (s.modBank b f).ops = s.ops := rfl
@[simp] theorem State.modBank_nextOp (s : State) (b : Nat) (f : Bank → Bank) : (s.modBank b f).nextOp = s.nextOp := rfl
@[simp] theorem State.modBank_pumps (s : State) (b : Nat) (f : Bank → Bank) : (s.modBank b f).pumps = s.pumps := rfl
@[simp] theorem State.modBank_bells (s : State) (b : Nat) (f : Bank → Bank) : (s.modBank b f).bells = s.bells := rfl
@[simp] theorem State.modBank_tables (s : State) (b : Nat) (f : Bank → Bank) : (s.modBank b f).tables = s.tables := rfl
@[simp] theorem State.modBank_cist (s : State) (b : Nat) (f : Bank → Bank) : (s.modBank b f).cist = s.cist := rfl
@[simp] theorem State.modBank_cistUe (s : State) (b : Nat) (f : Bank → Bank) : (s.modBank b f).cistUe = s.cistUe := rfl
@[simp] theorem State.modBank_cistCe (s : State) (b : Nat) (f : Bank → Bank) : (s.modBank b f).cistCe = s.cistCe := rfl
@[simp] theorem State.modBank_banks (s : State) (b : Nat) (f : Bank → Bank) : (s.modBank b f).banks = modAt s.banks b f := rfl
@[simp] theorem State.modBank_storeBanks (s : State) (b : Nat) (f : Bank → Bank) : (s.modBank b f).storeBanks = s.storeBanks := rfl
@[simp] theorem State.modBank_journal (s : State) (b : Nat) (f : Bank → Bank) : (s.modBank b f).journal = s.journal := rfl
@[simp] theorem State.modBank_faults (s : State) (b : Nat) (f : Bank → Bank) : (s.modBank b f).faults = s.faults := rfl
@[simp] theorem State.modBank_ctl (s : State) (b : Nat) (f : Bank → Bank) : (s.modBank b f).ctl = s.ctl := rfl
@[simp] theorem State.modBank_sup (s : State) (b : Nat) (f : Bank → Bank) : (s.modBank b f).sup = s.sup := rfl
@[simp] theorem State.modBank_clo (s : State) (b : Nat) (f : Bank → Bank) : (s.modBank b f).clo = s.clo := rfl
@[simp] theorem State.modBank_ports (s : State) (b : Nat) (f : Bank → Bank) : (s.modBank b f).ports = s.ports := rfl
@[simp] theorem State.modBank_power (s : State) (b : Nat) (f : Bank → Bank) : (s.modBank b f).power = s.power := rfl
@[simp] theorem State.modBank_tbase (s : State) (b : Nat) (f : Bank → Bank) : (s.modBank b f).tbase = s.tbase := rfl
@[simp] theorem State.modBank_sec (s : State) (b : Nat) (f : Bank → Bank) : (s.modBank b f).sec = s.sec := rfl
@[simp] theorem State.modBank_tap (s : State) (b : Nat) (f : Bank → Bank) : (s.modBank b f).tap = s.tap := rfl
@[simp] theorem State.modBank_tb (s : State) (b : Nat) (f : Bank → Bank) : (s.modBank b f).tb = s.tb := rfl
@[simp] theorem State.modBank_free (s : State) (b : Nat) (f : Bank → Bank) : (s.modBank b f).free = s.free := rfl
@[simp] theorem State.modBank_pending (s : State) (b : Nat) (f : Bank → Bank) : (s.modBank b f).pending = s.pending := rfl

/-! ### `State.modBell` -/

@[simp] theorem State.modBell_part (s : State) (b : Nat) (f : Bell → Bell) : (s.modBell b f).part = s.part := rfl
@[simp] theorem State.modBell_straps (s : State) (b : Nat) (f : Bell → Bell) : (s.modBell b f).straps = s.straps := rfl
@[simp] theorem State.modBell_regs (s : State) (b : Nat) (f : Bell → Bell) : (s.modBell b f).regs = s.regs := rfl
@[simp] theorem State.modBell_now (s : State) (b : Nat) (f : Bell → Bell) : (s.modBell b f).now = s.now := rfl
@[simp] theorem State.modBell_tick (s : State) (b : Nat) (f : Bell → Bell) : (s.modBell b f).tick = s.tick := rfl
@[simp] theorem State.modBell_pace (s : State) (b : Nat) (f : Bell → Bell) : (s.modBell b f).pace = s.pace := rfl
@[simp] theorem State.modBell_chans (s : State) (b : Nat) (f : Bell → Bell) : (s.modBell b f).chans = s.chans := rfl
@[simp] theorem State.modBell_wells (s : State) (b : Nat) (f : Bell → Bell) : (s.modBell b f).wells = s.wells := rfl
@[simp] theorem State.modBell_engs (s : State) (b : Nat) (f : Bell → Bell) : (s.modBell b f).engs = s.engs := rfl
@[simp] theorem State.modBell_ops (s : State) (b : Nat) (f : Bell → Bell) : (s.modBell b f).ops = s.ops := rfl
@[simp] theorem State.modBell_nextOp (s : State) (b : Nat) (f : Bell → Bell) : (s.modBell b f).nextOp = s.nextOp := rfl
@[simp] theorem State.modBell_pumps (s : State) (b : Nat) (f : Bell → Bell) : (s.modBell b f).pumps = s.pumps := rfl
@[simp] theorem State.modBell_bells (s : State) (b : Nat) (f : Bell → Bell) : (s.modBell b f).bells = modAt s.bells b f := rfl
@[simp] theorem State.modBell_tables (s : State) (b : Nat) (f : Bell → Bell) : (s.modBell b f).tables = s.tables := rfl
@[simp] theorem State.modBell_cist (s : State) (b : Nat) (f : Bell → Bell) : (s.modBell b f).cist = s.cist := rfl
@[simp] theorem State.modBell_cistUe (s : State) (b : Nat) (f : Bell → Bell) : (s.modBell b f).cistUe = s.cistUe := rfl
@[simp] theorem State.modBell_cistCe (s : State) (b : Nat) (f : Bell → Bell) : (s.modBell b f).cistCe = s.cistCe := rfl
@[simp] theorem State.modBell_banks (s : State) (b : Nat) (f : Bell → Bell) : (s.modBell b f).banks = s.banks := rfl
@[simp] theorem State.modBell_storeBanks (s : State) (b : Nat) (f : Bell → Bell) : (s.modBell b f).storeBanks = s.storeBanks := rfl
@[simp] theorem State.modBell_journal (s : State) (b : Nat) (f : Bell → Bell) : (s.modBell b f).journal = s.journal := rfl
@[simp] theorem State.modBell_faults (s : State) (b : Nat) (f : Bell → Bell) : (s.modBell b f).faults = s.faults := rfl
@[simp] theorem State.modBell_ctl (s : State) (b : Nat) (f : Bell → Bell) : (s.modBell b f).ctl = s.ctl := rfl
@[simp] theorem State.modBell_sup (s : State) (b : Nat) (f : Bell → Bell) : (s.modBell b f).sup = s.sup := rfl
@[simp] theorem State.modBell_clo (s : State) (b : Nat) (f : Bell → Bell) : (s.modBell b f).clo = s.clo := rfl
@[simp] theorem State.modBell_ports (s : State) (b : Nat) (f : Bell → Bell) : (s.modBell b f).ports = s.ports := rfl
@[simp] theorem State.modBell_power (s : State) (b : Nat) (f : Bell → Bell) : (s.modBell b f).power = s.power := rfl
@[simp] theorem State.modBell_tbase (s : State) (b : Nat) (f : Bell → Bell) : (s.modBell b f).tbase = s.tbase := rfl
@[simp] theorem State.modBell_sec (s : State) (b : Nat) (f : Bell → Bell) : (s.modBell b f).sec = s.sec := rfl
@[simp] theorem State.modBell_tap (s : State) (b : Nat) (f : Bell → Bell) : (s.modBell b f).tap = s.tap := rfl
@[simp] theorem State.modBell_tb (s : State) (b : Nat) (f : Bell → Bell) : (s.modBell b f).tb = s.tb := rfl
@[simp] theorem State.modBell_free (s : State) (b : Nat) (f : Bell → Bell) : (s.modBell b f).free = s.free := rfl
@[simp] theorem State.modBell_pending (s : State) (b : Nat) (f : Bell → Bell) : (s.modBell b f).pending = s.pending := rfl

/-! ### `State.modOp` -/

@[simp] theorem State.modOp_part (s : State) (i : Nat) (f : PumpOp → PumpOp) : (s.modOp i f).part = s.part := rfl
@[simp] theorem State.modOp_straps (s : State) (i : Nat) (f : PumpOp → PumpOp) : (s.modOp i f).straps = s.straps := rfl
@[simp] theorem State.modOp_regs (s : State) (i : Nat) (f : PumpOp → PumpOp) : (s.modOp i f).regs = s.regs := rfl
@[simp] theorem State.modOp_now (s : State) (i : Nat) (f : PumpOp → PumpOp) : (s.modOp i f).now = s.now := rfl
@[simp] theorem State.modOp_tick (s : State) (i : Nat) (f : PumpOp → PumpOp) : (s.modOp i f).tick = s.tick := rfl
@[simp] theorem State.modOp_pace (s : State) (i : Nat) (f : PumpOp → PumpOp) : (s.modOp i f).pace = s.pace := rfl
@[simp] theorem State.modOp_chans (s : State) (i : Nat) (f : PumpOp → PumpOp) : (s.modOp i f).chans = s.chans := rfl
@[simp] theorem State.modOp_wells (s : State) (i : Nat) (f : PumpOp → PumpOp) : (s.modOp i f).wells = s.wells := rfl
@[simp] theorem State.modOp_engs (s : State) (i : Nat) (f : PumpOp → PumpOp) : (s.modOp i f).engs = s.engs := rfl
@[simp] theorem State.modOp_ops (s : State) (i : Nat) (f : PumpOp → PumpOp) : (s.modOp i f).ops = s.ops.map (fun o => if o.id == i then f o else o) := rfl
@[simp] theorem State.modOp_nextOp (s : State) (i : Nat) (f : PumpOp → PumpOp) : (s.modOp i f).nextOp = s.nextOp := rfl
@[simp] theorem State.modOp_pumps (s : State) (i : Nat) (f : PumpOp → PumpOp) : (s.modOp i f).pumps = s.pumps := rfl
@[simp] theorem State.modOp_bells (s : State) (i : Nat) (f : PumpOp → PumpOp) : (s.modOp i f).bells = s.bells := rfl
@[simp] theorem State.modOp_tables (s : State) (i : Nat) (f : PumpOp → PumpOp) : (s.modOp i f).tables = s.tables := rfl
@[simp] theorem State.modOp_cist (s : State) (i : Nat) (f : PumpOp → PumpOp) : (s.modOp i f).cist = s.cist := rfl
@[simp] theorem State.modOp_cistUe (s : State) (i : Nat) (f : PumpOp → PumpOp) : (s.modOp i f).cistUe = s.cistUe := rfl
@[simp] theorem State.modOp_cistCe (s : State) (i : Nat) (f : PumpOp → PumpOp) : (s.modOp i f).cistCe = s.cistCe := rfl
@[simp] theorem State.modOp_banks (s : State) (i : Nat) (f : PumpOp → PumpOp) : (s.modOp i f).banks = s.banks := rfl
@[simp] theorem State.modOp_storeBanks (s : State) (i : Nat) (f : PumpOp → PumpOp) : (s.modOp i f).storeBanks = s.storeBanks := rfl
@[simp] theorem State.modOp_journal (s : State) (i : Nat) (f : PumpOp → PumpOp) : (s.modOp i f).journal = s.journal := rfl
@[simp] theorem State.modOp_faults (s : State) (i : Nat) (f : PumpOp → PumpOp) : (s.modOp i f).faults = s.faults := rfl
@[simp] theorem State.modOp_ctl (s : State) (i : Nat) (f : PumpOp → PumpOp) : (s.modOp i f).ctl = s.ctl := rfl
@[simp] theorem State.modOp_sup (s : State) (i : Nat) (f : PumpOp → PumpOp) : (s.modOp i f).sup = s.sup := rfl
@[simp] theorem State.modOp_clo (s : State) (i : Nat) (f : PumpOp → PumpOp) : (s.modOp i f).clo = s.clo := rfl
@[simp] theorem State.modOp_ports (s : State) (i : Nat) (f : PumpOp → PumpOp) : (s.modOp i f).ports = s.ports := rfl
@[simp] theorem State.modOp_power (s : State) (i : Nat) (f : PumpOp → PumpOp) : (s.modOp i f).power = s.power := rfl
@[simp] theorem State.modOp_tbase (s : State) (i : Nat) (f : PumpOp → PumpOp) : (s.modOp i f).tbase = s.tbase := rfl
@[simp] theorem State.modOp_sec (s : State) (i : Nat) (f : PumpOp → PumpOp) : (s.modOp i f).sec = s.sec := rfl
@[simp] theorem State.modOp_tap (s : State) (i : Nat) (f : PumpOp → PumpOp) : (s.modOp i f).tap = s.tap := rfl
@[simp] theorem State.modOp_tb (s : State) (i : Nat) (f : PumpOp → PumpOp) : (s.modOp i f).tb = s.tb := rfl
@[simp] theorem State.modOp_free (s : State) (i : Nat) (f : PumpOp → PumpOp) : (s.modOp i f).free = s.free := rfl
@[simp] theorem State.modOp_pending (s : State) (i : Nat) (f : PumpOp → PumpOp) : (s.modOp i f).pending = s.pending := rfl

/-! ### `State.modSup` -/

@[simp] theorem State.modSup_part (s : State) (f : Sup → Sup) : (s.modSup f).part = s.part := rfl
@[simp] theorem State.modSup_straps (s : State) (f : Sup → Sup) : (s.modSup f).straps = s.straps := rfl
@[simp] theorem State.modSup_regs (s : State) (f : Sup → Sup) : (s.modSup f).regs = s.regs := rfl
@[simp] theorem State.modSup_now (s : State) (f : Sup → Sup) : (s.modSup f).now = s.now := rfl
@[simp] theorem State.modSup_tick (s : State) (f : Sup → Sup) : (s.modSup f).tick = s.tick := rfl
@[simp] theorem State.modSup_pace (s : State) (f : Sup → Sup) : (s.modSup f).pace = s.pace := rfl
@[simp] theorem State.modSup_chans (s : State) (f : Sup → Sup) : (s.modSup f).chans = s.chans := rfl
@[simp] theorem State.modSup_wells (s : State) (f : Sup → Sup) : (s.modSup f).wells = s.wells := rfl
@[simp] theorem State.modSup_engs (s : State) (f : Sup → Sup) : (s.modSup f).engs = s.engs := rfl
@[simp] theorem State.modSup_ops (s : State) (f : Sup → Sup) : (s.modSup f).ops = s.ops := rfl
@[simp] theorem State.modSup_nextOp (s : State) (f : Sup → Sup) : (s.modSup f).nextOp = s.nextOp := rfl
@[simp] theorem State.modSup_pumps (s : State) (f : Sup → Sup) : (s.modSup f).pumps = s.pumps := rfl
@[simp] theorem State.modSup_bells (s : State) (f : Sup → Sup) : (s.modSup f).bells = s.bells := rfl
@[simp] theorem State.modSup_tables (s : State) (f : Sup → Sup) : (s.modSup f).tables = s.tables := rfl
@[simp] theorem State.modSup_cist (s : State) (f : Sup → Sup) : (s.modSup f).cist = s.cist := rfl
@[simp] theorem State.modSup_cistUe (s : State) (f : Sup → Sup) : (s.modSup f).cistUe = s.cistUe := rfl
@[simp] theorem State.modSup_cistCe (s : State) (f : Sup → Sup) : (s.modSup f).cistCe = s.cistCe := rfl
@[simp] theorem State.modSup_banks (s : State) (f : Sup → Sup) : (s.modSup f).banks = s.banks := rfl
@[simp] theorem State.modSup_storeBanks (s : State) (f : Sup → Sup) : (s.modSup f).storeBanks = s.storeBanks := rfl
@[simp] theorem State.modSup_journal (s : State) (f : Sup → Sup) : (s.modSup f).journal = s.journal := rfl
@[simp] theorem State.modSup_faults (s : State) (f : Sup → Sup) : (s.modSup f).faults = s.faults := rfl
@[simp] theorem State.modSup_ctl (s : State) (f : Sup → Sup) : (s.modSup f).ctl = s.ctl := rfl
@[simp] theorem State.modSup_sup (s : State) (f : Sup → Sup) : (s.modSup f).sup = f s.sup := rfl
@[simp] theorem State.modSup_clo (s : State) (f : Sup → Sup) : (s.modSup f).clo = s.clo := rfl
@[simp] theorem State.modSup_ports (s : State) (f : Sup → Sup) : (s.modSup f).ports = s.ports := rfl
@[simp] theorem State.modSup_power (s : State) (f : Sup → Sup) : (s.modSup f).power = s.power := rfl
@[simp] theorem State.modSup_tbase (s : State) (f : Sup → Sup) : (s.modSup f).tbase = s.tbase := rfl
@[simp] theorem State.modSup_sec (s : State) (f : Sup → Sup) : (s.modSup f).sec = s.sec := rfl
@[simp] theorem State.modSup_tap (s : State) (f : Sup → Sup) : (s.modSup f).tap = s.tap := rfl
@[simp] theorem State.modSup_tb (s : State) (f : Sup → Sup) : (s.modSup f).tb = s.tb := rfl
@[simp] theorem State.modSup_free (s : State) (f : Sup → Sup) : (s.modSup f).free = s.free := rfl
@[simp] theorem State.modSup_pending (s : State) (f : Sup → Sup) : (s.modSup f).pending = s.pending := rfl

/-! ### `State.setTries` -/

@[simp] theorem State.setTries_part (s : State) (n : Nat) : (s.setTries n).part = s.part := rfl
@[simp] theorem State.setTries_straps (s : State) (n : Nat) : (s.setTries n).straps = s.straps := rfl
@[simp] theorem State.setTries_regs (s : State) (n : Nat) : (s.setTries n).regs = s.regs := rfl
@[simp] theorem State.setTries_now (s : State) (n : Nat) : (s.setTries n).now = s.now := rfl
@[simp] theorem State.setTries_tick (s : State) (n : Nat) : (s.setTries n).tick = s.tick := rfl
@[simp] theorem State.setTries_pace (s : State) (n : Nat) : (s.setTries n).pace = s.pace := rfl
@[simp] theorem State.setTries_chans (s : State) (n : Nat) : (s.setTries n).chans = s.chans := rfl
@[simp] theorem State.setTries_wells (s : State) (n : Nat) : (s.setTries n).wells = s.wells := rfl
@[simp] theorem State.setTries_engs (s : State) (n : Nat) : (s.setTries n).engs = s.engs := rfl
@[simp] theorem State.setTries_ops (s : State) (n : Nat) : (s.setTries n).ops = s.ops := rfl
@[simp] theorem State.setTries_nextOp (s : State) (n : Nat) : (s.setTries n).nextOp = s.nextOp := rfl
@[simp] theorem State.setTries_pumps (s : State) (n : Nat) : (s.setTries n).pumps = s.pumps := rfl
@[simp] theorem State.setTries_bells (s : State) (n : Nat) : (s.setTries n).bells = s.bells := rfl
@[simp] theorem State.setTries_tables (s : State) (n : Nat) : (s.setTries n).tables = s.tables := rfl
@[simp] theorem State.setTries_cist (s : State) (n : Nat) : (s.setTries n).cist = s.cist := rfl
@[simp] theorem State.setTries_cistUe (s : State) (n : Nat) : (s.setTries n).cistUe = s.cistUe := rfl
@[simp] theorem State.setTries_cistCe (s : State) (n : Nat) : (s.setTries n).cistCe = s.cistCe := rfl
@[simp] theorem State.setTries_banks (s : State) (n : Nat) : (s.setTries n).banks = s.banks := rfl
@[simp] theorem State.setTries_storeBanks (s : State) (n : Nat) : (s.setTries n).storeBanks = s.storeBanks := rfl
@[simp] theorem State.setTries_journal (s : State) (n : Nat) : (s.setTries n).journal = s.journal := rfl
@[simp] theorem State.setTries_faults (s : State) (n : Nat) : (s.setTries n).faults = s.faults := rfl
@[simp] theorem State.setTries_ctl (s : State) (n : Nat) : (s.setTries n).ctl = s.ctl := rfl
@[simp] theorem State.setTries_sup (s : State) (n : Nat) : (s.setTries n).sup = { s.sup with policy := { s.sup.policy with tries := n } } := rfl
@[simp] theorem State.setTries_clo (s : State) (n : Nat) : (s.setTries n).clo = s.clo := rfl
@[simp] theorem State.setTries_ports (s : State) (n : Nat) : (s.setTries n).ports = s.ports := rfl
@[simp] theorem State.setTries_power (s : State) (n : Nat) : (s.setTries n).power = s.power := rfl
@[simp] theorem State.setTries_tbase (s : State) (n : Nat) : (s.setTries n).tbase = s.tbase := rfl
@[simp] theorem State.setTries_sec (s : State) (n : Nat) : (s.setTries n).sec = s.sec := rfl
@[simp] theorem State.setTries_tap (s : State) (n : Nat) : (s.setTries n).tap = s.tap := rfl
@[simp] theorem State.setTries_tb (s : State) (n : Nat) : (s.setTries n).tb = s.tb := rfl
@[simp] theorem State.setTries_free (s : State) (n : Nat) : (s.setTries n).free = s.free := rfl
@[simp] theorem State.setTries_pending (s : State) (n : Nat) : (s.setTries n).pending = s.pending := rfl

/-! ### `State.modPolicy` -/

@[simp] theorem State.modPolicy_part (s : State) (f : Policy → Policy) : (s.modPolicy f).part = s.part := rfl
@[simp] theorem State.modPolicy_straps (s : State) (f : Policy → Policy) : (s.modPolicy f).straps = s.straps := rfl
@[simp] theorem State.modPolicy_regs (s : State) (f : Policy → Policy) : (s.modPolicy f).regs = s.regs := rfl
@[simp] theorem State.modPolicy_now (s : State) (f : Policy → Policy) : (s.modPolicy f).now = s.now := rfl
@[simp] theorem State.modPolicy_tick (s : State) (f : Policy → Policy) : (s.modPolicy f).tick = s.tick := rfl
@[simp] theorem State.modPolicy_pace (s : State) (f : Policy → Policy) : (s.modPolicy f).pace = s.pace := rfl
@[simp] theorem State.modPolicy_chans (s : State) (f : Policy → Policy) : (s.modPolicy f).chans = s.chans := rfl
@[simp] theorem State.modPolicy_wells (s : State) (f : Policy → Policy) : (s.modPolicy f).wells = s.wells := rfl
@[simp] theorem State.modPolicy_engs (s : State) (f : Policy → Policy) : (s.modPolicy f).engs = s.engs := rfl
@[simp] theorem State.modPolicy_ops (s : State) (f : Policy → Policy) : (s.modPolicy f).ops = s.ops := rfl
@[simp] theorem State.modPolicy_nextOp (s : State) (f : Policy → Policy) : (s.modPolicy f).nextOp = s.nextOp := rfl
@[simp] theorem State.modPolicy_pumps (s : State) (f : Policy → Policy) : (s.modPolicy f).pumps = s.pumps := rfl
@[simp] theorem State.modPolicy_bells (s : State) (f : Policy → Policy) : (s.modPolicy f).bells = s.bells := rfl
@[simp] theorem State.modPolicy_tables (s : State) (f : Policy → Policy) : (s.modPolicy f).tables = s.tables := rfl
@[simp] theorem State.modPolicy_cist (s : State) (f : Policy → Policy) : (s.modPolicy f).cist = s.cist := rfl
@[simp] theorem State.modPolicy_cistUe (s : State) (f : Policy → Policy) : (s.modPolicy f).cistUe = s.cistUe := rfl
@[simp] theorem State.modPolicy_cistCe (s : State) (f : Policy → Policy) : (s.modPolicy f).cistCe = s.cistCe := rfl
@[simp] theorem State.modPolicy_banks (s : State) (f : Policy → Policy) : (s.modPolicy f).banks = s.banks := rfl
@[simp] theorem State.modPolicy_storeBanks (s : State) (f : Policy → Policy) : (s.modPolicy f).storeBanks = s.storeBanks := rfl
@[simp] theorem State.modPolicy_journal (s : State) (f : Policy → Policy) : (s.modPolicy f).journal = s.journal := rfl
@[simp] theorem State.modPolicy_faults (s : State) (f : Policy → Policy) : (s.modPolicy f).faults = s.faults := rfl
@[simp] theorem State.modPolicy_ctl (s : State) (f : Policy → Policy) : (s.modPolicy f).ctl = s.ctl := rfl
@[simp] theorem State.modPolicy_sup (s : State) (f : Policy → Policy) : (s.modPolicy f).sup = { s.sup with policy := f s.sup.policy } := rfl
@[simp] theorem State.modPolicy_clo (s : State) (f : Policy → Policy) : (s.modPolicy f).clo = s.clo := rfl
@[simp] theorem State.modPolicy_ports (s : State) (f : Policy → Policy) : (s.modPolicy f).ports = s.ports := rfl
@[simp] theorem State.modPolicy_power (s : State) (f : Policy → Policy) : (s.modPolicy f).power = s.power := rfl
@[simp] theorem State.modPolicy_tbase (s : State) (f : Policy → Policy) : (s.modPolicy f).tbase = s.tbase := rfl
@[simp] theorem State.modPolicy_sec (s : State) (f : Policy → Policy) : (s.modPolicy f).sec = s.sec := rfl
@[simp] theorem State.modPolicy_tap (s : State) (f : Policy → Policy) : (s.modPolicy f).tap = s.tap := rfl
@[simp] theorem State.modPolicy_tb (s : State) (f : Policy → Policy) : (s.modPolicy f).tb = s.tb := rfl
@[simp] theorem State.modPolicy_free (s : State) (f : Policy → Policy) : (s.modPolicy f).free = s.free := rfl
@[simp] theorem State.modPolicy_pending (s : State) (f : Policy → Policy) : (s.modPolicy f).pending = s.pending := rfl

/-! ### `State.modPort` -/

@[simp] theorem State.modPort_part (s : State) (p : Nat) (f : Port → Port) : (s.modPort p f).part = s.part := rfl
@[simp] theorem State.modPort_straps (s : State) (p : Nat) (f : Port → Port) : (s.modPort p f).straps = s.straps := rfl
@[simp] theorem State.modPort_regs (s : State) (p : Nat) (f : Port → Port) : (s.modPort p f).regs = s.regs := rfl
@[simp] theorem State.modPort_now (s : State) (p : Nat) (f : Port → Port) : (s.modPort p f).now = s.now := rfl
@[simp] theorem State.modPort_tick (s : State) (p : Nat) (f : Port → Port) : (s.modPort p f).tick = s.tick := rfl
@[simp] theorem State.modPort_pace (s : State) (p : Nat) (f : Port → Port) : (s.modPort p f).pace = s.pace := rfl
@[simp] theorem State.modPort_chans (s : State) (p : Nat) (f : Port → Port) : (s.modPort p f).chans = s.chans := rfl
@[simp] theorem State.modPort_wells (s : State) (p : Nat) (f : Port → Port) : (s.modPort p f).wells = s.wells := rfl
@[simp] theorem State.modPort_engs (s : State) (p : Nat) (f : Port → Port) : (s.modPort p f).engs = s.engs := rfl
@[simp] theorem State.modPort_ops (s : State) (p : Nat) (f : Port → Port) : (s.modPort p f).ops = s.ops := rfl
@[simp] theorem State.modPort_nextOp (s : State) (p : Nat) (f : Port → Port) : (s.modPort p f).nextOp = s.nextOp := rfl
@[simp] theorem State.modPort_pumps (s : State) (p : Nat) (f : Port → Port) : (s.modPort p f).pumps = s.pumps := rfl
@[simp] theorem State.modPort_bells (s : State) (p : Nat) (f : Port → Port) : (s.modPort p f).bells = s.bells := rfl
@[simp] theorem State.modPort_tables (s : State) (p : Nat) (f : Port → Port) : (s.modPort p f).tables = s.tables := rfl
@[simp] theorem State.modPort_cist (s : State) (p : Nat) (f : Port → Port) : (s.modPort p f).cist = s.cist := rfl
@[simp] theorem State.modPort_cistUe (s : State) (p : Nat) (f : Port → Port) : (s.modPort p f).cistUe = s.cistUe := rfl
@[simp] theorem State.modPort_cistCe (s : State) (p : Nat) (f : Port → Port) : (s.modPort p f).cistCe = s.cistCe := rfl
@[simp] theorem State.modPort_banks (s : State) (p : Nat) (f : Port → Port) : (s.modPort p f).banks = s.banks := rfl
@[simp] theorem State.modPort_storeBanks (s : State) (p : Nat) (f : Port → Port) : (s.modPort p f).storeBanks = s.storeBanks := rfl
@[simp] theorem State.modPort_journal (s : State) (p : Nat) (f : Port → Port) : (s.modPort p f).journal = s.journal := rfl
@[simp] theorem State.modPort_faults (s : State) (p : Nat) (f : Port → Port) : (s.modPort p f).faults = s.faults := rfl
@[simp] theorem State.modPort_ctl (s : State) (p : Nat) (f : Port → Port) : (s.modPort p f).ctl = s.ctl := rfl
@[simp] theorem State.modPort_sup (s : State) (p : Nat) (f : Port → Port) : (s.modPort p f).sup = s.sup := rfl
@[simp] theorem State.modPort_clo (s : State) (p : Nat) (f : Port → Port) : (s.modPort p f).clo = s.clo := rfl
@[simp] theorem State.modPort_ports (s : State) (p : Nat) (f : Port → Port) : (s.modPort p f).ports = modAt s.ports p f := rfl
@[simp] theorem State.modPort_power (s : State) (p : Nat) (f : Port → Port) : (s.modPort p f).power = s.power := rfl
@[simp] theorem State.modPort_tbase (s : State) (p : Nat) (f : Port → Port) : (s.modPort p f).tbase = s.tbase := rfl
@[simp] theorem State.modPort_sec (s : State) (p : Nat) (f : Port → Port) : (s.modPort p f).sec = s.sec := rfl
@[simp] theorem State.modPort_tap (s : State) (p : Nat) (f : Port → Port) : (s.modPort p f).tap = s.tap := rfl
@[simp] theorem State.modPort_tb (s : State) (p : Nat) (f : Port → Port) : (s.modPort p f).tb = s.tb := rfl
@[simp] theorem State.modPort_free (s : State) (p : Nat) (f : Port → Port) : (s.modPort p f).free = s.free := rfl
@[simp] theorem State.modPort_pending (s : State) (p : Nat) (f : Port → Port) : (s.modPort p f).pending = s.pending := rfl

/-! ### `State.modClo` -/

@[simp] theorem State.modClo_part (s : State) (f : Cloister → Cloister) : (s.modClo f).part = s.part := rfl
@[simp] theorem State.modClo_straps (s : State) (f : Cloister → Cloister) : (s.modClo f).straps = s.straps := rfl
@[simp] theorem State.modClo_regs (s : State) (f : Cloister → Cloister) : (s.modClo f).regs = s.regs := rfl
@[simp] theorem State.modClo_now (s : State) (f : Cloister → Cloister) : (s.modClo f).now = s.now := rfl
@[simp] theorem State.modClo_tick (s : State) (f : Cloister → Cloister) : (s.modClo f).tick = s.tick := rfl
@[simp] theorem State.modClo_pace (s : State) (f : Cloister → Cloister) : (s.modClo f).pace = s.pace := rfl
@[simp] theorem State.modClo_chans (s : State) (f : Cloister → Cloister) : (s.modClo f).chans = s.chans := rfl
@[simp] theorem State.modClo_wells (s : State) (f : Cloister → Cloister) : (s.modClo f).wells = s.wells := rfl
@[simp] theorem State.modClo_engs (s : State) (f : Cloister → Cloister) : (s.modClo f).engs = s.engs := rfl
@[simp] theorem State.modClo_ops (s : State) (f : Cloister → Cloister) : (s.modClo f).ops = s.ops := rfl
@[simp] theorem State.modClo_nextOp (s : State) (f : Cloister → Cloister) : (s.modClo f).nextOp = s.nextOp := rfl
@[simp] theorem State.modClo_pumps (s : State) (f : Cloister → Cloister) : (s.modClo f).pumps = s.pumps := rfl
@[simp] theorem State.modClo_bells (s : State) (f : Cloister → Cloister) : (s.modClo f).bells = s.bells := rfl
@[simp] theorem State.modClo_tables (s : State) (f : Cloister → Cloister) : (s.modClo f).tables = s.tables := rfl
@[simp] theorem State.modClo_cist (s : State) (f : Cloister → Cloister) : (s.modClo f).cist = s.cist := rfl
@[simp] theorem State.modClo_cistUe (s : State) (f : Cloister → Cloister) : (s.modClo f).cistUe = s.cistUe := rfl
@[simp] theorem State.modClo_cistCe (s : State) (f : Cloister → Cloister) : (s.modClo f).cistCe = s.cistCe := rfl
@[simp] theorem State.modClo_banks (s : State) (f : Cloister → Cloister) : (s.modClo f).banks = s.banks := rfl
@[simp] theorem State.modClo_storeBanks (s : State) (f : Cloister → Cloister) : (s.modClo f).storeBanks = s.storeBanks := rfl
@[simp] theorem State.modClo_journal (s : State) (f : Cloister → Cloister) : (s.modClo f).journal = s.journal := rfl
@[simp] theorem State.modClo_faults (s : State) (f : Cloister → Cloister) : (s.modClo f).faults = s.faults := rfl
@[simp] theorem State.modClo_ctl (s : State) (f : Cloister → Cloister) : (s.modClo f).ctl = s.ctl := rfl
@[simp] theorem State.modClo_sup (s : State) (f : Cloister → Cloister) : (s.modClo f).sup = s.sup := rfl
@[simp] theorem State.modClo_clo (s : State) (f : Cloister → Cloister) : (s.modClo f).clo = f s.clo := rfl
@[simp] theorem State.modClo_ports (s : State) (f : Cloister → Cloister) : (s.modClo f).ports = s.ports := rfl
@[simp] theorem State.modClo_power (s : State) (f : Cloister → Cloister) : (s.modClo f).power = s.power := rfl
@[simp] theorem State.modClo_tbase (s : State) (f : Cloister → Cloister) : (s.modClo f).tbase = s.tbase := rfl
@[simp] theorem State.modClo_sec (s : State) (f : Cloister → Cloister) : (s.modClo f).sec = s.sec := rfl
@[simp] theorem State.modClo_tap (s : State) (f : Cloister → Cloister) : (s.modClo f).tap = s.tap := rfl
@[simp] theorem State.modClo_tb (s : State) (f : Cloister → Cloister) : (s.modClo f).tb = s.tb := rfl
@[simp] theorem State.modClo_free (s : State) (f : Cloister → Cloister) : (s.modClo f).free = s.free := rfl
@[simp] theorem State.modClo_pending (s : State) (f : Cloister → Cloister) : (s.modClo f).pending = s.pending := rfl

/-! ### `State.pass` -/

@[simp] theorem State.pass_part (s : State) (d : Nat) : (s.pass d).part = s.part := rfl
@[simp] theorem State.pass_straps (s : State) (d : Nat) : (s.pass d).straps = s.straps := rfl
@[simp] theorem State.pass_regs (s : State) (d : Nat) : (s.pass d).regs = s.regs := rfl
@[simp] theorem State.pass_now (s : State) (d : Nat) : (s.pass d).now = s.now + d := rfl
@[simp] theorem State.pass_tick (s : State) (d : Nat) : (s.pass d).tick = s.tick := rfl
@[simp] theorem State.pass_pace (s : State) (d : Nat) : (s.pass d).pace = s.pace := rfl
@[simp] theorem State.pass_chans (s : State) (d : Nat) : (s.pass d).chans = s.chans := rfl
@[simp] theorem State.pass_wells (s : State) (d : Nat) : (s.pass d).wells = s.wells := rfl
@[simp] theorem State.pass_engs (s : State) (d : Nat) : (s.pass d).engs = s.engs := rfl
@[simp] theorem State.pass_ops (s : State) (d : Nat) : (s.pass d).ops = s.ops := rfl
@[simp] theorem State.pass_nextOp (s : State) (d : Nat) : (s.pass d).nextOp = s.nextOp := rfl
@[simp] theorem State.pass_pumps (s : State) (d : Nat) : (s.pass d).pumps = s.pumps := rfl
@[simp] theorem State.pass_bells (s : State) (d : Nat) : (s.pass d).bells = s.bells := rfl
@[simp] theorem State.pass_tables (s : State) (d : Nat) : (s.pass d).tables = s.tables := rfl
@[simp] theorem State.pass_cist (s : State) (d : Nat) : (s.pass d).cist = s.cist := rfl
@[simp] theorem State.pass_cistUe (s : State) (d : Nat) : (s.pass d).cistUe = s.cistUe := rfl
@[simp] theorem State.pass_cistCe (s : State) (d : Nat) : (s.pass d).cistCe = s.cistCe := rfl
@[simp] theorem State.pass_banks (s : State) (d : Nat) : (s.pass d).banks = s.banks := rfl
@[simp] theorem State.pass_storeBanks (s : State) (d : Nat) : (s.pass d).storeBanks = s.storeBanks := rfl
@[simp] theorem State.pass_journal (s : State) (d : Nat) : (s.pass d).journal = s.journal := rfl
@[simp] theorem State.pass_faults (s : State) (d : Nat) : (s.pass d).faults = s.faults := rfl
@[simp] theorem State.pass_ctl (s : State) (d : Nat) : (s.pass d).ctl = s.ctl := rfl
@[simp] theorem State.pass_sup (s : State) (d : Nat) : (s.pass d).sup = s.sup := rfl
@[simp] theorem State.pass_clo (s : State) (d : Nat) : (s.pass d).clo = s.clo := rfl
@[simp] theorem State.pass_ports (s : State) (d : Nat) : (s.pass d).ports = s.ports := rfl
@[simp] theorem State.pass_power (s : State) (d : Nat) : (s.pass d).power = s.power := rfl
@[simp] theorem State.pass_tbase (s : State) (d : Nat) : (s.pass d).tbase = s.tbase := rfl
@[simp] theorem State.pass_sec (s : State) (d : Nat) : (s.pass d).sec = s.sec := rfl
@[simp] theorem State.pass_tap (s : State) (d : Nat) : (s.pass d).tap = s.tap := rfl
@[simp] theorem State.pass_tb (s : State) (d : Nat) : (s.pass d).tb = s.tb := rfl
@[simp] theorem State.pass_free (s : State) (d : Nat) : (s.pass d).free = s.free := rfl
@[simp] theorem State.pass_pending (s : State) (d : Nat) : (s.pass d).pending = s.pending := rfl

/-! ### `State.reach` -/

@[simp] theorem State.reach_part (s : State) (t : Nat) : (s.reach t).part = s.part := rfl
@[simp] theorem State.reach_straps (s : State) (t : Nat) : (s.reach t).straps = s.straps := rfl
@[simp] theorem State.reach_regs (s : State) (t : Nat) : (s.reach t).regs = s.regs := rfl
@[simp] theorem State.reach_now (s : State) (t : Nat) : (s.reach t).now = max s.now t := rfl
@[simp] theorem State.reach_tick (s : State) (t : Nat) : (s.reach t).tick = s.tick := rfl
@[simp] theorem State.reach_pace (s : State) (t : Nat) : (s.reach t).pace = s.pace := rfl
@[simp] theorem State.reach_chans (s : State) (t : Nat) : (s.reach t).chans = s.chans := rfl
@[simp] theorem State.reach_wells (s : State) (t : Nat) : (s.reach t).wells = s.wells := rfl
@[simp] theorem State.reach_engs (s : State) (t : Nat) : (s.reach t).engs = s.engs := rfl
@[simp] theorem State.reach_ops (s : State) (t : Nat) : (s.reach t).ops = s.ops := rfl
@[simp] theorem State.reach_nextOp (s : State) (t : Nat) : (s.reach t).nextOp = s.nextOp := rfl
@[simp] theorem State.reach_pumps (s : State) (t : Nat) : (s.reach t).pumps = s.pumps := rfl
@[simp] theorem State.reach_bells (s : State) (t : Nat) : (s.reach t).bells = s.bells := rfl
@[simp] theorem State.reach_tables (s : State) (t : Nat) : (s.reach t).tables = s.tables := rfl
@[simp] theorem State.reach_cist (s : State) (t : Nat) : (s.reach t).cist = s.cist := rfl
@[simp] theorem State.reach_cistUe (s : State) (t : Nat) : (s.reach t).cistUe = s.cistUe := rfl
@[simp] theorem State.reach_cistCe (s : State) (t : Nat) : (s.reach t).cistCe = s.cistCe := rfl
@[simp] theorem State.reach_banks (s : State) (t : Nat) : (s.reach t).banks = s.banks := rfl
@[simp] theorem State.reach_storeBanks (s : State) (t : Nat) : (s.reach t).storeBanks = s.storeBanks := rfl
@[simp] theorem State.reach_journal (s : State) (t : Nat) : (s.reach t).journal = s.journal := rfl
@[simp] theorem State.reach_faults (s : State) (t : Nat) : (s.reach t).faults = s.faults := rfl
@[simp] theorem State.reach_ctl (s : State) (t : Nat) : (s.reach t).ctl = s.ctl := rfl
@[simp] theorem State.reach_sup (s : State) (t : Nat) : (s.reach t).sup = s.sup := rfl
@[simp] theorem State.reach_clo (s : State) (t : Nat) : (s.reach t).clo = s.clo := rfl
@[simp] theorem State.reach_ports (s : State) (t : Nat) : (s.reach t).ports = s.ports := rfl
@[simp] theorem State.reach_power (s : State) (t : Nat) : (s.reach t).power = s.power := rfl
@[simp] theorem State.reach_tbase (s : State) (t : Nat) : (s.reach t).tbase = s.tbase := rfl
@[simp] theorem State.reach_sec (s : State) (t : Nat) : (s.reach t).sec = s.sec := rfl
@[simp] theorem State.reach_tap (s : State) (t : Nat) : (s.reach t).tap = s.tap := rfl
@[simp] theorem State.reach_tb (s : State) (t : Nat) : (s.reach t).tb = s.tb := rfl
@[simp] theorem State.reach_free (s : State) (t : Nat) : (s.reach t).free = s.free := rfl
@[simp] theorem State.reach_pending (s : State) (t : Nat) : (s.reach t).pending = s.pending := rfl

/-! ### `State.wr` -/

@[simp] theorem State.wr_part (s : State) (t r : Nat) (v : Word) : (s.wr t r v).part = s.part := rfl
@[simp] theorem State.wr_straps (s : State) (t r : Nat) (v : Word) : (s.wr t r v).straps = s.straps := rfl
@[simp] theorem State.wr_now (s : State) (t r : Nat) (v : Word) : (s.wr t r v).now = s.now := rfl
@[simp] theorem State.wr_tick (s : State) (t r : Nat) (v : Word) : (s.wr t r v).tick = s.tick := rfl
@[simp] theorem State.wr_pace (s : State) (t r : Nat) (v : Word) : (s.wr t r v).pace = s.pace := rfl
@[simp] theorem State.wr_chans (s : State) (t r : Nat) (v : Word) : (s.wr t r v).chans = s.chans := rfl
@[simp] theorem State.wr_wells (s : State) (t r : Nat) (v : Word) : (s.wr t r v).wells = s.wells := rfl
@[simp] theorem State.wr_engs (s : State) (t r : Nat) (v : Word) : (s.wr t r v).engs = s.engs := rfl
@[simp] theorem State.wr_ops (s : State) (t r : Nat) (v : Word) : (s.wr t r v).ops = s.ops := rfl
@[simp] theorem State.wr_nextOp (s : State) (t r : Nat) (v : Word) : (s.wr t r v).nextOp = s.nextOp := rfl
@[simp] theorem State.wr_pumps (s : State) (t r : Nat) (v : Word) : (s.wr t r v).pumps = s.pumps := rfl
@[simp] theorem State.wr_bells (s : State) (t r : Nat) (v : Word) : (s.wr t r v).bells = s.bells := rfl
@[simp] theorem State.wr_tables (s : State) (t r : Nat) (v : Word) : (s.wr t r v).tables = s.tables := rfl
@[simp] theorem State.wr_cist (s : State) (t r : Nat) (v : Word) : (s.wr t r v).cist = s.cist := rfl
@[simp] theorem State.wr_cistUe (s : State) (t r : Nat) (v : Word) : (s.wr t r v).cistUe = s.cistUe := rfl
@[simp] theorem State.wr_cistCe (s : State) (t r : Nat) (v : Word) : (s.wr t r v).cistCe = s.cistCe := rfl
@[simp] theorem State.wr_banks (s : State) (t r : Nat) (v : Word) : (s.wr t r v).banks = s.banks := rfl
@[simp] theorem State.wr_storeBanks (s : State) (t r : Nat) (v : Word) : (s.wr t r v).storeBanks = s.storeBanks := rfl
@[simp] theorem State.wr_journal (s : State) (t r : Nat) (v : Word) : (s.wr t r v).journal = s.journal := rfl
@[simp] theorem State.wr_faults (s : State) (t r : Nat) (v : Word) : (s.wr t r v).faults = s.faults := rfl
@[simp] theorem State.wr_ctl (s : State) (t r : Nat) (v : Word) : (s.wr t r v).ctl = s.ctl := rfl
@[simp] theorem State.wr_sup (s : State) (t r : Nat) (v : Word) : (s.wr t r v).sup = s.sup := rfl
@[simp] theorem State.wr_clo (s : State) (t r : Nat) (v : Word) : (s.wr t r v).clo = s.clo := rfl
@[simp] theorem State.wr_ports (s : State) (t r : Nat) (v : Word) : (s.wr t r v).ports = s.ports := rfl
@[simp] theorem State.wr_power (s : State) (t r : Nat) (v : Word) : (s.wr t r v).power = s.power := rfl
@[simp] theorem State.wr_tbase (s : State) (t r : Nat) (v : Word) : (s.wr t r v).tbase = s.tbase := rfl
@[simp] theorem State.wr_sec (s : State) (t r : Nat) (v : Word) : (s.wr t r v).sec = s.sec := rfl
@[simp] theorem State.wr_tap (s : State) (t r : Nat) (v : Word) : (s.wr t r v).tap = s.tap := rfl
@[simp] theorem State.wr_tb (s : State) (t r : Nat) (v : Word) : (s.wr t r v).tb = s.tb := rfl
@[simp] theorem State.wr_free (s : State) (t r : Nat) (v : Word) : (s.wr t r v).free = s.free := rfl
@[simp] theorem State.wr_pending (s : State) (t r : Nat) (v : Word) : (s.wr t r v).pending = s.pending := rfl

/-! ### `State.withPending` -/

@[simp] theorem State.withPending_part (s : State) (q : List Instr) : (s.withPending q).part = s.part := rfl
@[simp] theorem State.withPending_straps (s : State) (q : List Instr) : (s.withPending q).straps = s.straps := rfl
@[simp] theorem State.withPending_regs (s : State) (q : List Instr) : (s.withPending q).regs = s.regs := rfl
@[simp] theorem State.withPending_now (s : State) (q : List Instr) : (s.withPending q).now = s.now := rfl
@[simp] theorem State.withPending_tick (s : State) (q : List Instr) : (s.withPending q).tick = s.tick := rfl
@[simp] theorem State.withPending_pace (s : State) (q : List Instr) : (s.withPending q).pace = s.pace := rfl
@[simp] theorem State.withPending_chans (s : State) (q : List Instr) : (s.withPending q).chans = s.chans := rfl
@[simp] theorem State.withPending_wells (s : State) (q : List Instr) : (s.withPending q).wells = s.wells := rfl
@[simp] theorem State.withPending_engs (s : State) (q : List Instr) : (s.withPending q).engs = s.engs := rfl
@[simp] theorem State.withPending_ops (s : State) (q : List Instr) : (s.withPending q).ops = s.ops := rfl
@[simp] theorem State.withPending_nextOp (s : State) (q : List Instr) : (s.withPending q).nextOp = s.nextOp := rfl
@[simp] theorem State.withPending_pumps (s : State) (q : List Instr) : (s.withPending q).pumps = s.pumps := rfl
@[simp] theorem State.withPending_bells (s : State) (q : List Instr) : (s.withPending q).bells = s.bells := rfl
@[simp] theorem State.withPending_tables (s : State) (q : List Instr) : (s.withPending q).tables = s.tables := rfl
@[simp] theorem State.withPending_cist (s : State) (q : List Instr) : (s.withPending q).cist = s.cist := rfl
@[simp] theorem State.withPending_cistUe (s : State) (q : List Instr) : (s.withPending q).cistUe = s.cistUe := rfl
@[simp] theorem State.withPending_cistCe (s : State) (q : List Instr) : (s.withPending q).cistCe = s.cistCe := rfl
@[simp] theorem State.withPending_banks (s : State) (q : List Instr) : (s.withPending q).banks = s.banks := rfl
@[simp] theorem State.withPending_storeBanks (s : State) (q : List Instr) : (s.withPending q).storeBanks = s.storeBanks := rfl
@[simp] theorem State.withPending_journal (s : State) (q : List Instr) : (s.withPending q).journal = s.journal := rfl
@[simp] theorem State.withPending_faults (s : State) (q : List Instr) : (s.withPending q).faults = s.faults := rfl
@[simp] theorem State.withPending_ctl (s : State) (q : List Instr) : (s.withPending q).ctl = s.ctl := rfl
@[simp] theorem State.withPending_sup (s : State) (q : List Instr) : (s.withPending q).sup = s.sup := rfl
@[simp] theorem State.withPending_clo (s : State) (q : List Instr) : (s.withPending q).clo = s.clo := rfl
@[simp] theorem State.withPending_ports (s : State) (q : List Instr) : (s.withPending q).ports = s.ports := rfl
@[simp] theorem State.withPending_power (s : State) (q : List Instr) : (s.withPending q).power = s.power := rfl
@[simp] theorem State.withPending_tbase (s : State) (q : List Instr) : (s.withPending q).tbase = s.tbase := rfl
@[simp] theorem State.withPending_sec (s : State) (q : List Instr) : (s.withPending q).sec = s.sec := rfl
@[simp] theorem State.withPending_tap (s : State) (q : List Instr) : (s.withPending q).tap = s.tap := rfl
@[simp] theorem State.withPending_tb (s : State) (q : List Instr) : (s.withPending q).tb = s.tb := rfl
@[simp] theorem State.withPending_free (s : State) (q : List Instr) : (s.withPending q).free = s.free := rfl
@[simp] theorem State.withPending_pending (s : State) (q : List Instr) : (s.withPending q).pending = q := rfl

end Sys2Proof.Machine
end

