-- ==== Sys2Proof/Laws/Clock.lean ====
section
/-! SUPPORT. What runs on a snapshot edge leaves the clock of the tick unit alone. -/

namespace Sys2Proof.Machine
open Sys2Proof
set_option linter.all false

/-- The clock of the tick unit: the RIM count, and what of the tick unit is not a report or a flag. -/
def State.clock (s : State) : Nat × TickUnit :=
  (s.now, { s.tick with flagged := [], vdQueue := [], reported := false })

@[simp] theorem State.clock_mk (x : State) (part straps regs pace chans wells engs ops nextOp pumps bells tables cist cistUe
    cistCe banks storeBanks journal faults ctl sup clo ports power tbase sec tap tb free pending) :
    (State.mk part straps regs x.now x.tick pace chans wells engs ops nextOp pumps bells tables cist cistUe cistCe banks
      storeBanks journal faults ctl sup clo ports power tbase sec tap tb free pending).clock = x.clock := rfl
@[simp] theorem State.clock_flagged (x : State) (xs : List Nat) (part straps regs pace chans wells engs ops nextOp pumps bells tables cist cistUe
    cistCe banks storeBanks journal faults ctl sup clo ports power tbase sec tap tb free pending) :
    (State.mk part straps regs x.now { x.tick with flagged := xs } pace chans wells engs ops nextOp pumps bells tables cist cistUe cistCe banks
      storeBanks journal faults ctl sup clo ports power tbase sec tap tb free pending).clock = x.clock := rfl
@[simp] theorem State.clock_reported (x : State) (b : Bool) (xs : List (Nat × Nat)) (part straps regs pace chans wells engs ops nextOp pumps bells tables cist cistUe
    cistCe banks storeBanks journal faults ctl sup clo ports power tbase sec tap tb free pending) :
    (State.mk part straps regs x.now { x.tick with reported := b, vdQueue := xs } pace chans wells engs ops nextOp pumps bells tables cist cistUe cistCe banks
      storeBanks journal faults ctl sup clo ports power tbase sec tap tb free pending).clock = x.clock := rfl
@[simp] theorem clock_ite (c : Prop) [Decidable c] (a b : State) : (if c then a else b).clock = if c then a.clock else b.clock := by
  split <;> rfl
@[simp] theorem foldS_clock {α : Type} (f : α → State → State) (xs : List α) (s : State)
    (h : ∀ a s, (f a s).clock = s.clock) : (foldS f xs s).clock = s.clock := foldS_keeps State.clock f h xs s
theorem foldS_clock1 {α β : Type} (f : α → State × β → State × β) (xs : List α) (x : State × β)
    (h : ∀ a x, (f a x).1.clock = x.1.clock) : (foldS f xs x).1.clock = x.1.clock :=
  foldS_keeps (fun x : State × β => x.1.clock) f h xs x
theorem foldl_clockM {α : Type} (f : Moving → α → Moving) (xs : List α) (m : Moving)
    (h : ∀ m a, (f m a).s.clock = m.s.clock) : (xs.foldl f m).s.clock = m.s.clock := by
  induction xs generalizing m with
  | nil => rfl
  | cons x xs ih => rw [List.foldl_cons, ih, h]
theorem foldl_clockM1 {α β : Type} (f : Moving × β → α → Moving × β) (xs : List α) (m : Moving × β)
    (h : ∀ m a, (f m a).1.s.clock = m.1.s.clock) : (xs.foldl f m).1.s.clock = m.1.s.clock := by
  induction xs generalizing m with
  | nil => rfl
  | cons x xs ih => rw [List.foldl_cons, ih, h]
@[simp] theorem State_wr_clock (s : State) (t : ℕ) (r : ℕ) (v : Sys2Proof.Word) :
    ((State.wr s t r v)).clock = s.clock := by
  unfold State.wr
  (repeat' split) <;> simp_all

@[simp] theorem State_setB_clock (s : State) (t : ℕ) (r : ℕ) (i : ℕ) :
    ((State.setB s t r i)).clock = s.clock := by
  unfold State.setB
  (repeat' split) <;> simp_all

@[simp] theorem State_clrB_clock (s : State) (t : ℕ) (r : ℕ) (i : ℕ) :
    ((State.clrB s t r i)).clock = s.clock := by
  unfold State.clrB
  (repeat' split) <;> simp_all

@[simp] theorem State_putB_clock (s : State) (t : ℕ) (r : ℕ) (i : ℕ) (b : Bool) :
    ((State.putB s t r i b)).clock = s.clock := by
  unfold State.putB
  (repeat' split) <;> simp_all

@[simp] theorem State_modChan_clock (s : State) (c : ℕ) (f : Channel → Channel) :
    ((State.modChan s c f)).clock = s.clock := by
  unfold State.modChan
  (repeat' split) <;> simp_all

@[simp] theorem State_modWell_clock (s : State) (w : ℕ) (f : Well → Well) :
    ((State.modWell s w f)).clock = s.clock := by
  unfold State.modWell
  (repeat' split) <;> simp_all

@[simp] theorem State_modEng_clock (s : State) (e : ℕ) (f : Engine → Engine) :
    ((State.modEng s e f)).clock = s.clock := by
  unfold State.modEng
  (repeat' split) <;> simp_all

@[simp] theorem State_modBank_clock (s : State) (b : ℕ) (f : Bank → Bank) :
    ((State.modBank s b f)).clock = s.clock := by
  unfold State.modBank
  (repeat' split) <;> simp_all

@[simp] theorem State_modBankOf_clock (s : State) (i : Sys2Proof.BankId) (f : Bank → Bank) :
    ((State.modBankOf s i f)).clock = s.clock := by
  unfold State.modBankOf
  (repeat' split) <;> simp_all

@[simp] theorem State_modSup_clock (s : State) (f : Sup → Sup) :
    ((State.modSup s f)).clock = s.clock := by
  unfold State.modSup
  simp

@[simp] theorem supCauseSet_clock (m : Sys2Proof.W32) (s : State) :
    ((supCauseSet m s)).clock = s.clock := by
  unfold supCauseSet
  (repeat' split) <;> simp_all

@[simp] theorem raise_clock (i : ℕ) (s : State) :
    ((raise i s)).clock = s.clock := by
  unfold raise
  (repeat' split) <;> simp_all

@[simp] theorem bump16_clock (t : ℕ) (r : ℕ) (d : ℕ) (s : State) :
    ((bump16 t r d s)).clock = s.clock := by
  unfold bump16
  (repeat' split) <;> simp_all

@[simp] theorem setChState_clock (c : ℕ) (st : ChState) (s : State) :
    ((setChState c st s)).clock = s.clock := by
  unfold setChState
  (repeat' split) <;> simp_all

@[simp] theorem promiseBroken_clock (stall : Bool) (no : ℕ) (cs : List ℕ) (s : State) :
    ((promiseBroken stall no cs s)).clock = s.clock := by
  unfold promiseBroken
  dsimp only
  repeat' split
  all_goals simp

@[simp] theorem faultRecord_clock (src : ℕ) (unit : ℕ) (chan : ℕ) (flags : ℕ) (detail : ℕ) (detail2 : ℕ) (s : State) :
    ((faultRecord src unit chan flags detail detail2 s)).clock = s.clock := by
  unfold faultRecord
  (repeat' split) <;> simp_all

@[simp] theorem chargeChannel_clock (c : ℕ) (s : State) :
    ((chargeChannel c s)).clock = s.clock := by
  unfold chargeChannel
  (repeat' split) <;> simp_all

@[simp] theorem tickFault_clock (src : ℕ) (unit : ℕ) (c : ℕ) (no : ℕ) (flags : ℕ) (detail : ℕ) (detail2 : ℕ) (s : State) :
    ((tickFault src unit c no flags detail detail2 s)).clock = s.clock := by
  unfold tickFault
  (repeat' split) <;> simp_all

@[simp] theorem numberEntry_clock (bs : List Byte) (s : State) :
    ((numberEntry bs s)).clock = s.clock := by
  unfold numberEntry
  (repeat' split) <;> simp_all

@[simp] theorem journal_clock (typ : ℕ) (chan : ℕ) (cls : ℕ) (flags : ℕ) (score : ℕ) (aux : ℕ) (rim : ℕ) (tb : ℕ) (payload : List Sys2Proof.Byte) (s : State) :
    ((journal typ chan cls flags score aux rim tb payload s)).clock = s.clock := by
  unfold journal
  (repeat' split) <;> simp_all

@[simp] theorem collectEntries_clock (s : State) :
    ((collectEntries s)).clock = s.clock := by
  unfold collectEntries
  (repeat' split) <;> simp_all

@[simp] theorem settleEntries_clock (s : State) :
    ((settleEntries s)).clock = s.clock := by
  unfold settleEntries
  (repeat' split) <;> simp_all

@[simp] theorem latchRegs_clock (c : ℕ) (score : ℕ) (kind : ℕ) (cls : ℕ) (srcB : Bool) (s : State) :
    ((latchRegs c score kind cls srcB s)).clock = s.clock := by
  unfold latchRegs
  (repeat' split) <;> simp_all

@[simp] theorem formReport_clock (s : State) :
    ((formReport s)).clock = s.clock := by
  unfold formReport
  repeat' split
  all_goals first | rfl | simp

@[simp] theorem journalVerdict_clock (c : ℕ) (cls : ℕ) (kind : ℕ) (flags : ℕ) (score : ℕ) (payload : List Sys2Proof.Byte) (s : State) :
    ((journalVerdict c cls kind flags score payload s)).clock = s.clock := by
  unfold journalVerdict
  (repeat' split) <;> simp_all

@[simp] theorem latchButtress_clock (c : ℕ) (cls : ℕ) (s : State) :
    ((latchButtress c cls s)).clock = s.clock := by
  unfold latchButtress
  (repeat' split) <;> simp_all

@[simp] theorem State_modLearn_clock (s : State) (c : ℕ) (f : Learn → Learn) :
    ((State.modLearn s c f)).clock = s.clock := by
  unfold State.modLearn
  (repeat' split) <;> simp_all

@[simp] theorem State_modDrift_clock (s : State) (c : ℕ) (f : Drift → Drift) :
    ((State.modDrift s c f)).clock = s.clock := by
  unfold State.modDrift
  (repeat' split) <;> simp_all

@[simp] theorem swapBanks_clock (c : ℕ) (s : State) :
    ((swapBanks c s)).clock = s.clock := by
  unfold swapBanks
  (repeat' split) <;> simp_all

@[simp] theorem edgeSwap_clock (c : ℕ) (s : State) :
    ((edgeSwap c s)).clock = s.clock := by
  unfold edgeSwap
  (repeat' split) <;> simp_all

@[simp] theorem settleSweep_clock (c : ℕ) (s : State) :
    ((settleSweep c s)).clock = s.clock := by
  unfold settleSweep
  (repeat' split) <;> simp_all

@[simp] theorem dropPending_clock (c : ℕ) (s : State) :
    ((dropPending c s)).clock = s.clock := by
  unfold dropPending
  (repeat' split) <;> simp_all

@[simp] theorem startSweep_clock (c : ℕ) (s : State) :
    ((startSweep c s)).clock = s.clock := by
  unfold startSweep
  (repeat' split) <;> simp_all

@[simp] theorem endEpoch_clock (c : ℕ) (held : Bool) (rim : ℕ) (tb : ℕ) (s : State) :
    ((endEpoch c held rim tb s)).clock = s.clock := by
  unfold endEpoch
  (repeat' split) <;> simp_all

@[simp] theorem sweepTrapped_clock (c : ℕ) (s : State) :
    ((sweepTrapped c s)).clock = s.clock := by
  unfold sweepTrapped
  (repeat' split) <;> simp_all

@[simp] theorem storePut_clock (e : ℕ) (a : ℕ) (bs : List Sys2Proof.Byte) (s : State) :
    ((storePut e a bs s)).clock = s.clock := by
  unfold storePut
  (repeat' split) <;> simp_all

@[simp] theorem queueTest_clock (i : Sys2Proof.BankId) (column : ℕ) (s : State) :
    ((queueTest i column s)).clock = s.clock := by
  unfold queueTest
  (repeat' split) <;> simp_all

@[simp] theorem memRecord_clock (unit : ℕ) (c : Option ℕ) (flags : ℕ) (detail : ℕ) (detail2 : ℕ) (s : State) :
    ((memRecord unit c flags detail detail2 s)).clock = s.clock := by
  unfold memRecord
  (repeat' split) <;> simp_all

@[simp] theorem storeReadEvents_clock (e : ℕ) (a : ℕ) (n : ℕ) (c : Option ℕ) (s : State) :
    ((storeReadEvents e a n c s)).clock = s.clock := by
  unfold storeReadEvents
  (repeat' split) <;> simp_all

@[simp] theorem holdFault_clock (e : ℕ) (code : ℕ) (pc : Option ℕ) (s : State) :
    ((holdFault e code pc s)).clock = s.clock := by
  unfold holdFault
  (repeat' split) <;> simp_all

@[simp] theorem engineRecord_clock (e : ℕ) (code : ℕ) (pc : ℕ) (stops : Bool) (k : ProgKind) (no : ℕ) (s : State) :
    ((engineRecord e code pc stops k no s)).clock = s.clock := by
  unfold engineRecord
  (repeat' split) <;> simp_all

@[simp] theorem liftAfter_clock (e : ℕ) (no : ℕ) (s : State) :
    ((liftAfter e no s)).clock = s.clock := by
  unfold liftAfter
  (repeat' split) <;> simp_all

@[simp] theorem clearRun_clock (e : ℕ) (s : State) :
    ((clearRun e s)).clock = s.clock := by
  unfold clearRun
  (repeat' split) <;> simp_all

@[simp] theorem settleDrift_clock (c : ℕ) (s : State) :
    ((settleDrift c s)).clock = s.clock := by
  unfold settleDrift
  (repeat' split) <;> simp_all

@[simp] theorem tickPartEnded_clock (c : ℕ) (e : ℕ) (s : State) :
    ((tickPartEnded c e s)).clock = s.clock := by
  unfold tickPartEnded
  (repeat' split) <;> simp_all

@[simp] theorem dropWaiter_clock (e : ℕ) (tick : Bool) (s : State) :
    ((dropWaiter e tick s)).clock = s.clock := by
  unfold dropWaiter
  (repeat' split) <;> simp_all

@[simp] theorem dropDue_clock (x : Nat) (c : Nat) (s : State) :
    ((dropDue x c s)).clock = s.clock := by
  unfold dropDue
  (repeat' split) <;> simp_all

@[simp] theorem endPart_clock (x : Nat) (c : Nat) (s : State) :
    ((endPart x c s)).clock = s.clock := by
  unfold endPart
  (repeat' split) <;> simp_all

@[simp] theorem stopOtherParts_clock (c e : Nat) (s : State) :
    (stopOtherParts c e s).clock = s.clock := by
  unfold stopOtherParts
  refine foldS_clock _ _ _ (fun x s => ?_)
  (repeat' split) <;> simp

@[simp] theorem trapped_clock (e : ℕ) (code : ℕ) (pc : ℕ) (k : ProgKind) (no : ℕ) (s : State) :
    ((trapped e code pc k no s)).clock = s.clock := by
  unfold trapped
  (repeat' split) <;> simp_all

@[simp] theorem fixBank_clock (r : Run) (s : State) :
    ((fixBank r s)).clock = s.clock := by
  unfold fixBank
  (repeat' split) <;> simp_all

@[simp] theorem launch_clock (e : ℕ) (r : Run) (s : State) :
    ((launch e r s)).clock = s.clock := by
  unfold launch
  (repeat' split) <;> simp_all

@[simp] theorem startNext_clock (e : ℕ) (s : State) :
    ((startNext e s)).clock = s.clock := by
  unfold startNext
  (repeat' split) <;> simp_all

@[simp] theorem startDue_clock (x0 : ℕ) (x1 : State) :
    ((startDue x0 x1)).clock = x1.clock := by
  induction x0 generalizing x1 with
  | zero => rfl
  | succ n ih => unfold startDue; split <;> simp [ih]

@[simp] theorem startAllDue_clock (s : State) :
    ((startAllDue s)).clock = s.clock := by
  unfold startAllDue
  (repeat' split) <;> simp_all

@[simp] theorem suspendBg_clock (e : ℕ) (s : State) :
    ((suspendBg e s)).clock = s.clock := by
  unfold suspendBg
  (repeat' split) <;> simp_all

@[simp] theorem enterActive_clock (c : ℕ) (s : State) :
    ((enterActive c s)).clock = s.clock := by
  unfold enterActive
  (repeat' split) <;> simp_all

@[simp] theorem enterEnabled_clock (c : ℕ) (s : State) :
    ((enterEnabled c s)).clock = s.clock := by
  unfold enterEnabled
  (repeat' split) <;> simp_all

@[simp] theorem finishShutdown_clock (c : ℕ) (s : State) :
    ((finishShutdown c s)).clock = s.clock := by
  unfold finishShutdown
  (repeat' split) <;> simp_all

@[simp] theorem shutdown_clock (c : ℕ) (s : State) :
    ((shutdown c s)).clock = s.clock := by
  unfold shutdown
  (repeat' split) <;> simp_all

@[simp] theorem enableEdge_clock (c : ℕ) (s : State) :
    ((enableEdge c s)).clock = s.clock := by
  unfold enableEdge
  (repeat' split) <;> simp_all

@[simp] theorem stopStarts_clock (c : Nat) (s : State) :
    ((stopStarts c s)).clock = s.clock := by
  unfold stopStarts
  (repeat' split) <;> simp_all

@[simp] theorem disableEdge_clock (c : ℕ) (s : State) :
    ((disableEdge c s)).clock = s.clock := by
  unfold disableEdge
  (repeat' split) <;> simp_all

@[simp] theorem learnEdge_clock (c : ℕ) (s : State) :
    ((learnEdge c s)).clock = s.clock := by
  unfold learnEdge
  (repeat' split) <;> simp_all

@[simp] theorem mapsEdge_clock (c : ℕ) (s : State) :
    ((mapsEdge c s)).clock = s.clock := by
  unfold mapsEdge
  (repeat' split) <;> simp_all

@[simp] theorem driftEdge_clock (c : ℕ) (s : State) :
    ((driftEdge c s)).clock = s.clock := by
  unfold driftEdge
  (repeat' split) <;> simp_all

@[simp] theorem enterRetired_clock (c : ℕ) (cause : ℕ) (s : State) :
    ((enterRetired c cause s)).clock = s.clock := by
  unfold enterRetired
  (repeat' split) <;> simp_all

@[simp] theorem retireChannel_clock (c : ℕ) (cause : ℕ) (s : State) :
    ((retireChannel c cause s)).clock = s.clock := by
  unfold retireChannel
  (repeat' split) <;> simp_all

@[simp] theorem shadowFail_clock (c : ℕ) (failed : ℕ) (cause : ℕ) (s : State) :
    ((shadowFail c failed cause s)).clock = s.clock := by
  unfold shadowFail
  (repeat' split) <;> simp_all

@[simp] theorem readmitChannel_clock (c : ℕ) (s : State) :
    ((readmitChannel c s)).clock = s.clock := by
  unfold readmitChannel
  (repeat' split) <;> simp_all

@[simp] theorem commandEdge_clock (c : ℕ) (s : State) :
    ((commandEdge c s)).clock = s.clock := by
  unfold commandEdge
  (repeat' split) <;> (try simp) <;> (repeat' split) <;> (try simp) <;> (repeat' split) <;> simp_all

@[simp] theorem watchEnds_clock (c : Nat) (s : State) :
    ((watchEnds c s)).clock = s.clock := by
  unfold watchEnds
  (repeat' split) <;> simp_all

@[simp] theorem endWindow_clock (c : ℕ) (s : State) :
    ((endWindow c s)).clock = s.clock := by
  unfold endWindow
  (repeat' split) <;> simp_all

@[simp] theorem windowEdge_clock (c : ℕ) (s : State) :
    ((windowEdge c s)).clock = s.clock := by
  unfold windowEdge
  (repeat' split) <;> simp_all

@[simp] theorem countFault_clock (c : ℕ) (s : State) :
    ((countFault c s)).clock = s.clock := by
  unfold countFault
  (repeat' split) <;> simp_all

@[simp] theorem shadowTick_clock (c : ℕ) (s : State) :
    ((shadowTick c s)).clock = s.clock := by
  unfold shadowTick
  (repeat' split) <;> simp_all

@[simp] theorem shadowBoundary_clock (c : ℕ) (s : State) :
    ((shadowBoundary c s)).clock = s.clock := by
  unfold shadowBoundary
  (repeat' split) <;> simp_all

@[simp] theorem epochAdvance_clock (c : ℕ) (s : State) :
    ((epochAdvance c s)).clock = s.clock := by
  unfold epochAdvance
  (repeat' split) <;> simp_all

@[simp] theorem epochBoundary_clock (c : ℕ) (held : Bool) (rim : ℕ) (tb : ℕ) (s : State) :
    ((epochBoundary c held rim tb s)).clock = s.clock := by
  unfold epochBoundary
  (repeat' split) <;> simp_all

@[simp] theorem leaveButtress_clock (c : ℕ) (s : State) :
    ((leaveButtress c s)).clock = s.clock := by
  unfold leaveButtress
  (repeat' split) <;> simp_all

@[simp] theorem retiredMap_clock (c : Nat) (s : State) :
    ((retiredMap c s)).clock = s.clock := by
  unfold retiredMap
  (repeat' split) <;> simp_all

@[simp] theorem channelEdge_clock (rim : ℕ) (tb : ℕ) (leaving : Bool) (c : ℕ) (s : State) :
    ((channelEdge rim tb leaving c s)).clock = s.clock := by
  unfold channelEdge
  (repeat' split) <;> simp_all

@[simp] theorem dropAllDue_clock (e : Nat) (s : State) :
    (dropAllDue e s).clock = s.clock := by
  unfold dropAllDue
  refine foldS_clock _ _ _ (fun r s => ?_)
  split <;> simp

@[simp] theorem cistUeRecord_clock (c : Option ℕ) (w : ℕ) (s : State) :
    ((cistUeRecord c w s)).clock = s.clock := by
  unfold cistUeRecord
  (repeat' split) <;> simp_all

@[simp] theorem cistPut_clock (a : ℕ) (bs : List Sys2Proof.Byte) (s : State) :
    ((cistPut a bs s)).clock = s.clock := by
  unfold cistPut
  (repeat' split) <;> simp_all

@[simp] theorem wellEdge_clock (rim : ℕ) (tb : ℕ) (w : ℕ) (s : State) :
    ((wellEdge rim tb w s)).clock = s.clock := by
  unfold wellEdge
  (repeat' split) <;> simp_all

@[simp] theorem wellsEdge_clock (rim : ℕ) (tb : ℕ) (s : State) :
    ((wellsEdge rim tb s)).clock = s.clock := by
  unfold wellsEdge
  (repeat' split) <;> simp_all

@[simp] theorem cutReads_clock (hit : Nat → Bool) (s : State) :
    ((cutReads hit s)).clock = s.clock := by
  unfold cutReads
  (repeat' split) <;> simp_all

@[simp] theorem engEnableEdge_clock (e : ℕ) (s : State) :
    ((engEnableEdge e s)).clock = s.clock := by
  unfold engEnableEdge
  (repeat' split) <;> simp_all

@[simp] theorem engDisableEdge_clock (e : ℕ) (s : State) :
    ((engDisableEdge e s)).clock = s.clock := by
  unfold engDisableEdge
  (repeat' split) <;> simp_all

@[simp] theorem retireEngine_clock (e : ℕ) (cause : ℕ) (s : State) :
    ((retireEngine e cause s)).clock = s.clock := by
  unfold retireEngine
  (repeat' split) <;> simp_all

@[simp] theorem readmitEngine_clock (e : ℕ) (s : State) :
    ((readmitEngine e s)).clock = s.clock := by
  unfold readmitEngine
  (repeat' split) <;> simp_all

@[simp] theorem engineEdge_clock (e : ℕ) (s : State) :
    ((engineEdge e s)).clock = s.clock := by
  unfold engineEdge
  (repeat' split) <;> simp_all

@[simp] theorem scheduleChan_clock (c : ℕ) (s : State) :
    ((scheduleChan c s)).clock = s.clock := by
  unfold scheduleChan
  (repeat' split) <;> simp_all

@[simp] theorem overhangAt_clock (e : ℕ) (s : State) :
    ((overhangAt e s)).clock = s.clock := by
  unfold overhangAt
  (repeat' split) <;> simp_all

@[simp] theorem ingressAt_clock (starts : Nat → Bool) (e : Nat) (s : State) :
    ((ingressAt starts e s)).clock = s.clock := by
  unfold ingressAt
  (repeat' split) <;> simp_all

@[simp] theorem ingress_clock (s : State) :
    ((ingress s)).clock = s.clock := by
  unfold ingress
  (repeat' split) <;> simp_all

@[simp] theorem class8_clock (s : State) :
    ((class8 s)).clock = s.clock := by
  unfold class8
  (repeat' split) <;> simp_all

@[simp] theorem buttressEntry_clock (rim : ℕ) (tb : ℕ) (c : ℕ) (s : State) :
    ((buttressEntry rim tb c s)).clock = s.clock := by
  unfold buttressEntry
  (repeat' split) <;> simp_all

@[simp] theorem beginTick_clock (c : ℕ) (s : State) :
    ((beginTick c s)).clock = s.clock := by
  unfold beginTick
  (repeat' split) <;> simp_all

@[simp] theorem snapPulse_clock (s : State) :
    ((snapPulse s)).clock = s.clock := by
  unfold snapPulse
  (repeat' split) <;> simp_all

@[simp] theorem State_modPump_clock (s : State) (p : ℕ) (f : Pump → Pump) :
    ((State.modPump s p f)).clock = s.clock := by
  unfold State.modPump
  (repeat' split) <;> simp_all

@[simp] theorem State_modPort_clock (s : State) (p : ℕ) (f : Port → Port) :
    ((State.modPort s p f)).clock = s.clock := by
  unfold State.modPort
  (repeat' split) <;> simp_all

@[simp] theorem unclean_clock (e : Nat) (c : Nat) (no : Nat) (s : State) :
    ((unclean e c no s)).clock = s.clock := by
  unfold unclean
  (repeat' split) <;> simp_all

@[simp] theorem completionFault_clock (o : PumpOp) (s : State) :
    ((completionFault o s)).clock = s.clock := by
  unfold completionFault
  (repeat' split) <;> simp_all

@[simp] theorem storeCompletion_clock (o : PumpOp) (s : State) :
    ((storeCompletion o s)).clock = s.clock := by
  unfold storeCompletion
  split <;> (try simp [slotDone])

@[simp] theorem freeXid_clock (p : ℕ) (x : ℕ) (s : State) :
    ((freeXid p x s)).clock = s.clock := by
  unfold freeXid
  (repeat' split) <;> simp_all

@[simp] theorem returnXid_clock (o : PumpOp) (s : State) :
    ((returnXid o s)).clock = s.clock := by
  unfold returnXid
  (repeat' split) <;> simp_all

@[simp] theorem completeOp_clock (o : PumpOp) (s : State) :
    ((completeOp o s)).clock = s.clock := by
  unfold completeOp
  (repeat' split) <;> simp_all

@[simp] theorem setLink_clock (p : ℕ) (st : LinkSt) (s : State) :
    ((setLink p st s)).clock = s.clock := by
  unfold setLink
  (repeat' split) <;> simp_all

@[simp] theorem freezeXfers_clock (p : ℕ) (s : State) :
    ((freezeXfers p s)).clock = s.clock := by
  unfold freezeXfers
  (repeat' split) <;> simp_all

@[simp] theorem loseTransfers_clock (p : ℕ) (s : State) :
    ((loseTransfers p s)).clock = s.clock := by
  unfold loseTransfers
  (repeat' split) <;> simp_all

@[simp] theorem endPeerService_clock (p : ℕ) (s : State) :
    ((endPeerService p s)).clock = s.clock := by
  unfold endPeerService
  (repeat' split) <;> simp_all

@[simp] theorem clearSequence_clock (p : ℕ) (s : State) :
    ((clearSequence p s)).clock = s.clock := by
  unfold clearSequence
  (repeat' split) <;> simp_all

@[simp] theorem killPort_clock (p : ℕ) (st : LinkSt) (s : State) :
    ((killPort p st s)).clock = s.clock := by
  unfold killPort
  (repeat' split) <;> simp_all

@[simp] theorem linkControl_clock (p : ℕ) (s : State) :
    ((linkControl p s)).clock = s.clock := by
  unfold linkControl
  (repeat' split) <;> simp_all

@[simp] theorem retireBank_clock (b : ℕ) (cause : ℕ) (s : State) :
    ((retireBank b cause s)).clock = s.clock := by
  unfold retireBank
  (repeat' split) <;> simp_all

@[simp] theorem exhausted_clock (i : Sys2Proof.BankId) (column : ℕ) (s : State) :
    ((exhausted i column s)).clock = s.clock := by
  unfold exhausted
  (repeat' split) <;> simp_all

@[simp] theorem assignSpare_clock (i : Sys2Proof.BankId) (column : ℕ) (cause : ℕ) (s : State) :
    ((assignSpare i column cause s)).clock = s.clock := by
  unfold assignSpare
  (repeat' split) <;> simp_all

@[simp] theorem repairEdge_clock (c : Sys2Proof.BankId × ℕ) (s : State) :
    ((repairEdge c s)).clock = s.clock := by
  unfold repairEdge
  (repeat' split) <;> simp_all

@[simp] theorem pumpEdge_clock (p : ℕ) (s : State) :
    ((pumpEdge p s)).clock = s.clock := by
  unfold pumpEdge
  (repeat' split) <;> simp_all

@[simp] theorem portEdge_clock (c : ℕ × Bool) (s : State) :
    ((portEdge c s)).clock = s.clock := by
  unfold portEdge
  (repeat' split) <;> simp_all

@[simp] theorem unitCommands_clock (s : State) :
    ((unitCommands s)).clock = s.clock := by
  unfold unitCommands
  (repeat' split) <;> simp_all

end Sys2Proof.Machine
end

