-- ==== Sys2Proof/Laws/Frame.lean ====
section
/-! SUPPORT. Each operation keeps the part, the units and the queue of commands; a reset keeps the part and the queue and
gives the units of the part. -/

namespace Sys2Proof.Machine
open Sys2Proof
set_option linter.all false
theorem State.frame_part {s t : State} (h : s.frame = t.frame) : s.part = t.part := congrArg (·.1) h
@[simp] theorem State.frame_mk (x : State) (straps regs now tick pace) (chans : List Channel) (wells : List Well)
    (engs : List Engine) (ops nextOp) (pumps : List Pump) (bells : List Bell) (tables cist cistUe cistCe)
    (banks : List Bank) (storeBanks : List (List Bank)) (journal faults ctl) (sup : Sup) (clo : Cloister)
    (ports : List Port) (power tbase sec tap tb free)
    (h1 : chans.length = x.chans.length) (h2 : wells.length = x.wells.length) (h3 : engs.length = x.engs.length)
    (h4 : pumps.length = x.pumps.length) (h5 : bells.length = x.bells.length) (h6 : banks.length = x.banks.length)
    (h7 : storeBanks.length = x.storeBanks.length) (h8 : sup.slots.length = x.sup.slots.length)
    (h9 : clo.walks.length = x.clo.walks.length) (h10 : ports.length = x.ports.length) :
    (State.mk x.part straps regs now tick pace chans wells engs ops nextOp pumps bells tables cist cistUe cistCe banks
      storeBanks journal faults ctl sup clo ports power tbase sec tap tb free x.pending).frame = x.frame := by
  simp [State.frame, State.shape, *]
@[simp] theorem frame_ite (c : Prop) [Decidable c] (a b : State) : (if c then a else b).frame = if c then a.frame else b.frame := by
  split <;> rfl
@[simp] theorem foldS_frame {α : Type} (f : α → State → State) (xs : List α) (s : State)
    (h : ∀ a s, (f a s).frame = s.frame) : (foldS f xs s).frame = s.frame := foldS_keeps State.frame f h xs s
theorem foldS_frame1 {α β : Type} (f : α → State × β → State × β) (xs : List α) (x : State × β)
    (h : ∀ a x, (f a x).1.frame = x.1.frame) : (foldS f xs x).1.frame = x.1.frame :=
  foldS_keeps (fun x : State × β => x.1.frame) f h xs x
theorem foldl_frameM {α : Type} (f : Moving → α → Moving) (xs : List α) (m : Moving)
    (h : ∀ m a, (f m a).s.frame = m.s.frame) : (xs.foldl f m).s.frame = m.s.frame := by
  induction xs generalizing m with
  | nil => rfl
  | cons x xs ih => rw [List.foldl_cons, ih, h]
theorem foldl_frameM1 {α β : Type} (f : Moving × β → α → Moving × β) (xs : List α) (m : Moving × β)
    (h : ∀ m a, (f m a).1.s.frame = m.1.s.frame) : (xs.foldl f m).1.s.frame = m.1.s.frame := by
  induction xs generalizing m with
  | nil => rfl
  | cons x xs ih => rw [List.foldl_cons, ih, h]


@[simp] theorem State_wr_frame (s : State) (t : ℕ) (r : ℕ) (v : Sys2Proof.Word) :
    ((State.wr s t r v)).frame = s.frame := by
  unfold State.wr
  (repeat' split) <;> simp_all

@[simp] theorem State_setB_frame (s : State) (t : ℕ) (r : ℕ) (i : ℕ) :
    ((State.setB s t r i)).frame = s.frame := by
  unfold State.setB
  (repeat' split) <;> simp_all

@[simp] theorem State_clrB_frame (s : State) (t : ℕ) (r : ℕ) (i : ℕ) :
    ((State.clrB s t r i)).frame = s.frame := by
  unfold State.clrB
  (repeat' split) <;> simp_all

@[simp] theorem State_putB_frame (s : State) (t : ℕ) (r : ℕ) (i : ℕ) (b : Bool) :
    ((State.putB s t r i b)).frame = s.frame := by
  unfold State.putB
  (repeat' split) <;> simp_all

@[simp] theorem State_modChan_frame (s : State) (c : ℕ) (f : Channel → Channel) :
    ((State.modChan s c f)).frame = s.frame := by
  unfold State.modChan
  (repeat' split) <;> simp_all

@[simp] theorem State_mapChans_frame (s : State) (f : Channel → Channel) :
    ((State.mapChans s f)).frame = s.frame := by
  unfold State.mapChans
  (repeat' split) <;> simp_all

@[simp] theorem State_modWell_frame (s : State) (w : ℕ) (f : Well → Well) :
    ((State.modWell s w f)).frame = s.frame := by
  unfold State.modWell
  (repeat' split) <;> simp_all

@[simp] theorem State_modEng_frame (s : State) (e : ℕ) (f : Engine → Engine) :
    ((State.modEng s e f)).frame = s.frame := by
  unfold State.modEng
  (repeat' split) <;> simp_all

@[simp] theorem State_modBank_frame (s : State) (b : ℕ) (f : Bank → Bank) :
    ((State.modBank s b f)).frame = s.frame := by
  unfold State.modBank
  (repeat' split) <;> simp_all

@[simp] theorem State_modBankOf_frame (s : State) (i : Sys2Proof.BankId) (f : Bank → Bank) :
    ((State.modBankOf s i f)).frame = s.frame := by
  unfold State.modBankOf
  (repeat' split) <;> simp_all

@[simp] theorem State_modBell_frame (s : State) (b : ℕ) (f : Bell → Bell) :
    ((State.modBell s b f)).frame = s.frame := by
  unfold State.modBell
  (repeat' split) <;> simp_all

@[simp] theorem State_modOp_frame (s : State) (i : ℕ) (f : PumpOp → PumpOp) :
    ((State.modOp s i f)).frame = s.frame := by
  unfold State.modOp
  (repeat' split) <;> simp_all

@[simp] theorem State_modSup_frame (s : State) (f : Sup → Sup) (h : ∀ u, (f u).slots.length = u.slots.length) :
    ((State.modSup s f)).frame = s.frame := by
  unfold State.modSup
  simp [h]

@[simp] theorem State_setTries_frame (n : ℕ) (s : State) : (s.setTries n).frame = s.frame := rfl

@[simp] theorem State_modPolicy_frame (f : Policy → Policy) (s : State) : (s.modPolicy f).frame = s.frame := rfl

@[simp] theorem State_pass_frame (s : State) (d : ℕ) :
    ((State.pass s d)).frame = s.frame := by
  unfold State.pass
  (repeat' split) <;> simp_all

@[simp] theorem State_reach_frame (s : State) (t : ℕ) :
    ((State.reach s t)).frame = s.frame := by
  unfold State.reach
  (repeat' split) <;> simp_all

@[simp] theorem supCauseSet_frame (m : Sys2Proof.W32) (s : State) :
    ((supCauseSet m s)).frame = s.frame := by
  unfold supCauseSet
  (repeat' split) <;> simp_all

@[simp] theorem raise_frame (i : ℕ) (s : State) :
    ((raise i s)).frame = s.frame := by
  unfold raise
  (repeat' split) <;> simp_all

@[simp] theorem cfgConflict_frame (s : State) :
    ((cfgConflict s)).frame = s.frame := by
  unfold cfgConflict
  (repeat' split) <;> simp_all

@[simp] theorem frameError_frame (s : State) :
    ((frameError s)).frame = s.frame := by
  unfold frameError
  (repeat' split) <;> simp_all

@[simp] theorem bump16_frame (t : ℕ) (r : ℕ) (d : ℕ) (s : State) :
    ((bump16 t r d s)).frame = s.frame := by
  unfold bump16
  (repeat' split) <;> simp_all

@[simp] theorem setChState_frame (c : ℕ) (st : ChState) (s : State) :
    ((setChState c st s)).frame = s.frame := by
  unfold setChState
  (repeat' split) <;> simp_all

@[simp] theorem promiseBroken_frame (stall : Bool) (no : ℕ) (cs : List ℕ) (s : State) :
    ((promiseBroken stall no cs s)).frame = s.frame := by
  unfold promiseBroken
  (repeat' split) <;> simp_all

@[simp] theorem faultRecord_frame (src : ℕ) (unit : ℕ) (chan : ℕ) (flags : ℕ) (detail : ℕ) (detail2 : ℕ) (s : State) :
    ((faultRecord src unit chan flags detail detail2 s)).frame = s.frame := by
  unfold faultRecord
  (repeat' split) <;> simp_all

@[simp] theorem chargeChannel_frame (c : ℕ) (s : State) :
    ((chargeChannel c s)).frame = s.frame := by
  unfold chargeChannel
  (repeat' split) <;> simp_all

@[simp] theorem tickFault_frame (src : ℕ) (unit : ℕ) (c : ℕ) (no : ℕ) (flags : ℕ) (detail : ℕ) (detail2 : ℕ) (s : State) :
    ((tickFault src unit c no flags detail detail2 s)).frame = s.frame := by
  unfold tickFault
  (repeat' split) <;> simp_all

@[simp] theorem numberEntry_frame (bs : List Byte) (s : State) :
    ((numberEntry bs s)).frame = s.frame := by
  unfold numberEntry
  (repeat' split) <;> simp_all

@[simp] theorem journal_frame (typ : ℕ) (chan : ℕ) (cls : ℕ) (flags : ℕ) (score : ℕ) (aux : ℕ) (rim : ℕ) (tb : ℕ) (payload : List Sys2Proof.Byte) (s : State) :
    ((journal typ chan cls flags score aux rim tb payload s)).frame = s.frame := by
  unfold journal
  (repeat' split) <;> simp_all

@[simp] theorem collectEntries_frame (s : State) :
    ((collectEntries s)).frame = s.frame := by
  unfold collectEntries
  (repeat' split) <;> simp_all

@[simp] theorem settleEntries_frame (s : State) :
    ((settleEntries s)).frame = s.frame := by
  unfold settleEntries
  (repeat' split) <;> simp_all

@[simp] theorem startHold_frame (c : ℕ) (t : ℕ) (s : State) :
    ((startHold c t s)).frame = s.frame := by
  unfold startHold
  (repeat' split) <;> simp_all

@[simp] theorem State_takeFree_frame (s : State) :
    ((State.takeFree s).2).frame = s.frame := by
  unfold State.takeFree
  (repeat' split) <;> simp_all

@[simp] theorem latchRegs_frame (c : ℕ) (score : ℕ) (kind : ℕ) (cls : ℕ) (srcB : Bool) (s : State) :
    ((latchRegs c score kind cls srcB s)).frame = s.frame := by
  unfold latchRegs
  (repeat' split) <;> simp_all

@[simp] theorem formReport_frame (s : State) :
    ((formReport s)).frame = s.frame := by
  unfold formReport
  (repeat' split) <;> simp_all

@[simp] theorem journalVerdict_frame (c : ℕ) (cls : ℕ) (kind : ℕ) (flags : ℕ) (score : ℕ) (payload : List Sys2Proof.Byte) (s : State) :
    ((journalVerdict c cls kind flags score payload s)).frame = s.frame := by
  unfold journalVerdict
  (repeat' split) <;> simp_all

@[simp] theorem latchUsed_frame (c : ℕ) (score : ℕ) (kind : ℕ) (payload : List Sys2Proof.Byte) (s : State) :
    ((latchUsed c score kind payload s)).frame = s.frame := by
  unfold latchUsed
  (repeat' split) <;> simp_all

@[simp] theorem latchTrial_frame (c : ℕ) (score : ℕ) (kind : ℕ) (payload : List Sys2Proof.Byte) (s : State) :
    ((latchTrial c score kind payload s)).frame = s.frame := by
  unfold latchTrial
  (repeat' split) <;> simp_all

@[simp] theorem latchLate_frame (c : Nat) (score : Nat) (kind : Nat) (brk : Bool) (bt : Nat) (rim : Nat) (tb : Nat) (payload : List Byte) (s : State) :
    ((latchLate c score kind brk bt rim tb payload s)).frame = s.frame := by
  unfold latchLate
  (repeat' split) <;> simp_all

@[simp] theorem latchButtress_frame (c : ℕ) (cls : ℕ) (s : State) :
    ((latchButtress c cls s)).frame = s.frame := by
  unfold latchButtress
  (repeat' split) <;> simp_all

@[simp] theorem latchEngine_frame (c : Nat) (no : Nat) (score : Nat) (kind : Nat) (clean : Bool) (bt : Nat) (rim : Nat) (tb : Nat) (payload : List Byte) (s : State) :
    ((latchEngine c no score kind clean bt rim tb payload s)).frame = s.frame := by
  unfold latchEngine
  (repeat' split) <;> simp_all

@[simp] theorem guardChannel_frame (c : ℕ) (s : State) :
    ((guardChannel c s)).frame = s.frame := by
  unfold guardChannel
  (repeat' split) <;> simp_all

@[simp] theorem closeTick_frame (s : State) :
    ((closeTick s)).frame = s.frame := by
  unfold closeTick
  (repeat' split) <;> simp_all

@[simp] theorem vdDrive_frame (s : State) :
    ((vdDrive s)).frame = s.frame := by
  unfold vdDrive
  (repeat' split) <;> simp_all

@[simp] theorem State_modLearn_frame (s : State) (c : ℕ) (f : Learn → Learn) :
    ((State.modLearn s c f)).frame = s.frame := by
  unfold State.modLearn
  (repeat' split) <;> simp_all

@[simp] theorem State_modDrift_frame (s : State) (c : ℕ) (f : Drift → Drift) :
    ((State.modDrift s c f)).frame = s.frame := by
  unfold State.modDrift
  (repeat' split) <;> simp_all

@[simp] theorem swapBanks_frame (c : ℕ) (s : State) :
    ((swapBanks c s)).frame = s.frame := by
  unfold swapBanks
  (repeat' split) <;> simp_all

@[simp] theorem setReady_frame (c : ℕ) (f : Option Bool) (s : State) :
    ((setReady c f s)).frame = s.frame := by
  unfold setReady
  (repeat' split) <;> simp_all

@[simp] theorem edgeSwap_frame (c : ℕ) (s : State) :
    ((edgeSwap c s)).frame = s.frame := by
  unfold edgeSwap
  (repeat' split) <;> simp_all

@[simp] theorem settleSweep_frame (c : ℕ) (s : State) :
    ((settleSweep c s)).frame = s.frame := by
  unfold settleSweep
  (repeat' split) <;> simp_all

@[simp] theorem dropPending_frame (c : ℕ) (s : State) :
    ((dropPending c s)).frame = s.frame := by
  unfold dropPending
  (repeat' split) <;> simp_all

@[simp] theorem startSweep_frame (c : ℕ) (s : State) :
    ((startSweep c s)).frame = s.frame := by
  unfold startSweep
  (repeat' split) <;> simp_all

@[simp] theorem endEpoch_frame (c : ℕ) (held : Bool) (rim : ℕ) (tb : ℕ) (s : State) :
    ((endEpoch c held rim tb s)).frame = s.frame := by
  unfold endEpoch
  (repeat' split) <;> simp_all

@[simp] theorem completeSweep_frame (c : ℕ) (s : State) :
    ((completeSweep c s)).frame = s.frame := by
  unfold completeSweep
  (repeat' split) <;> simp_all

@[simp] theorem sweepPartDone_frame (c : ℕ) (e : ℕ) (s : State) :
    ((sweepPartDone c e s)).frame = s.frame := by
  unfold sweepPartDone
  (repeat' split) <;> simp_all

@[simp] theorem sweepTrapped_frame (c : ℕ) (s : State) :
    ((sweepTrapped c s)).frame = s.frame := by
  unfold sweepTrapped
  (repeat' split) <;> simp_all

@[simp] theorem storePut_frame (e : ℕ) (a : ℕ) (bs : List Sys2Proof.Byte) (s : State) :
    ((storePut e a bs s)).frame = s.frame := by
  unfold storePut
  (repeat' split) <;> simp_all

@[simp] theorem queueTest_frame (i : Sys2Proof.BankId) (column : ℕ) (s : State) :
    ((queueTest i column s)).frame = s.frame := by
  unfold queueTest
  (repeat' split) <;> simp_all

@[simp] theorem memRecord_frame (unit : ℕ) (c : Option ℕ) (flags : ℕ) (detail : ℕ) (detail2 : ℕ) (s : State) :
    ((memRecord unit c flags detail detail2 s)).frame = s.frame := by
  unfold memRecord
  (repeat' split) <;> simp_all

@[simp] theorem storeReadEvents_frame (e : ℕ) (a : ℕ) (n : ℕ) (c : Option ℕ) (s : State) :
    ((storeReadEvents e a n c s)).frame = s.frame := by
  unfold storeReadEvents
  (repeat' split) <;> simp_all

@[simp] theorem holdFault_frame (e : ℕ) (code : ℕ) (pc : Option ℕ) (s : State) :
    ((holdFault e code pc s)).frame = s.frame := by
  unfold holdFault
  (repeat' split) <;> simp_all

@[simp] theorem engineRecord_frame (e : ℕ) (code : ℕ) (pc : ℕ) (stops : Bool) (k : ProgKind) (no : ℕ) (s : State) :
    ((engineRecord e code pc stops k no s)).frame = s.frame := by
  unfold engineRecord
  (repeat' split) <;> simp_all

@[simp] theorem liftAfter_frame (e : ℕ) (no : ℕ) (s : State) :
    ((liftAfter e no s)).frame = s.frame := by
  unfold liftAfter
  (repeat' split) <;> simp_all

@[simp] theorem clearRun_frame (e : ℕ) (s : State) :
    ((clearRun e s)).frame = s.frame := by
  unfold clearRun
  (repeat' split) <;> simp_all

@[simp] theorem settleDrift_frame (c : ℕ) (s : State) :
    ((settleDrift c s)).frame = s.frame := by
  unfold settleDrift
  (repeat' split) <;> simp_all

@[simp] theorem tickPartEnded_frame (c : ℕ) (e : ℕ) (s : State) :
    ((tickPartEnded c e s)).frame = s.frame := by
  unfold tickPartEnded
  (repeat' split) <;> simp_all

@[simp] theorem dropWaiter_frame (e : ℕ) (tick : Bool) (s : State) :
    ((dropWaiter e tick s)).frame = s.frame := by
  unfold dropWaiter
  (repeat' split) <;> simp_all

@[simp] theorem dropDue_frame (x : Nat) (c : Nat) (s : State) :
    ((dropDue x c s)).frame = s.frame := by
  unfold dropDue
  (repeat' split) <;> simp_all

@[simp] theorem endPart_frame (x : Nat) (c : Nat) (s : State) :
    ((endPart x c s)).frame = s.frame := by
  unfold endPart
  (repeat' split) <;> simp_all

@[simp] theorem stopOtherParts_frame (c e : Nat) (s : State) :
    (stopOtherParts c e s).frame = s.frame := by
  unfold stopOtherParts
  refine foldS_frame _ _ _ (fun x s => ?_)
  (repeat' split) <;> simp

@[simp] theorem trapped_frame (e : ℕ) (code : ℕ) (pc : ℕ) (k : ProgKind) (no : ℕ) (s : State) :
    ((trapped e code pc k no s)).frame = s.frame := by
  unfold trapped
  (repeat' split) <;> simp_all

@[simp] theorem fixBank_frame (r : Run) (s : State) :
    ((fixBank r s)).frame = s.frame := by
  unfold fixBank
  (repeat' split) <;> simp_all

@[simp] theorem launch_frame (e : ℕ) (r : Run) (s : State) :
    ((launch e r s)).frame = s.frame := by
  unfold launch
  (repeat' split) <;> simp_all

@[simp] theorem startNext_frame (e : ℕ) (s : State) :
    ((startNext e s)).frame = s.frame := by
  unfold startNext
  (repeat' split) <;> simp_all

@[simp] theorem startDue_frame (x0 : ℕ) (x1 : State) :
    ((startDue x0 x1)).frame = x1.frame := by
  induction x0 generalizing x1 with
  | zero => rfl
  | succ n ih => unfold startDue; split <;> simp [ih]

@[simp] theorem startAllDue_frame (s : State) :
    ((startAllDue s)).frame = s.frame := by
  unfold startAllDue
  (repeat' split) <;> simp_all

@[simp] theorem trap_frame (e : ℕ) (code : ℕ) (s : State) :
    ((trap e code s)).frame = s.frame := by
  unfold trap
  (repeat' split) <;> simp_all

@[simp] theorem startBackground_frame (e : ℕ) (s : State) :
    ((startBackground e s)).frame = s.frame := by
  unfold startBackground
  (repeat' split) <;> (try simp) <;> (repeat' split) <;> (try simp) <;> (repeat' split) <;> simp_all

@[simp] theorem suspendBg_frame (e : ℕ) (s : State) :
    ((suspendBg e s)).frame = s.frame := by
  unfold suspendBg
  (repeat' split) <;> simp_all

@[simp] theorem fenceAll_frame (s : State) :
    ((fenceAll s)).frame = s.frame := by
  unfold fenceAll
  (repeat' split) <;> simp_all

@[simp] theorem enterActive_frame (c : ℕ) (s : State) :
    ((enterActive c s)).frame = s.frame := by
  unfold enterActive
  (repeat' split) <;> simp_all

@[simp] theorem enterEnabled_frame (c : ℕ) (s : State) :
    ((enterEnabled c s)).frame = s.frame := by
  unfold enterEnabled
  (repeat' split) <;> simp_all

@[simp] theorem finishShutdown_frame (c : ℕ) (s : State) :
    ((finishShutdown c s)).frame = s.frame := by
  unfold finishShutdown
  (repeat' split) <;> simp_all

@[simp] theorem shutdown_frame (c : ℕ) (s : State) :
    ((shutdown c s)).frame = s.frame := by
  unfold shutdown
  (repeat' split) <;> simp_all

@[simp] theorem enableEdge_frame (c : ℕ) (s : State) :
    ((enableEdge c s)).frame = s.frame := by
  unfold enableEdge
  (repeat' split) <;> simp_all

@[simp] theorem stopStarts_frame (c : Nat) (s : State) :
    ((stopStarts c s)).frame = s.frame := by
  unfold stopStarts
  (repeat' split) <;> simp_all

@[simp] theorem disableEdge_frame (c : ℕ) (s : State) :
    ((disableEdge c s)).frame = s.frame := by
  unfold disableEdge
  (repeat' split) <;> simp_all

@[simp] theorem learnEdge_frame (c : ℕ) (s : State) :
    ((learnEdge c s)).frame = s.frame := by
  unfold learnEdge
  (repeat' split) <;> simp_all

@[simp] theorem mapsEdge_frame (c : ℕ) (s : State) :
    ((mapsEdge c s)).frame = s.frame := by
  unfold mapsEdge
  (repeat' split) <;> simp_all

@[simp] theorem driftEdge_frame (c : ℕ) (s : State) :
    ((driftEdge c s)).frame = s.frame := by
  unfold driftEdge
  (repeat' split) <;> simp_all

@[simp] theorem enterRetired_frame (c : ℕ) (cause : ℕ) (s : State) :
    ((enterRetired c cause s)).frame = s.frame := by
  unfold enterRetired
  (repeat' split) <;> simp_all

@[simp] theorem retireChannel_frame (c : ℕ) (cause : ℕ) (s : State) :
    ((retireChannel c cause s)).frame = s.frame := by
  unfold retireChannel
  (repeat' split) <;> simp_all

@[simp] theorem shadowFail_frame (c : ℕ) (failed : ℕ) (cause : ℕ) (s : State) :
    ((shadowFail c failed cause s)).frame = s.frame := by
  unfold shadowFail
  (repeat' split) <;> simp_all

@[simp] theorem readmitChannel_frame (c : ℕ) (s : State) :
    ((readmitChannel c s)).frame = s.frame := by
  unfold readmitChannel
  (repeat' split) <;> simp_all

@[simp] theorem commandEdge_frame (c : ℕ) (s : State) :
    ((commandEdge c s)).frame = s.frame := by
  unfold commandEdge
  (repeat' split) <;> (try simp) <;> (repeat' split) <;> (try simp) <;> (repeat' split) <;> simp_all

@[simp] theorem watchEnds_frame (c : Nat) (s : State) :
    ((watchEnds c s)).frame = s.frame := by
  unfold watchEnds
  (repeat' split) <;> simp_all

@[simp] theorem endWindow_frame (c : ℕ) (s : State) :
    ((endWindow c s)).frame = s.frame := by
  unfold endWindow
  (repeat' split) <;> simp_all

@[simp] theorem windowEdge_frame (c : ℕ) (s : State) :
    ((windowEdge c s)).frame = s.frame := by
  unfold windowEdge
  (repeat' split) <;> simp_all

@[simp] theorem countFault_frame (c : ℕ) (s : State) :
    ((countFault c s)).frame = s.frame := by
  unfold countFault
  (repeat' split) <;> simp_all

@[simp] theorem shadowTick_frame (c : ℕ) (s : State) :
    ((shadowTick c s)).frame = s.frame := by
  unfold shadowTick
  (repeat' split) <;> simp_all

@[simp] theorem shadowBoundary_frame (c : ℕ) (s : State) :
    ((shadowBoundary c s)).frame = s.frame := by
  unfold shadowBoundary
  (repeat' split) <;> simp_all

@[simp] theorem epochAdvance_frame (c : ℕ) (s : State) :
    ((epochAdvance c s)).frame = s.frame := by
  unfold epochAdvance
  (repeat' split) <;> simp_all

@[simp] theorem epochBoundary_frame (c : ℕ) (held : Bool) (rim : ℕ) (tb : ℕ) (s : State) :
    ((epochBoundary c held rim tb s)).frame = s.frame := by
  unfold epochBoundary
  (repeat' split) <;> simp_all

@[simp] theorem leaveButtress_frame (c : ℕ) (s : State) :
    ((leaveButtress c s)).frame = s.frame := by
  unfold leaveButtress
  (repeat' split) <;> simp_all

@[simp] theorem retiredMap_frame (c : Nat) (s : State) :
    ((retiredMap c s)).frame = s.frame := by
  unfold retiredMap
  (repeat' split) <;> simp_all

@[simp] theorem channelEdge_frame (rim : ℕ) (tb : ℕ) (leaving : Bool) (c : ℕ) (s : State) :
    ((channelEdge rim tb leaving c s)).frame = s.frame := by
  unfold channelEdge
  (repeat' split) <;> simp_all

@[simp] theorem cistUeRecord_frame (c : Option ℕ) (w : ℕ) (s : State) :
    ((cistUeRecord c w s)).frame = s.frame := by
  unfold cistUeRecord
  (repeat' split) <;> simp_all

@[simp] theorem cistReadEvents_frame (a : ℕ) (n : ℕ) (c : Option ℕ) (s : State) :
    ((cistReadEvents a n c s)).frame = s.frame := by
  unfold cistReadEvents
  (repeat' split) <;> simp_all

@[simp] theorem cistPut_frame (a : ℕ) (bs : List Sys2Proof.Byte) (s : State) :
    ((cistPut a bs s)).frame = s.frame := by
  unfold cistPut
  (repeat' split) <;> simp_all

@[simp] theorem compare_frame (w : ℕ) (c : ℕ) (s : State) :
    ((compare w c s)).frame = s.frame := by
  unfold compare
  (repeat' split) <;> simp_all

@[simp] theorem ringWrite_frame (w : ℕ) (i : ℕ) (v : ℤ) (s : State) :
    ((ringWrite w i v s)).frame = s.frame := by
  unfold ringWrite
  (repeat' split) <;> simp_all

@[simp] theorem overrun_frame (w : ℕ) (s : State) :
    ((overrun w s)).frame = s.frame := by
  unfold overrun
  (repeat' split) <;> simp_all

@[simp] theorem capture_frame (w : ℕ) (data : ℕ) (opn : Bool) (stuck : Bool) (s : State) :
    ((capture w data opn stuck s)).frame = s.frame := by
  unfold capture
  (repeat' split) <;> simp_all

@[simp] theorem presentSample_frame (w : Nat) (data : Nat) (valid : Bool) (opn : Bool) (stuck : Bool) (s : State) :
    ((presentSample w data valid opn stuck s)).frame = s.frame := by
  unfold presentSample
  (repeat' split) <;> (try simp) <;> (repeat' split) <;> (try simp) <;> (repeat' split) <;> simp_all

@[simp] theorem wellEdge_frame (rim : ℕ) (tb : ℕ) (w : ℕ) (s : State) :
    ((wellEdge rim tb w s)).frame = s.frame := by
  unfold wellEdge
  (repeat' split) <;> simp_all

@[simp] theorem wellsEdge_frame (rim : ℕ) (tb : ℕ) (s : State) :
    ((wellsEdge rim tb s)).frame = s.frame := by
  unfold wellsEdge
  (repeat' split) <;> simp_all

@[simp] theorem cutReads_frame (hit : Nat → Bool) (s : State) :
    ((cutReads hit s)).frame = s.frame := by
  unfold cutReads
  (repeat' split) <;> simp_all

@[simp] theorem startWell_frame (w : ℕ) (s : State) :
    ((startWell w s)).frame = s.frame := by
  unfold startWell
  (repeat' split) <;> simp_all

@[simp] theorem stopWell_frame (w : ℕ) (s : State) :
    ((stopWell w s)).frame = s.frame := by
  unfold stopWell
  (repeat' split) <;> simp_all

@[simp] theorem wellCtrl_frame (w : ℕ) (v : Sys2Proof.Word) (s : State) :
    ((wellCtrl w v s).1).frame = s.frame := by
  unfold wellCtrl
  (repeat' split) <;> (try simp) <;> (repeat' split) <;> (try simp) <;> (repeat' split) <;> simp_all

@[simp] theorem wellWordWrite_frame (w : ℕ) (i : ℕ) (v : Sys2Proof.Word) (s : State) :
    ((wellWordWrite w i v s).1).frame = s.frame := by
  unfold wellWordWrite
  (repeat' split) <;> (try simp) <;> (repeat' split) <;> (try simp) <;> (repeat' split) <;> simp_all

@[simp] theorem clearValid_frame (s : State) :
    ((clearValid s)).frame = s.frame := by
  unfold clearValid
  (repeat' split) <;> simp_all

@[simp] theorem applyTickCtrl_frame (s : State) :
    ((applyTickCtrl s)).frame = s.frame := by
  unfold applyTickCtrl
  (repeat' split) <;> simp_all

@[simp] theorem tickCtrlWritten_frame (s : State) :
    ((tickCtrlWritten s)).frame = s.frame := by
  unfold tickCtrlWritten
  (repeat' split) <;> simp_all

@[simp] theorem measure_frame (d : ℕ) (s : State) :
    ((measure d s)).frame = s.frame := by
  unfold measure
  (repeat' split) <;> simp_all

@[simp] theorem dropAllDue_frame (e : Nat) (s : State) :
    (dropAllDue e s).frame = s.frame := by
  unfold dropAllDue
  refine foldS_frame _ _ _ (fun r s => ?_)
  split <;> simp

@[simp] theorem engEnableEdge_frame (e : ℕ) (s : State) :
    ((engEnableEdge e s)).frame = s.frame := by
  unfold engEnableEdge
  (repeat' split) <;> simp_all

@[simp] theorem engDisableEdge_frame (e : ℕ) (s : State) :
    ((engDisableEdge e s)).frame = s.frame := by
  unfold engDisableEdge
  (repeat' split) <;> simp_all

@[simp] theorem retireEngine_frame (e : ℕ) (cause : ℕ) (s : State) :
    ((retireEngine e cause s)).frame = s.frame := by
  unfold retireEngine
  (repeat' split) <;> simp_all

@[simp] theorem readmitEngine_frame (e : ℕ) (s : State) :
    ((readmitEngine e s)).frame = s.frame := by
  unfold readmitEngine
  (repeat' split) <;> simp_all

@[simp] theorem engineEdge_frame (e : ℕ) (s : State) :
    ((engineEdge e s)).frame = s.frame := by
  unfold engineEdge
  (repeat' split) <;> simp_all

@[simp] theorem scheduleChan_frame (c : ℕ) (s : State) :
    ((scheduleChan c s)).frame = s.frame := by
  unfold scheduleChan
  (repeat' split) <;> simp_all

@[simp] theorem overhangAt_frame (e : ℕ) (s : State) :
    ((overhangAt e s)).frame = s.frame := by
  unfold overhangAt
  (repeat' split) <;> simp_all

@[simp] theorem ingressAt_frame (starts : Nat → Bool) (e : Nat) (s : State) :
    ((ingressAt starts e s)).frame = s.frame := by
  unfold ingressAt
  (repeat' split) <;> simp_all

@[simp] theorem ingress_frame (s : State) :
    ((ingress s)).frame = s.frame := by
  unfold ingress
  (repeat' split) <;> simp_all

@[simp] theorem class8_frame (s : State) :
    ((class8 s)).frame = s.frame := by
  unfold class8
  (repeat' split) <;> simp_all

@[simp] theorem buttressEntry_frame (rim : ℕ) (tb : ℕ) (c : ℕ) (s : State) :
    ((buttressEntry rim tb c s)).frame = s.frame := by
  unfold buttressEntry
  (repeat' split) <;> simp_all

@[simp] theorem beginTick_frame (c : ℕ) (s : State) :
    ((beginTick c s)).frame = s.frame := by
  unfold beginTick
  (repeat' split) <;> simp_all

@[simp] theorem snapPulse_frame (s : State) :
    ((snapPulse s)).frame = s.frame := by
  unfold snapPulse
  (repeat' split) <;> simp_all

@[simp] theorem snapshot_frame (rim : ℕ) (s : State) :
    ((snapshot rim s)).frame = s.frame := by
  unfold snapshot
  (repeat' split) <;> simp_all

@[simp] theorem tickEdge_frame (dt : ℕ) (s : State) :
    ((tickEdge dt s)).frame = s.frame := by
  unfold tickEdge
  dsimp only
  repeat' split
  all_goals simp

@[simp] theorem tickLost_frame (s : State) :
    ((tickLost s)).frame = s.frame := by
  unfold tickLost
  dsimp only
  repeat' split
  all_goals (try rfl)
  all_goals simp

@[simp] theorem freeRunExpiry_frame (s : State) :
    ((freeRunExpiry s)).frame = s.frame := by
  unfold freeRunExpiry
  (repeat' split) <;> simp_all

@[simp] theorem guardEdge_frame (s : State) :
    ((guardEdge s)).frame = s.frame := by
  unfold guardEdge
  (repeat' split) <;> simp_all

@[simp] theorem delayedStart_frame (e : ℕ) (s : State) :
    ((delayedStart e s)).frame = s.frame := by
  unfold delayedStart
  (repeat' split) <;> simp_all

@[simp] theorem tripHoldEnd_frame (c : ℕ) (s : State) :
    ((tripHoldEnd c s)).frame = s.frame := by
  unfold tripHoldEnd
  (repeat' split) <;> simp_all

@[simp] theorem State_modPump_frame (s : State) (p : ℕ) (f : Pump → Pump) :
    ((State.modPump s p f)).frame = s.frame := by
  unfold State.modPump
  (repeat' split) <;> simp_all

@[simp] theorem State_modPort_frame (s : State) (p : ℕ) (f : Port → Port) :
    ((State.modPort s p f)).frame = s.frame := by
  unfold State.modPort
  (repeat' split) <;> simp_all

@[simp] theorem tagStall_frame (s : State) :
    ((tagStall s)).frame = s.frame := by
  unfold tagStall
  (repeat' split) <;> simp_all

@[simp] theorem unclean_frame (e : Nat) (c : Nat) (no : Nat) (s : State) :
    ((unclean e c no s)).frame = s.frame := by
  unfold unclean
  (repeat' split) <;> simp_all

@[simp] theorem completionFault_frame (o : PumpOp) (s : State) :
    ((completionFault o s)).frame = s.frame := by
  unfold completionFault
  (repeat' split) <;> simp_all

@[simp] theorem storeCompletion_frame (o : PumpOp) (s : State) :
    ((storeCompletion o s)).frame = s.frame := by
  unfold storeCompletion
  split <;> (try simp [slotDone])

@[simp] theorem freeXid_frame (p : ℕ) (x : ℕ) (s : State) :
    ((freeXid p x s)).frame = s.frame := by
  unfold freeXid
  (repeat' split) <;> simp_all

@[simp] theorem returnXid_frame (o : PumpOp) (s : State) :
    ((returnXid o s)).frame = s.frame := by
  unfold returnXid
  (repeat' split) <;> simp_all

@[simp] theorem completeOp_frame (o : PumpOp) (s : State) :
    ((completeOp o s)).frame = s.frame := by
  unfold completeOp
  (repeat' split) <;> simp_all

@[simp] theorem noteTag_frame (o : PumpOp) (s : State) :
    ((noteTag o s)).frame = s.frame := by
  unfold noteTag
  (repeat' split) <;> simp_all

@[simp] theorem noteXid_frame (o : PumpOp) (s : State) :
    ((noteXid o s)).frame = s.frame := by
  unfold noteXid
  (repeat' split) <;> simp_all

@[simp] theorem notePresented_frame (i : Nat) (s : State) :
    (notePresented i s).frame = s.frame := by
  show (State.modOp s.takeFree.2 i _).frame = s.frame
  simp

@[simp] theorem acceptOp_frame (o : PumpOp) (v : Option Variant) (s : State) :
    ((acceptOp o v s)).frame = s.frame := by
  unfold acceptOp
  (repeat' split) <;> simp_all

@[simp] theorem readPiece_frame (x : Access) (m : Moving) (lanes : List ℤ) :
    ((readPiece x m lanes).1.s).frame = m.s.frame := by
  unfold readPiece
  dsimp only
  repeat' split
  all_goals simp

@[simp] theorem writePiece_frame (x : Access) (m : Moving) (lanes : List (ℤ × List Sys2Proof.Byte)) :
    ((writePiece x m lanes).s).frame = m.s.frame := by
  unfold writePiece
  dsimp only
  repeat' split
  all_goals simp

@[simp] theorem storeReadLanes_frame (e : ℕ) (c : Option ℕ) (m : Moving) (lanes : List ℤ) :
    ((storeReadLanes e c m lanes).1.s).frame = m.s.frame := by
  unfold storeReadLanes
  (repeat' split) <;> simp_all

@[simp] theorem storeWriteLanes_frame (e : ℕ) (tick : Bool) (m : Moving) (lanes : List (ℤ × List Sys2Proof.Byte)) :
    ((storeWriteLanes e tick m lanes).s).frame = m.s.frame := by
  unfold storeWriteLanes
  (repeat' split) <;> simp_all

@[simp] theorem readLanes_frame (x : Access) (d : Desc) (lanes : List (Option ℤ)) (m : Moving) :
    ((readLanes x d lanes m).1.s).frame = m.s.frame := by
  unfold readLanes
  rw [foldl_frameM1]
  intro m g
  dsimp only
  split
  · rfl
  · next as _ => exact readPiece_frame x m.1 _

@[simp] theorem readStoreLanes_frame (e : ℕ) (c : Option ℕ) (d : Desc) (lanes : List (Option ℤ)) (m : Moving) :
    ((readStoreLanes e c d lanes m).1.s).frame = m.s.frame := by
  unfold readStoreLanes
  rw [foldl_frameM1]
  intro m g
  dsimp only
  split
  · rfl
  · next as _ => exact storeReadLanes_frame e c m.1 _

@[simp] theorem writeLanes_frame (x : Access) (lanes : List (Option ℤ × List Sys2Proof.Byte)) (m : Moving) :
    ((writeLanes x lanes m).s).frame = m.s.frame := by
  unfold writeLanes
  exact foldl_frameM _ _ _ (fun m g => writePiece_frame x m _)

@[simp] theorem writeStoreLanes_frame (e : ℕ) (tick : Bool) (lanes : List (Option ℤ × List Sys2Proof.Byte)) (m : Moving) :
    ((writeStoreLanes e tick lanes m).s).frame = m.s.frame := by
  unfold writeStoreLanes
  exact foldl_frameM _ _ _ (fun m g => storeWriteLanes_frame e tick m _)

@[simp] theorem deliver_frame (o : PumpOp) (x : Access) (ep : Endpoint) (lanes : List (Option ℤ × List Sys2Proof.Byte)) (m : Moving) :
    ((deliver o x ep lanes m).s).frame = m.s.frame := by
  unfold deliver
  (repeat' split) <;> simp_all

@[simp] theorem collect_frame (o : PumpOp) (x : Access) (d : Desc) (ep : Endpoint) (lanes : List (Option ℤ)) (m : Moving) :
    ((collect o x d ep lanes m).1.s).frame = m.s.frame := by
  unfold collect
  (repeat' split) <;> simp_all

@[simp] theorem entryEvents_frame (o : PumpOp) (e : Nat) (s : State) :
    ((entryEvents o e s)).frame = s.frame := by
  unfold entryEvents
  (repeat' split) <;> simp_all

@[simp] theorem readEntries_frame (es : List Nat) (o : PumpOp) (s : State) :
    (readEntries es o s).2.frame = s.frame := by
  induction es generalizing o s with
  | nil => rfl
  | cons e es ih => unfold readEntries; rw [ih]; simp

@[simp] theorem readPost_frame (e : Nat) (r : Run) (i : Ins) (a : Nat) (s : State) :
    (readPost e r i a s).2.frame = s.frame := readEntries_frame _ _ _

@[simp] theorem readLateEntries_frame (i : Nat) (s : State) :
    (readLateEntries i s).frame = s.frame := by
  unfold readLateEntries
  split
  · rfl
  · dsimp only
    split
    · rfl
    · simp

@[simp] theorem Moving_hold_frame (m : Moving) (xs : List (Nat × List Byte)) :
    ((Moving.hold m xs).s).frame = m.s.frame := by
  unfold Moving.hold
  (repeat' split) <;> simp_all

@[simp] theorem readLine_frame (o : PumpOp) (n : Nat) (m : Moving) :
    (readLine o n m).s.frame = m.s.frame := by
  unfold readLine
  dsimp only
  (repeat' split) <;> simp

@[simp] theorem formFrames_frame (o : PumpOp) (d : Desc) (m : Moving) :
    ((formFrames o d m).s).frame = m.s.frame := by
  unfold formFrames
  (repeat' split) <;> simp_all

@[simp] theorem turnTile_frame (d : Desc) (first : Nat) (m : Moving) :
    ((turnTile d first m).s).frame = m.s.frame := by
  unfold turnTile
  (repeat' split) <;> simp_all

@[simp] theorem countFlaw_frame (o : PumpOp) (e : Nat) (n : Nat) (m : Moving) :
    ((countFlaw o e n m).s).frame = m.s.frame := by
  unfold countFlaw
  (repeat' split) <;> simp_all

@[simp] theorem performStep_frame (o : PumpOp) (d : Desc) (m : Moving) (st : PumpStep) :
    ((performStep o d m st).s).frame = m.s.frame := by
  unfold performStep
  (repeat' split) <;> simp_all

@[simp] theorem runSteps_frame (n i : Nat) (s : State) :
    (runSteps n i s).frame = s.frame := by
  unfold runSteps
  dsimp only
  split
  · rfl
  · split
    · rfl
    · rw [State_modOp_frame]
      exact (foldl_frameM _ _ _ (fun m st => performStep_frame _ _ m st)).trans (readLateEntries_frame i s)

@[simp] theorem advance_frame (fuel n i : Nat) (s : State) :
    (advance fuel n i s).frame = s.frame := by
  induction fuel generalizing n i s with
  | zero => exact runSteps_frame n i s
  | succ fuel ih =>
    unfold advance
    dsimp only
    split
    · rfl
    · rw [runSteps_frame]
      refine (foldS_frame _ _ _ (fun p s => ?_)).trans (readLateEntries_frame i s)
      split
      · split
        · rw [ih, readLateEntries_frame]
        · rfl
      · rfl

@[simp] theorem advanceOp_frame (n i : Nat) (s : State) :
    (advanceOp n i s).frame = s.frame := advance_frame _ n i s

@[simp] theorem orderIssuer_frame (mine : Issuer → Bool) (store : Bool) (xs : List (Nat × Nat)) (s : State) :
    (orderIssuer mine store xs s).frame = s.frame := by
  unfold orderIssuer
  refine foldS_frame _ _ _ (fun i s => ?_)
  dsimp only
  split <;> simp

@[simp] theorem pumpMove_frame (want : DOp) (i : ℕ) (defer : ℕ) (s : State) :
    ((pumpMove want i defer s)).frame = s.frame := by
  unfold pumpMove
  (repeat' split) <;> simp_all

@[simp] theorem sealIssuer_frame (mine : Issuer → Bool) (s : State) :
    ((sealIssuer mine s)).frame = s.frame := by
  unfold sealIssuer
  (repeat' split) <;> simp_all

@[simp] theorem pumpComplete_frame (i : ℕ) (s : State) :
    ((pumpComplete i s)).frame = s.frame := by
  unfold pumpComplete
  (repeat' split) <;> simp_all

@[simp] theorem wellWaitEnd_frame (i : ℕ) (s : State) :
    ((wellWaitEnd i s)).frame = s.frame := by
  unfold wellWaitEnd
  (repeat' split) <;> simp_all

@[simp] theorem releaseWaiter_frame (w : ℕ × Bool) (s : State) :
    ((releaseWaiter w s)).frame = s.frame := by
  unfold releaseWaiter
  (repeat' split) <;> simp_all

@[simp] theorem ringBell_frame (b : ℕ) (k : ℕ) (s : State) :
    ((ringBell b k s).1).frame = s.frame := by
  unfold ringBell
  (repeat' split) <;> simp_all

@[simp] theorem loadBell_frame (b : ℕ) (v : ℕ) (s : State) :
    ((loadBell b v s)).frame = s.frame := by
  unfold loadBell
  (repeat' split) <;> simp_all

@[simp] theorem takeBell_frame (b : ℕ) (s : State) :
    ((takeBell b s)).frame = s.frame := by
  unfold takeBell
  (repeat' split) <;> simp_all

@[simp] theorem engineRing_frame (e : ℕ) (b : ℕ) (k : ℕ) (r : Run) (s : State) :
    ((engineRing e b k r s)).frame = s.frame := by
  unfold engineRing
  have h := ringBell_frame b k s
  dsimp only
  repeat' split
  all_goals simp_all

@[simp] theorem supervisorRing_frame (b : ℕ) (k : ℕ) (s : State) :
    ((supervisorRing b k s)).frame = s.frame := by
  unfold supervisorRing
  have h := ringBell_frame b k s
  dsimp only
  repeat' split
  all_goals simp_all

@[simp] theorem State_modRun_frame (s : State) (e : ℕ) (f : Run → Run) :
    ((State.modRun s e f)).frame = s.frame := by
  unfold State.modRun
  (repeat' split) <;> simp_all

@[simp] theorem next_frame (e : ℕ) (s : State) :
    ((next e s)).frame = s.frame := by
  unfold next
  (repeat' split) <;> simp_all

@[simp] theorem endTileRun_frame (e : ℕ) (s : State) :
    ((endTileRun e s)).frame = s.frame := by
  unfold endTileRun
  (repeat' split) <;> (try simp) <;> (repeat' split) <;> (try simp) <;> (repeat' split) <;> simp_all

@[simp] theorem doTile_frame (e : ℕ) (r : Run) (m : TileMode) (i : Ins) (ts : List Touch) (s : State) :
    ((doTile e r m i ts s)).frame = s.frame := by
  unfold doTile
  (repeat' split) <;> simp_all

@[simp] theorem doVec_frame (e : ℕ) (o : VecOp) (i : Ins) (ts : List Touch) (s : State) :
    ((doVec e o i ts s)).frame = s.frame := by
  unfold doVec
  (repeat' split) <;> simp_all

@[simp] theorem doRed_frame (e : ℕ) (o : RedOp) (i : Ins) (ts : List Touch) (s : State) :
    ((doRed e o i ts s)).frame = s.frame := by
  unfold doRed
  (repeat' split) <;> simp_all

@[simp] theorem doCmp_frame (e : ℕ) (o : CmpOp) (i : Ins) (ts : List Touch) (s : State) :
    ((doCmp e o i ts s)).frame = s.frame := by
  unfold doCmp
  (repeat' split) <;> simp_all

@[simp] theorem doTrace_frame (e : ℕ) (r : Run) (i : Ins) (ts : List Touch) (s : State) :
    ((doTrace e r i ts s)).frame = s.frame := by
  unfold doTrace
  (repeat' split) <;> simp_all

@[simp] theorem doSrnd_frame (e : ℕ) (i : Ins) (ts : List Touch) (s : State) :
    ((doSrnd e i ts s)).frame = s.frame := by
  unfold doSrnd
  (repeat' split) <;> simp_all

@[simp] theorem doDgate_frame (e : ℕ) (r : Run) (i : Ins) (ts : List Touch) (s : State) :
    ((doDgate e r i ts s)).frame = s.frame := by
  unfold doDgate
  (repeat' split) <;> simp_all

@[simp] theorem doLoop_frame (e : ℕ) (r : Run) (i : Ins) (s : State) :
    ((doLoop e r i s)).frame = s.frame := by
  unfold doLoop
  (repeat' split) <;> simp_all

@[simp] theorem doBr_frame (e : ℕ) (r : Run) (i : Ins) (s : State) :
    ((doBr e r i s)).frame = s.frame := by
  unfold doBr
  (repeat' split) <;> simp_all

@[simp] theorem doAwait_frame (e : ℕ) (b : ℕ) (r : Run) (s : State) :
    ((doAwait e b r s)).frame = s.frame := by
  unfold doAwait
  (repeat' split) <;> simp_all

@[simp] theorem doSeal_frame (e : ℕ) (s : State) :
    ((doSeal e s)).frame = s.frame := by
  unfold doSeal
  (repeat' split) <;> simp_all

@[simp] theorem stallPost_frame (e : Nat) (r : Run) (v : Variant) (o : PumpOp) (s : State) :
    ((stallPost e r v o s)).frame = s.frame := by
  unfold stallPost
  (repeat' split) <;> simp_all

@[simp] theorem doTens_frame (e : Nat) (r : Run) (i : Ins) (v : Variant) (ts : List Touch) (s : State) :
    (doTens e r i v ts s).frame = s.frame := by
  unfold doTens
  dsimp only
  (repeat' split) <;> simp

@[simp] theorem doHalt_frame (e : ℕ) (r : Run) (s : State) :
    ((doHalt e r s)).frame = s.frame := by
  unfold doHalt
  (repeat' split) <;> simp_all

@[simp] theorem countTick_frame (c : ℕ) (s : State) :
    ((countTick c s)).frame = s.frame := by
  unfold countTick
  (repeat' split) <;> simp_all

@[simp] theorem endTick_frame (c : ℕ) (e : ℕ) (r : Run) (strokes : ℕ) (lane : List Sys2Proof.Byte) (s : State) :
    ((endTick c e r strokes lane s)).frame = s.frame := by
  unfold endTick
  (repeat' split) <;> simp_all

@[simp] theorem doHaltV_frame (e : ℕ) (r : Run) (strokes : ℕ) (ts : List Touch) (s : State) :
    ((doHaltV e r strokes ts s)).frame = s.frame := by
  unfold doHaltV
  (repeat' split) <;> simp_all

@[simp] theorem readEvents_frame (e : ℕ) (r : Run) (rs : List (ℕ × ℕ)) (s : State) :
    ((readEvents e r rs s)).frame = s.frame := by
  unfold readEvents
  (repeat' split) <;> simp_all

@[simp] theorem fetchEvents_frame (e : Nat) (r : Run) (s : State) :
    ((fetchEvents e r s)).frame = s.frame := by
  unfold fetchEvents
  (repeat' split) <;> simp_all

@[simp] theorem perform_frame (e : ℕ) (r : Run) (strokes : ℕ) (i : Ins) (ts : List Touch) (s : State) :
    ((perform e r strokes i ts s)).frame = s.frame := by
  unfold perform
  (repeat' split) <;> simp_all

@[simp] theorem issueIns_frame (e : ℕ) (r : Run) (strokes : ℕ) (i : Ins) (s : State) :
    ((issueIns e r strokes i s)).frame = s.frame := by
  unfold issueIns
  (repeat' split) <;> simp_all

@[simp] theorem issue_frame (want : EOp → Bool) (strokes : ℕ) (e : ℕ) (s : State) :
    ((issue want strokes e s)).frame = s.frame := by
  unfold issue
  (repeat' split) <;> simp_all

@[simp] theorem stopHalting_frame (e : Nat) (r : Run) (s : State) :
    ((stopHalting e r s)).frame = s.frame := by
  unfold stopHalting
  (repeat' split) <;> simp_all

@[simp] theorem grantEngine_frame (tick : Bool) (e : Nat) (s : State) :
    ((grantEngine tick e s)).frame = s.frame := by
  unfold grantEngine
  (repeat' split) <;> (try simp) <;> (repeat' split) <;> (try simp) <;> (repeat' split) <;> simp_all

@[simp] theorem putLanes_frame (p : ℕ) (bs : List Sys2Proof.Byte) (s : State) :
    ((putLanes p bs s)).frame = s.frame := by
  unfold putLanes
  (repeat' split) <;> simp_all

@[simp] theorem sendControl_frame (p : ℕ) (t : ℕ) (seq : ℕ) (s : State) :
    ((sendControl p t seq s)).frame = s.frame := by
  unfold sendControl
  (repeat' split) <;> simp_all

@[simp] theorem sendNak_frame (p : ℕ) (s : State) :
    ((sendNak p s)).frame = s.frame := by
  unfold sendNak
  (repeat' split) <;> simp_all

@[simp] theorem flushLate_frame (p : ℕ) (s : State) :
    ((flushLate p s)).frame = s.frame := by
  unfold flushLate
  (repeat' split) <;> simp_all

@[simp] theorem sendPlain_frame (p : ℕ) (bs : List Sys2Proof.Byte) (s : State) :
    ((sendPlain p bs s)).frame = s.frame := by
  unfold sendPlain
  (repeat' split) <;> simp_all

@[simp] theorem inject_frame (p : ℕ) (bs : List Sys2Proof.Byte) (s : State) :
    ((inject p bs s)).frame = s.frame := by
  unfold inject
  (repeat' split) <;> simp_all

@[simp] theorem transmit_frame (p : ℕ) (seq : ℕ) (f : TxFrame) (s : State) :
    ((transmit p seq f s)).frame = s.frame := by
  unfold transmit
  (repeat' split) <;> simp_all

@[simp] theorem enqueue_frame (p : ℕ) (f : TxFrame) (s : State) :
    ((enqueue p f s)).frame = s.frame := by
  unfold enqueue
  (repeat' split) <;> simp_all

@[simp] theorem sendHead_frame (p : ℕ) (s : State) :
    ((sendHead p s)).frame = s.frame := by
  unfold sendHead
  (repeat' split) <;> simp_all

@[simp] theorem measured_frame (p : Nat) (offset : Int) (skew : Nat) (s : State) :
    ((measured p offset skew s)).frame = s.frame := by
  unfold measured
  (repeat' split) <;> simp_all

@[simp] theorem replayFrom_frame (p : ℕ) (n : ℕ) (s : State) :
    ((replayFrom p n s)).frame = s.frame := by
  unfold replayFrom
  (repeat' split) <;> simp_all

@[simp] theorem takeAck_frame (p : ℕ) (a : ℕ) (s : State) :
    ((takeAck p a s)).frame = s.frame := by
  unfold takeAck
  (repeat' split) <;> simp_all

@[simp] theorem takeCredit_frame (p : ℕ) (c : ℕ) (s : State) :
    ((takeCredit p c s)).frame = s.frame := by
  unfold takeCredit
  (repeat' split) <;> simp_all

@[simp] theorem ensureAck_frame (p : ℕ) (s : State) :
    ((ensureAck p s)).frame = s.frame := by
  unfold ensureAck
  (repeat' split) <;> simp_all

@[simp] theorem setLink_frame (p : ℕ) (st : LinkSt) (s : State) :
    ((setLink p st s)).frame = s.frame := by
  unfold setLink
  (repeat' split) <;> simp_all

@[simp] theorem freezeXfers_frame (p : ℕ) (s : State) :
    ((freezeXfers p s)).frame = s.frame := by
  unfold freezeXfers
  (repeat' split) <;> simp_all

@[simp] theorem runXfers_frame (p : ℕ) (s : State) :
    ((runXfers p s)).frame = s.frame := by
  unfold runXfers
  (repeat' split) <;> simp_all

@[simp] theorem leaveUp_frame (p : ℕ) (reason : ℕ) (paused : Bool) (s : State) :
    ((leaveUp p reason paused s)).frame = s.frame := by
  unfold leaveUp
  (repeat' split) <;> simp_all

@[simp] theorem feedLanes_frame (p : Nat) (b0 : List (BitVec 66)) (b1 : List (BitVec 66)) (s : State) :
    ((feedLanes p b0 b1 s)).frame = s.frame := by
  unfold feedLanes
  (repeat' split) <;> simp_all

@[simp] theorem loseTransfers_frame (p : ℕ) (s : State) :
    ((loseTransfers p s)).frame = s.frame := by
  unfold loseTransfers
  (repeat' split) <;> simp_all

@[simp] theorem endPeerService_frame (p : ℕ) (s : State) :
    ((endPeerService p s)).frame = s.frame := by
  unfold endPeerService
  (repeat' split) <;> simp_all

@[simp] theorem clearSequence_frame (p : ℕ) (s : State) :
    ((clearSequence p s)).frame = s.frame := by
  unfold clearSequence
  (repeat' split) <;> simp_all

@[simp] theorem killPort_frame (p : ℕ) (st : LinkSt) (s : State) :
    ((killPort p st s)).frame = s.frame := by
  unfold killPort
  (repeat' split) <;> simp_all

@[simp] theorem linkControl_frame (p : ℕ) (s : State) :
    ((linkControl p s)).frame = s.frame := by
  unfold linkControl
  (repeat' split) <;> simp_all

@[simp] theorem retryStep_frame (p : ℕ) (s : State) :
    ((retryStep p s)).frame = s.frame := by
  unfold retryStep
  (repeat' split) <;> simp_all

@[simp] theorem retryWindowEnd_frame (p : ℕ) (s : State) :
    ((retryWindowEnd p s)).frame = s.frame := by
  unfold retryWindowEnd
  (repeat' split) <;> simp_all

@[simp] theorem blockLockRegained_frame (p : Nat) (b0 : List (BitVec 66)) (b1 : List (BitVec 66)) (s : State) :
    ((blockLockRegained p b0 b1 s)).frame = s.frame := by
  unfold blockLockRegained
  (repeat' split) <;> simp_all

@[simp] theorem laneLockLost_frame (p : Nat) (lane : Nat) (ws : List (BitVec 66)) (s : State) :
    ((laneLockLost p lane ws s)).frame = s.frame := by
  unfold laneLockLost
  (repeat' split) <;> simp_all

@[simp] theorem replayTimer_frame (p : ℕ) (s : State) :
    ((replayTimer p s)).frame = s.frame := by
  unfold replayTimer
  (repeat' split) <;> simp_all

@[simp] theorem heldFrameTimeout_frame (p : ℕ) (s : State) :
    ((heldFrameTimeout p s)).frame = s.frame := by
  unfold heldFrameTimeout
  (repeat' split) <;> simp_all

@[simp] theorem queueBlock_frame (o : PumpOp) (d : Desc) (e : ℕ) (m : Moving) :
    ((queueBlock o d e m).s).frame = m.s.frame := by
  unfold queueBlock
  dsimp only
  rw [foldS_frame _ _ _ (fun a s => by simp), collect_frame]

@[simp] theorem settleRemote_frame (i : ℕ) (s : State) :
    ((settleRemote i s)).frame = s.frame := by
  unfold settleRemote
  (repeat' split) <;> simp_all

@[simp] theorem takeXid_frame (i : ℕ) (s : State) :
    ((takeXid i s)).frame = s.frame := by
  unfold takeXid
  (repeat' split) <;> simp_all

@[simp] theorem remoteSend_frame (read : Bool) (i : ℕ) (s : State) :
    ((remoteSend read i s)).frame = s.frame := by
  unfold remoteSend
  extract_lets s0
  have h0 : s0.frame = s.frame := by
    unfold s0
    repeat' split
    all_goals simp
  split
  · exact h0
  · dsimp only
    split
    · exact h0
    · refine (settleRemote_frame _ _).trans ((State_modOp_frame _ _ _).trans ?_)
      have h2 : ∀ (f : Moving → Nat → Moving) (xs : List Nat) (m : Moving), (∀ m e, (f m e).s.frame = m.s.frame) →
          m.s.frame = s.frame → (xs.foldl f m).s.frame = s.frame := fun f xs m hf hm => (foldl_frameM f xs m hf).trans hm
      split
      · refine h2 _ _ _ (fun m e => countFlaw_frame _ _ _ _) ?_
        exact (foldS_frame _ _ _ (fun a s => enqueue_frame _ _ _)).trans h0
      · refine h2 _ _ _ (fun m e => queueBlock_frame _ _ _ _) ?_
        refine h2 _ _ _ (fun m e => countFlaw_frame _ _ _ _) ?_
        exact (foldS_frame _ _ _ (fun a s => enqueue_frame _ _ _)).trans h0

@[simp] theorem takeRdata_frame (p : ℕ) (f : RxFrame) (s : State) :
    ((takeRdata p f s)).frame = s.frame := by
  unfold takeRdata
  (repeat' split) <;> simp_all

@[simp] theorem takeWdone_frame (p : ℕ) (f : RxFrame) (s : State) :
    ((takeWdone p f s)).frame = s.frame := by
  unfold takeWdone
  (repeat' split) <;> simp_all

@[simp] theorem takeRefuse_frame (p : ℕ) (f : RxFrame) (s : State) :
    ((takeRefuse p f s)).frame = s.frame := by
  unfold takeRefuse
  (repeat' split) <;> simp_all

@[simp] theorem xferTimeout_frame (i : ℕ) (s : State) :
    ((xferTimeout i s)).frame = s.frame := by
  unfold xferTimeout
  (repeat' split) <;> simp_all

@[simp] theorem leaveBuffer_frame (p : Nat) (n : Nat) (s : State) :
    ((leaveBuffer p n s)).frame = s.frame := by
  unfold leaveBuffer
  (repeat' split) <;> simp_all

@[simp] theorem dropBlocks_frame (p : Nat) (gone : PeerBlock → Bool) (s : State) :
    ((dropBlocks p gone s)).frame = s.frame := by
  unfold dropBlocks
  (repeat' split) <;> simp_all

@[simp] theorem modBlock_frame (p : Nat) (x : Nat) (e : Nat) (f : PeerBlock → PeerBlock) (s : State) :
    ((modBlock p x e f s)).frame = s.frame := by
  unfold modBlock
  (repeat' split) <;> simp_all

@[simp] theorem dropBlock_frame (p : ℕ) (x : ℕ) (e : ℕ) (s : State) :
    ((dropBlock p x e s)).frame = s.frame := by
  unfold dropBlock
  (repeat' split) <;> simp_all

@[simp] theorem refuseBlock_frame (p : ℕ) (b : PeerBlock) (s : State) :
    ((refuseBlock p b s)).frame = s.frame := by
  unfold refuseBlock
  (repeat' split) <;> simp_all

@[simp] theorem serveRead_frame (p : ℕ) (o : PumpOp) (b : PeerBlock) (s : State) :
    ((serveRead p o b s)).frame = s.frame := by
  unfold serveRead
  (repeat' split) <;> simp_all

@[simp] theorem serveWrite_frame (p : ℕ) (i : ℕ) (b : PeerBlock) (s : State) :
    ((serveWrite p i b s)).frame = s.frame := by
  unfold serveWrite
  (repeat' split) <;> simp_all

@[simp] theorem startBlock_frame (p : ℕ) (k : ℕ) (b : PeerBlock) (s : State) :
    ((startBlock p k b s)).frame = s.frame := by
  unfold startBlock
  (repeat' split) <;> simp_all

@[simp] theorem stallBlock_frame (p : ℕ) (b : PeerBlock) (s : State) :
    ((stallBlock p b s)).frame = s.frame := by
  unfold stallBlock
  (repeat' split) <;> simp_all

@[simp] theorem serveNext_frame (granted : Bool) (p : ℕ) (s : State) :
    ((serveNext granted p s).1).frame = s.frame := by
  unfold serveNext
  (repeat' split) <;> simp_all

@[simp] theorem servePort_frame (x0 : ℕ) (x1 : ℕ) (x2 : State) :
    ((servePort x0 x1 x2)).frame = x2.frame := by
  induction x0 generalizing x2 with
  | zero => rfl
  | succ n ih =>
    unfold servePort
    dsimp only
    split
    · rw [ih]; simp
    · simp

@[simp] theorem serveAll_frame (p : ℕ) (s : State) :
    ((serveAll p s)).frame = s.frame := by
  unfold serveAll
  (repeat' split) <;> simp_all

@[simp] theorem takeReq_frame (p : ℕ) (f : RxFrame) (s : State) :
    ((takeReq p f s)).frame = s.frame := by
  unfold takeReq
  (repeat' split) <;> simp_all

@[simp] theorem takeWdata_frame (p : ℕ) (f : RxFrame) (s : State) :
    ((takeWdata p f s)).frame = s.frame := by
  unfold takeWdata
  (repeat' split) <;> simp_all

@[simp] theorem takeCancel_frame (p : Nat) (f : RxFrame) (s : State) :
    (takeCancel p f s).frame = s.frame := by
  unfold takeCancel
  dsimp only
  rw [enqueue_frame, dropBlocks_frame]
  refine foldS_frame _ _ _ (fun b s => ?_)
  split <;> simp

@[simp] theorem takeCdone_frame (p : ℕ) (f : RxFrame) (s : State) :
    ((takeCdone p f s)).frame = s.frame := by
  unfold takeCdone
  (repeat' split) <;> simp_all

@[simp] theorem sendHello_frame (p : Nat) (s : State) :
    ((sendHello p s)).frame = s.frame := by
  unfold sendHello
  (repeat' split) <;> simp_all

@[simp] theorem frameTransmit_frame (p : Nat) (s : State) :
    (frameTransmit p s).frame = s.frame := by
  unfold frameTransmit
  dsimp only
  (repeat' split) <;> simp

@[simp] theorem enterUp_frame (p : ℕ) (h : Hello) (s : State) :
    ((enterUp p h s)).frame = s.frame := by
  unfold enterUp
  (repeat' split) <;> simp_all

@[simp] theorem resumeLink_frame (p : ℕ) (h : Hello) (s : State) :
    ((resumeLink p h s)).frame = s.frame := by
  unfold resumeLink
  (repeat' split) <;> simp_all

@[simp] theorem restartLink_frame (p : ℕ) (b : ℕ) (h : Hello) (s : State) :
    ((restartLink p b h s)).frame = s.frame := by
  unfold restartLink
  (repeat' split) <;> simp_all

@[simp] theorem trained_frame (p : Nat) (hello : List Byte) (s : State) :
    ((trained p hello s)).frame = s.frame := by
  unfold trained
  (repeat' split) <;> simp_all

@[simp] theorem trainingComplete_frame (p : Nat) (hello : List Byte) (b0 : List (BitVec 66)) (b1 : List (BitVec 66)) (offset : Int) (skew : Nat) (s : State) :
    ((trainingComplete p hello b0 b1 offset skew s)).frame = s.frame := by
  unfold trainingComplete
  (repeat' split) <;> simp_all

@[simp] theorem takeHello_frame (p : ℕ) (f : RxFrame) (s : State) :
    ((takeHello p f s)).frame = s.frame := by
  unfold takeHello
  (repeat' split) <;> simp_all

@[simp] theorem deliverFrame_frame (p : ℕ) (bs : List Sys2Proof.Byte) (s : State) :
    ((deliverFrame p bs s)).frame = s.frame := by
  unfold deliverFrame
  (repeat' split) <;> simp_all

@[simp] theorem advanceE_frame (p : ℕ) (s : State) :
    ((advanceE p s)).frame = s.frame := by
  unfold advanceE
  (repeat' split) <;> simp_all

@[simp] theorem deliverHeld_frame (x0 : ℕ) (x1 : ℕ) (x2 : State) :
    ((deliverHeld x0 x1 x2)).frame = x2.frame := by
  induction x0 generalizing x2 with
  | zero => rfl
  | succ n ih =>
    unfold deliverHeld
    split
    · rfl
    · rw [ih]; simp

@[simp] theorem resequence_frame (p : ℕ) (bs : List Sys2Proof.Byte) (s : State) :
    ((resequence p bs s)).frame = s.frame := by
  unfold resequence
  (repeat' split) <;> simp_all

@[simp] theorem takeFrame_frame (p : ℕ) (bs : List Sys2Proof.Byte) (s : State) :
    ((takeFrame p bs s)).frame = s.frame := by
  unfold takeFrame
  (repeat' split) <;> simp_all

@[simp] theorem receive_frame (want : ℕ) (p : ℕ) (bs : List Sys2Proof.Byte) (s : State) :
    ((receive want p bs s)).frame = s.frame := by
  unfold receive
  (repeat' split) <;> simp_all

@[simp] theorem journalWrite_frame (s : State) :
    ((journalWrite s)).frame = s.frame := by
  unfold journalWrite
  (repeat' split) <;> simp_all

@[simp] theorem journalDrain_frame (x0 : ℕ) (x1 : State) :
    ((journalDrain x0 x1)).frame = x1.frame := by
  induction x0 generalizing x1 with
  | zero => rfl
  | succ n ih => unfold journalDrain; simp [ih]

@[simp] theorem State_modPower_frame (s : State) (f : Power → Power) :
    ((State.modPower s f)).frame = s.frame := by
  unfold State.modPower
  (repeat' split) <;> simp_all

@[simp] theorem stepVid_frame (c : LevelChange) (m : ℕ) (s : State) :
    ((stepVid c m s)).frame = s.frame := by
  unfold stepVid
  (repeat' split) <;> simp_all

@[simp] theorem paceBroken_frame (s : State) :
    ((paceBroken s)).frame = s.frame := by
  unfold paceBroken
  (repeat' split) <;> simp_all

@[simp] theorem endLean_frame (s : State) :
    ((endLean s)).frame = s.frame := by
  unfold endLean
  (repeat' split) <;> simp_all

@[simp] theorem beginChange_frame (n : ℕ) (s : State) :
    ((beginChange n s)).frame = s.frame := by
  unfold beginChange
  (repeat' split) <;> simp_all

@[simp] theorem powerEvent_frame (i : ℕ) (s : State) :
    ((powerEvent i s)).frame = s.frame := by
  unfold powerEvent
  (repeat' split) <;> simp_all

@[simp] theorem State_modWalk_frame (s : State) (w : ℕ) (f : Walk → Walk) :
    ((State.modWalk s w f)).frame = s.frame := by
  unfold State.modWalk
  (repeat' split) <;> simp_all

@[simp] theorem queryBlock_frame (b : SleepBlock) (s : State) :
    ((queryBlock b s)).frame = s.frame := by
  unfold queryBlock
  (repeat' split) <;> simp_all

@[simp] theorem beginEntry_frame (t : ℕ) (s : State) :
    ((beginEntry t s)).frame = s.frame := by
  unfold beginEntry
  (repeat' split) <;> simp_all

@[simp] theorem startRequest_frame (r : PowerReq) (s : State) :
    ((startRequest r s)).frame = s.frame := by
  unfold startRequest
  (repeat' split) <;> simp_all

@[simp] theorem startPending_frame (s : State) :
    ((startPending s)).frame = s.frame := by
  unfold startPending
  (repeat' split) <;> simp_all

@[simp] theorem endRequest_frame (s : State) :
    ((endRequest s)).frame = s.frame := by
  unfold endRequest
  (repeat' split) <;> simp_all

@[simp] theorem arrive_frame (r : PowerReq) (s : State) :
    ((arrive r s)).frame = s.frame := by
  unfold arrive
  (repeat' split) <;> simp_all

@[simp] theorem runRequest_frame (src : ℕ) (addr : ℕ) (s : State) :
    ((runRequest src addr s)).frame = s.frame := by
  unfold runRequest
  (repeat' split) <;> simp_all

@[simp] theorem vidDwell_frame (s : State) :
    ((vidDwell s)).frame = s.frame := by
  unfold vidDwell
  (repeat' split) <;> simp_all

@[simp] theorem vpgSettle_frame (s : State) :
    ((vpgSettle s)).frame = s.frame := by
  unfold vpgSettle
  (repeat' split) <;> simp_all

@[simp] theorem vpgTimeout_frame (s : State) :
    ((vpgTimeout s)).frame = s.frame := by
  unfold vpgTimeout
  (repeat' split) <;> simp_all

@[simp] theorem vpgFall_frame (s : State) :
    ((vpgFall s)).frame = s.frame := by
  unfold vpgFall
  (repeat' split) <;> simp_all

@[simp] theorem stopBlock_frame (b : SleepBlock) (s : State) :
    ((stopBlock b s)).frame = s.frame := by
  unfold stopBlock
  (repeat' split) <;> simp_all

@[simp] theorem restartBlock_frame (b : SleepBlock) (s : State) :
    ((restartBlock b s)).frame = s.frame := by
  unfold restartBlock
  (repeat' split) <;> simp_all

@[simp] theorem servePeers_frame (s : State) :
    ((servePeers s)).frame = s.frame := by
  unfold servePeers
  (repeat' split) <;> simp_all

@[simp] theorem rollBack_frame (bs : List SleepBlock) (s : State) :
    ((rollBack bs s)).frame = s.frame := by
  unfold rollBack
  (repeat' split) <;> simp_all

@[simp] theorem stewardRefused_frame (s : State) :
    ((stewardRefused s)).frame = s.frame := by
  unfold stewardRefused
  (repeat' split) <;> simp

@[simp] theorem refuseSleep_frame (b : SleepBlock) (s : State) :
    ((refuseSleep b s)).frame = s.frame := by
  unfold refuseSleep
  (repeat' split) <;> simp_all

@[simp] theorem abortSleep_frame (s : State) :
    ((abortSleep s)).frame = s.frame := by
  unfold abortSleep
  (repeat' split) <;> simp_all

@[simp] theorem agreeSleep_frame (s : State) :
    ((agreeSleep s)).frame = s.frame := by
  unfold agreeSleep
  (repeat' split) <;> simp_all

@[simp] theorem sleepAnswer_frame (perf : Bool) (s : State) :
    ((sleepAnswer perf s)).frame = s.frame := by
  unfold sleepAnswer
  (repeat' split) <;> simp_all

@[simp] theorem quiesceAnswer_frame (w : Nat) (agree : Bool) (refuse : Bool) (s : State) :
    ((quiesceAnswer w agree refuse s)).frame = s.frame := by
  unfold quiesceAnswer
  (repeat' split) <;> simp_all

@[simp] theorem quiesceTimeout_frame (w : ℕ) (s : State) :
    ((quiesceTimeout w s)).frame = s.frame := by
  unfold quiesceTimeout
  (repeat' split) <;> simp_all

@[simp] theorem tickUnitTimeout_frame (s : State) :
    ((tickUnitTimeout s)).frame = s.frame := by
  unfold tickUnitTimeout
  (repeat' split) <;> simp_all

@[simp] theorem walkWithdraws_frame (w : ℕ) (s : State) :
    ((walkWithdraws w s)).frame = s.frame := by
  unfold walkWithdraws
  (repeat' split) <;> simp_all

@[simp] theorem drain_frame (s : State) :
    ((drain s)).frame = s.frame := by
  unfold drain
  (repeat' split) <;> simp_all

@[simp] theorem hushExit_frame (src : ℕ) (addr : ℕ) (s : State) :
    ((hushExit src addr s)).frame = s.frame := by
  unfold hushExit
  (repeat' split) <;> simp_all

@[simp] theorem hushGate_frame (s : State) :
    ((hushGate s)).frame = s.frame := by
  unfold hushGate
  (repeat' split) <;> (try simp) <;> (repeat' split) <;> (try simp) <;> (repeat' split) <;> simp_all

@[simp] theorem paceWindowEnd_frame (n : ℕ) (gov : Bool) (s : State) :
    ((paceWindowEnd n gov s)).frame = s.frame := by
  unfold paceWindowEnd
  (repeat' split) <;> simp_all

@[simp] theorem holdSlots_frame (ws : List Nat) (s0 : State) (b : Nat) (s : State) :
    ((holdSlots ws s0 b s)).frame = s.frame := by
  unfold holdSlots
  (repeat' split) <;> simp_all

@[simp] theorem holdPads_frame (s0 : State) (w : Nat) (s : State) :
    ((holdPads s0 w s)).frame = s.frame := by
  unfold holdPads
  (repeat' split) <;> simp_all

@[simp] theorem State_modClo_frame (s : State) (f : Cloister → Cloister) (h : ∀ u, (f u).walks.length = u.walks.length) :
    ((State.modClo s f)).frame = s.frame := by
  unfold State.modClo
  simp [h]

@[simp] theorem loadEnds_frame (err : ℕ) (s : State) :
    ((loadEnds err s)).frame = s.frame := by
  unfold loadEnds
  (repeat' split) <;> simp_all

@[simp] theorem cloLoad_frame (v : Sys2Proof.Word) (s : State) :
    ((cloLoad v s)).frame = s.frame := by
  unfold cloLoad
  (repeat' split) <;> simp_all

@[simp] theorem cloAbort_frame (s : State) :
    ((cloAbort s)).frame = s.frame := by
  unfold cloAbort
  (repeat' split) <;> simp_all

@[simp] theorem frameTaken_frame (typ : ℕ) (memInit : ℕ) (d : List Sys2Proof.Byte) (s : State) :
    ((frameTaken typ memInit d s)).frame = s.frame := by
  unfold frameTaken
  (repeat' split) <;> simp_all

@[simp] theorem State_setLoad_frame (s : State) (l : Load) :
    ((State.setLoad s l)).frame = s.frame := by
  unfold State.setLoad
  (repeat' split) <;> simp_all

@[simp] theorem quietPort_frame (w : ℕ) (s : State) :
    ((quietPort w s)).frame = s.frame := by
  unfold quietPort
  (repeat' split) <;> simp_all

@[simp] theorem enterLoading_frame (l : Load) (s : State) :
    ((enterLoading l s)).frame = s.frame := by
  unfold enterLoading
  (repeat' split) <;> simp_all

@[simp] theorem loadChecks_frame (s : State) (l : Load) :
    ((loadChecks s l)).frame = s.frame := by
  unfold loadChecks
  (repeat' split) <;> simp_all

@[simp] theorem loadLast_frame (s : State) :
    ((loadLast s)).frame = s.frame := by
  unfold loadLast
  (repeat' split) <;> simp_all

@[simp] theorem loadByte_frame (b : Sys2Proof.Byte) (s : State) :
    ((loadByte b s)).frame = s.frame := by
  unfold loadByte
  (repeat' split) <;> simp_all

@[simp] theorem cloConfigWord_frame (n : ℕ) (v : Sys2Proof.Word) (s : State) :
    ((cloConfigWord n v s).1).frame = s.frame := by
  unfold cloConfigWord
  (repeat' split) <;> (try simp) <;> (repeat' split) <;> (try simp) <;> (repeat' split) <;> simp_all

@[simp] theorem flashByte_frame (addr : Nat) (quad : Bool) (b : Option Byte) (s : State) :
    ((flashByte addr quad b s)).frame = s.frame := by
  unfold flashByte
  (repeat' split) <;> simp_all

@[simp] theorem loadTimeout_frame (s : State) :
    ((loadTimeout s)).frame = s.frame := by
  unfold loadTimeout
  (repeat' split) <;> simp_all

@[simp] theorem releaseStage_frame (s : State) :
    ((releaseStage s)).frame = s.frame := by
  unfold releaseStage
  (repeat' split) <;> simp_all

@[simp] theorem cloSafe_frame (r : ℕ) (v : Sys2Proof.Word) (s : State) :
    ((cloSafe r v s)).frame = s.frame := by
  unfold cloSafe
  (repeat' split) <;> simp_all

@[simp] theorem State_modSec_frame (s : State) (f : Sec → Sec) :
    ((State.modSec s f)).frame = s.frame := by
  unfold State.modSec
  (repeat' split) <;> simp_all

@[simp] theorem State_freeBytes_frame (s : State) (x1 : ℕ) :
    ((State.freeBytes s x1).2).frame = s.frame := by
  induction x1 generalizing s with
  | zero => rfl
  | succ n ih => unfold State.freeBytes; simp only [ih]; simp

@[simp] theorem State_modSlot_frame (s : State) (n : ℕ) (f : BindSlot → BindSlot) :
    ((State.modSlot s n f)).frame = s.frame := by
  unfold State.modSlot
  (repeat' split) <;> simp_all

@[simp] theorem secClash_frame (s : State) :
    ((secClash s)).frame = s.frame := by
  unfold secClash
  (repeat' split) <;> simp_all

@[simp] theorem chalIn_frame (v : Sys2Proof.Word) (s : State) :
    ((chalIn v s)).frame = s.frame := by
  unfold chalIn
  (repeat' split) <;> simp_all

@[simp] theorem respOut_frame (s : State) :
    ((respOut s).2).frame = s.frame := by
  unfold respOut
  (repeat' split) <;> simp_all

@[simp] theorem idCert_frame (s : State) :
    ((idCert s).2).frame = s.frame := by
  unfold idCert
  (repeat' split) <;> simp_all

@[simp] theorem ptrClear_frame (s : State) :
    ((ptrClear s)).frame = s.frame := by
  unfold ptrClear
  (repeat' split) <;> simp_all

@[simp] theorem bindData_frame (v : Sys2Proof.Word) (s : State) :
    ((bindData v s)).frame = s.frame := by
  unfold bindData
  (repeat' split) <;> simp_all

@[simp] theorem SecSource_events_frame (d : SecSource) (s : State) :
    ((SecSource.events d s)).frame = s.frame := by
  unfold SecSource.events
  (repeat' split) <;> simp_all

@[simp] theorem secGo_frame (sup : Bool) (cmd : ℕ) (arg : ℕ) (s : State) :
    ((secGo sup cmd arg s)).frame = s.frame := by
  unfold secGo
  (repeat' split) <;> simp_all

@[simp] theorem secFail_frame (code : ℕ) (s : State) :
    ((secFail code s)).frame = s.frame := by
  unfold secFail
  (repeat' split) <;> simp_all

@[simp] theorem secDone_frame (out : List Sys2Proof.Byte) (s : State) :
    ((secDone out s)).frame = s.frame := by
  unfold secDone
  dsimp only
  simp

@[simp] theorem finishProgram_frame (slot : ℕ) (s : State) :
    ((finishProgram slot s)).frame = s.frame := by
  unfold finishProgram
  dsimp only
  split <;> simp [State.takeFree]

@[simp] theorem finishUpdate_frame (input : List Sys2Proof.Byte) (s : State) :
    ((finishUpdate input s)).frame = s.frame := by
  unfold finishUpdate
  (repeat' split) <;> simp_all

@[simp] theorem secComplete_frame (s : State) :
    ((secComplete s)).frame = s.frame := by
  unfold secComplete
  (repeat' split) <;> (try simp) <;> (repeat' split) <;> (try simp) <;> (repeat' split) <;> simp_all

@[simp] theorem updateWaits_frame (s : State) :
    ((updateWaits s)).frame = s.frame := by
  unfold updateWaits
  (repeat' split) <;> simp_all


@[simp] theorem sampleStraps_frame (s : State) :
    ((sampleStraps s)).frame = s.frame := by
  unfold sampleStraps
  (repeat' split) <;> simp_all

@[simp] theorem readyPulse_frame (s : State) :
    ((readyPulse s)).frame = s.frame := by
  unfold readyPulse
  (repeat' split) <;> simp_all

@[simp] theorem State_modTb_frame (s : State) (f : Timebase → Timebase) :
    ((State.modTb s f)).frame = s.frame := by
  unfold State.modTb
  (repeat' split) <;> simp_all

@[simp] theorem changeover_frame (src : Bool) (stop : Bool) (reset : Bool) (s : State) :
    ((changeover src stop reset s)).frame = s.frame := by
  unfold changeover
  (repeat' split) <;> simp_all

@[simp] theorem timebaseCount_frame (s : State) :
    ((timebaseCount s)).frame = s.frame := by
  unfold timebaseCount
  (repeat' split) <;> simp_all

@[simp] theorem tbChangeover_frame (s : State) :
    ((tbChangeover s)).frame = s.frame := by
  unfold tbChangeover
  (repeat' split) <;> simp_all

@[simp] theorem crystalStop_frame (s : State) :
    ((crystalStop s)).frame = s.frame := by
  unfold crystalStop
  (repeat' split) <;> simp_all

@[simp] theorem moveRim_frame (pll : Bool) (s : State) :
    ((moveRim pll s)).frame = s.frame := by
  unfold moveRim
  (repeat' split) <;> simp_all

@[simp] theorem rimSwitch_frame (s : State) :
    ((rimSwitch s)).frame = s.frame := by
  unfold rimSwitch
  (repeat' split) <;> simp_all

@[simp] theorem rimToFio_frame (s : State) :
    ((rimToFio s)).frame = s.frame := by
  unfold rimToFio
  (repeat' split) <;> simp_all

@[simp] theorem pllLockLoss_frame (s : State) :
    ((pllLockLoss s)).frame = s.frame := by
  unfold pllLockLoss
  (repeat' split) <;> simp_all

@[simp] theorem rimPllLock_frame (s : State) :
    ((rimPllLock s)).frame = s.frame := by
  unfold rimPllLock
  (repeat' split) <;> simp_all


@[simp] theorem bootRom_frame (s : State) :
    ((bootRom s)).frame = s.frame := by
  unfold bootRom
  (repeat' split) <;> simp_all

@[simp] theorem startStage_frame (s : State) :
    ((startStage s)).frame = s.frame := by
  unfold startStage
  (repeat' split) <;> simp_all

@[simp] theorem refclkTimeout_frame (s : State) :
    ((refclkTimeout s)).frame = s.frame := by
  unfold refclkTimeout
  (repeat' split) <;> simp_all

@[simp] theorem resetCry_frame (s : State) :
    ((resetCry s)).frame = s.frame := by
  unfold resetCry
  (repeat' split) <;> simp_all


@[simp] theorem resetRelease_frame (s : State) :
    ((resetRelease s)).frame = s.frame := by
  unfold resetRelease
  (repeat' split) <;> simp_all


@[simp] theorem latchWake_frame (src : ℕ) (addr : ℕ) (s : State) :
    ((latchWake src addr s)).frame = s.frame := by
  unfold latchWake
  (repeat' split) <;> simp_all

@[simp] theorem wakeEvent_frame (src : ℕ) (addr : ℕ) (s : State) :
    ((wakeEvent src addr s)).frame = s.frame := by
  unfold wakeEvent
  (repeat' split) <;> simp_all

@[simp] theorem wakeEdge_frame (s : State) :
    ((wakeEdge s)).frame = s.frame := by
  unfold wakeEdge
  (repeat' split) <;> simp_all

@[simp] theorem tickWake_frame (s : State) :
    ((tickWake s)).frame = s.frame := by
  unfold tickWake
  (repeat' split) <;> simp_all

@[simp] theorem listenerMatch_frame (a : BitVec 7) (s : State) :
    ((listenerMatch a s)).frame = s.frame := by
  unfold listenerMatch
  (repeat' split) <;> simp_all



@[simp] theorem tblAdvance_frame (n : ℕ) (s : State) :
    ((tblAdvance n s)).frame = s.frame := by
  unfold tblAdvance
  (repeat' split) <;> simp_all

@[simp] theorem tblFlag_frame (b : ℕ) (s : State) :
    ((tblFlag b s)).frame = s.frame := by
  unfold tblFlag
  (repeat' split) <;> simp_all

@[simp] theorem cistWordPut_frame (a : ℕ) (v : Sys2Proof.Word) (s : State) :
    ((cistWordPut a v s).1).frame = s.frame := by
  unfold cistWordPut
  (repeat' split) <;> simp_all

@[simp] theorem storeWordPut_frame (e : ℕ) (a : ℕ) (v : Sys2Proof.Word) (s : State) :
    ((storeWordPut e a v s).1).frame = s.frame := by
  unfold storeWordPut
  (repeat' split) <;> simp_all

@[simp] theorem rulePut_frame (c : ℕ) (p : ℕ) (v : Sys2Proof.Word) (s : State) :
    ((rulePut c p v s).1).frame = s.frame := by
  unfold rulePut
  refine (foldS_frame1 _ _ _ (fun e x => ?_)).trans rfl
  exact storeWordPut_frame _ _ _ _

@[simp] theorem eccFlag_frame (x : State × Bool) :
    ((eccFlag x)).frame = x.1.frame := by
  unfold eccFlag
  (repeat' split) <;> simp_all

@[simp] theorem deniedFlag_frame (x : State × Bool) :
    ((deniedFlag x)).frame = x.1.frame := by
  unfold deniedFlag
  (repeat' split) <;> simp_all

@[simp] theorem tblWrite_frame (t : ℕ) (i : ℕ) (p : ℕ) (v : Sys2Proof.Word) (s : State) :
    ((tblWrite t i p v s)).frame = s.frame := by
  unfold tblWrite
  split
  · split <;> simp
  all_goals simp

@[simp] theorem cistWordGet_frame (a : ℕ) (s : State) :
    ((cistWordGet a s).2).frame = s.frame := by
  unfold cistWordGet
  (repeat' split) <;> simp_all

@[simp] theorem storeWordGet_frame (e : ℕ) (a : ℕ) (s : State) :
    ((storeWordGet e a s).2).frame = s.frame := by
  unfold storeWordGet
  (repeat' split) <;> simp_all

@[simp] theorem tblRead_frame (t : ℕ) (i : ℕ) (p : ℕ) (s : State) :
    ((tblRead t i p s).2).frame = s.frame := by
  unfold tblRead
  (repeat' split) <;> simp_all

@[simp] theorem windowWrite_frame (v : Sys2Proof.Word) (s : State) :
    ((windowWrite v s)).frame = s.frame := by
  unfold windowWrite
  (repeat' split) <;> (try simp) <;> (repeat' split) <;> (try simp) <;> (repeat' split) <;> simp_all

@[simp] theorem windowWordAt_frame (t : ℕ) (i : ℕ) (p : ℕ) (s : State) :
    ((windowWordAt t i p s).2).frame = s.frame := by
  unfold windowWordAt
  (repeat' split) <;> simp_all

@[simp] theorem windowWords_frame (t : ℕ) (i : ℕ) (p : ℕ) (x3 : ℕ) (x4 : State) :
    ((windowWords t i p x3 x4).2).frame = x4.frame := by
  induction x3 generalizing p x4 with
  | zero => rfl
  | succ n ih => unfold windowWords; simp only [ih]; simp

@[simp] theorem windowReads_frame (n : ℕ) (s : State) :
    ((windowReads n s).2).frame = s.frame := by
  unfold windowReads
  (repeat' split) <;> simp_all

@[simp] theorem bootEnds_frame (src : ℕ) (img : List Sys2Proof.Byte) (code : ℕ) (s : State) :
    ((bootEnds src img code s)).frame = s.frame := by
  unfold bootEnds
  (repeat' split) <;> simp_all

@[simp] theorem flashBoot_frame (image : List Sys2Proof.Byte) (quad : Bool) (s : State) :
    ((flashBoot image quad s)).frame = s.frame := by
  unfold flashBoot
  (repeat' split) <;> simp_all

@[simp] theorem supGo_frame (s : State) :
    ((supGo s)).frame = s.frame := by
  unfold supGo
  (repeat' split) <;> simp_all

@[simp] theorem goTimeout_frame (s : State) :
    ((goTimeout s)).frame = s.frame := by
  unfold goTimeout
  (repeat' split) <;> simp_all

@[simp] theorem supRestart_frame (s : State) :
    ((supRestart s)).frame = s.frame := by
  unfold supRestart
  (repeat' split) <;> simp_all

@[simp] theorem supHalt_frame (on : Bool) (s : State) :
    ((supHalt on s)).frame = s.frame := by
  unfold supHalt
  (repeat' split) <;> simp_all

@[simp] theorem supTrap_frame (cause : Sys2Proof.Word) (s : State) :
    ((supTrap cause s)).frame = s.frame := by
  unfold supTrap
  (repeat' split) <;> simp_all

@[simp] theorem supWfi_frame (s : State) :
    ((supWfi s)).frame = s.frame := by
  unfold supWfi
  (repeat' split) <;> simp_all

@[simp] theorem hostDoorbell_frame (s : State) :
    ((hostDoorbell s)).frame = s.frame := by
  unfold hostDoorbell
  (repeat' split) <;> simp_all

@[simp] theorem handover_frame (s : State) :
    ((handover s)).frame = s.frame := by
  unfold handover
  (repeat' split) <;> simp_all

@[simp] theorem causeClear_frame (v : Sys2Proof.W32) (s : State) :
    ((causeClear v s)).frame = s.frame := by
  unfold causeClear
  (repeat' split) <;> simp_all

@[simp] theorem drawWords_frame (f : State → Sys2Proof.Word × State) (x1 : ℕ) (x2 : State) (h : ∀ s, (f s).2.frame = s.frame) :
    ((drawWords f x1 x2).2).frame = x2.frame := by
  induction x1 generalizing x2 with
  | zero => rfl
  | succ n ih => unfold drawWords; simp only [ih, h]

@[simp] theorem windowRegRead_frame (t : ℕ) (r : ℕ) (n : ℕ) (s : State) :
    ((windowRegRead t r n s).2).frame = s.frame := by
  unfold windowRegRead
  (repeat' split) <;> simp_all

@[simp] theorem wordRead_frame (t : ℕ) (r : ℕ) (s : State) :
    ((wordRead t r s).2).frame = s.frame := by
  unfold wordRead
  split
  · rfl
  · split
    · exact windowRegRead_frame t r 1 s
    · rfl

@[simp] theorem readEach_frame (t r : Nat) (ks : List Nat) (s : State) :
    (readEach t r ks s).2.frame = s.frame := by
  induction ks generalizing s with
  | nil => rfl
  | cons k ks ih =>
    show (readEach t r ks (wordRead t (r + k) s).2).2.frame = s.frame
    rw [ih]; simp

@[simp] theorem bgStart_frame (e : ℕ) (s : State) :
    ((bgStart e s)).frame = s.frame := by
  unfold bgStart
  (repeat' split) <;> simp_all

@[simp] theorem clrFault_frame (e : ℕ) (s : State) :
    ((clrFault e s)).frame = s.frame := by
  unfold clrFault
  (repeat' split) <;> simp_all

@[simp] theorem bankSize_frame (e : ℕ) (v : Sys2Proof.Word) (s : State) :
    ((bankSize e v s)).frame = s.frame := by
  unfold bankSize
  (repeat' split) <;> simp_all

@[simp] theorem pmpCtrl_frame (v : Sys2Proof.Word) (s : State) :
    ((pmpCtrl v s)).frame = s.frame := by
  unfold pmpCtrl
  (repeat' split) <;> simp_all

@[simp] theorem secCtrl_frame (sup : Bool) (v : Sys2Proof.Word) (s : State) :
    ((secCtrl sup v s)).frame = s.frame := by
  unfold secCtrl
  (repeat' split) <;> simp_all

@[simp] theorem cloCtrl_frame (v : Sys2Proof.Word) (s : State) :
    ((cloCtrl v s)).frame = s.frame := by
  unfold cloCtrl
  (repeat' split) <;> simp_all

@[simp] theorem tbSrc_frame (v : Sys2Proof.Word) (s : State) :
    ((tbSrc v s)).frame = s.frame := by
  unfold tbSrc
  (repeat' split) <;> simp_all

@[simp] theorem supCtrl_frame (v : Sys2Proof.Word) (s : State) :
    ((supCtrl v s)).frame = s.frame := by
  unfold supCtrl
  (repeat' split) <;> simp_all

@[simp] theorem injMode_frame (p : ℕ) (v : Sys2Proof.Word) (s : State) :
    ((injMode p v s)).frame = s.frame := by
  unfold injMode
  (repeat' split) <;> simp_all

@[simp] theorem injSeed_frame (p : ℕ) (v : Sys2Proof.Word) (s : State) :
    ((injSeed p v s)).frame = s.frame := by
  unfold injSeed
  (repeat' split) <;> simp_all

@[simp] theorem faultCount_frame (c : ℕ) (v : Sys2Proof.Word) (s : State) :
    ((faultCount c v s)).frame = s.frame := by
  unfold faultCount
  (repeat' split) <;> simp_all

@[simp] theorem devEffect_frame (r : Nat) (v : Word) (s : State) :
    ((devEffect r v s)).frame = s.frame := by
  unfold devEffect
  (repeat' split) <;> simp_all

@[simp] theorem supPut_frame (sup : Bool) (r : ℕ) (v : Sys2Proof.Word) (s : State) (s1 : State) (h1 : s1.frame = s.frame) :
    ((supPut sup r v s s1)).frame = s.frame := by
  unfold supPut
  repeat' split
  all_goals simp_all

@[simp] theorem pwrPut_frame (r : ℕ) (v : Sys2Proof.Word) (s1 : State) :
    ((pwrPut r v s1)).frame = s1.frame := by
  unfold pwrPut
  (repeat' split) <;> simp_all

@[simp] theorem cryPut_frame (r : ℕ) (v : Sys2Proof.Word) (s : State) (s1 : State) (h1 : s1.frame = s.frame) :
    ((cryPut r v s s1)).frame = s.frame := by
  unfold cryPut
  repeat' split
  all_goals simp_all

@[simp] theorem secPut_frame (sup : Bool) (r : ℕ) (v : Sys2Proof.Word) (s : State) (s1 : State) (h1 : s1.frame = s.frame) :
    ((secPut sup r v s s1)).frame = s.frame := by
  unfold secPut
  repeat' split
  all_goals simp_all

@[simp] theorem cloPut_frame (r : ℕ) (v : Sys2Proof.Word) (s : State) (s1 : State) (h1 : s1.frame = s.frame) :
    ((cloPut r v s s1)).frame = s.frame := by
  unfold cloPut
  repeat' split
  all_goals simp_all

@[simp] theorem lnkPut_frame (p : ℕ) (r : ℕ) (v : Sys2Proof.Word) (s : State) (s1 : State) (h1 : s1.frame = s.frame) :
    ((lnkPut p r v s s1)).frame = s.frame := by
  unfold lnkPut
  repeat' split
  all_goals simp_all

@[simp] theorem chPut_frame (c : ℕ) (r : ℕ) (v : Sys2Proof.Word) (s : State) (s1 : State) (h1 : s1.frame = s.frame) :
    ((chPut c r v s s1)).frame = s.frame := by
  unfold chPut
  repeat' split
  all_goals simp_all

@[simp] theorem engPut_frame (e : ℕ) (r : ℕ) (v : Sys2Proof.Word) (s : State) (s1 : State) (h1 : s1.frame = s.frame) :
    ((engPut e r v s s1)).frame = s.frame := by
  unfold engPut
  repeat' split
  all_goals simp_all

@[simp] theorem regPut_frame (sup : Bool) (t : ℕ) (r : ℕ) (i : RegInfo) (v : Sys2Proof.Word) (s : State) :
    ((regPut sup t r i v s)).frame = s.frame := by
  unfold regPut
  (repeat' split) <;> (try simp) <;> (repeat' split) <;> (try simp) <;> (repeat' split) <;> simp_all

@[simp] theorem windowRegWrite_frame (t : ℕ) (r : ℕ) (v : Sys2Proof.Word) (s : State) :
    ((windowRegWrite t r v s)).frame = s.frame := by
  unfold windowRegWrite
  (repeat' split) <;> simp_all

@[simp] theorem wordWrite_frame (sup : Bool) (lk : Bool) (t : ℕ) (r : ℕ) (v : Sys2Proof.Word) (s : State) :
    ((wordWrite sup lk t r v s).1).frame = s.frame := by
  unfold wordWrite
  (repeat' split) <;> simp_all

@[simp] theorem targetWrite_frame (sup : Bool) (lk : Bool) (t : ℕ) (r : ℕ) (v : Sys2Proof.Word) (s : State) :
    ((targetWrite sup lk t r v s).1).frame = s.frame := by
  unfold targetWrite
  split
  · rfl
  · refine (foldS_frame1 _ _ _ (fun m x => ?_)).trans rfl
    exact wordWrite_frame _ _ _ _ _ _

@[simp] theorem State_modCtl_frame (s : State) (f : CtlPort → CtlPort) :
    ((State.modCtl s f)).frame = s.frame := by
  unfold State.modCtl
  (repeat' split) <;> simp_all

@[simp] theorem recordWrite_frame (oc : ℕ) (s : State) :
    ((recordWrite oc s)).frame = s.frame := by
  unfold recordWrite
  (repeat' split) <;> simp_all

@[simp] theorem frameWordPut_frame (lk : Bool) (t r : Nat) (w : Nat × Word) (x : State × Bool) :
    (frameWordPut lk t r w x).1.frame = x.1.frame := targetWrite_frame _ _ _ _ _ _

@[simp] theorem rimWordPut_frame (lk : Bool) (t r : Nat) (w : Nat × Word) (x : (State × Bool) × List (Nat × Word)) :
    (rimWordPut lk t r w x).1.1.frame = x.1.1.frame := by
  unfold rimWordPut
  split
  · rfl
  · exact frameWordPut_frame lk t r w x.1

@[simp] theorem frameWords_frame (t r : Nat) (ws : List (Nat × Word)) (s : State) :
    (frameWords t r ws s).1.frame = s.frame := by
  unfold frameWords
  dsimp only
  refine (foldS_frame1 _ _ _ (frameWordPut_frame _ t r)).trans ?_
  refine (foldS_keeps (fun x : (State × Bool) × List (Nat × Word) => x.1.1.frame) _ (rimWordPut_frame _ t r) _ _).trans ?_
  exact foldS_frame1 _ _ (s, false) (frameWordPut_frame _ t r)

@[simp] theorem writeRun_frame (bs : List Sys2Proof.Byte) (s : State) :
    ((writeRun bs s)).frame = s.frame := by
  unfold writeRun
  (repeat' split) <;> simp_all

@[simp] theorem writeHush_frame (bs : List Sys2Proof.Byte) (s : State) :
    ((writeHush bs s)).frame = s.frame := by
  unfold writeHush
  (repeat' split) <;> simp_all

@[simp] theorem noAnswer_frame (s : State) :
    ((noAnswer s)).frame = s.frame := by
  unfold noAnswer
  (repeat' split) <;> simp_all

@[simp] theorem writeFrame_frame (bs : List Byte) (s : State) :
    (writeFrame bs s).frame = s.frame := by
  unfold writeFrame
  (repeat' split) <;> simp

@[simp] theorem drive_frame (rcur : ℕ) (ws : List Sys2Proof.Word) (s : State) :
    ((drive rcur ws s)).frame = s.frame := by
  unfold drive
  (repeat' split) <;> simp_all

@[simp] theorem readWords_frame (t r : Nat) (ks : List Nat) (s : State) :
    (readWords t r ks s).2.frame = s.frame := by
  show (readEach t r _ (readEach t r _ s).2).2.frame = s.frame
  rw [readEach_frame, readEach_frame]

@[simp] theorem readData_frame (t : ℕ) (r : ℕ) (n : ℕ) (s : State) :
    ((readData t r n s).2.2).frame = s.frame := by
  unfold readData
  dsimp only
  split
  · dsimp only
    split
    · exact windowRegRead_frame t r n s
    · exact readWords_frame t r _ s
  · rfl
  · rfl
  · rfl

@[simp] theorem readChecked_frame (bs : List Sys2Proof.Byte) (s : State) :
    ((readChecked bs s)).frame = s.frame := by
  unfold readChecked
  (repeat' split) <;> simp_all

@[simp] theorem readStarting_frame (bs : List Sys2Proof.Byte) (s : State) :
    ((readStarting bs s)).frame = s.frame := by
  unfold readStarting
  (repeat' split) <;> simp_all

@[simp] theorem readFrame_frame (bs : List Sys2Proof.Byte) (s : State) :
    ((readFrame bs s)).frame = s.frame := by
  unfold readFrame
  (repeat' split) <;> simp_all

@[simp] theorem State_modTap_frame (s : State) (f : Tap → Tap) :
    ((State.modTap s f)).frame = s.frame := by
  unfold State.modTap
  (repeat' split) <;> simp_all

@[simp] theorem tapInstr_frame (i : TapIns) (s : State) :
    ((tapInstr i s)).frame = s.frame := by
  unfold tapInstr
  (repeat' split) <;> simp_all

@[simp] theorem tapReset_frame (s : State) :
    ((tapReset s)).frame = s.frame := by
  unfold tapReset
  (repeat' split) <;> simp_all

@[simp] theorem tapDone_frame (refused : Bool) (addr : ℕ) (data : Sys2Proof.Word) (s : State) :
    ((tapDone refused addr data s)).frame = s.frame := by
  unfold tapDone
  (repeat' split) <;> simp_all

@[simp] theorem regaccAccess_frame (wr : Bool) (t : ℕ) (r : ℕ) (v : Sys2Proof.Word) (s : State) :
    ((regaccAccess wr t r v s)).frame = s.frame := by
  unfold regaccAccess
  dsimp only
  repeat' split
  all_goals simp

@[simp] theorem regaccUpdate_frame (dr : BitVec 34) (s : State) :
    ((regaccUpdate dr s)).frame = s.frame := by
  unfold regaccUpdate
  (repeat' split) <;> simp_all

@[simp] theorem retireBank_frame (b : ℕ) (cause : ℕ) (s : State) :
    ((retireBank b cause s)).frame = s.frame := by
  unfold retireBank
  (repeat' split) <;> simp_all

@[simp] theorem exhausted_frame (i : Sys2Proof.BankId) (column : ℕ) (s : State) :
    ((exhausted i column s)).frame = s.frame := by
  unfold exhausted
  (repeat' split) <;> simp_all

@[simp] theorem assignSpare_frame (i : Sys2Proof.BankId) (column : ℕ) (cause : ℕ) (s : State) :
    ((assignSpare i column cause s)).frame = s.frame := by
  unfold assignSpare
  (repeat' split) <;> simp_all

@[simp] theorem scrubLine_frame (n : ℕ) (b : ℕ) (s : State) :
    ((scrubLine n b s)).frame = s.frame := by
  unfold scrubLine
  (repeat' split) <;> simp_all

@[simp] theorem scrubGranule_frame (n : ℕ) (e : ℕ) (s : State) :
    ((scrubGranule n e s)).frame = s.frame := by
  unfold scrubGranule
  (repeat' split) <;> simp_all

@[simp] theorem scrubInterval_frame (s : State) :
    ((scrubInterval s)).frame = s.frame := by
  unfold scrubInterval
  (repeat' split) <;> simp_all

@[simp] theorem columnTest_frame (i : Sys2Proof.BankId) (result : ℕ) (bitPos : ℕ) (s : State) :
    ((columnTest i result bitPos s)).frame = s.frame := by
  unfold columnTest
  (repeat' split) <;> simp_all

@[simp] theorem spareCopy_frame (i : Sys2Proof.BankId) (s : State) :
    ((spareCopy i s)).frame = s.frame := by
  unfold spareCopy
  (repeat' split) <;> simp_all

@[simp] theorem copyRecords_frame (i : Sys2Proof.BankId) (column : ℕ) (s : State) :
    ((copyRecords i column s)).frame = s.frame := by
  unfold copyRecords
  (repeat' split) <;> simp_all

@[simp] theorem spareSwitch_frame (i : Sys2Proof.BankId) (s : State) :
    ((spareSwitch i s)).frame = s.frame := by
  unfold spareSwitch
  (repeat' split) <;> simp_all

@[simp] theorem repairEdge_frame (c : Sys2Proof.BankId × ℕ) (s : State) :
    ((repairEdge c s)).frame = s.frame := by
  unfold repairEdge
  (repeat' split) <;> simp_all

@[simp] theorem pumpEdge_frame (p : ℕ) (s : State) :
    ((pumpEdge p s)).frame = s.frame := by
  unfold pumpEdge
  (repeat' split) <;> simp_all

@[simp] theorem portEdge_frame (c : ℕ × Bool) (s : State) :
    ((portEdge c s)).frame = s.frame := by
  unfold portEdge
  (repeat' split) <;> simp_all

@[simp] theorem unitCommands_frame (s : State) :
    ((unitCommands s)).frame = s.frame := by
  unfold unitCommands
  (repeat' split) <;> simp_all

@[simp] theorem withEdge_frame (f : State → State) (s : State) (h : ∀ s, (f s).frame = s.frame) :
    ((withEdge f s)).frame = s.frame := by
  unfold withEdge
  dsimp only
  split <;> simp [h]

@[simp] theorem forgetBlock_frame (o : PumpOp) (s : State) :
    ((forgetBlock o s)).frame = s.frame := by
  unfold forgetBlock
  (repeat' split) <;> simp_all

@[simp] theorem completeStill_frame (mine : PumpOp → Bool) (s : State) :
    ((completeStill mine s)).frame = s.frame := by
  unfold completeStill
  refine foldS_frame _ _ _ (fun o s => ?_)
  split <;> simp

@[simp] theorem stillTick_frame (s : State) :
    ((stillTick s)).frame = s.frame := by
  unfold stillTick
  (repeat' split) <;> simp_all

@[simp] theorem stillRun_frame (r : Run) (s : State) :
    ((stillRun r s)).frame = s.frame := by
  unfold stillRun
  (repeat' split) <;> simp_all

@[simp] theorem stopStill_frame (e : ℕ) (r : Run) (s : State) :
    ((stopStill e r s)).frame = s.frame := by
  unfold stopStill
  (repeat' split) <;> simp_all

@[simp] theorem stillEngine_frame (e : ℕ) (s : State) :
    ((stillEngine e s)).frame = s.frame := by
  unfold stillEngine
  (repeat' split) <;> (try simp) <;> (repeat' split) <;> (try simp) <;> (repeat' split) <;> simp_all

@[simp] theorem stillPump_frame (p : ℕ) (s : State) :
    ((stillPump p s)).frame = s.frame := by
  unfold stillPump
  (repeat' split) <;> simp_all

@[simp] theorem stillBank_frame (b : ℕ) (s : State) :
    ((stillBank b s)).frame = s.frame := by
  unfold stillBank
  (repeat' split) <;> simp_all

@[simp] theorem stillPool_frame (s : State) :
    ((stillPool s)).frame = s.frame := by
  unfold stillPool
  (repeat' split) <;> simp_all

@[simp] theorem endWaits_frame (b : Nat) (s : State) :
    ((endWaits b s)).frame = s.frame := by
  unfold endWaits
  (repeat' split) <;> simp_all

@[simp] theorem stillBells_frame (s : State) :
    ((stillBells s)).frame = s.frame := by
  unfold stillBells
  (repeat' split) <;> simp_all

@[simp] theorem stillnessFault_frame (u : Sys2Proof.StillUnit) (s : State) :
    ((stillnessFault u s)).frame = s.frame := by
  unfold stillnessFault
  (repeat' split) <;> simp_all

@[simp] theorem busValue_frame (v : Sys2Proof.W32) (s : State) :
    ((busValue v s)).frame = s.frame := by
  unfold busValue
  (repeat' split) <;> simp_all

@[simp] theorem busDone_frame (s : State) :
    ((busDone s)).frame = s.frame := by
  unfold busDone
  (repeat' split) <;> simp_all

@[simp] theorem busError_frame (s : State) :
    ((busError s)).frame = s.frame := by
  unfold busError
  (repeat' split) <;> simp_all

@[simp] theorem supRing_frame (b : ℕ) (inc : ℕ) (s : State) :
    ((supRing b inc s)).frame = s.frame := by
  unfold supRing
  (repeat' split) <;> simp_all

@[simp] theorem supTry_frame (b : ℕ) (s : State) :
    ((supTry b s)).frame = s.frame := by
  unfold supTry
  (repeat' split) <;> simp_all

@[simp] theorem supPeek_frame (b : ℕ) (s : State) :
    ((supPeek b s)).frame = s.frame := by
  unfold supPeek
  (repeat' split) <;> simp_all

@[simp] theorem bellsWrite_frame (b : ℕ) (v : Sys2Proof.Word) (s : State) :
    ((bellsWrite b v s)).frame = s.frame := by
  unfold bellsWrite
  (repeat' split) <;> simp_all

@[simp] theorem bankReadyMark_frame (c : ℕ) (foreign : Bool) (s : State) :
    ((bankReadyMark c foreign s)).frame = s.frame := by
  unfold bankReadyMark
  (repeat' split) <;> simp_all

@[simp] theorem fltQstat_frame (s : State) :
    ((fltQstat s)).frame = s.frame := by
  unfold fltQstat
  (repeat' split) <;> simp_all

@[simp] theorem fltHeadRead_frame (i : ℕ) (s : State) :
    ((fltHeadRead i s)).frame = s.frame := by
  unfold fltHeadRead
  (repeat' split) <;> simp_all

@[simp] theorem fltPop_frame (s : State) :
    ((fltPop s)).frame = s.frame := by
  unfold fltPop
  split
  · rw [busDone_frame, State_modSup_frame _ _ (fun u => by unfold keepRecord; split <;> rfl)]
    simp
  · simp

@[simp] theorem retireUnit_frame (kind : ℕ) (i : ℕ) (s : State) :
    ((retireUnit kind i s)).frame = s.frame := by
  unfold retireUnit
  (repeat' split) <;> simp_all

@[simp] theorem readmitUnit_frame (kind : ℕ) (i : ℕ) (s : State) :
    ((readmitUnit kind i s)).frame = s.frame := by
  unfold readmitUnit
  (repeat' split) <;> simp_all

@[simp] theorem fltRetire_frame (v : Sys2Proof.W32) (s : State) :
    ((fltRetire v s)).frame = s.frame := by
  unfold fltRetire
  (repeat' split) <;> simp_all

@[simp] theorem fltReadmit_frame (v : Sys2Proof.W32) (s : State) :
    ((fltReadmit v s)).frame = s.frame := by
  unfold fltReadmit
  (repeat' split) <;> simp_all

@[simp] theorem setButtress_frame (s : State) :
    ((setButtress s)).frame = s.frame := by
  unfold setButtress
  (repeat' split) <;> simp_all

@[simp] theorem fltButtress_frame (v : Sys2Proof.W32) (s : State) :
    ((fltButtress v s)).frame = s.frame := by
  unfold fltButtress
  (repeat' split) <;> simp_all

@[simp] theorem queueRepair_frame (i : Sys2Proof.BankId) (column : ℕ) (s : State) :
    ((queueRepair i column s)).frame = s.frame := by
  unfold queueRepair
  (repeat' split) <;> simp_all

@[simp] theorem fltRepair_frame (v : Sys2Proof.W32) (s : State) :
    ((fltRepair v s)).frame = s.frame := by
  unfold fltRepair
  (repeat' split) <;> simp_all

@[simp] theorem fltScrub_frame (v : Sys2Proof.W32) (s : State) :
    ((fltScrub v s)).frame = s.frame := by
  unfold fltScrub
  (repeat' split) <;> simp_all

@[simp] theorem shadowCfg_frame (c : ℕ) (v : Sys2Proof.W32) (s : State) :
    ((shadowCfg c v s)).frame = s.frame := by
  unfold shadowCfg
  (repeat' split) <;> simp_all

@[simp] theorem State_modSlotOf_frame (s : State) (n : ℕ) (f : Slot → Slot) :
    ((State.modSlotOf s n f)).frame = s.frame := by
  unfold State.modSlotOf
  (repeat' split) <;> simp_all

@[simp] theorem postSlot_frame (n p : Nat) (s : State) :
    (postSlot n p s).frame = s.frame := by
  unfold postSlot
  dsimp only
  rw [acceptOp_frame]
  simp

@[simp] theorem supPost_frame (n : ℕ) (p : ℕ) (s : State) :
    ((supPost n p s)).frame = s.frame := by
  unfold supPost
  (repeat' split) <;> simp_all

@[simp] theorem cistLoad_frame (a : ℕ) (n : ℕ) (s : State) :
    ((cistLoad a n s)).frame = s.frame := by
  unfold cistLoad
  (repeat' split) <;> simp_all

@[simp] theorem cistStore_frame (a : ℕ) (n : ℕ) (v : Sys2Proof.W32) (s : State) :
    ((cistStore a n v s)).frame = s.frame := by
  unfold cistStore
  (repeat' split) <;> simp_all

@[simp] theorem regLoad_frame (t : ℕ) (r : ℕ) (s : State) :
    ((regLoad t r s)).frame = s.frame := by
  unfold regLoad
  have h := readData_frame t r 1 s
  dsimp only
  split <;> simp [h]

@[simp] theorem regStore_frame (t : ℕ) (r : ℕ) (v : Sys2Proof.Word) (s : State) :
    ((regStore t r v s)).frame = s.frame := by
  unfold regStore
  dsimp only
  repeat' split
  all_goals simp

@[simp] theorem fltLoad_frame (o : ℕ) (s : State) :
    ((fltLoad o s)).frame = s.frame := by
  unfold fltLoad
  (repeat' split) <;> simp_all

@[simp] theorem fltStore_frame (o : ℕ) (v : Sys2Proof.W32) (s : State) :
    ((fltStore o v s)).frame = s.frame := by
  unfold fltStore
  (repeat' split) <;> simp_all

@[simp] theorem slotLoad_frame (n : ℕ) (o : ℕ) (s : State) :
    ((slotLoad n o s)).frame = s.frame := by
  unfold slotLoad
  (repeat' split) <;> simp_all

@[simp] theorem slotStore_frame (n : ℕ) (o : ℕ) (v : Sys2Proof.W32) (s : State) :
    ((slotStore n o v s)).frame = s.frame := by
  unfold slotStore
  (repeat' split) <;> simp_all

@[simp] theorem supLoad_frame (a : ℕ) (size : ℕ) (s : State) :
    ((supLoad a size s)).frame = s.frame := by
  unfold supLoad
  (repeat' split) <;> simp_all

@[simp] theorem supStore_frame (a : ℕ) (size : ℕ) (v : Sys2Proof.W32) (s : State) :
    ((supStore a size v s)).frame = s.frame := by
  unfold supStore
  (repeat' split) <;> simp_all

@[simp] theorem supFence_frame (s : State) :
    ((supFence s)).frame = s.frame := by
  unfold supFence
  (repeat' split) <;> simp_all

@[simp] theorem takeRequest_frame (s : State) :
    ((takeRequest s)).frame = s.frame := by
  unfold takeRequest
  (repeat' split) <;> simp_all

@[simp] theorem mboxReply_frame (m0 : Sys2Proof.Word) (result : ℕ) (low : ℕ) (w6 : ℕ) (w7 : ℕ) (s : State) :
    ((mboxReply m0 result low w6 w7 s)).frame = s.frame := by
  unfold mboxReply
  (repeat' split) <;> simp_all

@[simp] theorem serveRequest_frame (code : ℕ) (f : State → State × ℕ × ℕ × ℕ × ℕ) (s : State) (h : ∀ s, (f s).1.frame = s.frame) :
    ((serveRequest code f s)).frame = s.frame := by
  unfold serveRequest
  split
  · dsimp only
    rw [mboxReply_frame, h, takeRequest_frame]
  · rfl

@[simp] theorem copyRange_frame (a : ℕ) (b : ℕ) (x : ℕ × ℕ) (s : State) :
    ((copyRange a b x s)).frame = s.frame := by
  unfold copyRange
  (repeat' split) <;> simp_all

@[simp] theorem copyPairs_frame (f : ℕ → ℕ → List (ℕ × ℕ)) (ps : List (ℕ × ℕ)) (s : State) :
    ((copyPairs f ps s)).frame = s.frame := by
  unfold copyPairs
  (repeat' split) <;> simp_all

@[simp] theorem supWrite_frame (t : ℕ) (r : ℕ) (v : Sys2Proof.Word) (s : State) :
    ((supWrite t r v s)).frame = s.frame := by
  unfold supWrite
  (repeat' split) <;> simp_all

@[simp] theorem admitGrant_frame (f : Sys2Proof.Word) (c : ℕ) (v : Sys2Proof.Word) (s : State) :
    ((admitGrant f c v s)).frame = s.frame := by
  unfold admitGrant
  (repeat' split) <;> simp_all

@[simp] theorem admitServe_frame (s : State) :
    ((admitServe s).1).frame = s.frame := by
  unfold admitServe
  (repeat' split) <;> (try simp) <;> (repeat' split) <;> (try simp) <;> (repeat' split) <;> simp_all

@[simp] theorem mboxAdmit_frame (s : State) :
    ((mboxAdmit s)).frame = s.frame := by
  unfold mboxAdmit
  repeat' split
  all_goals (try simp)
  refine serveRequest_frame _ _ _ (fun s => ?_)
  split <;> simp

@[simp] theorem retireServe_frame (s : State) :
    ((retireServe s).1).frame = s.frame := by
  unfold retireServe
  (repeat' split) <;> (try simp) <;> (repeat' split) <;> (try simp) <;> (repeat' split) <;> simp_all

@[simp] theorem readmitChan_frame (c : ℕ) (newMap : Bool) (w cfg : Sys2Proof.Word) (s : State) :
    ((readmitChan c newMap w cfg s).1).frame = s.frame := by
  unfold readmitChan
  (repeat' split) <;> (try simp) <;> (repeat' split) <;> (try simp) <;> (repeat' split) <;> simp_all

@[simp] theorem readmitServe_frame (s : State) :
    ((readmitServe s).1).frame = s.frame := by
  unfold readmitServe
  (repeat' split) <;> (try simp) <;> (repeat' split) <;> (try simp) <;> (repeat' split) <;> simp_all

@[simp] theorem policyRetire_frame (kind i : ℕ) (s : State) :
    ((policyRetire kind i s)).frame = s.frame := by
  unfold policyRetire
  (repeat' split) <;> simp

@[simp] theorem policyEngine_frame (e : ℕ) (s : State) :
    ((policyEngine e s)).frame = s.frame := by
  unfold policyEngine
  (repeat' split) <;> simp

@[simp] theorem policyPump_frame (k : ℕ) (s : State) :
    ((policyPump k s)).frame = s.frame := by
  unfold policyPump
  (repeat' split) <;> simp

@[simp] theorem policyPort_frame (k rim : ℕ) (s : State) :
    ((policyPort k rim s)).frame = s.frame := by
  unfold policyPort
  (repeat' split) <;> simp

@[simp] theorem policyRemap_frame (c : ℕ) (s : State) :
    ((policyRemap c s)).frame = s.frame := by
  unfold policyRemap
  split
  · rfl
  · dsimp only
    split <;> simp

@[simp] theorem policyAct_frame (r : FaultRec) (s : State) :
    ((policyAct r s)).frame = s.frame := by
  unfold policyAct
  (repeat' split) <;> simp

@[simp] theorem keepAll_frame (s : State) :
    ((keepAll s)).frame = s.frame := by
  unfold keepAll
  dsimp only
  rw [foldS_frame]
  · simp
  · intro r s
    rw [policyAct_frame]
    exact State_modSup_frame _ _ (fun u => by unfold keepRecord; split <;> rfl)

@[simp] theorem faultsServe_frame (s : State) :
    ((faultsServe s).1).frame = s.frame := by
  unfold faultsServe
  (repeat' split) <;> (try simp) <;> (repeat' split) <;> (try simp) <;> (repeat' split) <;> simp_all

@[simp] theorem repairServe_frame (s : State) :
    ((repairServe s).1).frame = s.frame := by
  unfold repairServe
  (repeat' split) <;> (try simp) <;> (repeat' split) <;> (try simp) <;> (repeat' split) <;> simp_all

@[simp] theorem stewardPop_frame (s : State) :
    ((stewardPop s)).frame = s.frame := by
  unfold stewardPop
  (repeat' split) <;> simp

@[simp] theorem stewardWfi_frame (s : State) :
    ((stewardWfi s)).frame = s.frame := by
  unfold stewardWfi
  (repeat' split) <;> simp

@[simp] theorem stewardHandover_frame (s : State) :
    ((stewardHandover s)).frame = s.frame := by
  unfold stewardHandover
  (repeat' split) <;> simp

@[simp] theorem mboxRetire_frame (s : State) :
    ((mboxRetire s)).frame = s.frame := by
  unfold mboxRetire
  (repeat' split) <;> simp_all

@[simp] theorem mboxReadmit_frame (s : State) :
    ((mboxReadmit s)).frame = s.frame := by
  unfold mboxReadmit
  (repeat' split) <;> simp_all

@[simp] theorem mboxFaults_frame (s : State) :
    ((mboxFaults s)).frame = s.frame := by
  unfold mboxFaults
  (repeat' split) <;> simp_all

@[simp] theorem mboxRepair_frame (s : State) :
    ((mboxRepair s)).frame = s.frame := by
  unfold mboxRepair
  (repeat' split) <;> simp_all

@[simp] theorem putHeaders_frame (a : ℕ) (bs : List Sys2Proof.Byte) (s : State) :
    ((putHeaders a bs s)).frame = s.frame := by
  unfold putHeaders
  (repeat' split) <;> simp_all

@[simp] theorem imageReads_frame (e : ℕ) (act : Bool) (cs : List ℕ) (s : State) :
    ((imageReads e act cs s)).frame = s.frame := by
  unfold imageReads
  (repeat' split) <;> simp_all

@[simp] theorem sealSession_frame (tag : List Sys2Proof.Byte) (s : State) :
    ((sealSession tag s)).frame = s.frame := by
  unfold sealSession
  split
  · rfl
  · dsimp only
    simp

@[simp] theorem importSession_frame (bad : ℕ) (tag : Option (List Sys2Proof.Byte)) (s : State) :
    ((importSession bad tag s)).frame = s.frame := by
  unfold importSession
  (repeat' split) <;> simp_all

@[simp] theorem wexportServe_frame (s : State) :
    ((wexportServe s).1).frame = s.frame := by
  unfold wexportServe
  (repeat' split) <;> (try simp) <;> (repeat' split) <;> (try simp) <;> (repeat' split) <;> simp_all

@[simp] theorem importChan_frame (e : ℕ) (foreign : Bool) (c : ℕ) (s : State) :
    ((importChan e foreign c s)).frame = s.frame := by
  unfold importChan
  (repeat' split) <;> simp_all

@[simp] theorem wimportServe_frame (s : State) :
    ((wimportServe s).1).frame = s.frame := by
  unfold wimportServe
  (repeat' split) <;> (try simp) <;> (repeat' split) <;> (try simp) <;> (repeat' split) <;> simp_all

@[simp] theorem mboxWexport_frame (s : State) :
    ((mboxWexport s)).frame = s.frame := by
  unfold mboxWexport
  (repeat' split) <;> simp_all

@[simp] theorem mboxWimport_frame (s : State) :
    ((mboxWimport s)).frame = s.frame := by
  unfold mboxWimport
  (repeat' split) <;> simp_all

@[simp] theorem grantEngines_frame (tick : Bool) (es : List Nat) (s : State) :
    ((grantEngines tick es s)).frame = s.frame := by
  unfold grantEngines
  (repeat' split) <;> simp_all

@[simp] theorem grantSupervisor_frame (s : State) :
    ((grantSupervisor s)).frame = s.frame := by
  unfold grantSupervisor
  refine foldS_frame _ _ _ (fun n s => ?_)
  repeat' split
  all_goals simp

@[simp] theorem grantPeers_frame (s : State) :
    ((grantPeers s)).frame = s.frame := by
  unfold grantPeers
  (repeat' split) <;> simp_all

@[simp] theorem tagGrant_frame (s : State) :
    ((tagGrant s)).frame = s.frame := by
  unfold tagGrant
  (repeat' split) <;> simp_all

@[simp] theorem forChan_frame (c : ℕ) (f : State → State) (s : State) (h : ∀ s, (f s).frame = s.frame) :
    ((forChan c f s)).frame = s.frame := by
  unfold forChan
  split <;> simp [h]

@[simp] theorem forEngine_frame (e : ℕ) (f : State → State) (s : State) (h : ∀ s, (f s).frame = s.frame) :
    ((forEngine e f s)).frame = s.frame := by
  unfold forEngine
  split <;> simp [h]

@[simp] theorem forWell_frame (w : ℕ) (f : State → State) (s : State) (h : ∀ s, (f s).frame = s.frame) :
    ((forWell w f s)).frame = s.frame := by
  unfold forWell
  split <;> simp [h]

@[simp] theorem forPort_frame (p : ℕ) (f : State → State) (s : State) (h : ∀ s, (f s).frame = s.frame) :
    ((forPort p f s)).frame = s.frame := by
  unfold forPort
  split <;> simp [h]

@[simp] theorem forLane_frame (p : ℕ) (lane : ℕ) (f : State → State) (s : State) (h : ∀ s, (f s).frame = s.frame) :
    ((forLane p lane f s)).frame = s.frame := by
  unfold forLane
  split <;> simp [h]

@[simp] theorem hostWord_frame (t : ℕ) (r : ℕ) (v : Sys2Proof.Word) (s : State) :
    ((hostWord t r v s)).frame = s.frame := by
  unfold hostWord
  dsimp only
  split <;> simp

@[simp] theorem readAt_frame (t : ℕ) (r : ℕ) (n : ℕ) (s : State) :
    ((readAt t r n s)).frame = s.frame := by
  unfold readAt
  (repeat' split) <;> simp_all

@[simp] theorem registerWrite_frame (src : Sys2Proof.Source) (t : ℕ) (r : ℕ) (v : Sys2Proof.Word) (s : State) :
    ((registerWrite src t r v s)).frame = s.frame := by
  unfold registerWrite
  split
  · dsimp only
    split <;> simp
  · simp
  · simp

@[simp] theorem tickPin_frame (dt : ℕ) (s : State) :
    ((tickPin dt s)).frame = s.frame := by
  unfold tickPin
  (repeat' split) <;> simp_all

@[simp] theorem onEdge_frame (store effect : State → State) (h1 : ∀ s, (store s).frame = s.frame) (h2 : ∀ s, (effect s).frame = s.frame) (s : State) :
    (onEdge store effect s).frame = s.frame := by
  unfold onEdge
  split <;> simp [h1, h2]

@[simp] theorem samplePort_frame (w : Nat) (data : Nat) (valid : Bool) (opn : Bool) (stuck : Bool) (dt : Nat) (s : State) :
    ((samplePort w data valid opn stuck dt s)).frame = s.frame := by
  unfold samplePort
  (repeat' split) <;> simp_all

@[simp] theorem windowExpires_frame (c : ℕ) (s : State) :
    ((windowExpires c s)).frame = s.frame := by
  unfold windowExpires
  (repeat' split) <;> simp_all

@[simp] theorem epochEnds_frame (c : ℕ) (s : State) :
    ((epochEnds c s)).frame = s.frame := by
  unfold epochEnds
  (repeat' split) <;> simp_all

@[simp] theorem newLevels_frame (s : State) :
    ((newLevels s)).frame = s.frame := by
  unfold newLevels
  (repeat' split) <;> simp_all

@[simp] theorem edgeMemory_frame (s : State) (x : Edges) (k : Nat) (w : Nat) (t : State) :
    ((edgeMemory s x k w t)).frame = t.frame := by
  unfold edgeMemory
  (repeat' split) <;> simp_all

@[simp] theorem edgeWalk_frame (s : State) (x : Edges) (w : Nat) (t : State) :
    ((edgeWalk s x w t)).frame = t.frame := by
  unfold edgeWalk
  (repeat' split) <;> simp_all

@[simp] theorem clockEdge_frame (s : State) :
    ((clockEdge s)).frame = s.frame := by
  unfold clockEdge
  (repeat' split) <;> simp_all

/-- The user clocks change the queue, and neither the part nor the numbers of units. -/
theorem userClock_shape (s : State) : (userClock s).part = s.part ∧ (userClock s).shape = s.shape := by
  have h := clockEdge_frame s
  unfold userClock
  split
  · exact ⟨rfl, rfl⟩
  · have h1 : ∀ t : State, t.frame = s.frame → (afterEdges s t).part = s.part ∧ (afterEdges s t).shape = s.shape :=
      fun t ht => ⟨congrArg (·.1) ht, congrArg (·.2.1) ht⟩
    exact h1 _ h

end Sys2Proof.Machine
end

