-- ==== Sys2Proof/Laws/Lock.lean ====
section
/-! SUPPORT. Each operation that is no register write and no reset leaves DEV_CTRL, and with it LOCK, alone. -/

namespace Sys2Proof.Machine
open Sys2Proof
set_option linter.all false

/-- DEV_CTRL as stored. -/
def State.devCtrl (s : State) : Word := s.rd DEV 0x03

@[simp] theorem State.devCtrl_mk (x : State) (now tick pace chans wells engs ops nextOp pumps bells tables cist cistUe
    cistCe banks storeBanks journal faults ctl sup clo ports power tbase sec tap tb free pending) :
    (State.mk x.part x.straps x.regs now tick pace chans wells engs ops nextOp pumps bells tables cist cistUe cistCe banks
      storeBanks journal faults ctl sup clo ports power tbase sec tap tb free pending).devCtrl = x.devCtrl := rfl
theorem State.devCtrl_wr (s : State) (t r : Nat) (v : Word) (h : 256 * t + r ≠ 3) : (s.wr t r v).devCtrl = s.devCtrl :=
  State.rd_wr_other _ _ _ _ _ _ (Ne.symm h)
@[simp] theorem State.devCtrl_wrCH (s : State) (c r : Nat) (v : Word) : (s.wr (CH c) r v).devCtrl = s.devCtrl :=
  s.devCtrl_wr _ _ _ (by unfold CH; omega)
@[simp] theorem State.devCtrl_wrENG (s : State) (c r : Nat) (v : Word) : (s.wr (ENG c) r v).devCtrl = s.devCtrl :=
  s.devCtrl_wr _ _ _ (by unfold ENG; omega)
@[simp] theorem State.devCtrl_wrLNK (s : State) (c r : Nat) (v : Word) : (s.wr (LNK c) r v).devCtrl = s.devCtrl :=
  s.devCtrl_wr _ _ _ (by unfold LNK; omega)
@[simp] theorem State.devCtrl_wrTgt (s : State) (c r : Nat) (v : Word) : (s.wr (c + 1) r v).devCtrl = s.devCtrl :=
  s.devCtrl_wr _ _ _ (by omega)
@[simp] theorem State.devCtrl_wrSUP (s : State) (r : Nat) (v : Word) : (s.wr SUP r v).devCtrl = s.devCtrl := s.devCtrl_wr _ _ _ (by unfold SUP; omega)
@[simp] theorem State.devCtrl_wrPWR (s : State) (r : Nat) (v : Word) : (s.wr PWR r v).devCtrl = s.devCtrl := s.devCtrl_wr _ _ _ (by unfold PWR; omega)
@[simp] theorem State.devCtrl_wrCRY (s : State) (r : Nat) (v : Word) : (s.wr CRY r v).devCtrl = s.devCtrl := s.devCtrl_wr _ _ _ (by unfold CRY; omega)
@[simp] theorem State.devCtrl_wrSEC (s : State) (r : Nat) (v : Word) : (s.wr SEC r v).devCtrl = s.devCtrl := s.devCtrl_wr _ _ _ (by unfold SEC; omega)
@[simp] theorem State.devCtrl_wrPMP (s : State) (r : Nat) (v : Word) : (s.wr PMP r v).devCtrl = s.devCtrl := s.devCtrl_wr _ _ _ (by unfold PMP; omega)
@[simp] theorem State.devCtrl_wrCLO (s : State) (r : Nat) (v : Word) : (s.wr CLO r v).devCtrl = s.devCtrl := s.devCtrl_wr _ _ _ (by unfold CLO; omega)
@[simp] theorem State.devCtrl_wrDEV (s : State) (r : Nat) (v : Word) (h : r ≠ 3) : (s.wr DEV r v).devCtrl = s.devCtrl := s.devCtrl_wr _ _ _ (by unfold DEV; omega)
@[simp] theorem devCtrl_ite (c : Prop) [Decidable c] (a b : State) : (if c then a else b).devCtrl = if c then a.devCtrl else b.devCtrl := by
  split <;> rfl
@[simp] theorem foldS_devCtrl {α : Type} (f : α → State → State) (xs : List α) (s : State)
    (h : ∀ a s, (f a s).devCtrl = s.devCtrl) : (foldS f xs s).devCtrl = s.devCtrl := foldS_keeps State.devCtrl f h xs s
theorem foldS_devCtrl1 {α β : Type} (f : α → State × β → State × β) (xs : List α) (x : State × β)
    (h : ∀ a x, (f a x).1.devCtrl = x.1.devCtrl) : (foldS f xs x).1.devCtrl = x.1.devCtrl :=
  foldS_keeps (fun x : State × β => x.1.devCtrl) f h xs x
theorem foldl_devCtrlM {α : Type} (f : Moving → α → Moving) (xs : List α) (m : Moving)
    (h : ∀ m a, (f m a).s.devCtrl = m.s.devCtrl) : (xs.foldl f m).s.devCtrl = m.s.devCtrl := by
  induction xs generalizing m with
  | nil => rfl
  | cons x xs ih => rw [List.foldl_cons, ih, h]
theorem foldl_devCtrlM1 {α β : Type} (f : Moving × β → α → Moving × β) (xs : List α) (m : Moving × β)
    (h : ∀ m a, (f m a).1.s.devCtrl = m.1.s.devCtrl) : (xs.foldl f m).1.s.devCtrl = m.1.s.devCtrl := by
  induction xs generalizing m with
  | nil => rfl
  | cons x xs ih => rw [List.foldl_cons, ih, h]



@[simp] theorem State_setB_devCtrl (s : State) (t r i : Nat) (h : 256 * t + r ≠ 3) : (s.setB t r i).devCtrl = s.devCtrl := s.devCtrl_wr _ _ _ h

@[simp] theorem State_clrB_devCtrl (s : State) (t r i : Nat) (h : 256 * t + r ≠ 3) : (s.clrB t r i).devCtrl = s.devCtrl := s.devCtrl_wr _ _ _ h

@[simp] theorem State_putB_devCtrl (s : State) (t r i : Nat) (b : Bool) (h : 256 * t + r ≠ 3) : (s.putB t r i b).devCtrl = s.devCtrl := s.devCtrl_wr _ _ _ h

@[simp] theorem State_modChan_devCtrl (s : State) (c : ℕ) (f : Channel → Channel) :
    ((State.modChan s c f)).devCtrl = s.devCtrl := by
  unfold State.modChan
  (repeat' split) <;> simp_all

@[simp] theorem State_mapChans_devCtrl (s : State) (f : Channel → Channel) :
    ((State.mapChans s f)).devCtrl = s.devCtrl := by
  unfold State.mapChans
  (repeat' split) <;> simp_all

@[simp] theorem State_modWell_devCtrl (s : State) (w : ℕ) (f : Well → Well) :
    ((State.modWell s w f)).devCtrl = s.devCtrl := by
  unfold State.modWell
  (repeat' split) <;> simp_all

@[simp] theorem State_modEng_devCtrl (s : State) (e : ℕ) (f : Engine → Engine) :
    ((State.modEng s e f)).devCtrl = s.devCtrl := by
  unfold State.modEng
  (repeat' split) <;> simp_all

@[simp] theorem State_modBank_devCtrl (s : State) (b : ℕ) (f : Bank → Bank) :
    ((State.modBank s b f)).devCtrl = s.devCtrl := by
  unfold State.modBank
  (repeat' split) <;> simp_all

@[simp] theorem State_modBankOf_devCtrl (s : State) (i : Sys2Proof.BankId) (f : Bank → Bank) :
    ((State.modBankOf s i f)).devCtrl = s.devCtrl := by
  unfold State.modBankOf
  (repeat' split) <;> simp_all

@[simp] theorem State_modBell_devCtrl (s : State) (b : ℕ) (f : Bell → Bell) :
    ((State.modBell s b f)).devCtrl = s.devCtrl := by
  unfold State.modBell
  (repeat' split) <;> simp_all

@[simp] theorem State_modOp_devCtrl (s : State) (i : ℕ) (f : PumpOp → PumpOp) :
    ((State.modOp s i f)).devCtrl = s.devCtrl := by
  unfold State.modOp
  (repeat' split) <;> simp_all

@[simp] theorem State_modSup_devCtrl (s : State) (f : Sup → Sup) :
    ((State.modSup s f)).devCtrl = s.devCtrl := by
  unfold State.modSup
  simp

@[simp] theorem State_setTries_devCtrl (n : ℕ) (s : State) : (s.setTries n).devCtrl = s.devCtrl := rfl

@[simp] theorem State_modPolicy_devCtrl (f : Policy → Policy) (s : State) : (s.modPolicy f).devCtrl = s.devCtrl := rfl

@[simp] theorem State_pass_devCtrl (s : State) (d : ℕ) :
    ((State.pass s d)).devCtrl = s.devCtrl := by
  unfold State.pass
  (repeat' split) <;> simp_all

@[simp] theorem State_reach_devCtrl (s : State) (t : ℕ) :
    ((State.reach s t)).devCtrl = s.devCtrl := by
  unfold State.reach
  (repeat' split) <;> simp_all

@[simp] theorem supCauseSet_devCtrl (m : Sys2Proof.W32) (s : State) :
    ((supCauseSet m s)).devCtrl = s.devCtrl := by
  unfold supCauseSet
  (repeat' split) <;> simp_all

@[simp] theorem raise_devCtrl (i : ℕ) (s : State) :
    ((raise i s)).devCtrl = s.devCtrl := by
  unfold raise
  (repeat' split) <;> simp_all

@[simp] theorem cfgConflict_devCtrl (s : State) :
    ((cfgConflict s)).devCtrl = s.devCtrl := by
  unfold cfgConflict
  (repeat' split) <;> simp_all

@[simp] theorem frameError_devCtrl (s : State) :
    ((frameError s)).devCtrl = s.devCtrl := by
  unfold frameError
  (repeat' split) <;> simp_all

@[simp] theorem bump16_devCtrl (t r d : Nat) (s : State) (h : 256 * t + r ≠ 3) : (bump16 t r d s).devCtrl = s.devCtrl := s.devCtrl_wr _ _ _ h
@[simp] theorem setB_devCtrlCH (s : State) (c r : Nat) (i : Nat) : (s.setB (CH c) r i).devCtrl = s.devCtrl := s.devCtrl_wr _ _ _ (by unfold CH; omega)
@[simp] theorem clrB_devCtrlCH (s : State) (c r : Nat) (i : Nat) : (s.clrB (CH c) r i).devCtrl = s.devCtrl := s.devCtrl_wr _ _ _ (by unfold CH; omega)
@[simp] theorem putB_devCtrlCH (s : State) (c r : Nat) (i : Nat) (b : Bool) : (s.putB (CH c) r i b).devCtrl = s.devCtrl := s.devCtrl_wr _ _ _ (by unfold CH; omega)
@[simp] theorem setB_devCtrlENG (s : State) (c r : Nat) (i : Nat) : (s.setB (ENG c) r i).devCtrl = s.devCtrl := s.devCtrl_wr _ _ _ (by unfold ENG; omega)
@[simp] theorem clrB_devCtrlENG (s : State) (c r : Nat) (i : Nat) : (s.clrB (ENG c) r i).devCtrl = s.devCtrl := s.devCtrl_wr _ _ _ (by unfold ENG; omega)
@[simp] theorem putB_devCtrlENG (s : State) (c r : Nat) (i : Nat) (b : Bool) : (s.putB (ENG c) r i b).devCtrl = s.devCtrl := s.devCtrl_wr _ _ _ (by unfold ENG; omega)
@[simp] theorem setB_devCtrlLNK (s : State) (c r : Nat) (i : Nat) : (s.setB (LNK c) r i).devCtrl = s.devCtrl := s.devCtrl_wr _ _ _ (by unfold LNK; omega)
@[simp] theorem clrB_devCtrlLNK (s : State) (c r : Nat) (i : Nat) : (s.clrB (LNK c) r i).devCtrl = s.devCtrl := s.devCtrl_wr _ _ _ (by unfold LNK; omega)
@[simp] theorem putB_devCtrlLNK (s : State) (c r : Nat) (i : Nat) (b : Bool) : (s.putB (LNK c) r i b).devCtrl = s.devCtrl := s.devCtrl_wr _ _ _ (by unfold LNK; omega)

@[simp] theorem setChState_devCtrl (c : ℕ) (st : ChState) (s : State) :
    ((setChState c st s)).devCtrl = s.devCtrl := by
  unfold setChState
  (repeat' split) <;> simp_all

@[simp] theorem promiseBroken_devCtrl (stall : Bool) (no : ℕ) (cs : List ℕ) (s : State) :
    ((promiseBroken stall no cs s)).devCtrl = s.devCtrl := by
  unfold promiseBroken
  (repeat' split) <;> simp_all

@[simp] theorem faultRecord_devCtrl (src : ℕ) (unit : ℕ) (chan : ℕ) (flags : ℕ) (detail : ℕ) (detail2 : ℕ) (s : State) :
    ((faultRecord src unit chan flags detail detail2 s)).devCtrl = s.devCtrl := by
  unfold faultRecord
  (repeat' split) <;> simp_all

@[simp] theorem chargeChannel_devCtrl (c : ℕ) (s : State) :
    ((chargeChannel c s)).devCtrl = s.devCtrl := by
  unfold chargeChannel
  (repeat' split) <;> simp_all

@[simp] theorem tickFault_devCtrl (src : ℕ) (unit : ℕ) (c : ℕ) (no : ℕ) (flags : ℕ) (detail : ℕ) (detail2 : ℕ) (s : State) :
    ((tickFault src unit c no flags detail detail2 s)).devCtrl = s.devCtrl := by
  unfold tickFault
  (repeat' split) <;> simp_all

@[simp] theorem numberEntry_devCtrl (bs : List Byte) (s : State) :
    ((numberEntry bs s)).devCtrl = s.devCtrl := by
  unfold numberEntry
  (repeat' split) <;> simp_all

@[simp] theorem journal_devCtrl (typ : ℕ) (chan : ℕ) (cls : ℕ) (flags : ℕ) (score : ℕ) (aux : ℕ) (rim : ℕ) (tb : ℕ) (payload : List Sys2Proof.Byte) (s : State) :
    ((journal typ chan cls flags score aux rim tb payload s)).devCtrl = s.devCtrl := by
  unfold journal
  (repeat' split) <;> simp_all

@[simp] theorem collectEntries_devCtrl (s : State) :
    ((collectEntries s)).devCtrl = s.devCtrl := by
  unfold collectEntries
  (repeat' split) <;> simp_all

@[simp] theorem settleEntries_devCtrl (s : State) :
    ((settleEntries s)).devCtrl = s.devCtrl := by
  unfold settleEntries
  (repeat' split) <;> simp_all

@[simp] theorem startHold_devCtrl (c : ℕ) (t : ℕ) (s : State) :
    ((startHold c t s)).devCtrl = s.devCtrl := by
  unfold startHold
  (repeat' split) <;> simp_all

@[simp] theorem State_takeFree_devCtrl (s : State) :
    ((State.takeFree s).2).devCtrl = s.devCtrl := by
  unfold State.takeFree
  (repeat' split) <;> simp_all

@[simp] theorem latchRegs_devCtrl (c : ℕ) (score : ℕ) (kind : ℕ) (cls : ℕ) (srcB : Bool) (s : State) :
    ((latchRegs c score kind cls srcB s)).devCtrl = s.devCtrl := by
  unfold latchRegs
  (repeat' split) <;> simp_all

@[simp] theorem formReport_devCtrl (s : State) :
    ((formReport s)).devCtrl = s.devCtrl := by
  unfold formReport
  (repeat' split) <;> simp_all

@[simp] theorem journalVerdict_devCtrl (c : ℕ) (cls : ℕ) (kind : ℕ) (flags : ℕ) (score : ℕ) (payload : List Sys2Proof.Byte) (s : State) :
    ((journalVerdict c cls kind flags score payload s)).devCtrl = s.devCtrl := by
  unfold journalVerdict
  (repeat' split) <;> simp_all

@[simp] theorem latchUsed_devCtrl (c : ℕ) (score : ℕ) (kind : ℕ) (payload : List Sys2Proof.Byte) (s : State) :
    ((latchUsed c score kind payload s)).devCtrl = s.devCtrl := by
  unfold latchUsed
  (repeat' split) <;> simp_all

@[simp] theorem latchTrial_devCtrl (c : ℕ) (score : ℕ) (kind : ℕ) (payload : List Sys2Proof.Byte) (s : State) :
    ((latchTrial c score kind payload s)).devCtrl = s.devCtrl := by
  unfold latchTrial
  (repeat' split) <;> simp_all

@[simp] theorem latchLate_devCtrl (c : Nat) (score : Nat) (kind : Nat) (brk : Bool) (bt : Nat) (rim : Nat) (tb : Nat) (payload : List Byte) (s : State) :
    ((latchLate c score kind brk bt rim tb payload s)).devCtrl = s.devCtrl := by
  unfold latchLate
  (repeat' split) <;> simp_all

@[simp] theorem latchButtress_devCtrl (c : ℕ) (cls : ℕ) (s : State) :
    ((latchButtress c cls s)).devCtrl = s.devCtrl := by
  unfold latchButtress
  (repeat' split) <;> simp_all

@[simp] theorem latchEngine_devCtrl (c : Nat) (no : Nat) (score : Nat) (kind : Nat) (clean : Bool) (bt : Nat) (rim : Nat) (tb : Nat) (payload : List Byte) (s : State) :
    ((latchEngine c no score kind clean bt rim tb payload s)).devCtrl = s.devCtrl := by
  unfold latchEngine
  (repeat' split) <;> simp_all

@[simp] theorem guardChannel_devCtrl (c : ℕ) (s : State) :
    ((guardChannel c s)).devCtrl = s.devCtrl := by
  unfold guardChannel
  (repeat' split) <;> simp_all

@[simp] theorem closeTick_devCtrl (s : State) :
    ((closeTick s)).devCtrl = s.devCtrl := by
  unfold closeTick
  (repeat' split) <;> simp_all

@[simp] theorem vdDrive_devCtrl (s : State) :
    ((vdDrive s)).devCtrl = s.devCtrl := by
  unfold vdDrive
  (repeat' split) <;> simp_all

@[simp] theorem State_modLearn_devCtrl (s : State) (c : ℕ) (f : Learn → Learn) :
    ((State.modLearn s c f)).devCtrl = s.devCtrl := by
  unfold State.modLearn
  (repeat' split) <;> simp_all

@[simp] theorem State_modDrift_devCtrl (s : State) (c : ℕ) (f : Drift → Drift) :
    ((State.modDrift s c f)).devCtrl = s.devCtrl := by
  unfold State.modDrift
  (repeat' split) <;> simp_all

@[simp] theorem swapBanks_devCtrl (c : ℕ) (s : State) :
    ((swapBanks c s)).devCtrl = s.devCtrl := by
  unfold swapBanks
  (repeat' split) <;> simp_all

@[simp] theorem setReady_devCtrl (c : ℕ) (f : Option Bool) (s : State) :
    ((setReady c f s)).devCtrl = s.devCtrl := by
  unfold setReady
  (repeat' split) <;> simp_all

@[simp] theorem edgeSwap_devCtrl (c : ℕ) (s : State) :
    ((edgeSwap c s)).devCtrl = s.devCtrl := by
  unfold edgeSwap
  (repeat' split) <;> simp_all

@[simp] theorem settleSweep_devCtrl (c : ℕ) (s : State) :
    ((settleSweep c s)).devCtrl = s.devCtrl := by
  unfold settleSweep
  (repeat' split) <;> simp_all

@[simp] theorem dropPending_devCtrl (c : ℕ) (s : State) :
    ((dropPending c s)).devCtrl = s.devCtrl := by
  unfold dropPending
  (repeat' split) <;> simp_all

@[simp] theorem startSweep_devCtrl (c : ℕ) (s : State) :
    ((startSweep c s)).devCtrl = s.devCtrl := by
  unfold startSweep
  (repeat' split) <;> simp_all

@[simp] theorem endEpoch_devCtrl (c : ℕ) (held : Bool) (rim : ℕ) (tb : ℕ) (s : State) :
    ((endEpoch c held rim tb s)).devCtrl = s.devCtrl := by
  unfold endEpoch
  (repeat' split) <;> simp_all

@[simp] theorem completeSweep_devCtrl (c : ℕ) (s : State) :
    ((completeSweep c s)).devCtrl = s.devCtrl := by
  unfold completeSweep
  (repeat' split) <;> simp_all

@[simp] theorem sweepPartDone_devCtrl (c : ℕ) (e : ℕ) (s : State) :
    ((sweepPartDone c e s)).devCtrl = s.devCtrl := by
  unfold sweepPartDone
  (repeat' split) <;> simp_all

@[simp] theorem sweepTrapped_devCtrl (c : ℕ) (s : State) :
    ((sweepTrapped c s)).devCtrl = s.devCtrl := by
  unfold sweepTrapped
  (repeat' split) <;> simp_all

@[simp] theorem storePut_devCtrl (e : ℕ) (a : ℕ) (bs : List Sys2Proof.Byte) (s : State) :
    ((storePut e a bs s)).devCtrl = s.devCtrl := by
  unfold storePut
  (repeat' split) <;> simp_all

@[simp] theorem queueTest_devCtrl (i : Sys2Proof.BankId) (column : ℕ) (s : State) :
    ((queueTest i column s)).devCtrl = s.devCtrl := by
  unfold queueTest
  (repeat' split) <;> simp_all

@[simp] theorem memRecord_devCtrl (unit : ℕ) (c : Option ℕ) (flags : ℕ) (detail : ℕ) (detail2 : ℕ) (s : State) :
    ((memRecord unit c flags detail detail2 s)).devCtrl = s.devCtrl := by
  unfold memRecord
  (repeat' split) <;> simp_all

@[simp] theorem storeReadEvents_devCtrl (e : ℕ) (a : ℕ) (n : ℕ) (c : Option ℕ) (s : State) :
    ((storeReadEvents e a n c s)).devCtrl = s.devCtrl := by
  unfold storeReadEvents
  (repeat' split) <;> simp_all

@[simp] theorem holdFault_devCtrl (e : ℕ) (code : ℕ) (pc : Option ℕ) (s : State) :
    ((holdFault e code pc s)).devCtrl = s.devCtrl := by
  unfold holdFault
  (repeat' split) <;> simp_all

@[simp] theorem engineRecord_devCtrl (e : ℕ) (code : ℕ) (pc : ℕ) (stops : Bool) (k : ProgKind) (no : ℕ) (s : State) :
    ((engineRecord e code pc stops k no s)).devCtrl = s.devCtrl := by
  unfold engineRecord
  (repeat' split) <;> simp_all

@[simp] theorem liftAfter_devCtrl (e : ℕ) (no : ℕ) (s : State) :
    ((liftAfter e no s)).devCtrl = s.devCtrl := by
  unfold liftAfter
  (repeat' split) <;> simp_all

@[simp] theorem clearRun_devCtrl (e : ℕ) (s : State) :
    ((clearRun e s)).devCtrl = s.devCtrl := by
  unfold clearRun
  (repeat' split) <;> simp_all

@[simp] theorem settleDrift_devCtrl (c : ℕ) (s : State) :
    ((settleDrift c s)).devCtrl = s.devCtrl := by
  unfold settleDrift
  (repeat' split) <;> simp_all

@[simp] theorem tickPartEnded_devCtrl (c : ℕ) (e : ℕ) (s : State) :
    ((tickPartEnded c e s)).devCtrl = s.devCtrl := by
  unfold tickPartEnded
  (repeat' split) <;> simp_all

@[simp] theorem dropWaiter_devCtrl (e : ℕ) (tick : Bool) (s : State) :
    ((dropWaiter e tick s)).devCtrl = s.devCtrl := by
  unfold dropWaiter
  (repeat' split) <;> simp_all

@[simp] theorem dropDue_devCtrl (x : Nat) (c : Nat) (s : State) :
    ((dropDue x c s)).devCtrl = s.devCtrl := by
  unfold dropDue
  (repeat' split) <;> simp_all

@[simp] theorem endPart_devCtrl (x : Nat) (c : Nat) (s : State) :
    ((endPart x c s)).devCtrl = s.devCtrl := by
  unfold endPart
  (repeat' split) <;> simp_all

@[simp] theorem stopOtherParts_devCtrl (c e : Nat) (s : State) :
    (stopOtherParts c e s).devCtrl = s.devCtrl := by
  unfold stopOtherParts
  refine foldS_devCtrl _ _ _ (fun x s => ?_)
  (repeat' split) <;> simp

@[simp] theorem trapped_devCtrl (e : ℕ) (code : ℕ) (pc : ℕ) (k : ProgKind) (no : ℕ) (s : State) :
    ((trapped e code pc k no s)).devCtrl = s.devCtrl := by
  unfold trapped
  (repeat' split) <;> simp_all

@[simp] theorem fixBank_devCtrl (r : Run) (s : State) :
    ((fixBank r s)).devCtrl = s.devCtrl := by
  unfold fixBank
  (repeat' split) <;> simp_all

@[simp] theorem launch_devCtrl (e : ℕ) (r : Run) (s : State) :
    ((launch e r s)).devCtrl = s.devCtrl := by
  unfold launch
  (repeat' split) <;> simp_all

@[simp] theorem startNext_devCtrl (e : ℕ) (s : State) :
    ((startNext e s)).devCtrl = s.devCtrl := by
  unfold startNext
  (repeat' split) <;> simp_all

@[simp] theorem startDue_devCtrl (x0 : ℕ) (x1 : State) :
    ((startDue x0 x1)).devCtrl = x1.devCtrl := by
  induction x0 generalizing x1 with
  | zero => rfl
  | succ n ih => unfold startDue; split <;> simp [ih]

@[simp] theorem startAllDue_devCtrl (s : State) :
    ((startAllDue s)).devCtrl = s.devCtrl := by
  unfold startAllDue
  (repeat' split) <;> simp_all

@[simp] theorem trap_devCtrl (e : ℕ) (code : ℕ) (s : State) :
    ((trap e code s)).devCtrl = s.devCtrl := by
  unfold trap
  (repeat' split) <;> simp_all

@[simp] theorem startBackground_devCtrl (e : ℕ) (s : State) :
    ((startBackground e s)).devCtrl = s.devCtrl := by
  unfold startBackground
  (repeat' split) <;> (try simp) <;> (repeat' split) <;> (try simp) <;> (repeat' split) <;> simp_all

@[simp] theorem suspendBg_devCtrl (e : ℕ) (s : State) :
    ((suspendBg e s)).devCtrl = s.devCtrl := by
  unfold suspendBg
  (repeat' split) <;> simp_all

@[simp] theorem fenceAll_devCtrl (s : State) :
    ((fenceAll s)).devCtrl = s.devCtrl := by
  unfold fenceAll
  (repeat' split) <;> simp_all

@[simp] theorem enterActive_devCtrl (c : ℕ) (s : State) :
    ((enterActive c s)).devCtrl = s.devCtrl := by
  unfold enterActive
  (repeat' split) <;> simp_all

@[simp] theorem enterEnabled_devCtrl (c : ℕ) (s : State) :
    ((enterEnabled c s)).devCtrl = s.devCtrl := by
  unfold enterEnabled
  (repeat' split) <;> simp_all

@[simp] theorem finishShutdown_devCtrl (c : ℕ) (s : State) :
    ((finishShutdown c s)).devCtrl = s.devCtrl := by
  unfold finishShutdown
  (repeat' split) <;> simp_all

@[simp] theorem shutdown_devCtrl (c : ℕ) (s : State) :
    ((shutdown c s)).devCtrl = s.devCtrl := by
  unfold shutdown
  (repeat' split) <;> simp_all

@[simp] theorem enableEdge_devCtrl (c : ℕ) (s : State) :
    ((enableEdge c s)).devCtrl = s.devCtrl := by
  unfold enableEdge
  (repeat' split) <;> simp_all

@[simp] theorem stopStarts_devCtrl (c : Nat) (s : State) :
    ((stopStarts c s)).devCtrl = s.devCtrl := by
  unfold stopStarts
  (repeat' split) <;> simp_all

@[simp] theorem disableEdge_devCtrl (c : ℕ) (s : State) :
    ((disableEdge c s)).devCtrl = s.devCtrl := by
  unfold disableEdge
  (repeat' split) <;> simp_all

@[simp] theorem learnEdge_devCtrl (c : ℕ) (s : State) :
    ((learnEdge c s)).devCtrl = s.devCtrl := by
  unfold learnEdge
  (repeat' split) <;> simp_all

@[simp] theorem mapsEdge_devCtrl (c : ℕ) (s : State) :
    ((mapsEdge c s)).devCtrl = s.devCtrl := by
  unfold mapsEdge
  (repeat' split) <;> simp_all

@[simp] theorem driftEdge_devCtrl (c : ℕ) (s : State) :
    ((driftEdge c s)).devCtrl = s.devCtrl := by
  unfold driftEdge
  (repeat' split) <;> simp_all

@[simp] theorem enterRetired_devCtrl (c : ℕ) (cause : ℕ) (s : State) :
    ((enterRetired c cause s)).devCtrl = s.devCtrl := by
  unfold enterRetired
  (repeat' split) <;> simp_all

@[simp] theorem retireChannel_devCtrl (c : ℕ) (cause : ℕ) (s : State) :
    ((retireChannel c cause s)).devCtrl = s.devCtrl := by
  unfold retireChannel
  (repeat' split) <;> simp_all

@[simp] theorem shadowFail_devCtrl (c : ℕ) (failed : ℕ) (cause : ℕ) (s : State) :
    ((shadowFail c failed cause s)).devCtrl = s.devCtrl := by
  unfold shadowFail
  (repeat' split) <;> simp_all

@[simp] theorem readmitChannel_devCtrl (c : ℕ) (s : State) :
    ((readmitChannel c s)).devCtrl = s.devCtrl := by
  unfold readmitChannel
  (repeat' split) <;> simp_all

@[simp] theorem commandEdge_devCtrl (c : ℕ) (s : State) :
    ((commandEdge c s)).devCtrl = s.devCtrl := by
  unfold commandEdge
  (repeat' split) <;> (try simp) <;> (repeat' split) <;> (try simp) <;> (repeat' split) <;> simp_all

@[simp] theorem watchEnds_devCtrl (c : Nat) (s : State) :
    ((watchEnds c s)).devCtrl = s.devCtrl := by
  unfold watchEnds
  (repeat' split) <;> simp_all

@[simp] theorem endWindow_devCtrl (c : ℕ) (s : State) :
    ((endWindow c s)).devCtrl = s.devCtrl := by
  unfold endWindow
  (repeat' split) <;> simp_all

@[simp] theorem windowEdge_devCtrl (c : ℕ) (s : State) :
    ((windowEdge c s)).devCtrl = s.devCtrl := by
  unfold windowEdge
  (repeat' split) <;> simp_all

@[simp] theorem countFault_devCtrl (c : ℕ) (s : State) :
    ((countFault c s)).devCtrl = s.devCtrl := by
  unfold countFault
  (repeat' split) <;> simp_all

@[simp] theorem shadowTick_devCtrl (c : ℕ) (s : State) :
    ((shadowTick c s)).devCtrl = s.devCtrl := by
  unfold shadowTick
  (repeat' split) <;> simp_all

@[simp] theorem shadowBoundary_devCtrl (c : ℕ) (s : State) :
    ((shadowBoundary c s)).devCtrl = s.devCtrl := by
  unfold shadowBoundary
  (repeat' split) <;> simp_all

@[simp] theorem epochAdvance_devCtrl (c : ℕ) (s : State) :
    ((epochAdvance c s)).devCtrl = s.devCtrl := by
  unfold epochAdvance
  (repeat' split) <;> simp_all

@[simp] theorem epochBoundary_devCtrl (c : ℕ) (held : Bool) (rim : ℕ) (tb : ℕ) (s : State) :
    ((epochBoundary c held rim tb s)).devCtrl = s.devCtrl := by
  unfold epochBoundary
  (repeat' split) <;> simp_all

@[simp] theorem leaveButtress_devCtrl (c : ℕ) (s : State) :
    ((leaveButtress c s)).devCtrl = s.devCtrl := by
  unfold leaveButtress
  (repeat' split) <;> simp_all

@[simp] theorem retiredMap_devCtrl (c : Nat) (s : State) :
    ((retiredMap c s)).devCtrl = s.devCtrl := by
  unfold retiredMap
  (repeat' split) <;> simp_all

@[simp] theorem channelEdge_devCtrl (rim : ℕ) (tb : ℕ) (leaving : Bool) (c : ℕ) (s : State) :
    ((channelEdge rim tb leaving c s)).devCtrl = s.devCtrl := by
  unfold channelEdge
  (repeat' split) <;> simp_all

@[simp] theorem cistUeRecord_devCtrl (c : Option ℕ) (w : ℕ) (s : State) :
    ((cistUeRecord c w s)).devCtrl = s.devCtrl := by
  unfold cistUeRecord
  (repeat' split) <;> simp_all

@[simp] theorem cistReadEvents_devCtrl (a : ℕ) (n : ℕ) (c : Option ℕ) (s : State) :
    ((cistReadEvents a n c s)).devCtrl = s.devCtrl := by
  unfold cistReadEvents
  (repeat' split) <;> simp_all

@[simp] theorem cistPut_devCtrl (a : ℕ) (bs : List Sys2Proof.Byte) (s : State) :
    ((cistPut a bs s)).devCtrl = s.devCtrl := by
  unfold cistPut
  (repeat' split) <;> simp_all

@[simp] theorem compare_devCtrl (w : ℕ) (c : ℕ) (s : State) :
    ((compare w c s)).devCtrl = s.devCtrl := by
  unfold compare
  (repeat' split) <;> simp_all

@[simp] theorem ringWrite_devCtrl (w : ℕ) (i : ℕ) (v : ℤ) (s : State) :
    ((ringWrite w i v s)).devCtrl = s.devCtrl := by
  unfold ringWrite
  (repeat' split) <;> simp_all

@[simp] theorem overrun_devCtrl (w : ℕ) (s : State) :
    ((overrun w s)).devCtrl = s.devCtrl := by
  unfold overrun
  (repeat' split) <;> simp_all

@[simp] theorem capture_devCtrl (w : ℕ) (data : ℕ) (opn : Bool) (stuck : Bool) (s : State) :
    ((capture w data opn stuck s)).devCtrl = s.devCtrl := by
  unfold capture
  (repeat' split) <;> simp_all

@[simp] theorem presentSample_devCtrl (w : Nat) (data : Nat) (valid : Bool) (opn : Bool) (stuck : Bool) (s : State) :
    ((presentSample w data valid opn stuck s)).devCtrl = s.devCtrl := by
  unfold presentSample
  (repeat' split) <;> (try simp) <;> (repeat' split) <;> (try simp) <;> (repeat' split) <;> simp_all

@[simp] theorem wellEdge_devCtrl (rim : ℕ) (tb : ℕ) (w : ℕ) (s : State) :
    ((wellEdge rim tb w s)).devCtrl = s.devCtrl := by
  unfold wellEdge
  (repeat' split) <;> simp_all

@[simp] theorem wellsEdge_devCtrl (rim : ℕ) (tb : ℕ) (s : State) :
    ((wellsEdge rim tb s)).devCtrl = s.devCtrl := by
  unfold wellsEdge
  (repeat' split) <;> simp_all

@[simp] theorem cutReads_devCtrl (hit : Nat → Bool) (s : State) :
    ((cutReads hit s)).devCtrl = s.devCtrl := by
  unfold cutReads
  (repeat' split) <;> simp_all

@[simp] theorem startWell_devCtrl (w : ℕ) (s : State) :
    ((startWell w s)).devCtrl = s.devCtrl := by
  unfold startWell
  (repeat' split) <;> simp_all

@[simp] theorem stopWell_devCtrl (w : ℕ) (s : State) :
    ((stopWell w s)).devCtrl = s.devCtrl := by
  unfold stopWell
  (repeat' split) <;> simp_all

@[simp] theorem wellCtrl_devCtrl (w : ℕ) (v : Sys2Proof.Word) (s : State) :
    ((wellCtrl w v s).1).devCtrl = s.devCtrl := by
  unfold wellCtrl
  (repeat' split) <;> (try simp) <;> (repeat' split) <;> (try simp) <;> (repeat' split) <;> simp_all

@[simp] theorem wellWordWrite_devCtrl (w : ℕ) (i : ℕ) (v : Sys2Proof.Word) (s : State) :
    ((wellWordWrite w i v s).1).devCtrl = s.devCtrl := by
  unfold wellWordWrite
  (repeat' split) <;> (try simp) <;> (repeat' split) <;> (try simp) <;> (repeat' split) <;> simp_all

@[simp] theorem clearValid_devCtrl (s : State) :
    ((clearValid s)).devCtrl = s.devCtrl := by
  unfold clearValid
  (repeat' split) <;> simp_all

@[simp] theorem applyTickCtrl_devCtrl (s : State) :
    ((applyTickCtrl s)).devCtrl = s.devCtrl := by
  unfold applyTickCtrl
  (repeat' split) <;> simp_all

@[simp] theorem tickCtrlWritten_devCtrl (s : State) :
    ((tickCtrlWritten s)).devCtrl = s.devCtrl := by
  unfold tickCtrlWritten
  (repeat' split) <;> simp_all

@[simp] theorem measure_devCtrl (d : ℕ) (s : State) :
    ((measure d s)).devCtrl = s.devCtrl := by
  unfold measure
  (repeat' split) <;> simp_all

@[simp] theorem dropAllDue_devCtrl (e : Nat) (s : State) :
    (dropAllDue e s).devCtrl = s.devCtrl := by
  unfold dropAllDue
  refine foldS_devCtrl _ _ _ (fun r s => ?_)
  split <;> simp

@[simp] theorem engEnableEdge_devCtrl (e : ℕ) (s : State) :
    ((engEnableEdge e s)).devCtrl = s.devCtrl := by
  unfold engEnableEdge
  (repeat' split) <;> simp_all

@[simp] theorem engDisableEdge_devCtrl (e : ℕ) (s : State) :
    ((engDisableEdge e s)).devCtrl = s.devCtrl := by
  unfold engDisableEdge
  (repeat' split) <;> simp_all

@[simp] theorem retireEngine_devCtrl (e : ℕ) (cause : ℕ) (s : State) :
    ((retireEngine e cause s)).devCtrl = s.devCtrl := by
  unfold retireEngine
  (repeat' split) <;> simp_all

@[simp] theorem readmitEngine_devCtrl (e : ℕ) (s : State) :
    ((readmitEngine e s)).devCtrl = s.devCtrl := by
  unfold readmitEngine
  (repeat' split) <;> simp_all

@[simp] theorem engineEdge_devCtrl (e : ℕ) (s : State) :
    ((engineEdge e s)).devCtrl = s.devCtrl := by
  unfold engineEdge
  (repeat' split) <;> simp_all

@[simp] theorem scheduleChan_devCtrl (c : ℕ) (s : State) :
    ((scheduleChan c s)).devCtrl = s.devCtrl := by
  unfold scheduleChan
  (repeat' split) <;> simp_all

@[simp] theorem overhangAt_devCtrl (e : ℕ) (s : State) :
    ((overhangAt e s)).devCtrl = s.devCtrl := by
  unfold overhangAt
  (repeat' split) <;> simp_all

@[simp] theorem ingressAt_devCtrl (starts : Nat → Bool) (e : Nat) (s : State) :
    ((ingressAt starts e s)).devCtrl = s.devCtrl := by
  unfold ingressAt
  (repeat' split) <;> simp_all

@[simp] theorem ingress_devCtrl (s : State) :
    ((ingress s)).devCtrl = s.devCtrl := by
  unfold ingress
  (repeat' split) <;> simp_all

@[simp] theorem class8_devCtrl (s : State) :
    ((class8 s)).devCtrl = s.devCtrl := by
  unfold class8
  (repeat' split) <;> simp_all

@[simp] theorem buttressEntry_devCtrl (rim : ℕ) (tb : ℕ) (c : ℕ) (s : State) :
    ((buttressEntry rim tb c s)).devCtrl = s.devCtrl := by
  unfold buttressEntry
  (repeat' split) <;> simp_all

@[simp] theorem beginTick_devCtrl (c : ℕ) (s : State) :
    ((beginTick c s)).devCtrl = s.devCtrl := by
  unfold beginTick
  (repeat' split) <;> simp_all

@[simp] theorem snapPulse_devCtrl (s : State) :
    ((snapPulse s)).devCtrl = s.devCtrl := by
  unfold snapPulse
  (repeat' split) <;> simp_all

@[simp] theorem snapshot_devCtrl (rim : ℕ) (s : State) :
    ((snapshot rim s)).devCtrl = s.devCtrl := by
  unfold snapshot
  (repeat' split) <;> simp_all

@[simp] theorem tickEdge_devCtrl (dt : ℕ) (s : State) :
    ((tickEdge dt s)).devCtrl = s.devCtrl := by
  unfold tickEdge
  dsimp only
  repeat' split
  all_goals simp

@[simp] theorem tickLost_devCtrl (s : State) :
    ((tickLost s)).devCtrl = s.devCtrl := by
  unfold tickLost
  dsimp only
  repeat' split
  all_goals (try rfl)
  all_goals simp

@[simp] theorem freeRunExpiry_devCtrl (s : State) :
    ((freeRunExpiry s)).devCtrl = s.devCtrl := by
  unfold freeRunExpiry
  (repeat' split) <;> simp_all

@[simp] theorem guardEdge_devCtrl (s : State) :
    ((guardEdge s)).devCtrl = s.devCtrl := by
  unfold guardEdge
  (repeat' split) <;> simp_all

@[simp] theorem delayedStart_devCtrl (e : ℕ) (s : State) :
    ((delayedStart e s)).devCtrl = s.devCtrl := by
  unfold delayedStart
  (repeat' split) <;> simp_all

@[simp] theorem tripHoldEnd_devCtrl (c : ℕ) (s : State) :
    ((tripHoldEnd c s)).devCtrl = s.devCtrl := by
  unfold tripHoldEnd
  (repeat' split) <;> simp_all

@[simp] theorem State_modPump_devCtrl (s : State) (p : ℕ) (f : Pump → Pump) :
    ((State.modPump s p f)).devCtrl = s.devCtrl := by
  unfold State.modPump
  (repeat' split) <;> simp_all

@[simp] theorem State_modPort_devCtrl (s : State) (p : ℕ) (f : Port → Port) :
    ((State.modPort s p f)).devCtrl = s.devCtrl := by
  unfold State.modPort
  (repeat' split) <;> simp_all

@[simp] theorem tagStall_devCtrl (s : State) :
    ((tagStall s)).devCtrl = s.devCtrl := by
  unfold tagStall
  (repeat' split) <;> simp_all

@[simp] theorem unclean_devCtrl (e : Nat) (c : Nat) (no : Nat) (s : State) :
    ((unclean e c no s)).devCtrl = s.devCtrl := by
  unfold unclean
  (repeat' split) <;> simp_all

@[simp] theorem completionFault_devCtrl (o : PumpOp) (s : State) :
    ((completionFault o s)).devCtrl = s.devCtrl := by
  unfold completionFault
  (repeat' split) <;> simp_all

@[simp] theorem storeCompletion_devCtrl (o : PumpOp) (s : State) :
    ((storeCompletion o s)).devCtrl = s.devCtrl := by
  unfold storeCompletion
  split <;> (try simp [slotDone])

@[simp] theorem freeXid_devCtrl (p : ℕ) (x : ℕ) (s : State) :
    ((freeXid p x s)).devCtrl = s.devCtrl := by
  unfold freeXid
  (repeat' split) <;> simp_all

@[simp] theorem returnXid_devCtrl (o : PumpOp) (s : State) :
    ((returnXid o s)).devCtrl = s.devCtrl := by
  unfold returnXid
  (repeat' split) <;> simp_all

@[simp] theorem completeOp_devCtrl (o : PumpOp) (s : State) :
    ((completeOp o s)).devCtrl = s.devCtrl := by
  unfold completeOp
  (repeat' split) <;> simp_all

@[simp] theorem noteTag_devCtrl (o : PumpOp) (s : State) :
    ((noteTag o s)).devCtrl = s.devCtrl := by
  unfold noteTag
  (repeat' split) <;> simp_all

@[simp] theorem noteXid_devCtrl (o : PumpOp) (s : State) :
    ((noteXid o s)).devCtrl = s.devCtrl := by
  unfold noteXid
  (repeat' split) <;> simp_all

@[simp] theorem notePresented_devCtrl (i : Nat) (s : State) :
    (notePresented i s).devCtrl = s.devCtrl := by
  show (State.modOp s.takeFree.2 i _).devCtrl = s.devCtrl
  simp

@[simp] theorem acceptOp_devCtrl (o : PumpOp) (v : Option Variant) (s : State) :
    ((acceptOp o v s)).devCtrl = s.devCtrl := by
  unfold acceptOp
  (repeat' split) <;> simp_all

@[simp] theorem readPiece_devCtrl (x : Access) (m : Moving) (lanes : List ℤ) :
    ((readPiece x m lanes).1.s).devCtrl = m.s.devCtrl := by
  unfold readPiece
  dsimp only
  repeat' split
  all_goals simp

@[simp] theorem writePiece_devCtrl (x : Access) (m : Moving) (lanes : List (ℤ × List Sys2Proof.Byte)) :
    ((writePiece x m lanes).s).devCtrl = m.s.devCtrl := by
  unfold writePiece
  dsimp only
  repeat' split
  all_goals simp

@[simp] theorem storeReadLanes_devCtrl (e : ℕ) (c : Option ℕ) (m : Moving) (lanes : List ℤ) :
    ((storeReadLanes e c m lanes).1.s).devCtrl = m.s.devCtrl := by
  unfold storeReadLanes
  (repeat' split) <;> simp_all

@[simp] theorem storeWriteLanes_devCtrl (e : ℕ) (tick : Bool) (m : Moving) (lanes : List (ℤ × List Sys2Proof.Byte)) :
    ((storeWriteLanes e tick m lanes).s).devCtrl = m.s.devCtrl := by
  unfold storeWriteLanes
  (repeat' split) <;> simp_all

@[simp] theorem readLanes_devCtrl (x : Access) (d : Desc) (lanes : List (Option ℤ)) (m : Moving) :
    ((readLanes x d lanes m).1.s).devCtrl = m.s.devCtrl := by
  unfold readLanes
  rw [foldl_devCtrlM1]
  intro m g
  dsimp only
  split
  · rfl
  · next as _ => exact readPiece_devCtrl x m.1 _

@[simp] theorem readStoreLanes_devCtrl (e : ℕ) (c : Option ℕ) (d : Desc) (lanes : List (Option ℤ)) (m : Moving) :
    ((readStoreLanes e c d lanes m).1.s).devCtrl = m.s.devCtrl := by
  unfold readStoreLanes
  rw [foldl_devCtrlM1]
  intro m g
  dsimp only
  split
  · rfl
  · next as _ => exact storeReadLanes_devCtrl e c m.1 _

@[simp] theorem writeLanes_devCtrl (x : Access) (lanes : List (Option ℤ × List Sys2Proof.Byte)) (m : Moving) :
    ((writeLanes x lanes m).s).devCtrl = m.s.devCtrl := by
  unfold writeLanes
  exact foldl_devCtrlM _ _ _ (fun m g => writePiece_devCtrl x m _)

@[simp] theorem writeStoreLanes_devCtrl (e : ℕ) (tick : Bool) (lanes : List (Option ℤ × List Sys2Proof.Byte)) (m : Moving) :
    ((writeStoreLanes e tick lanes m).s).devCtrl = m.s.devCtrl := by
  unfold writeStoreLanes
  exact foldl_devCtrlM _ _ _ (fun m g => storeWriteLanes_devCtrl e tick m _)

@[simp] theorem deliver_devCtrl (o : PumpOp) (x : Access) (ep : Endpoint) (lanes : List (Option ℤ × List Sys2Proof.Byte)) (m : Moving) :
    ((deliver o x ep lanes m).s).devCtrl = m.s.devCtrl := by
  unfold deliver
  (repeat' split) <;> simp_all

@[simp] theorem collect_devCtrl (o : PumpOp) (x : Access) (d : Desc) (ep : Endpoint) (lanes : List (Option ℤ)) (m : Moving) :
    ((collect o x d ep lanes m).1.s).devCtrl = m.s.devCtrl := by
  unfold collect
  (repeat' split) <;> simp_all

@[simp] theorem entryEvents_devCtrl (o : PumpOp) (e : Nat) (s : State) :
    ((entryEvents o e s)).devCtrl = s.devCtrl := by
  unfold entryEvents
  (repeat' split) <;> simp_all

@[simp] theorem readEntries_devCtrl (es : List Nat) (o : PumpOp) (s : State) :
    (readEntries es o s).2.devCtrl = s.devCtrl := by
  induction es generalizing o s with
  | nil => rfl
  | cons e es ih => unfold readEntries; rw [ih]; simp

@[simp] theorem readPost_devCtrl (e : Nat) (r : Run) (i : Ins) (a : Nat) (s : State) :
    (readPost e r i a s).2.devCtrl = s.devCtrl := readEntries_devCtrl _ _ _

@[simp] theorem readLateEntries_devCtrl (i : Nat) (s : State) :
    (readLateEntries i s).devCtrl = s.devCtrl := by
  unfold readLateEntries
  split
  · rfl
  · dsimp only
    split
    · rfl
    · simp

@[simp] theorem Moving_hold_devCtrl (m : Moving) (xs : List (Nat × List Byte)) :
    ((Moving.hold m xs).s).devCtrl = m.s.devCtrl := by
  unfold Moving.hold
  (repeat' split) <;> simp_all

@[simp] theorem readLine_devCtrl (o : PumpOp) (n : Nat) (m : Moving) :
    (readLine o n m).s.devCtrl = m.s.devCtrl := by
  unfold readLine
  dsimp only
  (repeat' split) <;> simp

@[simp] theorem formFrames_devCtrl (o : PumpOp) (d : Desc) (m : Moving) :
    ((formFrames o d m).s).devCtrl = m.s.devCtrl := by
  unfold formFrames
  (repeat' split) <;> simp_all

@[simp] theorem turnTile_devCtrl (d : Desc) (first : Nat) (m : Moving) :
    ((turnTile d first m).s).devCtrl = m.s.devCtrl := by
  unfold turnTile
  (repeat' split) <;> simp_all

@[simp] theorem countFlaw_devCtrl (o : PumpOp) (e : Nat) (n : Nat) (m : Moving) :
    ((countFlaw o e n m).s).devCtrl = m.s.devCtrl := by
  unfold countFlaw
  (repeat' split) <;> simp_all

@[simp] theorem performStep_devCtrl (o : PumpOp) (d : Desc) (m : Moving) (st : PumpStep) :
    ((performStep o d m st).s).devCtrl = m.s.devCtrl := by
  unfold performStep
  (repeat' split) <;> simp_all

@[simp] theorem runSteps_devCtrl (n i : Nat) (s : State) :
    (runSteps n i s).devCtrl = s.devCtrl := by
  unfold runSteps
  dsimp only
  split
  · rfl
  · split
    · rfl
    · rw [State_modOp_devCtrl]
      exact (foldl_devCtrlM _ _ _ (fun m st => performStep_devCtrl _ _ m st)).trans (readLateEntries_devCtrl i s)

@[simp] theorem advance_devCtrl (fuel n i : Nat) (s : State) :
    (advance fuel n i s).devCtrl = s.devCtrl := by
  induction fuel generalizing n i s with
  | zero => exact runSteps_devCtrl n i s
  | succ fuel ih =>
    unfold advance
    dsimp only
    split
    · rfl
    · rw [runSteps_devCtrl]
      refine (foldS_devCtrl _ _ _ (fun p s => ?_)).trans (readLateEntries_devCtrl i s)
      split
      · split
        · rw [ih, readLateEntries_devCtrl]
        · rfl
      · rfl

@[simp] theorem advanceOp_devCtrl (n i : Nat) (s : State) :
    (advanceOp n i s).devCtrl = s.devCtrl := advance_devCtrl _ n i s

@[simp] theorem orderIssuer_devCtrl (mine : Issuer → Bool) (store : Bool) (xs : List (Nat × Nat)) (s : State) :
    (orderIssuer mine store xs s).devCtrl = s.devCtrl := by
  unfold orderIssuer
  refine foldS_devCtrl _ _ _ (fun i s => ?_)
  dsimp only
  split <;> simp

@[simp] theorem pumpMove_devCtrl (want : DOp) (i : ℕ) (defer : ℕ) (s : State) :
    ((pumpMove want i defer s)).devCtrl = s.devCtrl := by
  unfold pumpMove
  (repeat' split) <;> simp_all

@[simp] theorem sealIssuer_devCtrl (mine : Issuer → Bool) (s : State) :
    ((sealIssuer mine s)).devCtrl = s.devCtrl := by
  unfold sealIssuer
  (repeat' split) <;> simp_all

@[simp] theorem pumpComplete_devCtrl (i : ℕ) (s : State) :
    ((pumpComplete i s)).devCtrl = s.devCtrl := by
  unfold pumpComplete
  (repeat' split) <;> simp_all

@[simp] theorem wellWaitEnd_devCtrl (i : ℕ) (s : State) :
    ((wellWaitEnd i s)).devCtrl = s.devCtrl := by
  unfold wellWaitEnd
  (repeat' split) <;> simp_all

@[simp] theorem releaseWaiter_devCtrl (w : ℕ × Bool) (s : State) :
    ((releaseWaiter w s)).devCtrl = s.devCtrl := by
  unfold releaseWaiter
  (repeat' split) <;> simp_all

@[simp] theorem ringBell_devCtrl (b : ℕ) (k : ℕ) (s : State) :
    ((ringBell b k s).1).devCtrl = s.devCtrl := by
  unfold ringBell
  (repeat' split) <;> simp_all

@[simp] theorem loadBell_devCtrl (b : ℕ) (v : ℕ) (s : State) :
    ((loadBell b v s)).devCtrl = s.devCtrl := by
  unfold loadBell
  (repeat' split) <;> simp_all

@[simp] theorem takeBell_devCtrl (b : ℕ) (s : State) :
    ((takeBell b s)).devCtrl = s.devCtrl := by
  unfold takeBell
  (repeat' split) <;> simp_all

@[simp] theorem engineRing_devCtrl (e : ℕ) (b : ℕ) (k : ℕ) (r : Run) (s : State) :
    ((engineRing e b k r s)).devCtrl = s.devCtrl := by
  unfold engineRing
  have h := ringBell_devCtrl b k s
  dsimp only
  repeat' split
  all_goals simp_all

@[simp] theorem supervisorRing_devCtrl (b : ℕ) (k : ℕ) (s : State) :
    ((supervisorRing b k s)).devCtrl = s.devCtrl := by
  unfold supervisorRing
  have h := ringBell_devCtrl b k s
  dsimp only
  repeat' split
  all_goals simp_all

@[simp] theorem State_modRun_devCtrl (s : State) (e : ℕ) (f : Run → Run) :
    ((State.modRun s e f)).devCtrl = s.devCtrl := by
  unfold State.modRun
  (repeat' split) <;> simp_all

@[simp] theorem next_devCtrl (e : ℕ) (s : State) :
    ((next e s)).devCtrl = s.devCtrl := by
  unfold next
  (repeat' split) <;> simp_all

@[simp] theorem endTileRun_devCtrl (e : ℕ) (s : State) :
    ((endTileRun e s)).devCtrl = s.devCtrl := by
  unfold endTileRun
  (repeat' split) <;> (try simp) <;> (repeat' split) <;> (try simp) <;> (repeat' split) <;> simp_all

@[simp] theorem doTile_devCtrl (e : ℕ) (r : Run) (m : TileMode) (i : Ins) (ts : List Touch) (s : State) :
    ((doTile e r m i ts s)).devCtrl = s.devCtrl := by
  unfold doTile
  (repeat' split) <;> simp_all

@[simp] theorem doVec_devCtrl (e : ℕ) (o : VecOp) (i : Ins) (ts : List Touch) (s : State) :
    ((doVec e o i ts s)).devCtrl = s.devCtrl := by
  unfold doVec
  (repeat' split) <;> simp_all

@[simp] theorem doRed_devCtrl (e : ℕ) (o : RedOp) (i : Ins) (ts : List Touch) (s : State) :
    ((doRed e o i ts s)).devCtrl = s.devCtrl := by
  unfold doRed
  (repeat' split) <;> simp_all

@[simp] theorem doCmp_devCtrl (e : ℕ) (o : CmpOp) (i : Ins) (ts : List Touch) (s : State) :
    ((doCmp e o i ts s)).devCtrl = s.devCtrl := by
  unfold doCmp
  (repeat' split) <;> simp_all

@[simp] theorem doTrace_devCtrl (e : ℕ) (r : Run) (i : Ins) (ts : List Touch) (s : State) :
    ((doTrace e r i ts s)).devCtrl = s.devCtrl := by
  unfold doTrace
  (repeat' split) <;> simp_all

@[simp] theorem doSrnd_devCtrl (e : ℕ) (i : Ins) (ts : List Touch) (s : State) :
    ((doSrnd e i ts s)).devCtrl = s.devCtrl := by
  unfold doSrnd
  (repeat' split) <;> simp_all

@[simp] theorem doDgate_devCtrl (e : ℕ) (r : Run) (i : Ins) (ts : List Touch) (s : State) :
    ((doDgate e r i ts s)).devCtrl = s.devCtrl := by
  unfold doDgate
  (repeat' split) <;> simp_all

@[simp] theorem doLoop_devCtrl (e : ℕ) (r : Run) (i : Ins) (s : State) :
    ((doLoop e r i s)).devCtrl = s.devCtrl := by
  unfold doLoop
  (repeat' split) <;> simp_all

@[simp] theorem doBr_devCtrl (e : ℕ) (r : Run) (i : Ins) (s : State) :
    ((doBr e r i s)).devCtrl = s.devCtrl := by
  unfold doBr
  (repeat' split) <;> simp_all

@[simp] theorem doAwait_devCtrl (e : ℕ) (b : ℕ) (r : Run) (s : State) :
    ((doAwait e b r s)).devCtrl = s.devCtrl := by
  unfold doAwait
  (repeat' split) <;> simp_all

@[simp] theorem doSeal_devCtrl (e : ℕ) (s : State) :
    ((doSeal e s)).devCtrl = s.devCtrl := by
  unfold doSeal
  (repeat' split) <;> simp_all

@[simp] theorem stallPost_devCtrl (e : Nat) (r : Run) (v : Variant) (o : PumpOp) (s : State) :
    ((stallPost e r v o s)).devCtrl = s.devCtrl := by
  unfold stallPost
  (repeat' split) <;> simp_all

@[simp] theorem doTens_devCtrl (e : Nat) (r : Run) (i : Ins) (v : Variant) (ts : List Touch) (s : State) :
    (doTens e r i v ts s).devCtrl = s.devCtrl := by
  unfold doTens
  dsimp only
  (repeat' split) <;> simp

@[simp] theorem doHalt_devCtrl (e : ℕ) (r : Run) (s : State) :
    ((doHalt e r s)).devCtrl = s.devCtrl := by
  unfold doHalt
  (repeat' split) <;> simp_all

@[simp] theorem countTick_devCtrl (c : ℕ) (s : State) :
    ((countTick c s)).devCtrl = s.devCtrl := by
  unfold countTick
  (repeat' split) <;> simp_all

@[simp] theorem endTick_devCtrl (c : ℕ) (e : ℕ) (r : Run) (strokes : ℕ) (lane : List Sys2Proof.Byte) (s : State) :
    ((endTick c e r strokes lane s)).devCtrl = s.devCtrl := by
  unfold endTick
  (repeat' split) <;> simp_all

@[simp] theorem doHaltV_devCtrl (e : ℕ) (r : Run) (strokes : ℕ) (ts : List Touch) (s : State) :
    ((doHaltV e r strokes ts s)).devCtrl = s.devCtrl := by
  unfold doHaltV
  (repeat' split) <;> simp_all

@[simp] theorem readEvents_devCtrl (e : ℕ) (r : Run) (rs : List (ℕ × ℕ)) (s : State) :
    ((readEvents e r rs s)).devCtrl = s.devCtrl := by
  unfold readEvents
  (repeat' split) <;> simp_all

@[simp] theorem fetchEvents_devCtrl (e : Nat) (r : Run) (s : State) :
    ((fetchEvents e r s)).devCtrl = s.devCtrl := by
  unfold fetchEvents
  (repeat' split) <;> simp_all

@[simp] theorem perform_devCtrl (e : ℕ) (r : Run) (strokes : ℕ) (i : Ins) (ts : List Touch) (s : State) :
    ((perform e r strokes i ts s)).devCtrl = s.devCtrl := by
  unfold perform
  (repeat' split) <;> simp_all

@[simp] theorem issueIns_devCtrl (e : ℕ) (r : Run) (strokes : ℕ) (i : Ins) (s : State) :
    ((issueIns e r strokes i s)).devCtrl = s.devCtrl := by
  unfold issueIns
  (repeat' split) <;> simp_all

@[simp] theorem issue_devCtrl (want : EOp → Bool) (strokes : ℕ) (e : ℕ) (s : State) :
    ((issue want strokes e s)).devCtrl = s.devCtrl := by
  unfold issue
  (repeat' split) <;> simp_all

@[simp] theorem stopHalting_devCtrl (e : Nat) (r : Run) (s : State) :
    ((stopHalting e r s)).devCtrl = s.devCtrl := by
  unfold stopHalting
  (repeat' split) <;> simp_all

@[simp] theorem grantEngine_devCtrl (tick : Bool) (e : Nat) (s : State) :
    ((grantEngine tick e s)).devCtrl = s.devCtrl := by
  unfold grantEngine
  (repeat' split) <;> (try simp) <;> (repeat' split) <;> (try simp) <;> (repeat' split) <;> simp_all

@[simp] theorem putLanes_devCtrl (p : ℕ) (bs : List Sys2Proof.Byte) (s : State) :
    ((putLanes p bs s)).devCtrl = s.devCtrl := by
  unfold putLanes
  (repeat' split) <;> simp_all

@[simp] theorem sendControl_devCtrl (p : ℕ) (t : ℕ) (seq : ℕ) (s : State) :
    ((sendControl p t seq s)).devCtrl = s.devCtrl := by
  unfold sendControl
  (repeat' split) <;> simp_all

@[simp] theorem sendNak_devCtrl (p : ℕ) (s : State) :
    ((sendNak p s)).devCtrl = s.devCtrl := by
  unfold sendNak
  (repeat' split) <;> simp_all

@[simp] theorem flushLate_devCtrl (p : ℕ) (s : State) :
    ((flushLate p s)).devCtrl = s.devCtrl := by
  unfold flushLate
  (repeat' split) <;> simp_all

@[simp] theorem sendPlain_devCtrl (p : ℕ) (bs : List Sys2Proof.Byte) (s : State) :
    ((sendPlain p bs s)).devCtrl = s.devCtrl := by
  unfold sendPlain
  (repeat' split) <;> simp_all

@[simp] theorem inject_devCtrl (p : ℕ) (bs : List Sys2Proof.Byte) (s : State) :
    ((inject p bs s)).devCtrl = s.devCtrl := by
  unfold inject
  (repeat' split) <;> simp_all

@[simp] theorem transmit_devCtrl (p : ℕ) (seq : ℕ) (f : TxFrame) (s : State) :
    ((transmit p seq f s)).devCtrl = s.devCtrl := by
  unfold transmit
  (repeat' split) <;> simp_all

@[simp] theorem enqueue_devCtrl (p : ℕ) (f : TxFrame) (s : State) :
    ((enqueue p f s)).devCtrl = s.devCtrl := by
  unfold enqueue
  (repeat' split) <;> simp_all

@[simp] theorem sendHead_devCtrl (p : ℕ) (s : State) :
    ((sendHead p s)).devCtrl = s.devCtrl := by
  unfold sendHead
  (repeat' split) <;> simp_all

@[simp] theorem measured_devCtrl (p : Nat) (offset : Int) (skew : Nat) (s : State) :
    ((measured p offset skew s)).devCtrl = s.devCtrl := by
  unfold measured
  (repeat' split) <;> simp_all

@[simp] theorem replayFrom_devCtrl (p : ℕ) (n : ℕ) (s : State) :
    ((replayFrom p n s)).devCtrl = s.devCtrl := by
  unfold replayFrom
  (repeat' split) <;> simp_all

@[simp] theorem takeAck_devCtrl (p : ℕ) (a : ℕ) (s : State) :
    ((takeAck p a s)).devCtrl = s.devCtrl := by
  unfold takeAck
  (repeat' split) <;> simp_all

@[simp] theorem takeCredit_devCtrl (p : ℕ) (c : ℕ) (s : State) :
    ((takeCredit p c s)).devCtrl = s.devCtrl := by
  unfold takeCredit
  (repeat' split) <;> simp_all

@[simp] theorem ensureAck_devCtrl (p : ℕ) (s : State) :
    ((ensureAck p s)).devCtrl = s.devCtrl := by
  unfold ensureAck
  (repeat' split) <;> simp_all

@[simp] theorem setLink_devCtrl (p : ℕ) (st : LinkSt) (s : State) :
    ((setLink p st s)).devCtrl = s.devCtrl := by
  unfold setLink
  (repeat' split) <;> simp_all

@[simp] theorem freezeXfers_devCtrl (p : ℕ) (s : State) :
    ((freezeXfers p s)).devCtrl = s.devCtrl := by
  unfold freezeXfers
  (repeat' split) <;> simp_all

@[simp] theorem runXfers_devCtrl (p : ℕ) (s : State) :
    ((runXfers p s)).devCtrl = s.devCtrl := by
  unfold runXfers
  (repeat' split) <;> simp_all

@[simp] theorem leaveUp_devCtrl (p : ℕ) (reason : ℕ) (paused : Bool) (s : State) :
    ((leaveUp p reason paused s)).devCtrl = s.devCtrl := by
  unfold leaveUp
  (repeat' split) <;> simp_all

@[simp] theorem feedLanes_devCtrl (p : Nat) (b0 : List (BitVec 66)) (b1 : List (BitVec 66)) (s : State) :
    ((feedLanes p b0 b1 s)).devCtrl = s.devCtrl := by
  unfold feedLanes
  (repeat' split) <;> simp_all

@[simp] theorem loseTransfers_devCtrl (p : ℕ) (s : State) :
    ((loseTransfers p s)).devCtrl = s.devCtrl := by
  unfold loseTransfers
  (repeat' split) <;> simp_all

@[simp] theorem endPeerService_devCtrl (p : ℕ) (s : State) :
    ((endPeerService p s)).devCtrl = s.devCtrl := by
  unfold endPeerService
  (repeat' split) <;> simp_all

@[simp] theorem clearSequence_devCtrl (p : ℕ) (s : State) :
    ((clearSequence p s)).devCtrl = s.devCtrl := by
  unfold clearSequence
  (repeat' split) <;> simp_all

@[simp] theorem killPort_devCtrl (p : ℕ) (st : LinkSt) (s : State) :
    ((killPort p st s)).devCtrl = s.devCtrl := by
  unfold killPort
  (repeat' split) <;> simp_all

@[simp] theorem linkControl_devCtrl (p : ℕ) (s : State) :
    ((linkControl p s)).devCtrl = s.devCtrl := by
  unfold linkControl
  (repeat' split) <;> simp_all

@[simp] theorem retryStep_devCtrl (p : ℕ) (s : State) :
    ((retryStep p s)).devCtrl = s.devCtrl := by
  unfold retryStep
  (repeat' split) <;> simp_all

@[simp] theorem retryWindowEnd_devCtrl (p : ℕ) (s : State) :
    ((retryWindowEnd p s)).devCtrl = s.devCtrl := by
  unfold retryWindowEnd
  (repeat' split) <;> simp_all

@[simp] theorem blockLockRegained_devCtrl (p : Nat) (b0 : List (BitVec 66)) (b1 : List (BitVec 66)) (s : State) :
    ((blockLockRegained p b0 b1 s)).devCtrl = s.devCtrl := by
  unfold blockLockRegained
  (repeat' split) <;> simp_all

@[simp] theorem laneLockLost_devCtrl (p : Nat) (lane : Nat) (ws : List (BitVec 66)) (s : State) :
    ((laneLockLost p lane ws s)).devCtrl = s.devCtrl := by
  unfold laneLockLost
  (repeat' split) <;> simp_all

@[simp] theorem replayTimer_devCtrl (p : ℕ) (s : State) :
    ((replayTimer p s)).devCtrl = s.devCtrl := by
  unfold replayTimer
  (repeat' split) <;> simp_all

@[simp] theorem heldFrameTimeout_devCtrl (p : ℕ) (s : State) :
    ((heldFrameTimeout p s)).devCtrl = s.devCtrl := by
  unfold heldFrameTimeout
  (repeat' split) <;> simp_all

@[simp] theorem queueBlock_devCtrl (o : PumpOp) (d : Desc) (e : ℕ) (m : Moving) :
    ((queueBlock o d e m).s).devCtrl = m.s.devCtrl := by
  unfold queueBlock
  dsimp only
  rw [foldS_devCtrl _ _ _ (fun a s => by simp), collect_devCtrl]

@[simp] theorem settleRemote_devCtrl (i : ℕ) (s : State) :
    ((settleRemote i s)).devCtrl = s.devCtrl := by
  unfold settleRemote
  (repeat' split) <;> simp_all

@[simp] theorem takeXid_devCtrl (i : ℕ) (s : State) :
    ((takeXid i s)).devCtrl = s.devCtrl := by
  unfold takeXid
  (repeat' split) <;> simp_all

@[simp] theorem remoteSend_devCtrl (read : Bool) (i : ℕ) (s : State) :
    ((remoteSend read i s)).devCtrl = s.devCtrl := by
  unfold remoteSend
  extract_lets s0
  have h0 : s0.devCtrl = s.devCtrl := by
    unfold s0
    repeat' split
    all_goals simp
  split
  · exact h0
  · dsimp only
    split
    · exact h0
    · refine (settleRemote_devCtrl _ _).trans ((State_modOp_devCtrl _ _ _).trans ?_)
      have h2 : ∀ (f : Moving → Nat → Moving) (xs : List Nat) (m : Moving), (∀ m e, (f m e).s.devCtrl = m.s.devCtrl) →
          m.s.devCtrl = s.devCtrl → (xs.foldl f m).s.devCtrl = s.devCtrl := fun f xs m hf hm => (foldl_devCtrlM f xs m hf).trans hm
      split
      · refine h2 _ _ _ (fun m e => countFlaw_devCtrl _ _ _ _) ?_
        exact (foldS_devCtrl _ _ _ (fun a s => enqueue_devCtrl _ _ _)).trans h0
      · refine h2 _ _ _ (fun m e => queueBlock_devCtrl _ _ _ _) ?_
        refine h2 _ _ _ (fun m e => countFlaw_devCtrl _ _ _ _) ?_
        exact (foldS_devCtrl _ _ _ (fun a s => enqueue_devCtrl _ _ _)).trans h0

@[simp] theorem takeRdata_devCtrl (p : ℕ) (f : RxFrame) (s : State) :
    ((takeRdata p f s)).devCtrl = s.devCtrl := by
  unfold takeRdata
  (repeat' split) <;> simp_all

@[simp] theorem takeWdone_devCtrl (p : ℕ) (f : RxFrame) (s : State) :
    ((takeWdone p f s)).devCtrl = s.devCtrl := by
  unfold takeWdone
  (repeat' split) <;> simp_all

@[simp] theorem takeRefuse_devCtrl (p : ℕ) (f : RxFrame) (s : State) :
    ((takeRefuse p f s)).devCtrl = s.devCtrl := by
  unfold takeRefuse
  (repeat' split) <;> simp_all

@[simp] theorem xferTimeout_devCtrl (i : ℕ) (s : State) :
    ((xferTimeout i s)).devCtrl = s.devCtrl := by
  unfold xferTimeout
  (repeat' split) <;> simp_all

@[simp] theorem leaveBuffer_devCtrl (p : Nat) (n : Nat) (s : State) :
    ((leaveBuffer p n s)).devCtrl = s.devCtrl := by
  unfold leaveBuffer
  (repeat' split) <;> simp_all

@[simp] theorem dropBlocks_devCtrl (p : Nat) (gone : PeerBlock → Bool) (s : State) :
    ((dropBlocks p gone s)).devCtrl = s.devCtrl := by
  unfold dropBlocks
  (repeat' split) <;> simp_all

@[simp] theorem modBlock_devCtrl (p : Nat) (x : Nat) (e : Nat) (f : PeerBlock → PeerBlock) (s : State) :
    ((modBlock p x e f s)).devCtrl = s.devCtrl := by
  unfold modBlock
  (repeat' split) <;> simp_all

@[simp] theorem dropBlock_devCtrl (p : ℕ) (x : ℕ) (e : ℕ) (s : State) :
    ((dropBlock p x e s)).devCtrl = s.devCtrl := by
  unfold dropBlock
  (repeat' split) <;> simp_all

@[simp] theorem refuseBlock_devCtrl (p : ℕ) (b : PeerBlock) (s : State) :
    ((refuseBlock p b s)).devCtrl = s.devCtrl := by
  unfold refuseBlock
  (repeat' split) <;> simp_all

@[simp] theorem serveRead_devCtrl (p : ℕ) (o : PumpOp) (b : PeerBlock) (s : State) :
    ((serveRead p o b s)).devCtrl = s.devCtrl := by
  unfold serveRead
  (repeat' split) <;> simp_all

@[simp] theorem serveWrite_devCtrl (p : ℕ) (i : ℕ) (b : PeerBlock) (s : State) :
    ((serveWrite p i b s)).devCtrl = s.devCtrl := by
  unfold serveWrite
  (repeat' split) <;> simp_all

@[simp] theorem startBlock_devCtrl (p : ℕ) (k : ℕ) (b : PeerBlock) (s : State) :
    ((startBlock p k b s)).devCtrl = s.devCtrl := by
  unfold startBlock
  (repeat' split) <;> simp_all

@[simp] theorem stallBlock_devCtrl (p : ℕ) (b : PeerBlock) (s : State) :
    ((stallBlock p b s)).devCtrl = s.devCtrl := by
  unfold stallBlock
  (repeat' split) <;> simp_all

@[simp] theorem serveNext_devCtrl (granted : Bool) (p : ℕ) (s : State) :
    ((serveNext granted p s).1).devCtrl = s.devCtrl := by
  unfold serveNext
  (repeat' split) <;> simp_all

@[simp] theorem servePort_devCtrl (x0 : ℕ) (x1 : ℕ) (x2 : State) :
    ((servePort x0 x1 x2)).devCtrl = x2.devCtrl := by
  induction x0 generalizing x2 with
  | zero => rfl
  | succ n ih =>
    unfold servePort
    dsimp only
    split
    · rw [ih]; simp
    · simp

@[simp] theorem serveAll_devCtrl (p : ℕ) (s : State) :
    ((serveAll p s)).devCtrl = s.devCtrl := by
  unfold serveAll
  (repeat' split) <;> simp_all

@[simp] theorem takeReq_devCtrl (p : ℕ) (f : RxFrame) (s : State) :
    ((takeReq p f s)).devCtrl = s.devCtrl := by
  unfold takeReq
  (repeat' split) <;> simp_all

@[simp] theorem takeWdata_devCtrl (p : ℕ) (f : RxFrame) (s : State) :
    ((takeWdata p f s)).devCtrl = s.devCtrl := by
  unfold takeWdata
  (repeat' split) <;> simp_all

@[simp] theorem takeCancel_devCtrl (p : Nat) (f : RxFrame) (s : State) :
    (takeCancel p f s).devCtrl = s.devCtrl := by
  unfold takeCancel
  dsimp only
  rw [enqueue_devCtrl, dropBlocks_devCtrl]
  refine foldS_devCtrl _ _ _ (fun b s => ?_)
  split <;> simp

@[simp] theorem takeCdone_devCtrl (p : ℕ) (f : RxFrame) (s : State) :
    ((takeCdone p f s)).devCtrl = s.devCtrl := by
  unfold takeCdone
  (repeat' split) <;> simp_all

@[simp] theorem sendHello_devCtrl (p : Nat) (s : State) :
    ((sendHello p s)).devCtrl = s.devCtrl := by
  unfold sendHello
  (repeat' split) <;> simp_all

@[simp] theorem frameTransmit_devCtrl (p : Nat) (s : State) :
    (frameTransmit p s).devCtrl = s.devCtrl := by
  unfold frameTransmit
  dsimp only
  (repeat' split) <;> simp

@[simp] theorem enterUp_devCtrl (p : ℕ) (h : Hello) (s : State) :
    ((enterUp p h s)).devCtrl = s.devCtrl := by
  unfold enterUp
  (repeat' split) <;> simp_all

@[simp] theorem resumeLink_devCtrl (p : ℕ) (h : Hello) (s : State) :
    ((resumeLink p h s)).devCtrl = s.devCtrl := by
  unfold resumeLink
  (repeat' split) <;> simp_all

@[simp] theorem restartLink_devCtrl (p : ℕ) (b : ℕ) (h : Hello) (s : State) :
    ((restartLink p b h s)).devCtrl = s.devCtrl := by
  unfold restartLink
  (repeat' split) <;> simp_all

@[simp] theorem trained_devCtrl (p : Nat) (hello : List Byte) (s : State) :
    ((trained p hello s)).devCtrl = s.devCtrl := by
  unfold trained
  (repeat' split) <;> simp_all

@[simp] theorem trainingComplete_devCtrl (p : Nat) (hello : List Byte) (b0 : List (BitVec 66)) (b1 : List (BitVec 66)) (offset : Int) (skew : Nat) (s : State) :
    ((trainingComplete p hello b0 b1 offset skew s)).devCtrl = s.devCtrl := by
  unfold trainingComplete
  (repeat' split) <;> simp_all

@[simp] theorem takeHello_devCtrl (p : ℕ) (f : RxFrame) (s : State) :
    ((takeHello p f s)).devCtrl = s.devCtrl := by
  unfold takeHello
  (repeat' split) <;> simp_all

@[simp] theorem deliverFrame_devCtrl (p : ℕ) (bs : List Sys2Proof.Byte) (s : State) :
    ((deliverFrame p bs s)).devCtrl = s.devCtrl := by
  unfold deliverFrame
  (repeat' split) <;> simp_all

@[simp] theorem advanceE_devCtrl (p : ℕ) (s : State) :
    ((advanceE p s)).devCtrl = s.devCtrl := by
  unfold advanceE
  (repeat' split) <;> simp_all

@[simp] theorem deliverHeld_devCtrl (x0 : ℕ) (x1 : ℕ) (x2 : State) :
    ((deliverHeld x0 x1 x2)).devCtrl = x2.devCtrl := by
  induction x0 generalizing x2 with
  | zero => rfl
  | succ n ih =>
    unfold deliverHeld
    split
    · rfl
    · rw [ih]; simp

@[simp] theorem resequence_devCtrl (p : ℕ) (bs : List Sys2Proof.Byte) (s : State) :
    ((resequence p bs s)).devCtrl = s.devCtrl := by
  unfold resequence
  (repeat' split) <;> simp_all

@[simp] theorem takeFrame_devCtrl (p : ℕ) (bs : List Sys2Proof.Byte) (s : State) :
    ((takeFrame p bs s)).devCtrl = s.devCtrl := by
  unfold takeFrame
  (repeat' split) <;> simp_all

@[simp] theorem receive_devCtrl (want : ℕ) (p : ℕ) (bs : List Sys2Proof.Byte) (s : State) :
    ((receive want p bs s)).devCtrl = s.devCtrl := by
  unfold receive
  (repeat' split) <;> simp_all

@[simp] theorem journalWrite_devCtrl (s : State) :
    ((journalWrite s)).devCtrl = s.devCtrl := by
  unfold journalWrite
  (repeat' split) <;> simp_all

@[simp] theorem journalDrain_devCtrl (x0 : ℕ) (x1 : State) :
    ((journalDrain x0 x1)).devCtrl = x1.devCtrl := by
  induction x0 generalizing x1 with
  | zero => rfl
  | succ n ih => unfold journalDrain; simp [ih]

@[simp] theorem State_modPower_devCtrl (s : State) (f : Power → Power) :
    ((State.modPower s f)).devCtrl = s.devCtrl := by
  unfold State.modPower
  (repeat' split) <;> simp_all

@[simp] theorem stepVid_devCtrl (c : LevelChange) (m : ℕ) (s : State) :
    ((stepVid c m s)).devCtrl = s.devCtrl := by
  unfold stepVid
  (repeat' split) <;> simp_all

@[simp] theorem paceBroken_devCtrl (s : State) :
    ((paceBroken s)).devCtrl = s.devCtrl := by
  unfold paceBroken
  (repeat' split) <;> simp_all

@[simp] theorem endLean_devCtrl (s : State) :
    ((endLean s)).devCtrl = s.devCtrl := by
  unfold endLean
  (repeat' split) <;> simp_all

@[simp] theorem beginChange_devCtrl (n : ℕ) (s : State) :
    ((beginChange n s)).devCtrl = s.devCtrl := by
  unfold beginChange
  (repeat' split) <;> simp_all

@[simp] theorem powerEvent_devCtrl (i : ℕ) (s : State) :
    ((powerEvent i s)).devCtrl = s.devCtrl := by
  unfold powerEvent
  (repeat' split) <;> simp_all

@[simp] theorem State_modWalk_devCtrl (s : State) (w : ℕ) (f : Walk → Walk) :
    ((State.modWalk s w f)).devCtrl = s.devCtrl := by
  unfold State.modWalk
  (repeat' split) <;> simp_all

@[simp] theorem queryBlock_devCtrl (b : SleepBlock) (s : State) :
    ((queryBlock b s)).devCtrl = s.devCtrl := by
  unfold queryBlock
  (repeat' split) <;> simp_all

@[simp] theorem beginEntry_devCtrl (t : ℕ) (s : State) :
    ((beginEntry t s)).devCtrl = s.devCtrl := by
  unfold beginEntry
  (repeat' split) <;> simp_all

@[simp] theorem startRequest_devCtrl (r : PowerReq) (s : State) :
    ((startRequest r s)).devCtrl = s.devCtrl := by
  unfold startRequest
  (repeat' split) <;> simp_all

@[simp] theorem startPending_devCtrl (s : State) :
    ((startPending s)).devCtrl = s.devCtrl := by
  unfold startPending
  (repeat' split) <;> simp_all

@[simp] theorem endRequest_devCtrl (s : State) :
    ((endRequest s)).devCtrl = s.devCtrl := by
  unfold endRequest
  (repeat' split) <;> simp_all

@[simp] theorem arrive_devCtrl (r : PowerReq) (s : State) :
    ((arrive r s)).devCtrl = s.devCtrl := by
  unfold arrive
  (repeat' split) <;> simp_all

@[simp] theorem runRequest_devCtrl (src : ℕ) (addr : ℕ) (s : State) :
    ((runRequest src addr s)).devCtrl = s.devCtrl := by
  unfold runRequest
  (repeat' split) <;> simp_all

@[simp] theorem vidDwell_devCtrl (s : State) :
    ((vidDwell s)).devCtrl = s.devCtrl := by
  unfold vidDwell
  (repeat' split) <;> simp_all

@[simp] theorem vpgSettle_devCtrl (s : State) :
    ((vpgSettle s)).devCtrl = s.devCtrl := by
  unfold vpgSettle
  (repeat' split) <;> simp_all

@[simp] theorem vpgTimeout_devCtrl (s : State) :
    ((vpgTimeout s)).devCtrl = s.devCtrl := by
  unfold vpgTimeout
  (repeat' split) <;> simp_all

@[simp] theorem vpgFall_devCtrl (s : State) :
    ((vpgFall s)).devCtrl = s.devCtrl := by
  unfold vpgFall
  (repeat' split) <;> simp_all

@[simp] theorem stopBlock_devCtrl (b : SleepBlock) (s : State) :
    ((stopBlock b s)).devCtrl = s.devCtrl := by
  unfold stopBlock
  (repeat' split) <;> simp_all

@[simp] theorem restartBlock_devCtrl (b : SleepBlock) (s : State) :
    ((restartBlock b s)).devCtrl = s.devCtrl := by
  unfold restartBlock
  (repeat' split) <;> simp_all

@[simp] theorem servePeers_devCtrl (s : State) :
    ((servePeers s)).devCtrl = s.devCtrl := by
  unfold servePeers
  (repeat' split) <;> simp_all

@[simp] theorem rollBack_devCtrl (bs : List SleepBlock) (s : State) :
    ((rollBack bs s)).devCtrl = s.devCtrl := by
  unfold rollBack
  (repeat' split) <;> simp_all

@[simp] theorem stewardRefused_devCtrl (s : State) :
    ((stewardRefused s)).devCtrl = s.devCtrl := by
  unfold stewardRefused
  (repeat' split) <;> simp

@[simp] theorem refuseSleep_devCtrl (b : SleepBlock) (s : State) :
    ((refuseSleep b s)).devCtrl = s.devCtrl := by
  unfold refuseSleep
  (repeat' split) <;> simp_all

@[simp] theorem abortSleep_devCtrl (s : State) :
    ((abortSleep s)).devCtrl = s.devCtrl := by
  unfold abortSleep
  (repeat' split) <;> simp_all

@[simp] theorem agreeSleep_devCtrl (s : State) :
    ((agreeSleep s)).devCtrl = s.devCtrl := by
  unfold agreeSleep
  (repeat' split) <;> simp_all

@[simp] theorem sleepAnswer_devCtrl (perf : Bool) (s : State) :
    ((sleepAnswer perf s)).devCtrl = s.devCtrl := by
  unfold sleepAnswer
  (repeat' split) <;> simp_all

@[simp] theorem quiesceAnswer_devCtrl (w : Nat) (agree : Bool) (refuse : Bool) (s : State) :
    ((quiesceAnswer w agree refuse s)).devCtrl = s.devCtrl := by
  unfold quiesceAnswer
  (repeat' split) <;> simp_all

@[simp] theorem quiesceTimeout_devCtrl (w : ℕ) (s : State) :
    ((quiesceTimeout w s)).devCtrl = s.devCtrl := by
  unfold quiesceTimeout
  (repeat' split) <;> simp_all

@[simp] theorem tickUnitTimeout_devCtrl (s : State) :
    ((tickUnitTimeout s)).devCtrl = s.devCtrl := by
  unfold tickUnitTimeout
  (repeat' split) <;> simp_all

@[simp] theorem walkWithdraws_devCtrl (w : ℕ) (s : State) :
    ((walkWithdraws w s)).devCtrl = s.devCtrl := by
  unfold walkWithdraws
  (repeat' split) <;> simp_all

@[simp] theorem drain_devCtrl (s : State) :
    ((drain s)).devCtrl = s.devCtrl := by
  unfold drain
  (repeat' split) <;> simp_all

@[simp] theorem hushExit_devCtrl (src addr : Nat) (s : State) : (hushExit src addr s).devCtrl = s.devCtrl := by
  unfold hushExit
  extract_lets s1 s2 s3 s4 s5
  have h2 : s2.devCtrl = s.devCtrl := by unfold s2 s1; simp
  have h3 : s3.devCtrl = s2.devCtrl := (clearValid_devCtrl _).trans rfl
  have h4 : s4.devCtrl = s3.devCtrl := (State.devCtrl_wrCRY _ _ _).trans (State_setB_devCtrl _ _ _ _ (by decide))
  have h5 : s5.devCtrl = s4.devCtrl := (powerEvent_devCtrl _ _).trans (State.devCtrl_wrPWR _ _ _)
  rw [servePeers_devCtrl, endRequest_devCtrl, State_modSup_devCtrl, h5, h4, h3, h2]

@[simp] theorem hushGate_devCtrl (s : State) :
    ((hushGate s)).devCtrl = s.devCtrl := by
  unfold hushGate
  (repeat' split) <;> (try simp) <;> (repeat' split) <;> (try simp) <;> (repeat' split) <;> simp_all

@[simp] theorem paceWindowEnd_devCtrl (n : Nat) (gov : Bool) (s : State) : (paceWindowEnd n gov s).devCtrl = s.devCtrl := by
  unfold paceWindowEnd
  extract_lets s1 slow k x s2
  have h1 : s1.devCtrl = s.devCtrl := by unfold s1; simp
  have h2 : s2.devCtrl = s1.devCtrl := by
    show (s1.wr DEV 0x24 _).devCtrl = _
    simp
  split
  · rw [paceBroken_devCtrl, h1]
  · split
    · exact h1
    · split
      · rw [raise_devCtrl, State_setB_devCtrl _ _ _ _ (by decide), h2, h1]
      · rw [h2, h1]

@[simp] theorem holdSlots_devCtrl (ws : List Nat) (s0 : State) (b : Nat) (s : State) :
    ((holdSlots ws s0 b s)).devCtrl = s.devCtrl := by
  unfold holdSlots
  (repeat' split) <;> simp_all

@[simp] theorem holdPads_devCtrl (s0 : State) (w : Nat) (s : State) :
    ((holdPads s0 w s)).devCtrl = s.devCtrl := by
  unfold holdPads
  (repeat' split) <;> simp_all

@[simp] theorem State_modClo_devCtrl (s : State) (f : Cloister → Cloister) :
    ((State.modClo s f)).devCtrl = s.devCtrl := by
  unfold State.modClo
  simp

@[simp] theorem loadEnds_devCtrl (err : ℕ) (s : State) :
    ((loadEnds err s)).devCtrl = s.devCtrl := by
  unfold loadEnds
  (repeat' split) <;> simp_all

@[simp] theorem cloLoad_devCtrl (v : Sys2Proof.Word) (s : State) :
    ((cloLoad v s)).devCtrl = s.devCtrl := by
  unfold cloLoad
  (repeat' split) <;> simp_all

@[simp] theorem cloAbort_devCtrl (s : State) :
    ((cloAbort s)).devCtrl = s.devCtrl := by
  unfold cloAbort
  (repeat' split) <;> simp_all

@[simp] theorem frameTaken_devCtrl (typ : ℕ) (memInit : ℕ) (d : List Sys2Proof.Byte) (s : State) :
    ((frameTaken typ memInit d s)).devCtrl = s.devCtrl := by
  unfold frameTaken
  (repeat' split) <;> simp_all

@[simp] theorem State_setLoad_devCtrl (s : State) (l : Load) :
    ((State.setLoad s l)).devCtrl = s.devCtrl := by
  unfold State.setLoad
  (repeat' split) <;> simp_all

@[simp] theorem quietPort_devCtrl (w : ℕ) (s : State) :
    ((quietPort w s)).devCtrl = s.devCtrl := by
  unfold quietPort
  (repeat' split) <;> simp_all

@[simp] theorem enterLoading_devCtrl (l : Load) (s : State) :
    ((enterLoading l s)).devCtrl = s.devCtrl := by
  unfold enterLoading
  (repeat' split) <;> simp_all

@[simp] theorem loadChecks_devCtrl (s : State) (l : Load) :
    ((loadChecks s l)).devCtrl = s.devCtrl := by
  unfold loadChecks
  (repeat' split) <;> simp_all

@[simp] theorem loadLast_devCtrl (s : State) :
    ((loadLast s)).devCtrl = s.devCtrl := by
  unfold loadLast
  (repeat' split) <;> simp_all

@[simp] theorem loadByte_devCtrl (b : Sys2Proof.Byte) (s : State) :
    ((loadByte b s)).devCtrl = s.devCtrl := by
  unfold loadByte
  (repeat' split) <;> simp_all

@[simp] theorem cloConfigWord_devCtrl (n : ℕ) (v : Sys2Proof.Word) (s : State) :
    ((cloConfigWord n v s).1).devCtrl = s.devCtrl := by
  unfold cloConfigWord
  (repeat' split) <;> (try simp) <;> (repeat' split) <;> (try simp) <;> (repeat' split) <;> simp_all

@[simp] theorem flashByte_devCtrl (addr : Nat) (quad : Bool) (b : Option Byte) (s : State) :
    ((flashByte addr quad b s)).devCtrl = s.devCtrl := by
  unfold flashByte
  (repeat' split) <;> simp_all

@[simp] theorem loadTimeout_devCtrl (s : State) :
    ((loadTimeout s)).devCtrl = s.devCtrl := by
  unfold loadTimeout
  (repeat' split) <;> simp_all

@[simp] theorem releaseStage_devCtrl (s : State) :
    ((releaseStage s)).devCtrl = s.devCtrl := by
  unfold releaseStage
  (repeat' split) <;> simp_all

@[simp] theorem cloSafe_devCtrl (r : ℕ) (v : Sys2Proof.Word) (s : State) :
    ((cloSafe r v s)).devCtrl = s.devCtrl := by
  unfold cloSafe
  (repeat' split) <;> simp_all

@[simp] theorem State_modSec_devCtrl (s : State) (f : Sec → Sec) :
    ((State.modSec s f)).devCtrl = s.devCtrl := by
  unfold State.modSec
  (repeat' split) <;> simp_all

@[simp] theorem State_freeBytes_devCtrl (s : State) (x1 : ℕ) :
    ((State.freeBytes s x1).2).devCtrl = s.devCtrl := by
  induction x1 generalizing s with
  | zero => rfl
  | succ n ih => unfold State.freeBytes; simp only [ih]; simp

@[simp] theorem State_modSlot_devCtrl (s : State) (n : ℕ) (f : BindSlot → BindSlot) :
    ((State.modSlot s n f)).devCtrl = s.devCtrl := by
  unfold State.modSlot
  (repeat' split) <;> simp_all

@[simp] theorem secClash_devCtrl (s : State) : (secClash s).devCtrl = s.devCtrl := s.devCtrl_wr _ _ _ (by decide)

@[simp] theorem chalIn_devCtrl (v : Sys2Proof.Word) (s : State) :
    ((chalIn v s)).devCtrl = s.devCtrl := by
  unfold chalIn
  (repeat' split) <;> simp_all

@[simp] theorem respOut_devCtrl (s : State) :
    ((respOut s).2).devCtrl = s.devCtrl := by
  unfold respOut
  (repeat' split) <;> simp_all

@[simp] theorem idCert_devCtrl (s : State) :
    ((idCert s).2).devCtrl = s.devCtrl := by
  unfold idCert
  (repeat' split) <;> simp_all

@[simp] theorem ptrClear_devCtrl (s : State) :
    ((ptrClear s)).devCtrl = s.devCtrl := by
  unfold ptrClear
  (repeat' split) <;> simp_all

@[simp] theorem bindData_devCtrl (v : Sys2Proof.Word) (s : State) :
    ((bindData v s)).devCtrl = s.devCtrl := by
  unfold bindData
  (repeat' split) <;> simp_all

@[simp] theorem SecSource_events_devCtrl (d : SecSource) (s : State) :
    ((SecSource.events d s)).devCtrl = s.devCtrl := by
  unfold SecSource.events
  (repeat' split) <;> simp_all

@[simp] theorem secGo_devCtrl (sup : Bool) (cmd : ℕ) (arg : ℕ) (s : State) :
    ((secGo sup cmd arg s)).devCtrl = s.devCtrl := by
  unfold secGo
  (repeat' split) <;> simp_all

@[simp] theorem secFail_devCtrl (code : ℕ) (s : State) :
    ((secFail code s)).devCtrl = s.devCtrl := by
  unfold secFail
  (repeat' split) <;> simp_all

@[simp] theorem secDone_devCtrl (out : List Sys2Proof.Byte) (s : State) :
    ((secDone out s)).devCtrl = s.devCtrl := by
  unfold secDone
  dsimp only
  simp

@[simp] theorem finishProgram_devCtrl (slot : ℕ) (s : State) :
    ((finishProgram slot s)).devCtrl = s.devCtrl := by
  unfold finishProgram
  dsimp only
  split <;> simp [State.takeFree]

@[simp] theorem finishUpdate_devCtrl (input : List Sys2Proof.Byte) (s : State) :
    ((finishUpdate input s)).devCtrl = s.devCtrl := by
  unfold finishUpdate
  (repeat' split) <;> simp_all

@[simp] theorem secComplete_devCtrl (s : State) :
    ((secComplete s)).devCtrl = s.devCtrl := by
  unfold secComplete
  (repeat' split) <;> (try simp) <;> (repeat' split) <;> (try simp) <;> (repeat' split) <;> simp_all

@[simp] theorem updateWaits_devCtrl (s : State) :
    ((updateWaits s)).devCtrl = s.devCtrl := by
  unfold updateWaits
  (repeat' split) <;> simp_all


@[simp] theorem sampleStraps_devCtrl (s : State) :
    ((sampleStraps s)).devCtrl = s.devCtrl := by
  unfold sampleStraps
  (repeat' split) <;> simp_all

@[simp] theorem readyPulse_devCtrl (s : State) :
    ((readyPulse s)).devCtrl = s.devCtrl := by
  unfold readyPulse
  (repeat' split) <;> simp_all

@[simp] theorem State_modTb_devCtrl (s : State) (f : Timebase → Timebase) :
    ((State.modTb s f)).devCtrl = s.devCtrl := by
  unfold State.modTb
  (repeat' split) <;> simp_all

@[simp] theorem changeover_devCtrl (src : Bool) (stop : Bool) (reset : Bool) (s : State) :
    ((changeover src stop reset s)).devCtrl = s.devCtrl := by
  unfold changeover
  (repeat' split) <;> simp_all

@[simp] theorem timebaseCount_devCtrl (s : State) :
    ((timebaseCount s)).devCtrl = s.devCtrl := by
  unfold timebaseCount
  (repeat' split) <;> simp_all

@[simp] theorem tbChangeover_devCtrl (s : State) :
    ((tbChangeover s)).devCtrl = s.devCtrl := by
  unfold tbChangeover
  (repeat' split) <;> simp_all

@[simp] theorem crystalStop_devCtrl (s : State) :
    ((crystalStop s)).devCtrl = s.devCtrl := by
  unfold crystalStop
  (repeat' split) <;> simp_all

@[simp] theorem moveRim_devCtrl (pll : Bool) (s : State) :
    ((moveRim pll s)).devCtrl = s.devCtrl := by
  unfold moveRim
  (repeat' split) <;> simp_all

@[simp] theorem rimSwitch_devCtrl (s : State) :
    ((rimSwitch s)).devCtrl = s.devCtrl := by
  unfold rimSwitch
  (repeat' split) <;> simp_all

@[simp] theorem rimToFio_devCtrl (s : State) :
    ((rimToFio s)).devCtrl = s.devCtrl := by
  unfold rimToFio
  (repeat' split) <;> simp_all

@[simp] theorem pllLockLoss_devCtrl (s : State) :
    ((pllLockLoss s)).devCtrl = s.devCtrl := by
  unfold pllLockLoss
  (repeat' split) <;> simp_all

@[simp] theorem rimPllLock_devCtrl (s : State) :
    ((rimPllLock s)).devCtrl = s.devCtrl := by
  unfold rimPllLock
  (repeat' split) <;> simp_all


@[simp] theorem bootRom_devCtrl (s : State) :
    ((bootRom s)).devCtrl = s.devCtrl := by
  unfold bootRom
  (repeat' split) <;> simp_all

@[simp] theorem startStage_devCtrl (s : State) :
    ((startStage s)).devCtrl = s.devCtrl := by
  unfold startStage
  (repeat' split) <;> simp_all

@[simp] theorem refclkTimeout_devCtrl (s : State) :
    ((refclkTimeout s)).devCtrl = s.devCtrl := by
  unfold refclkTimeout
  (repeat' split) <;> simp_all



@[simp] theorem resetRelease_devCtrl (s : State) :
    ((resetRelease s)).devCtrl = s.devCtrl := by
  unfold resetRelease
  (repeat' split) <;> simp_all


@[simp] theorem latchWake_devCtrl (src : ℕ) (addr : ℕ) (s : State) :
    ((latchWake src addr s)).devCtrl = s.devCtrl := by
  unfold latchWake
  (repeat' split) <;> simp_all

@[simp] theorem wakeEvent_devCtrl (src : ℕ) (addr : ℕ) (s : State) :
    ((wakeEvent src addr s)).devCtrl = s.devCtrl := by
  unfold wakeEvent
  (repeat' split) <;> simp_all

@[simp] theorem wakeEdge_devCtrl (s : State) :
    ((wakeEdge s)).devCtrl = s.devCtrl := by
  unfold wakeEdge
  (repeat' split) <;> simp_all

@[simp] theorem tickWake_devCtrl (s : State) :
    ((tickWake s)).devCtrl = s.devCtrl := by
  unfold tickWake
  (repeat' split) <;> simp_all

@[simp] theorem listenerMatch_devCtrl (a : BitVec 7) (s : State) :
    ((listenerMatch a s)).devCtrl = s.devCtrl := by
  unfold listenerMatch
  (repeat' split) <;> simp_all



@[simp] theorem tblAdvance_devCtrl (n : ℕ) (s : State) :
    ((tblAdvance n s)).devCtrl = s.devCtrl := by
  unfold tblAdvance
  (repeat' split) <;> simp_all

@[simp] theorem tblFlag_devCtrl (b : ℕ) (s : State) :
    ((tblFlag b s)).devCtrl = s.devCtrl := by
  unfold tblFlag
  (repeat' split) <;> simp_all

@[simp] theorem cistWordPut_devCtrl (a : ℕ) (v : Sys2Proof.Word) (s : State) :
    ((cistWordPut a v s).1).devCtrl = s.devCtrl := by
  unfold cistWordPut
  (repeat' split) <;> simp_all

@[simp] theorem storeWordPut_devCtrl (e : ℕ) (a : ℕ) (v : Sys2Proof.Word) (s : State) :
    ((storeWordPut e a v s).1).devCtrl = s.devCtrl := by
  unfold storeWordPut
  (repeat' split) <;> simp_all

@[simp] theorem rulePut_devCtrl (c : ℕ) (p : ℕ) (v : Sys2Proof.Word) (s : State) :
    ((rulePut c p v s).1).devCtrl = s.devCtrl := by
  unfold rulePut
  refine (foldS_devCtrl1 _ _ _ (fun e x => ?_)).trans rfl
  exact storeWordPut_devCtrl _ _ _ _

@[simp] theorem eccFlag_devCtrl (x : State × Bool) :
    ((eccFlag x)).devCtrl = x.1.devCtrl := by
  unfold eccFlag
  (repeat' split) <;> simp_all

@[simp] theorem deniedFlag_devCtrl (x : State × Bool) :
    ((deniedFlag x)).devCtrl = x.1.devCtrl := by
  unfold deniedFlag
  (repeat' split) <;> simp_all

@[simp] theorem tblWrite_devCtrl (t : ℕ) (i : ℕ) (p : ℕ) (v : Sys2Proof.Word) (s : State) :
    ((tblWrite t i p v s)).devCtrl = s.devCtrl := by
  unfold tblWrite
  split
  · split <;> simp
  all_goals simp

@[simp] theorem cistWordGet_devCtrl (a : ℕ) (s : State) :
    ((cistWordGet a s).2).devCtrl = s.devCtrl := by
  unfold cistWordGet
  (repeat' split) <;> simp_all

@[simp] theorem storeWordGet_devCtrl (e : ℕ) (a : ℕ) (s : State) :
    ((storeWordGet e a s).2).devCtrl = s.devCtrl := by
  unfold storeWordGet
  (repeat' split) <;> simp_all

@[simp] theorem tblRead_devCtrl (t : ℕ) (i : ℕ) (p : ℕ) (s : State) :
    ((tblRead t i p s).2).devCtrl = s.devCtrl := by
  unfold tblRead
  (repeat' split) <;> simp_all

@[simp] theorem windowWrite_devCtrl (v : Sys2Proof.Word) (s : State) :
    ((windowWrite v s)).devCtrl = s.devCtrl := by
  unfold windowWrite
  (repeat' split) <;> (try simp) <;> (repeat' split) <;> (try simp) <;> (repeat' split) <;> simp_all

@[simp] theorem windowWordAt_devCtrl (t : ℕ) (i : ℕ) (p : ℕ) (s : State) :
    ((windowWordAt t i p s).2).devCtrl = s.devCtrl := by
  unfold windowWordAt
  (repeat' split) <;> simp_all

@[simp] theorem windowWords_devCtrl (t : ℕ) (i : ℕ) (p : ℕ) (x3 : ℕ) (x4 : State) :
    ((windowWords t i p x3 x4).2).devCtrl = x4.devCtrl := by
  induction x3 generalizing p x4 with
  | zero => rfl
  | succ n ih => unfold windowWords; simp only [ih]; simp

@[simp] theorem windowReads_devCtrl (n : ℕ) (s : State) :
    ((windowReads n s).2).devCtrl = s.devCtrl := by
  unfold windowReads
  (repeat' split) <;> simp_all

@[simp] theorem bootEnds_devCtrl (src : ℕ) (img : List Sys2Proof.Byte) (code : ℕ) (s : State) :
    ((bootEnds src img code s)).devCtrl = s.devCtrl := by
  unfold bootEnds
  (repeat' split) <;> simp_all

@[simp] theorem flashBoot_devCtrl (image : List Sys2Proof.Byte) (quad : Bool) (s : State) :
    ((flashBoot image quad s)).devCtrl = s.devCtrl := by
  unfold flashBoot
  (repeat' split) <;> simp_all

@[simp] theorem supGo_devCtrl (s : State) :
    ((supGo s)).devCtrl = s.devCtrl := by
  unfold supGo
  (repeat' split) <;> simp_all

@[simp] theorem goTimeout_devCtrl (s : State) :
    ((goTimeout s)).devCtrl = s.devCtrl := by
  unfold goTimeout
  (repeat' split) <;> simp_all

@[simp] theorem supRestart_devCtrl (s : State) :
    ((supRestart s)).devCtrl = s.devCtrl := by
  unfold supRestart
  (repeat' split) <;> simp_all

@[simp] theorem supHalt_devCtrl (on : Bool) (s : State) :
    ((supHalt on s)).devCtrl = s.devCtrl := by
  unfold supHalt
  (repeat' split) <;> simp_all

@[simp] theorem supTrap_devCtrl (cause : Sys2Proof.Word) (s : State) :
    ((supTrap cause s)).devCtrl = s.devCtrl := by
  unfold supTrap
  (repeat' split) <;> simp_all

@[simp] theorem supWfi_devCtrl (s : State) :
    ((supWfi s)).devCtrl = s.devCtrl := by
  unfold supWfi
  (repeat' split) <;> simp_all

@[simp] theorem hostDoorbell_devCtrl (s : State) :
    ((hostDoorbell s)).devCtrl = s.devCtrl := by
  unfold hostDoorbell
  (repeat' split) <;> simp_all

@[simp] theorem handover_devCtrl (s : State) :
    ((handover s)).devCtrl = s.devCtrl := by
  unfold handover
  (repeat' split) <;> simp_all

@[simp] theorem causeClear_devCtrl (v : Sys2Proof.W32) (s : State) :
    ((causeClear v s)).devCtrl = s.devCtrl := by
  unfold causeClear
  (repeat' split) <;> simp_all

@[simp] theorem drawWords_devCtrl (f : State → Sys2Proof.Word × State) (x1 : ℕ) (x2 : State) (h : ∀ s, (f s).2.devCtrl = s.devCtrl) :
    ((drawWords f x1 x2).2).devCtrl = x2.devCtrl := by
  induction x1 generalizing x2 with
  | zero => rfl
  | succ n ih => unfold drawWords; simp only [ih, h]

@[simp] theorem windowRegRead_devCtrl (t : ℕ) (r : ℕ) (n : ℕ) (s : State) :
    ((windowRegRead t r n s).2).devCtrl = s.devCtrl := by
  unfold windowRegRead
  (repeat' split) <;> simp_all

@[simp] theorem wordRead_devCtrl (t : ℕ) (r : ℕ) (s : State) :
    ((wordRead t r s).2).devCtrl = s.devCtrl := by
  unfold wordRead
  split
  · rfl
  · split
    · exact windowRegRead_devCtrl t r 1 s
    · rfl

@[simp] theorem readEach_devCtrl (t r : Nat) (ks : List Nat) (s : State) :
    (readEach t r ks s).2.devCtrl = s.devCtrl := by
  induction ks generalizing s with
  | nil => rfl
  | cons k ks ih =>
    show (readEach t r ks (wordRead t (r + k) s).2).2.devCtrl = s.devCtrl
    rw [ih]; simp

@[simp] theorem bgStart_devCtrl (e : ℕ) (s : State) :
    ((bgStart e s)).devCtrl = s.devCtrl := by
  unfold bgStart
  (repeat' split) <;> simp_all

@[simp] theorem clrFault_devCtrl (e : ℕ) (s : State) :
    ((clrFault e s)).devCtrl = s.devCtrl := by
  unfold clrFault
  (repeat' split) <;> simp_all

@[simp] theorem bankSize_devCtrl (e : ℕ) (v : Sys2Proof.Word) (s : State) :
    ((bankSize e v s)).devCtrl = s.devCtrl := by
  unfold bankSize
  (repeat' split) <;> simp_all

@[simp] theorem pmpCtrl_devCtrl (v : Sys2Proof.Word) (s : State) :
    ((pmpCtrl v s)).devCtrl = s.devCtrl := by
  unfold pmpCtrl
  (repeat' split) <;> simp_all

@[simp] theorem secCtrl_devCtrl (sup : Bool) (v : Sys2Proof.Word) (s : State) :
    ((secCtrl sup v s)).devCtrl = s.devCtrl := by
  unfold secCtrl
  (repeat' split) <;> simp_all

@[simp] theorem cloCtrl_devCtrl (v : Sys2Proof.Word) (s : State) :
    ((cloCtrl v s)).devCtrl = s.devCtrl := by
  unfold cloCtrl
  (repeat' split) <;> simp_all

@[simp] theorem tbSrc_devCtrl (v : Sys2Proof.Word) (s : State) :
    ((tbSrc v s)).devCtrl = s.devCtrl := by
  unfold tbSrc
  (repeat' split) <;> simp_all

@[simp] theorem supCtrl_devCtrl (v : Sys2Proof.Word) (s : State) :
    ((supCtrl v s)).devCtrl = s.devCtrl := by
  unfold supCtrl
  (repeat' split) <;> simp_all

@[simp] theorem injMode_devCtrl (p : ℕ) (v : Sys2Proof.Word) (s : State) :
    ((injMode p v s)).devCtrl = s.devCtrl := by
  unfold injMode
  (repeat' split) <;> simp_all

@[simp] theorem injSeed_devCtrl (p : ℕ) (v : Sys2Proof.Word) (s : State) :
    ((injSeed p v s)).devCtrl = s.devCtrl := by
  unfold injSeed
  (repeat' split) <;> simp_all

@[simp] theorem faultCount_devCtrl (c : ℕ) (v : Sys2Proof.Word) (s : State) :
    ((faultCount c v s)).devCtrl = s.devCtrl := by
  unfold faultCount
  (repeat' split) <;> simp_all

@[simp] theorem devEffect_devCtrl (r : Nat) (v : Word) (s : State) :
    ((devEffect r v s)).devCtrl = s.devCtrl := by
  unfold devEffect
  (repeat' split) <;> simp_all

@[simp] theorem supPut_devCtrl (sup : Bool) (r : ℕ) (v : Sys2Proof.Word) (s : State) (s1 : State) (h1 : s1.devCtrl = s.devCtrl) :
    ((supPut sup r v s s1)).devCtrl = s.devCtrl := by
  unfold supPut
  repeat' split
  all_goals simp_all

@[simp] theorem pwrPut_devCtrl (r : ℕ) (v : Sys2Proof.Word) (s1 : State) :
    ((pwrPut r v s1)).devCtrl = s1.devCtrl := by
  unfold pwrPut
  (repeat' split) <;> simp_all

@[simp] theorem cryPut_devCtrl (r : ℕ) (v : Sys2Proof.Word) (s : State) (s1 : State) (h1 : s1.devCtrl = s.devCtrl) :
    ((cryPut r v s s1)).devCtrl = s.devCtrl := by
  unfold cryPut
  repeat' split
  all_goals simp_all

@[simp] theorem secPut_devCtrl (sup : Bool) (r : ℕ) (v : Sys2Proof.Word) (s : State) (s1 : State) (h1 : s1.devCtrl = s.devCtrl) :
    ((secPut sup r v s s1)).devCtrl = s.devCtrl := by
  unfold secPut
  repeat' split
  all_goals simp_all

@[simp] theorem cloPut_devCtrl (r : ℕ) (v : Sys2Proof.Word) (s : State) (s1 : State) (h1 : s1.devCtrl = s.devCtrl) :
    ((cloPut r v s s1)).devCtrl = s.devCtrl := by
  unfold cloPut
  repeat' split
  all_goals simp_all

@[simp] theorem lnkPut_devCtrl (p : ℕ) (r : ℕ) (v : Sys2Proof.Word) (s : State) (s1 : State) (h1 : s1.devCtrl = s.devCtrl) :
    ((lnkPut p r v s s1)).devCtrl = s.devCtrl := by
  unfold lnkPut
  repeat' split
  all_goals simp_all

@[simp] theorem chPut_devCtrl (c : ℕ) (r : ℕ) (v : Sys2Proof.Word) (s : State) (s1 : State) (h1 : s1.devCtrl = s.devCtrl) :
    ((chPut c r v s s1)).devCtrl = s.devCtrl := by
  unfold chPut
  repeat' split
  all_goals simp_all

@[simp] theorem engPut_devCtrl (e : ℕ) (r : ℕ) (v : Sys2Proof.Word) (s : State) (s1 : State) (h1 : s1.devCtrl = s.devCtrl) :
    ((engPut e r v s s1)).devCtrl = s.devCtrl := by
  unfold engPut
  repeat' split
  all_goals simp_all


@[simp] theorem windowRegWrite_devCtrl (t : ℕ) (r : ℕ) (v : Sys2Proof.Word) (s : State) :
    ((windowRegWrite t r v s)).devCtrl = s.devCtrl := by
  unfold windowRegWrite
  (repeat' split) <;> simp_all



@[simp] theorem State_modCtl_devCtrl (s : State) (f : CtlPort → CtlPort) :
    ((State.modCtl s f)).devCtrl = s.devCtrl := by
  unfold State.modCtl
  (repeat' split) <;> simp_all

@[simp] theorem recordWrite_devCtrl (oc : ℕ) (s : State) :
    ((recordWrite oc s)).devCtrl = s.devCtrl := by
  unfold recordWrite
  (repeat' split) <;> simp_all



@[simp] theorem writeHush_devCtrl (bs : List Sys2Proof.Byte) (s : State) :
    ((writeHush bs s)).devCtrl = s.devCtrl := by
  unfold writeHush
  (repeat' split) <;> simp_all


@[simp] theorem drive_devCtrl (rcur : ℕ) (ws : List Sys2Proof.Word) (s : State) :
    ((drive rcur ws s)).devCtrl = s.devCtrl := by
  unfold drive
  (repeat' split) <;> simp_all

@[simp] theorem noAnswer_devCtrl (s : State) :
    ((noAnswer s)).devCtrl = s.devCtrl := by
  unfold noAnswer
  (repeat' split) <;> simp_all

@[simp] theorem readWords_devCtrl (t r : Nat) (ks : List Nat) (s : State) :
    (readWords t r ks s).2.devCtrl = s.devCtrl := by
  show (readEach t r _ (readEach t r _ s).2).2.devCtrl = s.devCtrl
  rw [readEach_devCtrl, readEach_devCtrl]

@[simp] theorem readData_devCtrl (t : ℕ) (r : ℕ) (n : ℕ) (s : State) :
    ((readData t r n s).2.2).devCtrl = s.devCtrl := by
  unfold readData
  dsimp only
  split
  · dsimp only
    split
    · exact windowRegRead_devCtrl t r n s
    · exact readWords_devCtrl t r _ s
  · rfl
  · rfl
  · rfl

@[simp] theorem readChecked_devCtrl (bs : List Sys2Proof.Byte) (s : State) :
    ((readChecked bs s)).devCtrl = s.devCtrl := by
  unfold readChecked
  (repeat' split) <;> simp_all

@[simp] theorem readStarting_devCtrl (bs : List Sys2Proof.Byte) (s : State) :
    ((readStarting bs s)).devCtrl = s.devCtrl := by
  unfold readStarting
  (repeat' split) <;> simp_all

@[simp] theorem readFrame_devCtrl (bs : List Sys2Proof.Byte) (s : State) :
    ((readFrame bs s)).devCtrl = s.devCtrl := by
  unfold readFrame
  (repeat' split) <;> simp_all

@[simp] theorem State_modTap_devCtrl (s : State) (f : Tap → Tap) :
    ((State.modTap s f)).devCtrl = s.devCtrl := by
  unfold State.modTap
  (repeat' split) <;> simp_all

@[simp] theorem tapInstr_devCtrl (i : TapIns) (s : State) :
    ((tapInstr i s)).devCtrl = s.devCtrl := by
  unfold tapInstr
  (repeat' split) <;> simp_all

@[simp] theorem tapReset_devCtrl (s : State) :
    ((tapReset s)).devCtrl = s.devCtrl := by
  unfold tapReset
  (repeat' split) <;> simp_all

@[simp] theorem tapDone_devCtrl (refused : Bool) (addr : ℕ) (data : Sys2Proof.Word) (s : State) :
    ((tapDone refused addr data s)).devCtrl = s.devCtrl := by
  unfold tapDone
  (repeat' split) <;> simp_all



@[simp] theorem retireBank_devCtrl (b : ℕ) (cause : ℕ) (s : State) :
    ((retireBank b cause s)).devCtrl = s.devCtrl := by
  unfold retireBank
  (repeat' split) <;> simp_all

@[simp] theorem exhausted_devCtrl (i : Sys2Proof.BankId) (column : ℕ) (s : State) :
    ((exhausted i column s)).devCtrl = s.devCtrl := by
  unfold exhausted
  (repeat' split) <;> simp_all

@[simp] theorem assignSpare_devCtrl (i : Sys2Proof.BankId) (column : ℕ) (cause : ℕ) (s : State) :
    ((assignSpare i column cause s)).devCtrl = s.devCtrl := by
  unfold assignSpare
  (repeat' split) <;> simp_all

@[simp] theorem scrubLine_devCtrl (n : ℕ) (b : ℕ) (s : State) :
    ((scrubLine n b s)).devCtrl = s.devCtrl := by
  unfold scrubLine
  (repeat' split) <;> simp_all

@[simp] theorem scrubGranule_devCtrl (n : ℕ) (e : ℕ) (s : State) :
    ((scrubGranule n e s)).devCtrl = s.devCtrl := by
  unfold scrubGranule
  (repeat' split) <;> simp_all

@[simp] theorem scrubInterval_devCtrl (s : State) :
    ((scrubInterval s)).devCtrl = s.devCtrl := by
  unfold scrubInterval
  (repeat' split) <;> simp_all

@[simp] theorem columnTest_devCtrl (i : Sys2Proof.BankId) (result : ℕ) (bitPos : ℕ) (s : State) :
    ((columnTest i result bitPos s)).devCtrl = s.devCtrl := by
  unfold columnTest
  (repeat' split) <;> simp_all

@[simp] theorem spareCopy_devCtrl (i : Sys2Proof.BankId) (s : State) :
    ((spareCopy i s)).devCtrl = s.devCtrl := by
  unfold spareCopy
  (repeat' split) <;> simp_all

@[simp] theorem copyRecords_devCtrl (i : Sys2Proof.BankId) (column : ℕ) (s : State) :
    ((copyRecords i column s)).devCtrl = s.devCtrl := by
  unfold copyRecords
  (repeat' split) <;> simp_all

@[simp] theorem spareSwitch_devCtrl (i : Sys2Proof.BankId) (s : State) :
    ((spareSwitch i s)).devCtrl = s.devCtrl := by
  unfold spareSwitch
  (repeat' split) <;> simp_all

@[simp] theorem repairEdge_devCtrl (c : Sys2Proof.BankId × ℕ) (s : State) :
    ((repairEdge c s)).devCtrl = s.devCtrl := by
  unfold repairEdge
  (repeat' split) <;> simp_all

@[simp] theorem pumpEdge_devCtrl (p : ℕ) (s : State) :
    ((pumpEdge p s)).devCtrl = s.devCtrl := by
  unfold pumpEdge
  (repeat' split) <;> simp_all

@[simp] theorem portEdge_devCtrl (c : ℕ × Bool) (s : State) :
    ((portEdge c s)).devCtrl = s.devCtrl := by
  unfold portEdge
  (repeat' split) <;> simp_all

@[simp] theorem unitCommands_devCtrl (s : State) :
    ((unitCommands s)).devCtrl = s.devCtrl := by
  unfold unitCommands
  (repeat' split) <;> simp_all

@[simp] theorem withEdge_devCtrl (f : State → State) (s : State) (h : ∀ s, (f s).devCtrl = s.devCtrl) :
    ((withEdge f s)).devCtrl = s.devCtrl := by
  unfold withEdge
  dsimp only
  split <;> simp [h]

@[simp] theorem forgetBlock_devCtrl (o : PumpOp) (s : State) :
    ((forgetBlock o s)).devCtrl = s.devCtrl := by
  unfold forgetBlock
  (repeat' split) <;> simp_all

@[simp] theorem completeStill_devCtrl (mine : PumpOp → Bool) (s : State) :
    ((completeStill mine s)).devCtrl = s.devCtrl := by
  unfold completeStill
  refine foldS_devCtrl _ _ _ (fun o s => ?_)
  split <;> simp

@[simp] theorem stillTick_devCtrl (s : State) :
    ((stillTick s)).devCtrl = s.devCtrl := by
  unfold stillTick
  (repeat' split) <;> simp_all

@[simp] theorem stillRun_devCtrl (r : Run) (s : State) :
    ((stillRun r s)).devCtrl = s.devCtrl := by
  unfold stillRun
  (repeat' split) <;> simp_all

@[simp] theorem stopStill_devCtrl (e : ℕ) (r : Run) (s : State) :
    ((stopStill e r s)).devCtrl = s.devCtrl := by
  unfold stopStill
  (repeat' split) <;> simp_all

@[simp] theorem stillEngine_devCtrl (e : ℕ) (s : State) :
    ((stillEngine e s)).devCtrl = s.devCtrl := by
  unfold stillEngine
  (repeat' split) <;> (try simp) <;> (repeat' split) <;> (try simp) <;> (repeat' split) <;> simp_all

@[simp] theorem stillPump_devCtrl (p : ℕ) (s : State) :
    ((stillPump p s)).devCtrl = s.devCtrl := by
  unfold stillPump
  (repeat' split) <;> simp_all

@[simp] theorem stillBank_devCtrl (b : ℕ) (s : State) :
    ((stillBank b s)).devCtrl = s.devCtrl := by
  unfold stillBank
  (repeat' split) <;> simp_all

@[simp] theorem stillPool_devCtrl (s : State) :
    ((stillPool s)).devCtrl = s.devCtrl := by
  unfold stillPool
  (repeat' split) <;> simp_all

@[simp] theorem endWaits_devCtrl (b : Nat) (s : State) :
    ((endWaits b s)).devCtrl = s.devCtrl := by
  unfold endWaits
  (repeat' split) <;> simp_all

@[simp] theorem stillBells_devCtrl (s : State) :
    ((stillBells s)).devCtrl = s.devCtrl := by
  unfold stillBells
  (repeat' split) <;> simp_all

@[simp] theorem stillnessFault_devCtrl (u : Sys2Proof.StillUnit) (s : State) :
    ((stillnessFault u s)).devCtrl = s.devCtrl := by
  unfold stillnessFault
  (repeat' split) <;> simp_all

@[simp] theorem busValue_devCtrl (v : Sys2Proof.W32) (s : State) :
    ((busValue v s)).devCtrl = s.devCtrl := by
  unfold busValue
  (repeat' split) <;> simp_all

@[simp] theorem busDone_devCtrl (s : State) :
    ((busDone s)).devCtrl = s.devCtrl := by
  unfold busDone
  (repeat' split) <;> simp_all

@[simp] theorem busError_devCtrl (s : State) :
    ((busError s)).devCtrl = s.devCtrl := by
  unfold busError
  (repeat' split) <;> simp_all

@[simp] theorem supRing_devCtrl (b : ℕ) (inc : ℕ) (s : State) :
    ((supRing b inc s)).devCtrl = s.devCtrl := by
  unfold supRing
  (repeat' split) <;> simp_all

@[simp] theorem supTry_devCtrl (b : ℕ) (s : State) :
    ((supTry b s)).devCtrl = s.devCtrl := by
  unfold supTry
  (repeat' split) <;> simp_all

@[simp] theorem supPeek_devCtrl (b : ℕ) (s : State) :
    ((supPeek b s)).devCtrl = s.devCtrl := by
  unfold supPeek
  (repeat' split) <;> simp_all

@[simp] theorem bellsWrite_devCtrl (b : ℕ) (v : Sys2Proof.Word) (s : State) :
    ((bellsWrite b v s)).devCtrl = s.devCtrl := by
  unfold bellsWrite
  (repeat' split) <;> simp_all

@[simp] theorem bankReadyMark_devCtrl (c : ℕ) (foreign : Bool) (s : State) :
    ((bankReadyMark c foreign s)).devCtrl = s.devCtrl := by
  unfold bankReadyMark
  (repeat' split) <;> simp_all

@[simp] theorem fltQstat_devCtrl (s : State) :
    ((fltQstat s)).devCtrl = s.devCtrl := by
  unfold fltQstat
  (repeat' split) <;> simp_all

@[simp] theorem fltHeadRead_devCtrl (i : ℕ) (s : State) :
    ((fltHeadRead i s)).devCtrl = s.devCtrl := by
  unfold fltHeadRead
  (repeat' split) <;> simp_all

@[simp] theorem fltPop_devCtrl (s : State) :
    ((fltPop s)).devCtrl = s.devCtrl := by
  unfold fltPop
  split <;> simp [keepRecord]

@[simp] theorem retireUnit_devCtrl (kind : ℕ) (i : ℕ) (s : State) :
    ((retireUnit kind i s)).devCtrl = s.devCtrl := by
  unfold retireUnit
  (repeat' split) <;> simp_all

@[simp] theorem readmitUnit_devCtrl (kind : ℕ) (i : ℕ) (s : State) :
    ((readmitUnit kind i s)).devCtrl = s.devCtrl := by
  unfold readmitUnit
  (repeat' split) <;> simp_all

@[simp] theorem fltRetire_devCtrl (v : Sys2Proof.W32) (s : State) :
    ((fltRetire v s)).devCtrl = s.devCtrl := by
  unfold fltRetire
  (repeat' split) <;> simp_all

@[simp] theorem fltReadmit_devCtrl (v : Sys2Proof.W32) (s : State) :
    ((fltReadmit v s)).devCtrl = s.devCtrl := by
  unfold fltReadmit
  (repeat' split) <;> simp_all



@[simp] theorem queueRepair_devCtrl (i : Sys2Proof.BankId) (column : ℕ) (s : State) :
    ((queueRepair i column s)).devCtrl = s.devCtrl := by
  unfold queueRepair
  (repeat' split) <;> simp_all

@[simp] theorem fltRepair_devCtrl (v : Sys2Proof.W32) (s : State) :
    ((fltRepair v s)).devCtrl = s.devCtrl := by
  unfold fltRepair
  (repeat' split) <;> simp_all

@[simp] theorem fltScrub_devCtrl (v : Sys2Proof.W32) (s : State) :
    ((fltScrub v s)).devCtrl = s.devCtrl := by
  unfold fltScrub
  (repeat' split) <;> simp_all

@[simp] theorem shadowCfg_devCtrl (c : ℕ) (v : Sys2Proof.W32) (s : State) :
    ((shadowCfg c v s)).devCtrl = s.devCtrl := by
  unfold shadowCfg
  (repeat' split) <;> simp_all

@[simp] theorem State_modSlotOf_devCtrl (s : State) (n : ℕ) (f : Slot → Slot) :
    ((State.modSlotOf s n f)).devCtrl = s.devCtrl := by
  unfold State.modSlotOf
  (repeat' split) <;> simp_all

@[simp] theorem postSlot_devCtrl (n p : Nat) (s : State) :
    (postSlot n p s).devCtrl = s.devCtrl := by
  unfold postSlot
  dsimp only
  rw [acceptOp_devCtrl]
  simp

@[simp] theorem supPost_devCtrl (n : ℕ) (p : ℕ) (s : State) :
    ((supPost n p s)).devCtrl = s.devCtrl := by
  unfold supPost
  (repeat' split) <;> simp_all

@[simp] theorem cistLoad_devCtrl (a : ℕ) (n : ℕ) (s : State) :
    ((cistLoad a n s)).devCtrl = s.devCtrl := by
  unfold cistLoad
  (repeat' split) <;> simp_all

@[simp] theorem cistStore_devCtrl (a : ℕ) (n : ℕ) (v : Sys2Proof.W32) (s : State) :
    ((cistStore a n v s)).devCtrl = s.devCtrl := by
  unfold cistStore
  (repeat' split) <;> simp_all

@[simp] theorem regLoad_devCtrl (t : ℕ) (r : ℕ) (s : State) :
    ((regLoad t r s)).devCtrl = s.devCtrl := by
  unfold regLoad
  have h := readData_devCtrl t r 1 s
  dsimp only
  split <;> simp [h]


@[simp] theorem fltLoad_devCtrl (o : ℕ) (s : State) :
    ((fltLoad o s)).devCtrl = s.devCtrl := by
  unfold fltLoad
  (repeat' split) <;> simp_all


@[simp] theorem slotLoad_devCtrl (n : ℕ) (o : ℕ) (s : State) :
    ((slotLoad n o s)).devCtrl = s.devCtrl := by
  unfold slotLoad
  (repeat' split) <;> simp_all

@[simp] theorem slotStore_devCtrl (n : ℕ) (o : ℕ) (v : Sys2Proof.W32) (s : State) :
    ((slotStore n o v s)).devCtrl = s.devCtrl := by
  unfold slotStore
  (repeat' split) <;> simp_all

@[simp] theorem supLoad_devCtrl (a : ℕ) (size : ℕ) (s : State) :
    ((supLoad a size s)).devCtrl = s.devCtrl := by
  unfold supLoad
  (repeat' split) <;> simp_all


@[simp] theorem supFence_devCtrl (s : State) :
    ((supFence s)).devCtrl = s.devCtrl := by
  unfold supFence
  (repeat' split) <;> simp_all

@[simp] theorem takeRequest_devCtrl (s : State) :
    ((takeRequest s)).devCtrl = s.devCtrl := by
  unfold takeRequest
  (repeat' split) <;> simp_all

@[simp] theorem mboxReply_devCtrl (m0 : Sys2Proof.Word) (result : ℕ) (low : ℕ) (w6 : ℕ) (w7 : ℕ) (s : State) :
    ((mboxReply m0 result low w6 w7 s)).devCtrl = s.devCtrl := by
  unfold mboxReply
  (repeat' split) <;> simp_all

@[simp] theorem serveRequest_devCtrl (code : ℕ) (f : State → State × ℕ × ℕ × ℕ × ℕ) (s : State) (h : ∀ s, (f s).1.devCtrl = s.devCtrl) :
    ((serveRequest code f s)).devCtrl = s.devCtrl := by
  unfold serveRequest
  split
  · dsimp only
    rw [mboxReply_devCtrl, h, takeRequest_devCtrl]
  · rfl

@[simp] theorem copyRange_devCtrl (a : ℕ) (b : ℕ) (x : ℕ × ℕ) (s : State) :
    ((copyRange a b x s)).devCtrl = s.devCtrl := by
  unfold copyRange
  (repeat' split) <;> simp_all

@[simp] theorem copyPairs_devCtrl (f : ℕ → ℕ → List (ℕ × ℕ)) (ps : List (ℕ × ℕ)) (s : State) :
    ((copyPairs f ps s)).devCtrl = s.devCtrl := by
  unfold copyPairs
  (repeat' split) <;> simp_all








@[simp] theorem repairServe_devCtrl (s : State) :
    ((repairServe s).1).devCtrl = s.devCtrl := by
  unfold repairServe
  (repeat' split) <;> (try simp) <;> (repeat' split) <;> (try simp) <;> (repeat' split) <;> simp_all



@[simp] theorem mboxRepair_devCtrl (s : State) :
    ((mboxRepair s)).devCtrl = s.devCtrl := by
  unfold mboxRepair
  (repeat' split) <;> simp_all

@[simp] theorem putHeaders_devCtrl (a : ℕ) (bs : List Sys2Proof.Byte) (s : State) :
    ((putHeaders a bs s)).devCtrl = s.devCtrl := by
  unfold putHeaders
  (repeat' split) <;> simp_all

@[simp] theorem imageReads_devCtrl (e : ℕ) (act : Bool) (cs : List ℕ) (s : State) :
    ((imageReads e act cs s)).devCtrl = s.devCtrl := by
  unfold imageReads
  (repeat' split) <;> simp_all

@[simp] theorem sealSession_devCtrl (tag : List Sys2Proof.Byte) (s : State) :
    ((sealSession tag s)).devCtrl = s.devCtrl := by
  unfold sealSession
  split
  · rfl
  · dsimp only
    simp

@[simp] theorem importSession_devCtrl (bad : ℕ) (tag : Option (List Sys2Proof.Byte)) (s : State) :
    ((importSession bad tag s)).devCtrl = s.devCtrl := by
  unfold importSession
  (repeat' split) <;> simp_all

@[simp] theorem wexportServe_devCtrl (s : State) :
    ((wexportServe s).1).devCtrl = s.devCtrl := by
  unfold wexportServe
  (repeat' split) <;> (try simp) <;> (repeat' split) <;> (try simp) <;> (repeat' split) <;> simp_all

@[simp] theorem importChan_devCtrl (e : ℕ) (foreign : Bool) (c : ℕ) (s : State) :
    ((importChan e foreign c s)).devCtrl = s.devCtrl := by
  unfold importChan
  (repeat' split) <;> simp_all

@[simp] theorem wimportServe_devCtrl (s : State) :
    ((wimportServe s).1).devCtrl = s.devCtrl := by
  unfold wimportServe
  (repeat' split) <;> (try simp) <;> (repeat' split) <;> (try simp) <;> (repeat' split) <;> simp_all

@[simp] theorem mboxWexport_devCtrl (s : State) :
    ((mboxWexport s)).devCtrl = s.devCtrl := by
  unfold mboxWexport
  (repeat' split) <;> simp_all

@[simp] theorem mboxWimport_devCtrl (s : State) :
    ((mboxWimport s)).devCtrl = s.devCtrl := by
  unfold mboxWimport
  (repeat' split) <;> simp_all

@[simp] theorem grantEngines_devCtrl (tick : Bool) (es : List Nat) (s : State) :
    ((grantEngines tick es s)).devCtrl = s.devCtrl := by
  unfold grantEngines
  (repeat' split) <;> simp_all

@[simp] theorem grantSupervisor_devCtrl (s : State) :
    ((grantSupervisor s)).devCtrl = s.devCtrl := by
  unfold grantSupervisor
  refine foldS_devCtrl _ _ _ (fun n s => ?_)
  repeat' split
  all_goals simp

@[simp] theorem grantPeers_devCtrl (s : State) :
    ((grantPeers s)).devCtrl = s.devCtrl := by
  unfold grantPeers
  (repeat' split) <;> simp_all

@[simp] theorem tagGrant_devCtrl (s : State) :
    ((tagGrant s)).devCtrl = s.devCtrl := by
  unfold tagGrant
  (repeat' split) <;> simp_all

@[simp] theorem forChan_devCtrl (c : ℕ) (f : State → State) (s : State) (h : ∀ s, (f s).devCtrl = s.devCtrl) :
    ((forChan c f s)).devCtrl = s.devCtrl := by
  unfold forChan
  split <;> simp [h]

@[simp] theorem forEngine_devCtrl (e : ℕ) (f : State → State) (s : State) (h : ∀ s, (f s).devCtrl = s.devCtrl) :
    ((forEngine e f s)).devCtrl = s.devCtrl := by
  unfold forEngine
  split <;> simp [h]

@[simp] theorem forWell_devCtrl (w : ℕ) (f : State → State) (s : State) (h : ∀ s, (f s).devCtrl = s.devCtrl) :
    ((forWell w f s)).devCtrl = s.devCtrl := by
  unfold forWell
  split <;> simp [h]

@[simp] theorem forPort_devCtrl (p : ℕ) (f : State → State) (s : State) (h : ∀ s, (f s).devCtrl = s.devCtrl) :
    ((forPort p f s)).devCtrl = s.devCtrl := by
  unfold forPort
  split <;> simp [h]

@[simp] theorem forLane_devCtrl (p : ℕ) (lane : ℕ) (f : State → State) (s : State) (h : ∀ s, (f s).devCtrl = s.devCtrl) :
    ((forLane p lane f s)).devCtrl = s.devCtrl := by
  unfold forLane
  split <;> simp [h]


@[simp] theorem readAt_devCtrl (t : ℕ) (r : ℕ) (n : ℕ) (s : State) :
    ((readAt t r n s)).devCtrl = s.devCtrl := by
  unfold readAt
  (repeat' split) <;> simp_all


@[simp] theorem tickPin_devCtrl (dt : ℕ) (s : State) :
    ((tickPin dt s)).devCtrl = s.devCtrl := by
  unfold tickPin
  (repeat' split) <;> simp_all

@[simp] theorem onEdge_devCtrl (store effect : State → State) (h1 : ∀ s, (store s).devCtrl = s.devCtrl) (h2 : ∀ s, (effect s).devCtrl = s.devCtrl) (s : State) :
    (onEdge store effect s).devCtrl = s.devCtrl := by
  unfold onEdge
  split <;> simp [h1, h2]

@[simp] theorem samplePort_devCtrl (w : Nat) (data : Nat) (valid : Bool) (opn : Bool) (stuck : Bool) (dt : Nat) (s : State) :
    ((samplePort w data valid opn stuck dt s)).devCtrl = s.devCtrl := by
  unfold samplePort
  (repeat' split) <;> simp_all

@[simp] theorem windowExpires_devCtrl (c : ℕ) (s : State) :
    ((windowExpires c s)).devCtrl = s.devCtrl := by
  unfold windowExpires
  (repeat' split) <;> simp_all

@[simp] theorem epochEnds_devCtrl (c : ℕ) (s : State) :
    ((epochEnds c s)).devCtrl = s.devCtrl := by
  unfold epochEnds
  (repeat' split) <;> simp_all

@[simp] theorem newLevels_devCtrl (s : State) :
    ((newLevels s)).devCtrl = s.devCtrl := by
  unfold newLevels
  (repeat' split) <;> simp_all

@[simp] theorem edgeMemory_devCtrl (s : State) (x : Edges) (k : Nat) (w : Nat) (t : State) :
    ((edgeMemory s x k w t)).devCtrl = t.devCtrl := by
  unfold edgeMemory
  (repeat' split) <;> simp_all

@[simp] theorem edgeWalk_devCtrl (s : State) (x : Edges) (w : Nat) (t : State) :
    ((edgeWalk s x w t)).devCtrl = t.devCtrl := by
  unfold edgeWalk
  (repeat' split) <;> simp_all

@[simp] theorem clockEdge_devCtrl (s : State) :
    ((clockEdge s)).devCtrl = s.devCtrl := by
  unfold clockEdge
  (repeat' split) <;> simp_all

theorem wr_devCtrl_ch (c : ℕ) (v : Sys2Proof.Word) (s : State) : (s.wr (CH c) 0x02 v).devCtrl = s.devCtrl := by
  have h : key DEV 0x03 ≠ key (CH c) 0x02 := by unfold key; simp only [DEV, CH]; omega
  exact State.rd_wr_other _ _ _ _ _ _ h

/-- A write of CH_ENGINE_MAP by the supervisor. -/
@[simp] theorem supWrite_map_devCtrl (c : ℕ) (v : Sys2Proof.Word) (s : State) : (supWrite (CH c) 0x02 v s).devCtrl = s.devCtrl := by
  unfold supWrite wordWrite
  split
  · rfl
  · split
    · simp
    · split
      · rfl
      · split
        · rfl
        · split
          · simp
          · unfold regPut
            rw [if_neg (show ¬ (0x10 + c = 0x00) by omega), if_neg (show ¬ (0x10 + c = 0x01) by omega),
              if_neg (show ¬ (0x10 + c = 0x02) by omega), if_neg (show ¬ (0x10 + c = 0x03) by omega),
              if_neg (show ¬ (0x10 + c = 0x04) by omega), if_neg (show ¬ (0x10 + c = 0x05) by omega),
              if_neg (show ¬ (0x10 + c = 0x0C) by omega), if_neg (show ¬ (0x08 ≤ 0x10 + c ∧ 0x10 + c < 0x0C) by omega)]
            split
            · refine chPut_devCtrl _ _ _ _ _ ?_
              exact wr_devCtrl_ch _ _ _
            · split
              · unfold engPut
                rw [if_neg (by decide), if_neg (by decide)]
                exact wr_devCtrl_ch _ _ _
              · exact wr_devCtrl_ch _ _ _

@[simp] theorem readmitChan_devCtrl (c : ℕ) (newMap : Bool) (w cfg : Sys2Proof.Word) (s : State) :
    (readmitChan c newMap w cfg s).1.devCtrl = s.devCtrl := by
  unfold readmitChan
  (repeat' split) <;> (try simp) <;> (repeat' split) <;> (try simp) <;> (repeat' split) <;> simp_all

@[simp] theorem readmitServe_devCtrl (s : State) : (readmitServe s).1.devCtrl = s.devCtrl := by
  unfold readmitServe
  dsimp only
  (repeat' split) <;> simp

@[simp] theorem mboxReadmit_devCtrl (s : State) : (mboxReadmit s).devCtrl = s.devCtrl := by
  unfold mboxReadmit
  (repeat' split) <;> simp_all

@[simp] theorem policyRetire_devCtrl (kind i : ℕ) (s : State) : (policyRetire kind i s).devCtrl = s.devCtrl := by
  unfold policyRetire
  (repeat' split) <;> simp

@[simp] theorem policyEngine_devCtrl (e : ℕ) (s : State) : (policyEngine e s).devCtrl = s.devCtrl := by
  unfold policyEngine
  (repeat' split) <;> simp

@[simp] theorem policyPump_devCtrl (k : ℕ) (s : State) : (policyPump k s).devCtrl = s.devCtrl := by
  unfold policyPump
  (repeat' split) <;> simp

@[simp] theorem policyPort_devCtrl (k rim : ℕ) (s : State) : (policyPort k rim s).devCtrl = s.devCtrl := by
  unfold policyPort
  (repeat' split) <;> simp

@[simp] theorem policyRemap_devCtrl (c : ℕ) (s : State) : (policyRemap c s).devCtrl = s.devCtrl := by
  unfold policyRemap
  split
  · rfl
  · dsimp only
    split <;> simp

@[simp] theorem stewardWfi_devCtrl (s : State) : (stewardWfi s).devCtrl = s.devCtrl := by
  unfold stewardWfi
  (repeat' split) <;> simp

theorem afterEdges_devCtrl (s t : State) : (afterEdges s t).devCtrl = t.devCtrl := rfl

@[simp] theorem userClock_devCtrl (s : State) : (userClock s).devCtrl = s.devCtrl := by
  unfold userClock
  split
  · rfl
  · exact (afterEdges_devCtrl s _).trans (clockEdge_devCtrl s)

end Sys2Proof.Machine
end

