-- ==== Sys2Proof/Laws/Regs.lean ====
section
/-! SUPPORT. Bits of register words, and what the operations that set bits, raise events and count do to registers. -/

namespace Sys2Proof.Machine

/-! ## Bits of a word -/

theorem word_two_pow_bit (i j : Nat) (hj : j < 16) : (word (2 ^ i)).getLsbD j = decide (i = j) := by
  unfold word
  rw [BitVec.getLsbD_ofNat, Nat.testBit_two_pow]
  simp [hj]

@[simp] theorem wbit_setBit (w : Word) (i j : Nat) (hj : j < 16) : wbit (setBit w i) j = (wbit w j || decide (i = j)) := by
  simp only [wbit, setBit, BitVec.getLsbD_or, word_two_pow_bit i j hj]

@[simp] theorem wbit_clrBit (w : Word) (i j : Nat) (hj : j < 16) : wbit (clrBit w i) j = (wbit w j && !decide (i = j)) := by
  simp only [wbit, clrBit, BitVec.getLsbD_and, BitVec.getLsbD_not, word_two_pow_bit i j hj]
  simp [hj]

@[simp] theorem wbit_putBit (w : Word) (i j : Nat) (b : Bool) (hj : j < 16) :
    wbit (putBit w i b) j = if i = j then b else wbit w j := by
  unfold putBit
  cases b <;> by_cases h : i = j <;> simp [hj, h]

/-! ## Registers after an event or a count -/

theorem State.rd_regs (s t : State) (a r : Nat) (h1 : t.regs = s.regs) (h2 : t.part = s.part) (h3 : t.straps = s.straps) :
    t.rd a r = s.rd a r := by
  simp [State.rd, h1, h2, h3]

@[simp] theorem State.wr_rises (s : State) (a r : Nat) (v : Word) (h : s.regs.Pairwise (fun x y => x.1 < y.1)) :
    (s.wr a r v).regs.Pairwise (fun x y => x.1 < y.1) := by
  have key : ∀ (keep : Bool) (k : Nat) (xs : List (Nat × Word)), xs.Pairwise (fun x y => x.1 < y.1) →
      (assocPut keep k v xs).Pairwise (fun x y => x.1 < y.1) ∧ ∀ y ∈ assocPut keep k v xs, y.1 = k ∨ ∃ z ∈ xs, y.1 = z.1 := by
    intro keep k xs
    induction xs with
    | nil => intro _; unfold assocPut; cases keep <;> simp
    | cons x xs ih =>
      intro h
      obtain ⟨j, w⟩ := x
      rw [List.pairwise_cons] at h
      obtain ⟨ih1, ih2⟩ := ih h.2
      unfold assocPut
      split
      · next hk =>
        cases keep
        · simp only [Bool.false_eq_true, if_false]
          exact ⟨List.pairwise_cons.mpr h, fun y hy => .inr ⟨y, hy, rfl⟩⟩
        · simp only [if_true]
          refine ⟨List.pairwise_cons.mpr ⟨fun y hy => ?_, List.pairwise_cons.mpr h⟩, fun y hy => ?_⟩
          · rcases List.mem_cons.mp hy with rfl | hy
            · exact hk
            · exact Nat.lt_trans hk (h.1 y hy)
          · rcases List.mem_cons.mp hy with rfl | hy
            · exact .inl rfl
            · exact .inr ⟨y, hy, rfl⟩
      · split
        · next hk =>
          subst hk
          cases keep
          · simp only [Bool.false_eq_true, if_false]
            exact ⟨h.2, fun y hy => .inr ⟨y, by simp [hy], rfl⟩⟩
          · simp only [if_true]
            refine ⟨List.pairwise_cons.mpr ⟨fun y hy => h.1 y hy, h.2⟩, fun y hy => ?_⟩
            rcases List.mem_cons.mp hy with rfl | hy
            · exact .inl rfl
            · exact .inr ⟨y, by simp [hy], rfl⟩
        · next h1 h2 =>
          refine ⟨List.pairwise_cons.mpr ⟨fun y hy => ?_, ih1⟩, fun y hy => ?_⟩
          · rcases ih2 y hy with hy | ⟨z, hz, hy⟩
            · simp only [hy]; omega
            · simp only [hy]; exact h.1 z hz
          · rcases List.mem_cons.mp hy with rfl | hy
            · exact .inr ⟨(j, w), by simp, rfl⟩
            · rcases ih2 y hy with hy | ⟨z, hz, hy⟩
              · exact .inl hy
              · exact .inr ⟨z, by simp [hz], hy⟩
  exact (key _ _ _ h).1

/-- Raising an event writes DEV_EVENT only. -/
theorem raise_rd_other (i a r : Nat) (s : State) (h : key a r ≠ key DEV 0x05) : (raise i s).rd a r = s.rd a r := by
  unfold raise
  dsimp only
  split
  · exact State.rd_wr_other _ _ _ _ _ _ h
  · exact (State.rd_regs _ _ _ _ rfl rfl rfl).trans (State.rd_wr_other _ _ _ _ _ _ h)

theorem raise_rd_event (i : Nat) (s : State) (h : s.regs.Pairwise (fun x y => x.1 < y.1)) :
    (raise i s).rd DEV 0x05 = setBit (s.rd DEV 0x05) i := by
  unfold raise
  dsimp only
  split
  · exact State.rd_wr_same _ _ _ _ h
  · exact (State.rd_regs _ _ _ _ rfl rfl rfl).trans (State.rd_wr_same _ _ _ _ h)

/-- The raised event is set. -/
theorem raise_bit_event (i : Nat) (s : State) (h : s.regs.Pairwise (fun x y => x.1 < y.1)) (hi : i < 16) :
    (raise i s).bit DEV 0x05 i = true := by
  simp [State.bit, raise_rd_event i s h, hi]

@[simp] theorem raise_rises (i : Nat) (s : State) (h : s.regs.Pairwise (fun x y => x.1 < y.1)) :
    (raise i s).regs.Pairwise (fun x y => x.1 < y.1) := by
  unfold raise
  dsimp only
  split <;> simp [State.setB, supCauseSet, h]

end Sys2Proof.Machine
end

