-- ==== Sys2Proof/Laws/Sound.lean ====
section
/-! SUPPORT. Each operation keeps a sound state sound. -/

namespace Sys2Proof.Machine
open Sys2Proof
set_option linter.all false
@[simp] theorem sound_regs_holds {s : State} (h : s.sound) : RegFile.wf s.part s.straps s.regs := h.regs
@[simp] theorem sound_cist_holds {s : State} (h : s.sound) : Memory.wf s.cist = true := h.cist
@[simp] theorem sound_stores_holds {s : State} (h : s.sound) : storesOk s.engs := h.stores
@[simp] theorem sound_sram_holds {s : State} (h : s.sound) : Memory.wf s.sup.sram = true := h.sram
@[simp] theorem sound_slots_holds {s : State} (h : s.sound) : slotsOk s.sup.slots := h.slots
@[simp] theorem sound_walks_holds {s : State} (h : s.sound) : walksOk s.clo.walks := h.walks
@[simp] theorem sound_faults_holds {s : State} (h : s.sound) : s.faults.queue.length ≤ 64 := h.faults
@[simp] theorem sound_journal_holds {s : State} (h : s.sound) : s.journal.queue.length ≤ 64 := h.journal
@[simp] theorem sound_log_holds {s : State} (h : s.sound) : s.tbase.log.length ≤ 4 := h.log
@[simp] theorem sound_bells_holds {s : State} (h : s.sound) : bellsOk s.bells := h.bells
@[simp] theorem storesOk_modAt (xs : List Engine) (i f) (h : storesOk xs) (hf : ∀ g, Memory.wf g.store = true → Memory.wf (f g).store = true) :
    storesOk (modAt xs i f) := by
  induction xs generalizing i with
  | nil => exact h
  | cons x xs ih =>
    cases i with
    | zero => intro g hg; rcases List.mem_cons.mp hg with rfl | hg; exact hf _ (h x (by simp)); exact h g (by simp [hg])
    | succ i => intro g hg; rcases List.mem_cons.mp hg with rfl | hg; exact h _ (by simp); exact ih i (fun g hg => h g (by simp [hg])) g hg
@[simp] theorem storesOk_map (xs : List Engine) (f) (h : storesOk xs) (hf : ∀ g, Memory.wf g.store = true → Memory.wf (f g).store = true) :
    storesOk (xs.map f) := by
  intro g hg; obtain ⟨y, hy, rfl⟩ := List.mem_map.mp hg; exact hf y (h y hy)
@[simp] theorem bellsOk_modAt (xs : List Bell) (i f) (h : bellsOk xs) (hf : ∀ b, b.count ≤ 255 → (f b).count ≤ 255) :
    bellsOk (modAt xs i f) := by
  induction xs generalizing i with
  | nil => exact h
  | cons x xs ih =>
    cases i with
    | zero => intro g hg; rcases List.mem_cons.mp hg with rfl | hg; exact hf _ (h x (by simp)); exact h g (by simp [hg])
    | succ i => intro g hg; rcases List.mem_cons.mp hg with rfl | hg; exact h _ (by simp); exact ih i (fun g hg => h g (by simp [hg])) g hg
@[simp] theorem bellsOk_map (xs : List Bell) (f) (h : bellsOk xs) (hf : ∀ b, b.count ≤ 255 → (f b).count ≤ 255) : bellsOk (xs.map f) := by
  intro g hg; obtain ⟨y, hy, rfl⟩ := List.mem_map.mp hg; exact hf y (h y hy)
@[simp] theorem slotsOk_modAt (xs : List Slot) (i f) (h : slotsOk xs) (hf : ∀ b, Memory.wf b.desc = true → Memory.wf (f b).desc = true) :
    slotsOk (modAt xs i f) := by
  induction xs generalizing i with
  | nil => exact h
  | cons x xs ih =>
    cases i with
    | zero => intro g hg; rcases List.mem_cons.mp hg with rfl | hg; exact hf _ (h x (by simp)); exact h g (by simp [hg])
    | succ i => intro g hg; rcases List.mem_cons.mp hg with rfl | hg; exact h _ (by simp); exact ih i (fun g hg => h g (by simp [hg])) g hg
@[simp] theorem slotsOk_map (xs : List Slot) (f) (h : slotsOk xs) (hf : ∀ b, Memory.wf b.desc = true → Memory.wf (f b).desc = true) : slotsOk (xs.map f) := by
  intro g hg; obtain ⟨y, hy, rfl⟩ := List.mem_map.mp hg; exact hf y (h y hy)
@[simp] theorem walksOk_modAt (xs : List Walk) (i f) (h : walksOk xs) (hf : ∀ b, Walk.ok b → Walk.ok (f b)) :
    walksOk (modAt xs i f) := by
  induction xs generalizing i with
  | nil => exact h
  | cons x xs ih =>
    cases i with
    | zero => intro g hg; rcases List.mem_cons.mp hg with rfl | hg; exact hf _ (h x (by simp)); exact h g (by simp [hg])
    | succ i => intro g hg; rcases List.mem_cons.mp hg with rfl | hg; exact h _ (by simp); exact ih i (fun g hg => h g (by simp [hg])) g hg
@[simp] theorem walksOk_map (xs : List Walk) (f) (h : walksOk xs) (hf : ∀ b, Walk.ok b → Walk.ok (f b)) : walksOk (xs.map f) := by
  intro g hg; obtain ⟨y, hy, rfl⟩ := List.mem_map.mp hg; exact hf y (h y hy)
@[simp] theorem Walk.ok_mk (k : Walk) (mode stage held qreq fabric) (h : k.ok) :
    Walk.ok { mode := mode, stage := stage, held := held, config := k.config, mems := k.mems, qreq := qreq, fabric := fabric } := h
@[simp] theorem State.sound_mk (x : State) (hs : x.sound) (now tick pace chans wells) (engs : List Engine) (ops nextOp pumps)
    (bells : List Bell) (tables) (cist : Mem) (cistUe cistCe banks storeBanks) (journal : Journal) (faults : Faults) (ctl)
    (sup : Sup) (clo : Cloister) (ports power) (tbase : Timebase) (sec tap tb free pending)
    (h1 : storesOk engs) (h2 : bellsOk bells) (h3 : Memory.wf cist = true) (h4 : journal.queue.length ≤ 64)
    (h5 : faults.queue.length ≤ 64) (h6 : Memory.wf sup.sram = true) (h7 : slotsOk sup.slots) (h8 : walksOk clo.walks)
    (h9 : tbase.log.length ≤ 4) :
    (State.mk x.part x.straps x.regs now tick pace chans wells engs ops nextOp pumps bells tables cist cistUe cistCe banks
      storeBanks journal faults ctl sup clo ports power tbase sec tap tb free pending).sound :=
  ⟨hs.regs, h3, h1, h6, h7, h8, h5, h4, h9, h2⟩
@[simp] theorem sound_ite (c : Prop) [Decidable c] (a b : State) (ha : a.sound) (hb : b.sound) : (if c then a else b).sound := by
  split <;> assumption
@[simp] theorem foldS_sound {α : Type} (f : α → State → State) (xs : List α) (s : State) (hs : s.sound)
    (h : ∀ a s, s.sound → (f a s).sound) : (foldS f xs s).sound := foldS_inv State.sound f h xs s hs
theorem foldS_sound1 {α β : Type} (f : α → State × β → State × β) (xs : List α) (x : State × β) (hs : x.1.sound)
    (h : ∀ a x, x.1.sound → (f a x).1.sound) : (foldS f xs x).1.sound :=
  foldS_inv (fun x : State × β => x.1.sound) f h xs x hs
theorem foldl_soundM {α : Type} (f : Moving → α → Moving) (xs : List α) (m : Moving) (hs : m.s.sound)
    (h : ∀ m a, m.s.sound → (f m a).s.sound) : (xs.foldl f m).s.sound := by
  induction xs generalizing m with
  | nil => exact hs
  | cons x xs ih => exact ih _ (h _ _ hs)
theorem foldl_soundM1 {α β : Type} (f : Moving × β → α → Moving × β) (xs : List α) (m : Moving × β) (hs : m.1.s.sound)
    (h : ∀ m a, m.1.s.sound → (f m a).1.s.sound) : (xs.foldl f m).1.s.sound := by
  induction xs generalizing m with
  | nil => exact hs
  | cons x xs ih => exact ih _ (h _ _ hs)
theorem assocPut_mem {α : Type} (keep : Bool) (k : Nat) (v : α) (xs : List (Nat × α)) (y : Nat × α)
    (h : y ∈ assocPut keep k v xs) : (y = (k, v) ∧ keep = true) ∨ y ∈ xs := by
  induction xs with
  | nil => unfold assocPut at h; split at h <;> simp_all
  | cons x xs ih =>
    obtain ⟨j, w⟩ := x
    unfold assocPut at h
    split at h
    · split at h
      · rcases List.mem_cons.mp h with rfl | h
        · left; simp_all
        · right; exact h
      · right; exact h
    · split at h
      · split at h
        · rcases List.mem_cons.mp h with rfl | h
          · left; simp_all
          · right; simp [h]
        · right; simp [h]
      · rcases List.mem_cons.mp h with rfl | h
        · right; simp
        · rcases ih h with h | h
          · left; exact h
          · right; simp [h]
theorem assocPut_rises {α : Type} (keep : Bool) (k : Nat) (v : α) (xs : List (Nat × α))
    (h : xs.Pairwise (fun x y => x.1 < y.1)) : (assocPut keep k v xs).Pairwise (fun x y => x.1 < y.1) := by
  induction xs with
  | nil => unfold assocPut; split <;> simp
  | cons x xs ih =>
    obtain ⟨j, w⟩ := x
    rw [List.pairwise_cons] at h
    unfold assocPut
    split
    · next hk =>
      split
      · rw [List.pairwise_cons]
        refine ⟨fun y hy => ?_, List.pairwise_cons.mpr h⟩
        rcases List.mem_cons.mp hy with rfl | hy
        · exact hk
        · exact Nat.lt_trans hk (h.1 y hy)
      · exact List.pairwise_cons.mpr h
    · split
      · next hk =>
        subst hk
        split
        · exact List.pairwise_cons.mpr h
        · exact h.2
      · next h1 h2 =>
        refine List.pairwise_cons.mpr ⟨fun y hy => ?_, ih h.2⟩
        rcases assocPut_mem keep k v xs y hy with ⟨rfl, _⟩ | hy
        · simp only; omega
        · exact h.1 y hy

theorem memWf_iff (lo : Nat) (m : Mem) :
    memWfFrom lo m = true ↔ m.Pairwise (fun x y => x.1 < y.1) ∧ ∀ x ∈ m, lo ≤ x.1 ∧ x.2 ≠ 0 := by
  induction m generalizing lo with
  | nil => simp [memWfFrom]
  | cons x m ih =>
    obtain ⟨k, v⟩ := x
    rw [memWfFrom_cons, ih (k + 1), List.pairwise_cons]
    constructor
    · rintro ⟨h1, h2, h3, h4⟩
      refine ⟨⟨fun y hy => (h4 y hy).1, h3⟩, fun y hy => ?_⟩
      rcases List.mem_cons.mp hy with rfl | hy
      · exact ⟨h1, h2⟩
      · exact ⟨by have := (h4 y hy).1; omega, (h4 y hy).2⟩
    · rintro ⟨⟨h1, h2⟩, h3⟩
      have hk := h3 (k, v) (by simp)
      exact ⟨hk.1, hk.2, h2, fun y hy => ⟨h1 y hy, (h3 y (by simp [hy])).2⟩⟩
theorem memCopy_wf (lo hi : Nat) (src dst : Mem) (h1 : Memory.wf src = true) (h2 : Memory.wf dst = true) :
    Memory.wf (memCopy lo hi src dst) = true := by
  unfold Memory.wf at *
  rw [memWf_iff] at *
  unfold memCopy
  constructor
  · rw [List.pairwise_append, List.pairwise_append]
    refine ⟨⟨h2.1.filter _, h1.1.filter _, fun a ha b hb => ?_⟩, h2.1.filter _, fun a ha b hb => ?_⟩
    · simp only [List.mem_filter, decide_eq_true_eq] at ha hb; omega
    · simp only [List.mem_append, List.mem_filter, decide_eq_true_eq] at ha hb; omega
  · intro x hx
    simp only [List.mem_append, List.mem_filter] at hx
    rcases hx with (hx | hx) | hx
    · exact h2.2 x hx.1
    · exact h1.2 x hx.1
    · exact h2.2 x hx.1
theorem nth_store_wf (s : State) (e : Nat) (h : storesOk s.engs) : Memory.wf (s.eng e).store = true := by
  unfold State.eng nth
  rw [List.getD_eq_getElem?_getD]
  cases hg : s.engs[e]? with
  | none => rfl
  | some g => exact h g (List.mem_of_getElem? hg)
theorem walksOk_reset : walksOk (List.replicate 4 Walk.reset) := by
  intro k hk; rw [List.eq_of_mem_replicate hk]; exact ⟨rfl, fun m hm => by rw [List.eq_of_mem_replicate hm]; rfl⟩
theorem fresh_sound (p : Part) (b : Straps) (xs : List BindSlot) : (State.fresh p b xs).sound :=
  ⟨⟨List.Pairwise.nil, fun x hx => by cases hx⟩, rfl, fun g hg => by rw [List.eq_of_mem_replicate hg]; rfl, rfl,
   fun l hl => by rw [List.eq_of_mem_replicate hl]; rfl, walksOk_reset, Nat.zero_le _, Nat.zero_le _, Nat.zero_le _,
   fun l hl => by rw [List.eq_of_mem_replicate hl]; exact Nat.zero_le _⟩
theorem foldS_memPutBit_wf (xs : List (Nat × Bool)) (m : Mem) (h : Memory.wf m = true) :
    Memory.wf (foldS (fun (x : Nat × Bool) m => memPutBit m x.1 x.2) xs m) = true :=
  foldS_inv (fun m => Memory.wf m = true) _ (fun _ _ h => memWrite_wf _ _ _ h) _ _ h
theorem PortUse.store_wf (a : PortUse) (m : Mem) (h : Memory.wf m = true) : Memory.wf (a.store m) = true := by
  unfold PortUse.store
  split
  · exact foldS_memPutBit_wf _ _ h
  · exact h
theorem portsStore_wf (a b : Option PortUse) (same pick : Bool) (m : Mem) (h : Memory.wf m = true) :
    Memory.wf (portsStore a b same pick m) = true := by
  unfold portsStore
  repeat' split
  all_goals first
    | exact h
    | exact PortUse.store_wf _ _ h
    | exact PortUse.store_wf _ _ (PortUse.store_wf _ _ h)
theorem modAt_mem_wf (f : Mem → Mem) (hf : ∀ m, Memory.wf m = true → Memory.wf (f m) = true) (ms : List Mem) (k : Nat)
    (h : ∀ m ∈ ms, Memory.wf m = true) : ∀ m ∈ modAt ms k f, Memory.wf m = true := by
  induction ms generalizing k with
  | nil => exact h
  | cons x ms ih =>
    cases k with
    | zero => intro m hm; rcases List.mem_cons.mp hm with rfl | hm; exact hf _ (h x (by simp)); exact h m (by simp [hm])
    | succ k => intro m hm; rcases List.mem_cons.mp hm with rfl | hm; exact h _ (by simp); exact ih k (fun m hm => h m (by simp [hm])) m hm
theorem initMems_ok (mask : Nat) (bs : List (List Byte)) (ms : List Mem) (h : ∀ m ∈ ms, Memory.wf m = true) :
    ∀ m ∈ initMems mask bs ms, Memory.wf m = true := by
  unfold initMems
  refine foldS_inv (fun ms : List Mem => ∀ m ∈ ms, Memory.wf m = true) _ (fun p ms hms => ?_) _ _ h
  generalize p.1 = i
  induction ms generalizing i with
  | nil => exact hms
  | cons x ms ih =>
    cases i with
    | zero => intro m hm; rcases List.mem_cons.mp hm with rfl | hm; exact memWriteL_wf _ _ _ (hms x (by simp)); exact hms m (by simp [hm])
    | succ i => intro m hm; rcases List.mem_cons.mp hm with rfl | hm; exact hms _ (by simp); exact ih (fun m hm => hms m (by simp [hm])) i m hm


@[simp] theorem State_wr_sound (s : State) (t : ℕ) (r : ℕ) (v : Sys2Proof.Word) (hs : (s).sound) :
    ((State.wr s t r v)).sound := by
  refine ⟨⟨assocPut_rises _ _ _ _ hs.regs.1, fun x hx => ?_⟩, hs.cist, hs.stores, hs.sram, hs.slots, hs.walks, hs.faults, hs.journal, hs.log, hs.bells⟩
  rcases assocPut_mem _ _ _ _ _ hx with ⟨rfl, hk⟩ | hx
  · simpa using hk
  · exact hs.regs.2 x hx

@[simp] theorem State_setB_sound (s : State) (t : ℕ) (r : ℕ) (i : ℕ) (hs : (s).sound) :
    ((State.setB s t r i)).sound := by
  unfold State.setB
  (repeat' split) <;> simp_all (maxDischargeDepth := 40)

@[simp] theorem State_clrB_sound (s : State) (t : ℕ) (r : ℕ) (i : ℕ) (hs : (s).sound) :
    ((State.clrB s t r i)).sound := by
  unfold State.clrB
  (repeat' split) <;> simp_all (maxDischargeDepth := 40)

@[simp] theorem State_putB_sound (s : State) (t : ℕ) (r : ℕ) (i : ℕ) (b : Bool) (hs : (s).sound) :
    ((State.putB s t r i b)).sound := by
  unfold State.putB
  (repeat' split) <;> simp_all (maxDischargeDepth := 40)

@[simp] theorem State_modChan_sound (s : State) (c : ℕ) (f : Channel → Channel) (hs : (s).sound) :
    ((State.modChan s c f)).sound := by
  unfold State.modChan
  (repeat' split) <;> simp_all (maxDischargeDepth := 40)

@[simp] theorem State_mapChans_sound (s : State) (f : Channel → Channel) (hs : (s).sound) :
    ((State.mapChans s f)).sound := by
  unfold State.mapChans
  (repeat' split) <;> simp_all (maxDischargeDepth := 40)

@[simp] theorem State_modWell_sound (s : State) (w : ℕ) (f : Well → Well) (hs : (s).sound) :
    ((State.modWell s w f)).sound := by
  unfold State.modWell
  (repeat' split) <;> simp_all (maxDischargeDepth := 40)

@[simp] theorem State_modEng_sound (s : State) (e : ℕ) (f : Engine → Engine) (hs : (s).sound) (hf : ∀ g, Memory.wf g.store = true → Memory.wf (f g).store = true) :
    ((State.modEng s e f)).sound := by
  unfold State.modEng
  refine State.sound_mk s hs _ _ _ _ _ _ _ _ _ _ _ _ _ _ _ _ _ _ _ _ _ _ _ _ _ _ _ _ _ (storesOk_modAt _ _ _ hs.stores hf) hs.bells hs.cist hs.journal hs.faults hs.sram hs.slots hs.walks hs.log

@[simp] theorem State_modBank_sound (s : State) (b : ℕ) (f : Bank → Bank) (hs : (s).sound) :
    ((State.modBank s b f)).sound := by
  unfold State.modBank
  (repeat' split) <;> simp_all (maxDischargeDepth := 40)

@[simp] theorem State_modBankOf_sound (s : State) (i : Sys2Proof.BankId) (f : Bank → Bank) (hs : (s).sound) :
    ((State.modBankOf s i f)).sound := by
  unfold State.modBankOf
  (repeat' split) <;> simp_all (maxDischargeDepth := 40)

@[simp] theorem State_modBell_sound (s : State) (b : ℕ) (f : Bell → Bell) (hs : (s).sound) (hf : ∀ b, b.count ≤ 255 → (f b).count ≤ 255) :
    ((State.modBell s b f)).sound := by
  unfold State.modBell
  refine State.sound_mk s hs _ _ _ _ _ _ _ _ _ _ _ _ _ _ _ _ _ _ _ _ _ _ _ _ _ _ _ _ _ hs.stores (bellsOk_modAt _ _ _ hs.bells hf) hs.cist hs.journal hs.faults hs.sram hs.slots hs.walks hs.log

@[simp] theorem State_modOp_sound (s : State) (i : ℕ) (f : PumpOp → PumpOp) (hs : (s).sound) :
    ((State.modOp s i f)).sound := by
  unfold State.modOp
  (repeat' split) <;> simp_all (maxDischargeDepth := 40)

@[simp] theorem State_modSup_sound (s : State) (f : Sup → Sup) (hs : (s).sound) (h1 : ∀ u, Memory.wf u.sram = true → Memory.wf (f u).sram = true) (h2 : ∀ u, slotsOk u.slots → slotsOk (f u).slots) :
    ((State.modSup s f)).sound := by
  exact State.sound_mk s hs _ _ _ _ _ _ _ _ _ _ _ _ _ _ _ _ _ _ _ _ _ _ _ _ _ _ _ _ _ hs.stores hs.bells hs.cist hs.journal hs.faults (h1 _ hs.sram) (h2 _ hs.slots) hs.walks hs.log

@[simp] theorem State_setTries_sound (n : ℕ) (s : State) (hs : (s).sound) : (s.setTries n).sound :=
  State_modSup_sound _ _ hs (fun _ h => h) (fun _ h => h)

@[simp] theorem State_modPolicy_sound (f : Policy → Policy) (s : State) (hs : (s).sound) : (s.modPolicy f).sound :=
  State_modSup_sound _ _ hs (fun _ h => h) (fun _ h => h)

@[simp] theorem State_pass_sound (s : State) (d : ℕ) (hs : (s).sound) :
    ((State.pass s d)).sound := by
  unfold State.pass
  (repeat' split) <;> simp_all (maxDischargeDepth := 40)

@[simp] theorem State_reach_sound (s : State) (t : ℕ) (hs : (s).sound) :
    ((State.reach s t)).sound := by
  unfold State.reach
  (repeat' split) <;> simp_all (maxDischargeDepth := 40)

@[simp] theorem supCauseSet_sound (m : Sys2Proof.W32) (s : State) (hs : (s).sound) :
    ((supCauseSet m s)).sound := by
  unfold supCauseSet
  (repeat' split) <;> simp_all (maxDischargeDepth := 40)

@[simp] theorem raise_sound (i : ℕ) (s : State) (hs : (s).sound) :
    ((raise i s)).sound := by
  unfold raise
  (repeat' split) <;> simp_all (maxDischargeDepth := 40)

@[simp] theorem cfgConflict_sound (s : State) (hs : (s).sound) :
    ((cfgConflict s)).sound := by
  unfold cfgConflict
  (repeat' split) <;> simp_all (maxDischargeDepth := 40)

@[simp] theorem frameError_sound (s : State) (hs : (s).sound) :
    ((frameError s)).sound := by
  unfold frameError
  (repeat' split) <;> simp_all (maxDischargeDepth := 40)

@[simp] theorem bump16_sound (t : ℕ) (r : ℕ) (d : ℕ) (s : State) (hs : (s).sound) :
    ((bump16 t r d s)).sound := by
  unfold bump16
  (repeat' split) <;> simp_all (maxDischargeDepth := 40)

@[simp] theorem setChState_sound (c : ℕ) (st : ChState) (s : State) (hs : (s).sound) :
    ((setChState c st s)).sound := by
  unfold setChState
  (repeat' split) <;> simp_all (maxDischargeDepth := 40)

@[simp] theorem promiseBroken_sound (stall : Bool) (no : ℕ) (cs : List ℕ) (s : State) (hs : (s).sound) :
    ((promiseBroken stall no cs s)).sound := by
  unfold promiseBroken
  (repeat' split) <;> simp_all (maxDischargeDepth := 40)

@[simp] theorem faultRecord_sound (src : ℕ) (unit : ℕ) (chan : ℕ) (flags : ℕ) (detail : ℕ) (detail2 : ℕ) (s : State) (hs : (s).sound) :
    ((faultRecord src unit chan flags detail detail2 s)).sound := by
  unfold faultRecord
  dsimp only
  apply raise_sound
  apply State.sound_mk s hs <;> simp_all
  split
  · simp; omega
  · exact hs.faults

@[simp] theorem chargeChannel_sound (c : ℕ) (s : State) (hs : (s).sound) :
    ((chargeChannel c s)).sound := by
  unfold chargeChannel
  (repeat' split) <;> simp_all (maxDischargeDepth := 40)

@[simp] theorem tickFault_sound (src : ℕ) (unit : ℕ) (c : ℕ) (no : ℕ) (flags : ℕ) (detail : ℕ) (detail2 : ℕ) (s : State) (hs : (s).sound) :
    ((tickFault src unit c no flags detail detail2 s)).sound := by
  unfold tickFault
  (repeat' split) <;> simp_all (maxDischargeDepth := 40)

@[simp] theorem numberEntry_sound (bs : List Byte) (s : State) (hs : s.sound) :
    ((numberEntry bs s)).sound := by
  unfold numberEntry
  dsimp only
  have := hs.journal
  split
  · apply State.sound_mk s hs <;> simp_all <;> omega
  · apply State.sound_mk s hs <;> simp_all

@[simp] theorem journal_sound (typ : ℕ) (chan : ℕ) (cls : ℕ) (flags : ℕ) (score : ℕ) (aux : ℕ) (rim : ℕ) (tb : ℕ) (payload : List Sys2Proof.Byte) (s : State) (hs : (s).sound) :
    ((journal typ chan cls flags score aux rim tb payload s)).sound := by
  unfold journal
  dsimp only
  split
  · exact numberEntry_sound _ _ hs
  · apply State.sound_mk s hs <;> simp_all

@[simp] theorem collectEntries_sound (s : State) (hs : s.sound) :
    ((collectEntries s)).sound := by
  unfold collectEntries
  (repeat' split) <;> simp_all (maxDischargeDepth := 40)

@[simp] theorem settleEntries_sound (s : State) (hs : s.sound) :
    ((settleEntries s)).sound := by
  unfold settleEntries
  (repeat' split) <;> simp_all (maxDischargeDepth := 40)

@[simp] theorem startHold_sound (c : ℕ) (t : ℕ) (s : State) (hs : (s).sound) :
    ((startHold c t s)).sound := by
  unfold startHold
  (repeat' split) <;> simp_all (maxDischargeDepth := 40)

@[simp] theorem State_takeFree_sound (s : State) (hs : (s).sound) :
    ((State.takeFree s).2).sound := by
  unfold State.takeFree
  (repeat' split) <;> simp_all (maxDischargeDepth := 40)

@[simp] theorem latchRegs_sound (c : ℕ) (score : ℕ) (kind : ℕ) (cls : ℕ) (srcB : Bool) (s : State) (hs : (s).sound) :
    ((latchRegs c score kind cls srcB s)).sound := by
  unfold latchRegs
  (repeat' split) <;> simp_all (maxDischargeDepth := 40)

@[simp] theorem formReport_sound (s : State) (hs : (s).sound) :
    ((formReport s)).sound := by
  unfold formReport
  (repeat' split) <;> simp_all (maxDischargeDepth := 40)

@[simp] theorem journalVerdict_sound (c : ℕ) (cls : ℕ) (kind : ℕ) (flags : ℕ) (score : ℕ) (payload : List Sys2Proof.Byte) (s : State) (hs : (s).sound) :
    ((journalVerdict c cls kind flags score payload s)).sound := by
  unfold journalVerdict
  (repeat' split) <;> simp_all (maxDischargeDepth := 40)

@[simp] theorem latchUsed_sound (c : ℕ) (score : ℕ) (kind : ℕ) (payload : List Sys2Proof.Byte) (s : State) (hs : (s).sound) :
    ((latchUsed c score kind payload s)).sound := by
  unfold latchUsed
  (repeat' split) <;> simp_all (maxDischargeDepth := 40)

@[simp] theorem latchTrial_sound (c : ℕ) (score : ℕ) (kind : ℕ) (payload : List Sys2Proof.Byte) (s : State) (hs : (s).sound) :
    ((latchTrial c score kind payload s)).sound := by
  unfold latchTrial
  (repeat' split) <;> simp_all (maxDischargeDepth := 40)

@[simp] theorem latchLate_sound (c : Nat) (score : Nat) (kind : Nat) (brk : Bool) (bt : Nat) (rim : Nat) (tb : Nat) (payload : List Byte) (s : State) (hs : s.sound) :
    ((latchLate c score kind brk bt rim tb payload s)).sound := by
  unfold latchLate
  (repeat' split) <;> simp_all (maxDischargeDepth := 40)

@[simp] theorem latchButtress_sound (c : ℕ) (cls : ℕ) (s : State) (hs : (s).sound) :
    ((latchButtress c cls s)).sound := by
  unfold latchButtress
  (repeat' split) <;> simp_all (maxDischargeDepth := 40)

@[simp] theorem latchEngine_sound (c : Nat) (no : Nat) (score : Nat) (kind : Nat) (clean : Bool) (bt : Nat) (rim : Nat) (tb : Nat) (payload : List Byte) (s : State) (hs : s.sound) :
    ((latchEngine c no score kind clean bt rim tb payload s)).sound := by
  unfold latchEngine
  (repeat' split) <;> simp_all (maxDischargeDepth := 40)

@[simp] theorem guardChannel_sound (c : ℕ) (s : State) (hs : (s).sound) :
    ((guardChannel c s)).sound := by
  unfold guardChannel
  (repeat' split) <;> simp_all (maxDischargeDepth := 40)

@[simp] theorem closeTick_sound (s : State) (hs : (s).sound) :
    ((closeTick s)).sound := by
  unfold closeTick
  (repeat' split) <;> simp_all (maxDischargeDepth := 40)

@[simp] theorem vdDrive_sound (s : State) (hs : (s).sound) :
    ((vdDrive s)).sound := by
  unfold vdDrive
  (repeat' split) <;> simp_all (maxDischargeDepth := 40)

@[simp] theorem State_modLearn_sound (s : State) (c : ℕ) (f : Learn → Learn) (hs : (s).sound) :
    ((State.modLearn s c f)).sound := by
  unfold State.modLearn
  (repeat' split) <;> simp_all (maxDischargeDepth := 40)

@[simp] theorem State_modDrift_sound (s : State) (c : ℕ) (f : Drift → Drift) (hs : (s).sound) :
    ((State.modDrift s c f)).sound := by
  unfold State.modDrift
  (repeat' split) <;> simp_all (maxDischargeDepth := 40)

@[simp] theorem swapBanks_sound (c : ℕ) (s : State) (hs : (s).sound) :
    ((swapBanks c s)).sound := by
  unfold swapBanks
  (repeat' split) <;> simp_all (maxDischargeDepth := 40)

@[simp] theorem setReady_sound (c : ℕ) (f : Option Bool) (s : State) (hs : (s).sound) :
    ((setReady c f s)).sound := by
  unfold setReady
  (repeat' split) <;> simp_all (maxDischargeDepth := 40)

@[simp] theorem edgeSwap_sound (c : ℕ) (s : State) (hs : (s).sound) :
    ((edgeSwap c s)).sound := by
  unfold edgeSwap
  (repeat' split) <;> simp_all (maxDischargeDepth := 40)

@[simp] theorem settleSweep_sound (c : ℕ) (s : State) (hs : (s).sound) :
    ((settleSweep c s)).sound := by
  unfold settleSweep
  (repeat' split) <;> simp_all (maxDischargeDepth := 40)

@[simp] theorem dropPending_sound (c : ℕ) (s : State) (hs : (s).sound) :
    ((dropPending c s)).sound := by
  unfold dropPending
  (repeat' split) <;> simp_all (maxDischargeDepth := 40)

@[simp] theorem startSweep_sound (c : ℕ) (s : State) (hs : (s).sound) :
    ((startSweep c s)).sound := by
  unfold startSweep
  (repeat' split) <;> simp_all (maxDischargeDepth := 40)

@[simp] theorem endEpoch_sound (c : ℕ) (held : Bool) (rim : ℕ) (tb : ℕ) (s : State) (hs : (s).sound) :
    ((endEpoch c held rim tb s)).sound := by
  unfold endEpoch
  (repeat' split) <;> simp_all (maxDischargeDepth := 40)

@[simp] theorem completeSweep_sound (c : ℕ) (s : State) (hs : (s).sound) :
    ((completeSweep c s)).sound := by
  unfold completeSweep
  (repeat' split) <;> simp_all (maxDischargeDepth := 40)

@[simp] theorem sweepPartDone_sound (c : ℕ) (e : ℕ) (s : State) (hs : (s).sound) :
    ((sweepPartDone c e s)).sound := by
  unfold sweepPartDone
  (repeat' split) <;> simp_all (maxDischargeDepth := 40)

@[simp] theorem sweepTrapped_sound (c : ℕ) (s : State) (hs : (s).sound) :
    ((sweepTrapped c s)).sound := by
  unfold sweepTrapped
  (repeat' split) <;> simp_all (maxDischargeDepth := 40)

@[simp] theorem storePut_sound (e : ℕ) (a : ℕ) (bs : List Sys2Proof.Byte) (s : State) (hs : (s).sound) :
    ((storePut e a bs s)).sound := by
  unfold storePut
  (repeat' split) <;> simp_all (maxDischargeDepth := 40)

@[simp] theorem queueTest_sound (i : Sys2Proof.BankId) (column : ℕ) (s : State) (hs : (s).sound) :
    ((queueTest i column s)).sound := by
  unfold queueTest
  (repeat' split) <;> simp_all (maxDischargeDepth := 40)

@[simp] theorem memRecord_sound (unit : ℕ) (c : Option ℕ) (flags : ℕ) (detail : ℕ) (detail2 : ℕ) (s : State) (hs : (s).sound) :
    ((memRecord unit c flags detail detail2 s)).sound := by
  unfold memRecord
  (repeat' split) <;> simp_all (maxDischargeDepth := 40)

@[simp] theorem storeReadEvents_sound (e : ℕ) (a : ℕ) (n : ℕ) (c : Option ℕ) (s : State) (hs : (s).sound) :
    ((storeReadEvents e a n c s)).sound := by
  unfold storeReadEvents
  (repeat' split) <;> simp_all (maxDischargeDepth := 40)

@[simp] theorem holdFault_sound (e : ℕ) (code : ℕ) (pc : Option ℕ) (s : State) (hs : (s).sound) :
    ((holdFault e code pc s)).sound := by
  unfold holdFault
  refine State_modEng_sound _ _ _ hs (fun g hg => ?_)
  split <;> exact hg

@[simp] theorem engineRecord_sound (e : ℕ) (code : ℕ) (pc : ℕ) (stops : Bool) (k : ProgKind) (no : ℕ) (s : State) (hs : (s).sound) :
    ((engineRecord e code pc stops k no s)).sound := by
  unfold engineRecord
  (repeat' split) <;> simp_all (maxDischargeDepth := 40)

@[simp] theorem liftAfter_sound (e : ℕ) (no : ℕ) (s : State) (hs : (s).sound) :
    ((liftAfter e no s)).sound := by
  unfold liftAfter
  refine State_modEng_sound _ _ _ hs (fun g hg => ?_)
  split <;> exact hg

@[simp] theorem clearRun_sound (e : ℕ) (s : State) (hs : (s).sound) :
    ((clearRun e s)).sound := by
  unfold clearRun
  (repeat' split) <;> simp_all (maxDischargeDepth := 40)

@[simp] theorem settleDrift_sound (c : ℕ) (s : State) (hs : (s).sound) :
    ((settleDrift c s)).sound := by
  unfold settleDrift
  (repeat' split) <;> simp_all (maxDischargeDepth := 40)

@[simp] theorem tickPartEnded_sound (c : ℕ) (e : ℕ) (s : State) (hs : (s).sound) :
    ((tickPartEnded c e s)).sound := by
  unfold tickPartEnded
  (repeat' split) <;> simp_all (maxDischargeDepth := 40)

@[simp] theorem dropWaiter_sound (e : ℕ) (tick : Bool) (s : State) (hs : (s).sound) :
    ((dropWaiter e tick s)).sound := by
  unfold dropWaiter
  (repeat' split) <;> simp_all (maxDischargeDepth := 40)

@[simp] theorem dropDue_sound (x : Nat) (c : Nat) (s : State) (hs : s.sound) :
    ((dropDue x c s)).sound := by
  unfold dropDue
  (repeat' split) <;> simp_all (maxDischargeDepth := 40)

@[simp] theorem endPart_sound (x : Nat) (c : Nat) (s : State) (hs : s.sound) :
    ((endPart x c s)).sound := by
  unfold endPart
  (repeat' split) <;> simp_all (maxDischargeDepth := 40)

@[simp] theorem stopOtherParts_sound (c e : Nat) (s : State) (hs : s.sound) :
    (stopOtherParts c e s).sound := by
  unfold stopOtherParts
  refine foldS_sound _ _ _ hs (fun x s h => ?_)
  (repeat' split) <;> simp [h]

@[simp] theorem trapped_sound (e : ℕ) (code : ℕ) (pc : ℕ) (k : ProgKind) (no : ℕ) (s : State) (hs : (s).sound) :
    ((trapped e code pc k no s)).sound := by
  unfold trapped
  (repeat' split) <;> simp_all (maxDischargeDepth := 40)

@[simp] theorem fixBank_sound (r : Run) (s : State) (hs : s.sound) :
    ((fixBank r s)).sound := by
  unfold fixBank
  (repeat' split) <;> simp_all (maxDischargeDepth := 40)

@[simp] theorem launch_sound (e : ℕ) (r : Run) (s : State) (hs : (s).sound) :
    ((launch e r s)).sound := by
  unfold launch
  (repeat' split) <;> simp_all (maxDischargeDepth := 40)

@[simp] theorem startNext_sound (e : ℕ) (s : State) (hs : (s).sound) :
    ((startNext e s)).sound := by
  unfold startNext
  (repeat' split) <;> simp_all (maxDischargeDepth := 40)

@[simp] theorem startDue_sound (x0 : ℕ) (x1 : State) (hs : (x1).sound) :
    ((startDue x0 x1)).sound := by
  induction x0 generalizing x1 with
  | zero => exact hs
  | succ n ih =>
    unfold startDue
    split
    · exact hs
    · exact ih _ (startNext_sound _ _ hs)

@[simp] theorem startAllDue_sound (s : State) (hs : (s).sound) :
    ((startAllDue s)).sound := by
  unfold startAllDue
  (repeat' split) <;> simp_all (maxDischargeDepth := 40)

@[simp] theorem trap_sound (e : ℕ) (code : ℕ) (s : State) (hs : (s).sound) :
    ((trap e code s)).sound := by
  unfold trap
  (repeat' split) <;> simp_all (maxDischargeDepth := 40)

@[simp] theorem startBackground_sound (e : ℕ) (s : State) (hs : (s).sound) :
    ((startBackground e s)).sound := by
  unfold startBackground
  dsimp only
  repeat' split
  all_goals simp_all (maxDischargeDepth := 40)

@[simp] theorem suspendBg_sound (e : ℕ) (s : State) (hs : (s).sound) :
    ((suspendBg e s)).sound := by
  unfold suspendBg
  refine State_modEng_sound _ _ _ hs (fun g hg => ?_)
  split
  · split <;> exact hg
  · exact hg

@[simp] theorem fenceAll_sound (s : State) (hs : (s).sound) :
    ((fenceAll s)).sound := by
  unfold fenceAll
  (repeat' split) <;> simp_all (maxDischargeDepth := 40)

@[simp] theorem enterActive_sound (c : ℕ) (s : State) (hs : (s).sound) :
    ((enterActive c s)).sound := by
  unfold enterActive
  (repeat' split) <;> simp_all (maxDischargeDepth := 40)

@[simp] theorem enterEnabled_sound (c : ℕ) (s : State) (hs : (s).sound) :
    ((enterEnabled c s)).sound := by
  unfold enterEnabled
  (repeat' split) <;> simp_all (maxDischargeDepth := 40)

@[simp] theorem finishShutdown_sound (c : ℕ) (s : State) (hs : (s).sound) :
    ((finishShutdown c s)).sound := by
  unfold finishShutdown
  (repeat' split) <;> simp_all (maxDischargeDepth := 40)

@[simp] theorem shutdown_sound (c : ℕ) (s : State) (hs : (s).sound) :
    ((shutdown c s)).sound := by
  unfold shutdown
  (repeat' split) <;> simp_all (maxDischargeDepth := 40)

@[simp] theorem enableEdge_sound (c : ℕ) (s : State) (hs : (s).sound) :
    ((enableEdge c s)).sound := by
  unfold enableEdge
  (repeat' split) <;> simp_all (maxDischargeDepth := 40)

@[simp] theorem stopStarts_sound (c : Nat) (s : State) (hs : s.sound) :
    ((stopStarts c s)).sound := by
  unfold stopStarts
  (repeat' split) <;> simp_all (maxDischargeDepth := 40)

@[simp] theorem disableEdge_sound (c : ℕ) (s : State) (hs : (s).sound) :
    ((disableEdge c s)).sound := by
  unfold disableEdge
  (repeat' split) <;> simp_all (maxDischargeDepth := 40)

@[simp] theorem learnEdge_sound (c : ℕ) (s : State) (hs : (s).sound) :
    ((learnEdge c s)).sound := by
  unfold learnEdge
  (repeat' split) <;> simp_all (maxDischargeDepth := 40)

@[simp] theorem mapsEdge_sound (c : ℕ) (s : State) (hs : (s).sound) :
    ((mapsEdge c s)).sound := by
  unfold mapsEdge
  (repeat' split) <;> simp_all (maxDischargeDepth := 40)

@[simp] theorem driftEdge_sound (c : ℕ) (s : State) (hs : (s).sound) :
    ((driftEdge c s)).sound := by
  unfold driftEdge
  (repeat' split) <;> simp_all (maxDischargeDepth := 40)

@[simp] theorem enterRetired_sound (c : ℕ) (cause : ℕ) (s : State) (hs : (s).sound) :
    ((enterRetired c cause s)).sound := by
  unfold enterRetired
  (repeat' split) <;> simp_all (maxDischargeDepth := 40)

@[simp] theorem retireChannel_sound (c : ℕ) (cause : ℕ) (s : State) (hs : (s).sound) :
    ((retireChannel c cause s)).sound := by
  unfold retireChannel
  (repeat' split) <;> simp_all (maxDischargeDepth := 40)

@[simp] theorem shadowFail_sound (c : ℕ) (failed : ℕ) (cause : ℕ) (s : State) (hs : (s).sound) :
    ((shadowFail c failed cause s)).sound := by
  unfold shadowFail
  (repeat' split) <;> simp_all (maxDischargeDepth := 40)

@[simp] theorem readmitChannel_sound (c : ℕ) (s : State) (hs : (s).sound) :
    ((readmitChannel c s)).sound := by
  unfold readmitChannel
  (repeat' split) <;> simp_all (maxDischargeDepth := 40)

@[simp] theorem commandEdge_sound (c : ℕ) (s : State) (hs : (s).sound) :
    ((commandEdge c s)).sound := by
  unfold commandEdge
  dsimp only
  repeat' split
  all_goals simp_all (maxDischargeDepth := 40)

@[simp] theorem watchEnds_sound (c : Nat) (s : State) (hs : s.sound) :
    ((watchEnds c s)).sound := by
  unfold watchEnds
  (repeat' split) <;> simp_all (maxDischargeDepth := 40)

@[simp] theorem endWindow_sound (c : ℕ) (s : State) (hs : (s).sound) :
    ((endWindow c s)).sound := by
  unfold endWindow
  (repeat' split) <;> simp_all (maxDischargeDepth := 40)

@[simp] theorem windowEdge_sound (c : ℕ) (s : State) (hs : (s).sound) :
    ((windowEdge c s)).sound := by
  unfold windowEdge
  (repeat' split) <;> simp_all (maxDischargeDepth := 40)

@[simp] theorem countFault_sound (c : ℕ) (s : State) (hs : (s).sound) :
    ((countFault c s)).sound := by
  unfold countFault
  (repeat' split) <;> simp_all (maxDischargeDepth := 40)

@[simp] theorem shadowTick_sound (c : ℕ) (s : State) (hs : (s).sound) :
    ((shadowTick c s)).sound := by
  unfold shadowTick
  (repeat' split) <;> simp_all (maxDischargeDepth := 40)

@[simp] theorem shadowBoundary_sound (c : ℕ) (s : State) (hs : (s).sound) :
    ((shadowBoundary c s)).sound := by
  unfold shadowBoundary
  (repeat' split) <;> simp_all (maxDischargeDepth := 40)

@[simp] theorem epochAdvance_sound (c : ℕ) (s : State) (hs : (s).sound) :
    ((epochAdvance c s)).sound := by
  unfold epochAdvance
  (repeat' split) <;> simp_all (maxDischargeDepth := 40)

@[simp] theorem epochBoundary_sound (c : ℕ) (held : Bool) (rim : ℕ) (tb : ℕ) (s : State) (hs : (s).sound) :
    ((epochBoundary c held rim tb s)).sound := by
  unfold epochBoundary
  (repeat' split) <;> simp_all (maxDischargeDepth := 40)

@[simp] theorem leaveButtress_sound (c : ℕ) (s : State) (hs : (s).sound) :
    ((leaveButtress c s)).sound := by
  unfold leaveButtress
  (repeat' split) <;> simp_all (maxDischargeDepth := 40)

@[simp] theorem retiredMap_sound (c : Nat) (s : State) (hs : s.sound) :
    ((retiredMap c s)).sound := by
  unfold retiredMap
  (repeat' split) <;> simp_all (maxDischargeDepth := 40)

@[simp] theorem channelEdge_sound (rim : ℕ) (tb : ℕ) (leaving : Bool) (c : ℕ) (s : State) (hs : (s).sound) :
    ((channelEdge rim tb leaving c s)).sound := by
  unfold channelEdge
  (repeat' split) <;> simp_all (maxDischargeDepth := 40)

@[simp] theorem cistUeRecord_sound (c : Option ℕ) (w : ℕ) (s : State) (hs : (s).sound) :
    ((cistUeRecord c w s)).sound := by
  unfold cistUeRecord
  (repeat' split) <;> simp_all (maxDischargeDepth := 40)

@[simp] theorem cistReadEvents_sound (a : ℕ) (n : ℕ) (c : Option ℕ) (s : State) (hs : (s).sound) :
    ((cistReadEvents a n c s)).sound := by
  unfold cistReadEvents
  (repeat' split) <;> simp_all (maxDischargeDepth := 40)

@[simp] theorem cistPut_sound (a : ℕ) (bs : List Sys2Proof.Byte) (s : State) (hs : (s).sound) :
    ((cistPut a bs s)).sound := by
  unfold cistPut
  (repeat' split) <;> simp_all (maxDischargeDepth := 40)

@[simp] theorem compare_sound (w : ℕ) (c : ℕ) (s : State) (hs : (s).sound) :
    ((compare w c s)).sound := by
  unfold compare
  (repeat' split) <;> simp_all (maxDischargeDepth := 40)

@[simp] theorem ringWrite_sound (w : ℕ) (i : ℕ) (v : ℤ) (s : State) (hs : (s).sound) :
    ((ringWrite w i v s)).sound := by
  unfold ringWrite
  (repeat' split) <;> simp_all (maxDischargeDepth := 40)

@[simp] theorem overrun_sound (w : ℕ) (s : State) (hs : (s).sound) :
    ((overrun w s)).sound := by
  unfold overrun
  (repeat' split) <;> simp_all (maxDischargeDepth := 40)

@[simp] theorem capture_sound (w : ℕ) (data : ℕ) (opn : Bool) (stuck : Bool) (s : State) (hs : (s).sound) :
    ((capture w data opn stuck s)).sound := by
  unfold capture
  (repeat' split) <;> simp_all (maxDischargeDepth := 40)

@[simp] theorem presentSample_sound (w : Nat) (data : Nat) (valid : Bool) (opn : Bool) (stuck : Bool) (s : State) (hs : s.sound) :
    ((presentSample w data valid opn stuck s)).sound := by
  unfold presentSample
  dsimp only
  repeat' split
  all_goals simp_all (maxDischargeDepth := 40)

@[simp] theorem wellEdge_sound (rim : ℕ) (tb : ℕ) (w : ℕ) (s : State) (hs : (s).sound) :
    ((wellEdge rim tb w s)).sound := by
  unfold wellEdge
  (repeat' split) <;> simp_all (maxDischargeDepth := 40)

@[simp] theorem wellsEdge_sound (rim : ℕ) (tb : ℕ) (s : State) (hs : (s).sound) :
    ((wellsEdge rim tb s)).sound := by
  unfold wellsEdge
  (repeat' split) <;> simp_all (maxDischargeDepth := 40)

@[simp] theorem cutReads_sound (hit : Nat → Bool) (s : State) (hs : s.sound) :
    ((cutReads hit s)).sound := by
  unfold cutReads
  (repeat' split) <;> simp_all (maxDischargeDepth := 40)

@[simp] theorem startWell_sound (w : ℕ) (s : State) (hs : (s).sound) :
    ((startWell w s)).sound := by
  unfold startWell
  refine State_modWell_sound _ _ _ (State.sound_mk s hs _ _ _ _ _ _ _ _ _ _ _ _ _ _ _ _ _ _ _ _ _ _ _ _ _ _ _ _ _
    (storesOk_map _ _ hs.stores (fun g hg => hg)) hs.bells hs.cist hs.journal hs.faults hs.sram hs.slots hs.walks hs.log)

@[simp] theorem stopWell_sound (w : ℕ) (s : State) (hs : (s).sound) :
    ((stopWell w s)).sound := by
  unfold stopWell
  (repeat' split) <;> simp_all (maxDischargeDepth := 40)

@[simp] theorem wellCtrl_sound (w : ℕ) (v : Sys2Proof.Word) (s : State) (hs : (s).sound) :
    ((wellCtrl w v s).1).sound := by
  unfold wellCtrl
  dsimp only
  repeat' split
  all_goals simp_all (maxDischargeDepth := 40)

@[simp] theorem wellWordWrite_sound (w : ℕ) (i : ℕ) (v : Sys2Proof.Word) (s : State) (hs : (s).sound) :
    ((wellWordWrite w i v s).1).sound := by
  unfold wellWordWrite
  dsimp only
  split
  · exact wellCtrl_sound _ _ _ hs
  · split
    · split
      · exact hs
      · exact State_modWell_sound _ _ _ hs
    · split
      · exact State_modWell_sound _ _ _ hs
      · split
        · exact State_modWell_sound _ _ _ hs
        · exact hs

@[simp] theorem clearValid_sound (s : State) (hs : (s).sound) :
    ((clearValid s)).sound := by
  unfold clearValid
  (repeat' split) <;> simp_all (maxDischargeDepth := 40)

@[simp] theorem applyTickCtrl_sound (s : State) (hs : (s).sound) :
    ((applyTickCtrl s)).sound := by
  unfold applyTickCtrl
  (repeat' split) <;> simp_all (maxDischargeDepth := 40)

@[simp] theorem tickCtrlWritten_sound (s : State) (hs : s.sound) :
    ((tickCtrlWritten s)).sound := by
  unfold tickCtrlWritten
  (repeat' split) <;> simp_all (maxDischargeDepth := 40)

@[simp] theorem measure_sound (d : ℕ) (s : State) (hs : (s).sound) :
    ((measure d s)).sound := by
  unfold measure
  (repeat' split) <;> simp_all (maxDischargeDepth := 40)

@[simp] theorem dropAllDue_sound (e : Nat) (s : State) (hs : s.sound) :
    (dropAllDue e s).sound := by
  unfold dropAllDue
  refine foldS_sound _ _ _ hs (fun r s h => ?_)
  split <;> simp [h]

@[simp] theorem engEnableEdge_sound (e : ℕ) (s : State) (hs : (s).sound) :
    ((engEnableEdge e s)).sound := by
  unfold engEnableEdge
  (repeat' split) <;> simp_all (maxDischargeDepth := 40)

@[simp] theorem engDisableEdge_sound (e : ℕ) (s : State) (hs : (s).sound) :
    ((engDisableEdge e s)).sound := by
  unfold engDisableEdge
  (repeat' split) <;> simp_all (maxDischargeDepth := 40)

@[simp] theorem retireEngine_sound (e : ℕ) (cause : ℕ) (s : State) (hs : (s).sound) :
    ((retireEngine e cause s)).sound := by
  unfold retireEngine
  (repeat' split) <;> simp_all (maxDischargeDepth := 40)

@[simp] theorem readmitEngine_sound (e : ℕ) (s : State) (hs : (s).sound) :
    ((readmitEngine e s)).sound := by
  unfold readmitEngine
  (repeat' split) <;> simp_all (maxDischargeDepth := 40)

@[simp] theorem engineEdge_sound (e : ℕ) (s : State) (hs : (s).sound) :
    ((engineEdge e s)).sound := by
  unfold engineEdge
  (repeat' split) <;> simp_all (maxDischargeDepth := 40)

@[simp] theorem scheduleChan_sound (c : ℕ) (s : State) (hs : (s).sound) :
    ((scheduleChan c s)).sound := by
  unfold scheduleChan
  (repeat' split) <;> simp_all (maxDischargeDepth := 40)

@[simp] theorem overhangAt_sound (e : ℕ) (s : State) (hs : (s).sound) :
    ((overhangAt e s)).sound := by
  unfold overhangAt
  (repeat' split) <;> simp_all (maxDischargeDepth := 40)

@[simp] theorem ingressAt_sound (starts : Nat → Bool) (e : Nat) (s : State) (hs : s.sound) :
    ((ingressAt starts e s)).sound := by
  unfold ingressAt
  (repeat' split) <;> simp_all (maxDischargeDepth := 40)

@[simp] theorem ingress_sound (s : State) (hs : (s).sound) :
    ((ingress s)).sound := by
  unfold ingress
  (repeat' split) <;> simp_all (maxDischargeDepth := 40)

@[simp] theorem class8_sound (s : State) (hs : (s).sound) :
    ((class8 s)).sound := by
  unfold class8
  (repeat' split) <;> simp_all (maxDischargeDepth := 40)

@[simp] theorem buttressEntry_sound (rim : ℕ) (tb : ℕ) (c : ℕ) (s : State) (hs : (s).sound) :
    ((buttressEntry rim tb c s)).sound := by
  unfold buttressEntry
  (repeat' split) <;> simp_all (maxDischargeDepth := 40)

@[simp] theorem beginTick_sound (c : ℕ) (s : State) (hs : (s).sound) :
    ((beginTick c s)).sound := by
  unfold beginTick
  (repeat' split) <;> simp_all (maxDischargeDepth := 40)

@[simp] theorem snapPulse_sound (s : State) (hs : s.sound) :
    ((snapPulse s)).sound := by
  unfold snapPulse
  (repeat' split) <;> simp_all (maxDischargeDepth := 40)

@[simp] theorem snapshot_sound (rim : ℕ) (s : State) (hs : (s).sound) :
    ((snapshot rim s)).sound := by
  unfold snapshot
  (repeat' split) <;> simp_all (maxDischargeDepth := 40)

@[simp] theorem tickEdge_sound (dt : ℕ) (s : State) (hs : (s).sound) :
    ((tickEdge dt s)).sound := by
  unfold tickEdge
  dsimp only
  repeat' split
  all_goals simp_all (maxDischargeDepth := 40)

@[simp] theorem tickLost_sound (s : State) (hs : (s).sound) :
    ((tickLost s)).sound := by
  unfold tickLost
  dsimp only
  repeat' split
  all_goals simp_all (maxDischargeDepth := 40)

@[simp] theorem freeRunExpiry_sound (s : State) (hs : (s).sound) :
    ((freeRunExpiry s)).sound := by
  unfold freeRunExpiry
  (repeat' split) <;> simp_all (maxDischargeDepth := 40)

@[simp] theorem guardEdge_sound (s : State) (hs : (s).sound) :
    ((guardEdge s)).sound := by
  unfold guardEdge
  (repeat' split) <;> simp_all (maxDischargeDepth := 40)

@[simp] theorem delayedStart_sound (e : ℕ) (s : State) (hs : (s).sound) :
    ((delayedStart e s)).sound := by
  unfold delayedStart
  (repeat' split) <;> simp_all (maxDischargeDepth := 40)

@[simp] theorem tripHoldEnd_sound (c : ℕ) (s : State) (hs : (s).sound) :
    ((tripHoldEnd c s)).sound := by
  unfold tripHoldEnd
  (repeat' split) <;> simp_all (maxDischargeDepth := 40)

@[simp] theorem State_modPump_sound (s : State) (p : ℕ) (f : Pump → Pump) (hs : (s).sound) :
    ((State.modPump s p f)).sound := by
  unfold State.modPump
  (repeat' split) <;> simp_all (maxDischargeDepth := 40)

@[simp] theorem State_modPort_sound (s : State) (p : ℕ) (f : Port → Port) (hs : (s).sound) :
    ((State.modPort s p f)).sound := by
  unfold State.modPort
  (repeat' split) <;> simp_all (maxDischargeDepth := 40)

@[simp] theorem tagStall_sound (s : State) (hs : (s).sound) :
    ((tagStall s)).sound := by
  unfold tagStall
  (repeat' split) <;> simp_all (maxDischargeDepth := 40)

@[simp] theorem unclean_sound (e : Nat) (c : Nat) (no : Nat) (s : State) (hs : s.sound) :
    ((unclean e c no s)).sound := by
  unfold unclean
  (repeat' split) <;> simp_all (maxDischargeDepth := 40)

@[simp] theorem completionFault_sound (o : PumpOp) (s : State) (hs : (s).sound) :
    ((completionFault o s)).sound := by
  unfold completionFault
  (repeat' split) <;> simp_all (maxDischargeDepth := 40)

@[simp] theorem storeCompletion_sound (o : PumpOp) (s : State) (hs : (s).sound) :
    ((storeCompletion o s)).sound := by
  unfold storeCompletion
  split
  · exact storePut_sound _ _ _ _ hs
  · apply State.sound_mk s hs <;> (try simp_all)
    · exact hs.sram
    · exact slotsOk_modAt _ _ _ hs.slots (fun b h => h)
  · exact hs

@[simp] theorem freeXid_sound (p : ℕ) (x : ℕ) (s : State) (hs : (s).sound) :
    ((freeXid p x s)).sound := by
  unfold freeXid
  (repeat' split) <;> simp_all (maxDischargeDepth := 40)

@[simp] theorem returnXid_sound (o : PumpOp) (s : State) (hs : (s).sound) :
    ((returnXid o s)).sound := by
  unfold returnXid
  (repeat' split) <;> simp_all (maxDischargeDepth := 40)

@[simp] theorem completeOp_sound (o : PumpOp) (s : State) (hs : (s).sound) :
    ((completeOp o s)).sound := by
  unfold completeOp
  (repeat' split) <;> simp_all (maxDischargeDepth := 40)

@[simp] theorem noteTag_sound (o : PumpOp) (s : State) (hs : (s).sound) :
    ((noteTag o s)).sound := by
  unfold noteTag
  dsimp only
  split
  · refine State_modEng_sound _ _ _ (State_wr_sound _ _ _ _ hs) (fun g hg => ?_)
    split <;> exact hg
  · exact State_wr_sound _ _ _ _ hs

@[simp] theorem noteXid_sound (o : PumpOp) (s : State) (hs : (s).sound) :
    ((noteXid o s)).sound := by
  unfold noteXid
  (repeat' split) <;> simp_all (maxDischargeDepth := 40)

@[simp] theorem notePresented_sound (i : Nat) (s : State) (hs : s.sound) :
    (notePresented i s).sound := by
  show (State.modOp s.takeFree.2 i _).sound
  exact State_modOp_sound _ _ _ (State_takeFree_sound _ hs)

@[simp] theorem acceptOp_sound (o : PumpOp) (v : Option Variant) (s : State) (hs : (s).sound) :
    ((acceptOp o v s)).sound := by
  unfold acceptOp
  (repeat' split) <;> simp_all (maxDischargeDepth := 40)

@[simp] theorem readPiece_sound (x : Access) (m : Moving) (lanes : List ℤ) (hs : (m.s).sound) :
    ((readPiece x m lanes).1.s).sound := by
  unfold readPiece
  dsimp only
  repeat' split
  all_goals simp_all (maxDischargeDepth := 40)

@[simp] theorem writePiece_sound (x : Access) (m : Moving) (lanes : List (ℤ × List Sys2Proof.Byte)) (hs : (m.s).sound) :
    ((writePiece x m lanes).s).sound := by
  unfold writePiece
  dsimp only
  repeat' split
  all_goals simp_all (maxDischargeDepth := 40)

@[simp] theorem storeReadLanes_sound (e : ℕ) (c : Option ℕ) (m : Moving) (lanes : List ℤ) (hs : (m.s).sound) :
    ((storeReadLanes e c m lanes).1.s).sound := by
  unfold storeReadLanes
  (repeat' split) <;> simp_all (maxDischargeDepth := 40)

@[simp] theorem storeWriteLanes_sound (e : ℕ) (tick : Bool) (m : Moving) (lanes : List (ℤ × List Sys2Proof.Byte)) (hs : (m.s).sound) :
    ((storeWriteLanes e tick m lanes).s).sound := by
  unfold storeWriteLanes
  (repeat' split) <;> simp_all (maxDischargeDepth := 40)

@[simp] theorem readLanes_sound (x : Access) (d : Desc) (lanes : List (Option ℤ)) (m : Moving) (hs : (m.s).sound) :
    ((readLanes x d lanes m).1.s).sound := by
  unfold readLanes
  refine foldl_soundM1 _ _ _ hs (fun m g hm => ?_)
  dsimp only
  split
  · exact hm
  · exact readPiece_sound x m.1 _ hm

@[simp] theorem readStoreLanes_sound (e : ℕ) (c : Option ℕ) (d : Desc) (lanes : List (Option ℤ)) (m : Moving) (hs : (m.s).sound) :
    ((readStoreLanes e c d lanes m).1.s).sound := by
  unfold readStoreLanes
  refine foldl_soundM1 _ _ _ hs (fun m g hm => ?_)
  dsimp only
  split
  · exact hm
  · exact storeReadLanes_sound e c m.1 _ hm

@[simp] theorem writeLanes_sound (x : Access) (lanes : List (Option ℤ × List Sys2Proof.Byte)) (m : Moving) (hs : (m.s).sound) :
    ((writeLanes x lanes m).s).sound := by
  unfold writeLanes
  exact foldl_soundM _ _ _ hs (fun m g hm => writePiece_sound x m _ hm)

@[simp] theorem writeStoreLanes_sound (e : ℕ) (tick : Bool) (lanes : List (Option ℤ × List Sys2Proof.Byte)) (m : Moving) (hs : (m.s).sound) :
    ((writeStoreLanes e tick lanes m).s).sound := by
  unfold writeStoreLanes
  exact foldl_soundM _ _ _ hs (fun m g hm => storeWriteLanes_sound e tick m _ hm)

@[simp] theorem deliver_sound (o : PumpOp) (x : Access) (ep : Endpoint) (lanes : List (Option ℤ × List Sys2Proof.Byte)) (m : Moving) (hs : (m.s).sound) :
    ((deliver o x ep lanes m).s).sound := by
  unfold deliver
  (repeat' split) <;> simp_all (maxDischargeDepth := 40)

@[simp] theorem collect_sound (o : PumpOp) (x : Access) (d : Desc) (ep : Endpoint) (lanes : List (Option ℤ)) (m : Moving) (hs : (m.s).sound) :
    ((collect o x d ep lanes m).1.s).sound := by
  unfold collect
  (repeat' split) <;> simp_all (maxDischargeDepth := 40)

@[simp] theorem entryEvents_sound (o : PumpOp) (e : Nat) (s : State) (hs : s.sound) :
    ((entryEvents o e s)).sound := by
  unfold entryEvents
  (repeat' split) <;> simp_all (maxDischargeDepth := 40)

@[simp] theorem readEntries_sound (es : List Nat) (o : PumpOp) (s : State) (hs : s.sound) :
    (readEntries es o s).2.sound := by
  induction es generalizing o s with
  | nil => exact hs
  | cons e es ih => unfold readEntries; exact ih _ _ (entryEvents_sound _ _ _ hs)

@[simp] theorem readPost_sound (e : Nat) (r : Run) (i : Ins) (a : Nat) (s : State) (hs : s.sound) :
    (readPost e r i a s).2.sound := readEntries_sound _ _ _ hs

@[simp] theorem readLateEntries_sound (i : Nat) (s : State) (hs : s.sound) :
    (readLateEntries i s).sound := by
  unfold readLateEntries
  split
  · exact hs
  · dsimp only
    split
    · exact hs
    · exact State_modOp_sound _ _ _ (readEntries_sound _ _ _ hs)

@[simp] theorem Moving_hold_sound (m : Moving) (xs : List (Nat × List Byte)) (hs : m.s.sound) :
    ((Moving.hold m xs).s).sound := by
  unfold Moving.hold
  (repeat' split) <;> simp_all (maxDischargeDepth := 40)

@[simp] theorem readLine_sound (o : PumpOp) (n : Nat) (m : Moving) (hs : m.s.sound) :
    (readLine o n m).s.sound := by
  unfold readLine
  dsimp only
  (repeat' split) <;> simp [hs]

@[simp] theorem formFrames_sound (o : PumpOp) (d : Desc) (m : Moving) (hs : m.s.sound) :
    ((formFrames o d m).s).sound := by
  unfold formFrames
  (repeat' split) <;> simp_all (maxDischargeDepth := 40)

@[simp] theorem turnTile_sound (d : Desc) (first : Nat) (m : Moving) (hs : m.s.sound) :
    ((turnTile d first m).s).sound := by
  unfold turnTile
  (repeat' split) <;> simp_all (maxDischargeDepth := 40)

@[simp] theorem countFlaw_sound (o : PumpOp) (e : Nat) (n : Nat) (m : Moving) (hs : m.s.sound) :
    ((countFlaw o e n m).s).sound := by
  unfold countFlaw
  (repeat' split) <;> simp_all (maxDischargeDepth := 40)

@[simp] theorem performStep_sound (o : PumpOp) (d : Desc) (m : Moving) (st : PumpStep) (hs : m.s.sound) :
    ((performStep o d m st).s).sound := by
  unfold performStep
  (repeat' split) <;> simp_all (maxDischargeDepth := 40)

@[simp] theorem runSteps_sound (n i : Nat) (s : State) (hs : s.sound) :
    (runSteps n i s).sound := by
  unfold runSteps
  dsimp only
  split
  · exact hs
  · split
    · exact hs
    · exact State_modOp_sound _ _ _ (foldl_soundM _ _ _ (readLateEntries_sound i s hs)
        (fun m st h => performStep_sound _ _ m st h))

@[simp] theorem advance_sound (fuel n i : Nat) (s : State) (hs : s.sound) :
    (advance fuel n i s).sound := by
  induction fuel generalizing n i s with
  | zero => exact runSteps_sound n i s hs
  | succ fuel ih =>
    unfold advance
    dsimp only
    split
    · exact hs
    · refine runSteps_sound _ _ _ (foldS_sound _ _ _ (readLateEntries_sound i s hs) (fun p s h => ?_))
      split
      · split
        · exact ih _ _ _ (readLateEntries_sound _ _ h)
        · exact h
      · exact h

@[simp] theorem advanceOp_sound (n i : Nat) (s : State) (hs : s.sound) :
    (advanceOp n i s).sound := advance_sound _ n i s hs

@[simp] theorem orderIssuer_sound (mine : Issuer → Bool) (store : Bool) (xs : List (Nat × Nat)) (s : State) (hs : s.sound) :
    (orderIssuer mine store xs s).sound := by
  unfold orderIssuer
  refine foldS_sound _ _ _ hs (fun i s h => ?_)
  dsimp only
  have h1 := readLateEntries_sound i _ (notePresented_sound i s h)
  split
  · exact advanceOp_sound _ _ _ h1
  · exact h1

@[simp] theorem pumpMove_sound (want : DOp) (i : ℕ) (defer : ℕ) (s : State) (hs : (s).sound) :
    ((pumpMove want i defer s)).sound := by
  unfold pumpMove
  (repeat' split) <;> simp_all (maxDischargeDepth := 40)

@[simp] theorem sealIssuer_sound (mine : Issuer → Bool) (s : State) (hs : (s).sound) :
    ((sealIssuer mine s)).sound := by
  unfold sealIssuer
  (repeat' split) <;> simp_all (maxDischargeDepth := 40)

@[simp] theorem pumpComplete_sound (i : ℕ) (s : State) (hs : (s).sound) :
    ((pumpComplete i s)).sound := by
  unfold pumpComplete
  (repeat' split) <;> simp_all (maxDischargeDepth := 40)

@[simp] theorem wellWaitEnd_sound (i : ℕ) (s : State) (hs : (s).sound) :
    ((wellWaitEnd i s)).sound := by
  unfold wellWaitEnd
  (repeat' split) <;> simp_all (maxDischargeDepth := 40)

@[simp] theorem releaseWaiter_sound (w : ℕ × Bool) (s : State) (hs : (s).sound) :
    ((releaseWaiter w s)).sound := by
  unfold releaseWaiter
  (repeat' split) <;> simp_all (maxDischargeDepth := 40)

@[simp] theorem ringBell_sound (b : ℕ) (k : ℕ) (s : State) (hs : (s).sound) :
    ((ringBell b k s).1).sound := by
  unfold ringBell
  (repeat' split) <;> simp_all (maxDischargeDepth := 40)

@[simp] theorem loadBell_sound (b : ℕ) (v : ℕ) (s : State) (hs : (s).sound) (hv : v ≤ 255) :
    ((loadBell b v s)).sound := by
  unfold loadBell
  dsimp only
  refine foldS_sound _ _ _ (State_modBell_sound _ _ _ hs (fun l hl => ?_)) (fun w s h => releaseWaiter_sound w s h)
  dsimp only
  omega

@[simp] theorem takeBell_sound (b : ℕ) (s : State) (hs : (s).sound) :
    ((takeBell b s)).sound := by
  unfold takeBell
  refine State_modBell_sound _ _ _ hs (fun l hl => ?_)
  dsimp only
  omega

@[simp] theorem engineRing_sound (e : ℕ) (b : ℕ) (k : ℕ) (r : Run) (s : State) (hs : (s).sound) :
    ((engineRing e b k r s)).sound := by
  unfold engineRing
  dsimp only
  repeat' split
  all_goals simp_all (maxDischargeDepth := 40)

@[simp] theorem supervisorRing_sound (b : ℕ) (k : ℕ) (s : State) (hs : (s).sound) :
    ((supervisorRing b k s)).sound := by
  unfold supervisorRing
  dsimp only
  repeat' split
  all_goals simp_all (maxDischargeDepth := 40)

@[simp] theorem State_modRun_sound (s : State) (e : ℕ) (f : Run → Run) (hs : (s).sound) :
    ((State.modRun s e f)).sound := by
  unfold State.modRun
  (repeat' split) <;> simp_all (maxDischargeDepth := 40)

@[simp] theorem next_sound (e : ℕ) (s : State) (hs : (s).sound) :
    ((next e s)).sound := by
  unfold next
  (repeat' split) <;> simp_all (maxDischargeDepth := 40)

@[simp] theorem endTileRun_sound (e : ℕ) (s : State) (hs : (s).sound) :
    ((endTileRun e s)).sound := by
  unfold endTileRun
  dsimp only
  repeat' split
  all_goals simp_all (maxDischargeDepth := 40)

@[simp] theorem doTile_sound (e : ℕ) (r : Run) (m : TileMode) (i : Ins) (ts : List Touch) (s : State) (hs : (s).sound) :
    ((doTile e r m i ts s)).sound := by
  unfold doTile
  (repeat' split) <;> simp_all (maxDischargeDepth := 40)

@[simp] theorem doVec_sound (e : ℕ) (o : VecOp) (i : Ins) (ts : List Touch) (s : State) (hs : (s).sound) :
    ((doVec e o i ts s)).sound := by
  unfold doVec
  (repeat' split) <;> simp_all (maxDischargeDepth := 40)

@[simp] theorem doRed_sound (e : ℕ) (o : RedOp) (i : Ins) (ts : List Touch) (s : State) (hs : (s).sound) :
    ((doRed e o i ts s)).sound := by
  unfold doRed
  (repeat' split) <;> simp_all (maxDischargeDepth := 40)

@[simp] theorem doCmp_sound (e : ℕ) (o : CmpOp) (i : Ins) (ts : List Touch) (s : State) (hs : (s).sound) :
    ((doCmp e o i ts s)).sound := by
  unfold doCmp
  (repeat' split) <;> simp_all (maxDischargeDepth := 40)

@[simp] theorem doTrace_sound (e : ℕ) (r : Run) (i : Ins) (ts : List Touch) (s : State) (hs : (s).sound) :
    ((doTrace e r i ts s)).sound := by
  unfold doTrace
  (repeat' split) <;> simp_all (maxDischargeDepth := 40)

@[simp] theorem doSrnd_sound (e : ℕ) (i : Ins) (ts : List Touch) (s : State) (hs : (s).sound) :
    ((doSrnd e i ts s)).sound := by
  unfold doSrnd
  (repeat' split) <;> simp_all (maxDischargeDepth := 40)

@[simp] theorem doDgate_sound (e : ℕ) (r : Run) (i : Ins) (ts : List Touch) (s : State) (hs : (s).sound) :
    ((doDgate e r i ts s)).sound := by
  unfold doDgate
  (repeat' split) <;> simp_all (maxDischargeDepth := 40)

@[simp] theorem doLoop_sound (e : ℕ) (r : Run) (i : Ins) (s : State) (hs : (s).sound) :
    ((doLoop e r i s)).sound := by
  unfold doLoop
  (repeat' split) <;> simp_all (maxDischargeDepth := 40)

@[simp] theorem doBr_sound (e : ℕ) (r : Run) (i : Ins) (s : State) (hs : (s).sound) :
    ((doBr e r i s)).sound := by
  unfold doBr
  (repeat' split) <;> simp_all (maxDischargeDepth := 40)

@[simp] theorem doAwait_sound (e : ℕ) (b : ℕ) (r : Run) (s : State) (hs : (s).sound) :
    ((doAwait e b r s)).sound := by
  unfold doAwait
  (repeat' split) <;> simp_all (maxDischargeDepth := 40)

@[simp] theorem doSeal_sound (e : ℕ) (s : State) (hs : (s).sound) :
    ((doSeal e s)).sound := by
  unfold doSeal
  (repeat' split) <;> simp_all (maxDischargeDepth := 40)

@[simp] theorem stallPost_sound (e : Nat) (r : Run) (v : Variant) (o : PumpOp) (s : State) (hs : s.sound) :
    ((stallPost e r v o s)).sound := by
  unfold stallPost
  (repeat' split) <;> simp_all (maxDischargeDepth := 40)

@[simp] theorem doTens_sound (e : Nat) (r : Run) (i : Ins) (v : Variant) (ts : List Touch) (s : State) (hs : s.sound) :
    (doTens e r i v ts s).sound := by
  unfold doTens
  dsimp only
  have h1 := readPost_sound e r i (atOf ts 0) s hs
  split
  · simp [hs]
  · split
    · exact stallPost_sound _ _ _ _ _ h1
    · exact acceptOp_sound _ _ _ (next_sound _ _ h1)

@[simp] theorem doHalt_sound (e : ℕ) (r : Run) (s : State) (hs : (s).sound) :
    ((doHalt e r s)).sound := by
  unfold doHalt
  (repeat' split) <;> simp_all (maxDischargeDepth := 40)

@[simp] theorem countTick_sound (c : ℕ) (s : State) (hs : (s).sound) :
    ((countTick c s)).sound := by
  unfold countTick
  (repeat' split) <;> simp_all (maxDischargeDepth := 40)

@[simp] theorem endTick_sound (c : ℕ) (e : ℕ) (r : Run) (strokes : ℕ) (lane : List Sys2Proof.Byte) (s : State) (hs : (s).sound) :
    ((endTick c e r strokes lane s)).sound := by
  unfold endTick
  (repeat' split) <;> simp_all (maxDischargeDepth := 40)

@[simp] theorem doHaltV_sound (e : ℕ) (r : Run) (strokes : ℕ) (ts : List Touch) (s : State) (hs : (s).sound) :
    ((doHaltV e r strokes ts s)).sound := by
  unfold doHaltV
  (repeat' split) <;> simp_all (maxDischargeDepth := 40)

@[simp] theorem readEvents_sound (e : ℕ) (r : Run) (rs : List (ℕ × ℕ)) (s : State) (hs : (s).sound) :
    ((readEvents e r rs s)).sound := by
  unfold readEvents
  (repeat' split) <;> simp_all (maxDischargeDepth := 40)

@[simp] theorem fetchEvents_sound (e : Nat) (r : Run) (s : State) (hs : s.sound) :
    ((fetchEvents e r s)).sound := by
  unfold fetchEvents
  (repeat' split) <;> simp_all (maxDischargeDepth := 40)

@[simp] theorem perform_sound (e : ℕ) (r : Run) (strokes : ℕ) (i : Ins) (ts : List Touch) (s : State) (hs : (s).sound) :
    ((perform e r strokes i ts s)).sound := by
  unfold perform
  (repeat' split) <;> simp_all (maxDischargeDepth := 40)

@[simp] theorem issueIns_sound (e : ℕ) (r : Run) (strokes : ℕ) (i : Ins) (s : State) (hs : (s).sound) :
    ((issueIns e r strokes i s)).sound := by
  unfold issueIns
  (repeat' split) <;> simp_all (maxDischargeDepth := 40)

@[simp] theorem issue_sound (want : EOp → Bool) (strokes : ℕ) (e : ℕ) (s : State) (hs : (s).sound) :
    ((issue want strokes e s)).sound := by
  unfold issue
  (repeat' split) <;> simp_all (maxDischargeDepth := 40)

@[simp] theorem stopHalting_sound (e : Nat) (r : Run) (s : State) (hs : s.sound) :
    ((stopHalting e r s)).sound := by
  unfold stopHalting
  (repeat' split) <;> simp_all (maxDischargeDepth := 40)

@[simp] theorem grantEngine_sound (tick : Bool) (e : Nat) (s : State) (hs : s.sound) :
    ((grantEngine tick e s)).sound := by
  unfold grantEngine
  dsimp only
  repeat' split
  all_goals simp_all (maxDischargeDepth := 40)

@[simp] theorem putLanes_sound (p : ℕ) (bs : List Sys2Proof.Byte) (s : State) (hs : (s).sound) :
    ((putLanes p bs s)).sound := by
  unfold putLanes
  (repeat' split) <;> simp_all (maxDischargeDepth := 40)

@[simp] theorem sendControl_sound (p : ℕ) (t : ℕ) (seq : ℕ) (s : State) (hs : (s).sound) :
    ((sendControl p t seq s)).sound := by
  unfold sendControl
  (repeat' split) <;> simp_all (maxDischargeDepth := 40)

@[simp] theorem sendNak_sound (p : ℕ) (s : State) (hs : (s).sound) :
    ((sendNak p s)).sound := by
  unfold sendNak
  (repeat' split) <;> simp_all (maxDischargeDepth := 40)

@[simp] theorem flushLate_sound (p : ℕ) (s : State) (hs : (s).sound) :
    ((flushLate p s)).sound := by
  unfold flushLate
  (repeat' split) <;> simp_all (maxDischargeDepth := 40)

@[simp] theorem sendPlain_sound (p : ℕ) (bs : List Sys2Proof.Byte) (s : State) (hs : (s).sound) :
    ((sendPlain p bs s)).sound := by
  unfold sendPlain
  (repeat' split) <;> simp_all (maxDischargeDepth := 40)

@[simp] theorem inject_sound (p : ℕ) (bs : List Sys2Proof.Byte) (s : State) (hs : (s).sound) :
    ((inject p bs s)).sound := by
  unfold inject
  have h1 := State_setB_sound s (LNK p) 1 13 hs
  dsimp only
  split
  · exact h1
  · exact sendPlain_sound _ _ _ h1
  · exact State_modPort_sound _ _ _ (flushLate_sound _ _ h1)
  · exact sendPlain_sound _ _ _ (putLanes_sound _ _ _ h1)
  · exact sendPlain_sound _ _ _ h1

@[simp] theorem transmit_sound (p : ℕ) (seq : ℕ) (f : TxFrame) (s : State) (hs : (s).sound) :
    ((transmit p seq f s)).sound := by
  unfold transmit
  (repeat' split) <;> simp_all (maxDischargeDepth := 40)

@[simp] theorem enqueue_sound (p : ℕ) (f : TxFrame) (s : State) (hs : (s).sound) :
    ((enqueue p f s)).sound := by
  unfold enqueue
  (repeat' split) <;> simp_all (maxDischargeDepth := 40)

@[simp] theorem sendHead_sound (p : ℕ) (s : State) (hs : (s).sound) :
    ((sendHead p s)).sound := by
  unfold sendHead
  (repeat' split) <;> simp_all (maxDischargeDepth := 40)

@[simp] theorem measured_sound (p : Nat) (offset : Int) (skew : Nat) (s : State) (hs : s.sound) :
    ((measured p offset skew s)).sound := by
  unfold measured
  (repeat' split) <;> simp_all (maxDischargeDepth := 40)

@[simp] theorem replayFrom_sound (p : ℕ) (n : ℕ) (s : State) (hs : (s).sound) :
    ((replayFrom p n s)).sound := by
  unfold replayFrom
  (repeat' split) <;> simp_all (maxDischargeDepth := 40)

@[simp] theorem takeAck_sound (p : ℕ) (a : ℕ) (s : State) (hs : (s).sound) :
    ((takeAck p a s)).sound := by
  unfold takeAck
  (repeat' split) <;> simp_all (maxDischargeDepth := 40)

@[simp] theorem takeCredit_sound (p : ℕ) (c : ℕ) (s : State) (hs : (s).sound) :
    ((takeCredit p c s)).sound := by
  unfold takeCredit
  (repeat' split) <;> simp_all (maxDischargeDepth := 40)

@[simp] theorem ensureAck_sound (p : ℕ) (s : State) (hs : (s).sound) :
    ((ensureAck p s)).sound := by
  unfold ensureAck
  (repeat' split) <;> simp_all (maxDischargeDepth := 40)

@[simp] theorem setLink_sound (p : ℕ) (st : LinkSt) (s : State) (hs : (s).sound) :
    ((setLink p st s)).sound := by
  unfold setLink
  (repeat' split) <;> simp_all (maxDischargeDepth := 40)

@[simp] theorem freezeXfers_sound (p : ℕ) (s : State) (hs : (s).sound) :
    ((freezeXfers p s)).sound := by
  unfold freezeXfers
  (repeat' split) <;> simp_all (maxDischargeDepth := 40)

@[simp] theorem runXfers_sound (p : ℕ) (s : State) (hs : (s).sound) :
    ((runXfers p s)).sound := by
  unfold runXfers
  (repeat' split) <;> simp_all (maxDischargeDepth := 40)

@[simp] theorem leaveUp_sound (p : ℕ) (reason : ℕ) (paused : Bool) (s : State) (hs : (s).sound) :
    ((leaveUp p reason paused s)).sound := by
  unfold leaveUp
  (repeat' split) <;> simp_all (maxDischargeDepth := 40)

@[simp] theorem feedLanes_sound (p : Nat) (b0 : List (BitVec 66)) (b1 : List (BitVec 66)) (s : State) (hs : s.sound) :
    ((feedLanes p b0 b1 s)).sound := by
  unfold feedLanes
  (repeat' split) <;> simp_all (maxDischargeDepth := 40)

@[simp] theorem loseTransfers_sound (p : ℕ) (s : State) (hs : (s).sound) :
    ((loseTransfers p s)).sound := by
  unfold loseTransfers
  (repeat' split) <;> simp_all (maxDischargeDepth := 40)

@[simp] theorem endPeerService_sound (p : ℕ) (s : State) (hs : (s).sound) :
    ((endPeerService p s)).sound := by
  unfold endPeerService
  (repeat' split) <;> simp_all (maxDischargeDepth := 40)

@[simp] theorem clearSequence_sound (p : ℕ) (s : State) (hs : (s).sound) :
    ((clearSequence p s)).sound := by
  unfold clearSequence
  (repeat' split) <;> simp_all (maxDischargeDepth := 40)

@[simp] theorem killPort_sound (p : ℕ) (st : LinkSt) (s : State) (hs : (s).sound) :
    ((killPort p st s)).sound := by
  unfold killPort
  (repeat' split) <;> simp_all (maxDischargeDepth := 40)

@[simp] theorem linkControl_sound (p : ℕ) (s : State) (hs : (s).sound) :
    ((linkControl p s)).sound := by
  unfold linkControl
  (repeat' split) <;> simp_all (maxDischargeDepth := 40)

@[simp] theorem retryStep_sound (p : ℕ) (s : State) (hs : (s).sound) :
    ((retryStep p s)).sound := by
  unfold retryStep
  (repeat' split) <;> simp_all (maxDischargeDepth := 40)

@[simp] theorem retryWindowEnd_sound (p : ℕ) (s : State) (hs : (s).sound) :
    ((retryWindowEnd p s)).sound := by
  unfold retryWindowEnd
  (repeat' split) <;> simp_all (maxDischargeDepth := 40)

@[simp] theorem blockLockRegained_sound (p : Nat) (b0 : List (BitVec 66)) (b1 : List (BitVec 66)) (s : State) (hs : s.sound) :
    ((blockLockRegained p b0 b1 s)).sound := by
  unfold blockLockRegained
  (repeat' split) <;> simp_all (maxDischargeDepth := 40)

@[simp] theorem laneLockLost_sound (p : Nat) (lane : Nat) (ws : List (BitVec 66)) (s : State) (hs : s.sound) :
    ((laneLockLost p lane ws s)).sound := by
  unfold laneLockLost
  (repeat' split) <;> simp_all (maxDischargeDepth := 40)

@[simp] theorem replayTimer_sound (p : ℕ) (s : State) (hs : (s).sound) :
    ((replayTimer p s)).sound := by
  unfold replayTimer
  (repeat' split) <;> simp_all (maxDischargeDepth := 40)

@[simp] theorem heldFrameTimeout_sound (p : ℕ) (s : State) (hs : (s).sound) :
    ((heldFrameTimeout p s)).sound := by
  unfold heldFrameTimeout
  (repeat' split) <;> simp_all (maxDischargeDepth := 40)

@[simp] theorem queueBlock_sound (o : PumpOp) (d : Desc) (e : ℕ) (m : Moving) (hs : (m.s).sound) :
    ((queueBlock o d e m).s).sound := by
  unfold queueBlock
  dsimp only
  exact foldS_sound _ _ _ (collect_sound _ _ _ _ _ _ hs) (fun a s h => enqueue_sound _ _ _ h)

@[simp] theorem settleRemote_sound (i : ℕ) (s : State) (hs : (s).sound) :
    ((settleRemote i s)).sound := by
  unfold settleRemote
  (repeat' split) <;> simp_all (maxDischargeDepth := 40)

@[simp] theorem takeXid_sound (i : ℕ) (s : State) (hs : (s).sound) :
    ((takeXid i s)).sound := by
  unfold takeXid
  (repeat' split) <;> simp_all (maxDischargeDepth := 40)

@[simp] theorem remoteSend_sound (read : Bool) (i : ℕ) (s : State) (hs : (s).sound) :
    ((remoteSend read i s)).sound := by
  unfold remoteSend
  extract_lets s0
  have h0 : s0.sound := by
    unfold s0
    repeat' split
    all_goals simp_all
  split
  · exact h0
  · dsimp only
    split
    · exact h0
    · refine settleRemote_sound _ _ (State_modOp_sound _ _ _ ?_)
      split
      · refine foldl_soundM _ _ _ ?_ (fun m e h => countFlaw_sound _ _ _ _ h)
        exact foldS_sound _ _ _ h0 (fun a s h => enqueue_sound _ _ _ h)
      · refine foldl_soundM _ _ _ ?_ (fun m e h => queueBlock_sound _ _ _ _ h)
        refine foldl_soundM _ _ _ ?_ (fun m e h => countFlaw_sound _ _ _ _ h)
        exact foldS_sound _ _ _ h0 (fun a s h => enqueue_sound _ _ _ h)

@[simp] theorem takeRdata_sound (p : ℕ) (f : RxFrame) (s : State) (hs : (s).sound) :
    ((takeRdata p f s)).sound := by
  unfold takeRdata
  (repeat' split) <;> simp_all (maxDischargeDepth := 40)

@[simp] theorem takeWdone_sound (p : ℕ) (f : RxFrame) (s : State) (hs : (s).sound) :
    ((takeWdone p f s)).sound := by
  unfold takeWdone
  (repeat' split) <;> simp_all (maxDischargeDepth := 40)

@[simp] theorem takeRefuse_sound (p : ℕ) (f : RxFrame) (s : State) (hs : (s).sound) :
    ((takeRefuse p f s)).sound := by
  unfold takeRefuse
  (repeat' split) <;> simp_all (maxDischargeDepth := 40)

@[simp] theorem xferTimeout_sound (i : ℕ) (s : State) (hs : (s).sound) :
    ((xferTimeout i s)).sound := by
  unfold xferTimeout
  (repeat' split) <;> simp_all (maxDischargeDepth := 40)

@[simp] theorem leaveBuffer_sound (p : Nat) (n : Nat) (s : State) (hs : s.sound) :
    ((leaveBuffer p n s)).sound := by
  unfold leaveBuffer
  (repeat' split) <;> simp_all (maxDischargeDepth := 40)

@[simp] theorem dropBlocks_sound (p : Nat) (gone : PeerBlock → Bool) (s : State) (hs : s.sound) :
    ((dropBlocks p gone s)).sound := by
  unfold dropBlocks
  (repeat' split) <;> simp_all (maxDischargeDepth := 40)

@[simp] theorem modBlock_sound (p : Nat) (x : Nat) (e : Nat) (f : PeerBlock → PeerBlock) (s : State) (hs : s.sound) :
    ((modBlock p x e f s)).sound := by
  unfold modBlock
  (repeat' split) <;> simp_all (maxDischargeDepth := 40)

@[simp] theorem dropBlock_sound (p : ℕ) (x : ℕ) (e : ℕ) (s : State) (hs : (s).sound) :
    ((dropBlock p x e s)).sound := by
  unfold dropBlock
  (repeat' split) <;> simp_all (maxDischargeDepth := 40)

@[simp] theorem refuseBlock_sound (p : ℕ) (b : PeerBlock) (s : State) (hs : (s).sound) :
    ((refuseBlock p b s)).sound := by
  unfold refuseBlock
  (repeat' split) <;> simp_all (maxDischargeDepth := 40)

@[simp] theorem serveRead_sound (p : ℕ) (o : PumpOp) (b : PeerBlock) (s : State) (hs : (s).sound) :
    ((serveRead p o b s)).sound := by
  unfold serveRead
  (repeat' split) <;> simp_all (maxDischargeDepth := 40)

@[simp] theorem serveWrite_sound (p : ℕ) (i : ℕ) (b : PeerBlock) (s : State) (hs : (s).sound) :
    ((serveWrite p i b s)).sound := by
  unfold serveWrite
  (repeat' split) <;> simp_all (maxDischargeDepth := 40)

@[simp] theorem startBlock_sound (p : ℕ) (k : ℕ) (b : PeerBlock) (s : State) (hs : (s).sound) :
    ((startBlock p k b s)).sound := by
  unfold startBlock
  (repeat' split) <;> simp_all (maxDischargeDepth := 40)

@[simp] theorem stallBlock_sound (p : ℕ) (b : PeerBlock) (s : State) (hs : (s).sound) :
    ((stallBlock p b s)).sound := by
  unfold stallBlock
  (repeat' split) <;> simp_all (maxDischargeDepth := 40)

@[simp] theorem serveNext_sound (granted : Bool) (p : ℕ) (s : State) (hs : (s).sound) :
    ((serveNext granted p s).1).sound := by
  unfold serveNext
  (repeat' split) <;> simp_all (maxDischargeDepth := 40)

@[simp] theorem servePort_sound (x0 : ℕ) (x1 : ℕ) (x2 : State) (hs : (x2).sound) :
    ((servePort x0 x1 x2)).sound := by
  induction x0 generalizing x2 with
  | zero => exact hs
  | succ n ih =>
    unfold servePort
    dsimp only
    split
    · exact ih _ (serveNext_sound _ _ _ hs)
    · exact serveNext_sound _ _ _ hs

@[simp] theorem serveAll_sound (p : ℕ) (s : State) (hs : (s).sound) :
    ((serveAll p s)).sound := by
  unfold serveAll
  (repeat' split) <;> simp_all (maxDischargeDepth := 40)

@[simp] theorem takeReq_sound (p : ℕ) (f : RxFrame) (s : State) (hs : (s).sound) :
    ((takeReq p f s)).sound := by
  unfold takeReq
  (repeat' split) <;> simp_all (maxDischargeDepth := 40)

@[simp] theorem takeWdata_sound (p : ℕ) (f : RxFrame) (s : State) (hs : (s).sound) :
    ((takeWdata p f s)).sound := by
  unfold takeWdata
  (repeat' split) <;> simp_all (maxDischargeDepth := 40)

@[simp] theorem takeCancel_sound (p : Nat) (f : RxFrame) (s : State) (hs : s.sound) :
    (takeCancel p f s).sound := by
  unfold takeCancel
  dsimp only
  refine enqueue_sound _ _ _ (dropBlocks_sound _ _ _ (foldS_sound _ _ _ hs (fun b s h => ?_)))
  split <;> simp [h]

@[simp] theorem takeCdone_sound (p : ℕ) (f : RxFrame) (s : State) (hs : (s).sound) :
    ((takeCdone p f s)).sound := by
  unfold takeCdone
  (repeat' split) <;> simp_all (maxDischargeDepth := 40)

@[simp] theorem sendHello_sound (p : Nat) (s : State) (hs : s.sound) :
    ((sendHello p s)).sound := by
  unfold sendHello
  (repeat' split) <;> simp_all (maxDischargeDepth := 40)

@[simp] theorem frameTransmit_sound (p : Nat) (s : State) (hs : s.sound) :
    (frameTransmit p s).sound := by
  unfold frameTransmit
  dsimp only
  (repeat' split) <;> simp [hs]

@[simp] theorem enterUp_sound (p : ℕ) (h : Hello) (s : State) (hs : (s).sound) :
    ((enterUp p h s)).sound := by
  unfold enterUp
  (repeat' split) <;> simp_all (maxDischargeDepth := 40)

@[simp] theorem resumeLink_sound (p : ℕ) (h : Hello) (s : State) (hs : (s).sound) :
    ((resumeLink p h s)).sound := by
  unfold resumeLink
  (repeat' split) <;> simp_all (maxDischargeDepth := 40)

@[simp] theorem restartLink_sound (p : ℕ) (b : ℕ) (h : Hello) (s : State) (hs : (s).sound) :
    ((restartLink p b h s)).sound := by
  unfold restartLink
  (repeat' split) <;> simp_all (maxDischargeDepth := 40)

@[simp] theorem trained_sound (p : Nat) (hello : List Byte) (s : State) (hs : s.sound) :
    ((trained p hello s)).sound := by
  unfold trained
  (repeat' split) <;> simp_all (maxDischargeDepth := 40)

@[simp] theorem trainingComplete_sound (p : Nat) (hello : List Byte) (b0 : List (BitVec 66)) (b1 : List (BitVec 66)) (offset : Int) (skew : Nat) (s : State) (hs : s.sound) :
    ((trainingComplete p hello b0 b1 offset skew s)).sound := by
  unfold trainingComplete
  (repeat' split) <;> simp_all (maxDischargeDepth := 40)

@[simp] theorem takeHello_sound (p : ℕ) (f : RxFrame) (s : State) (hs : (s).sound) :
    ((takeHello p f s)).sound := by
  unfold takeHello
  (repeat' split) <;> simp_all (maxDischargeDepth := 40)

@[simp] theorem deliverFrame_sound (p : ℕ) (bs : List Sys2Proof.Byte) (s : State) (hs : (s).sound) :
    ((deliverFrame p bs s)).sound := by
  unfold deliverFrame
  (repeat' split) <;> simp_all (maxDischargeDepth := 40)

@[simp] theorem advanceE_sound (p : ℕ) (s : State) (hs : (s).sound) :
    ((advanceE p s)).sound := by
  unfold advanceE
  (repeat' split) <;> simp_all (maxDischargeDepth := 40)

@[simp] theorem deliverHeld_sound (x0 : ℕ) (x1 : ℕ) (x2 : State) (hs : (x2).sound) :
    ((deliverHeld x0 x1 x2)).sound := by
  induction x0 generalizing x2 with
  | zero => exact hs
  | succ n ih =>
    unfold deliverHeld
    split
    · exact hs
    · exact ih _ (by simp_all (maxDischargeDepth := 40))

@[simp] theorem resequence_sound (p : ℕ) (bs : List Sys2Proof.Byte) (s : State) (hs : (s).sound) :
    ((resequence p bs s)).sound := by
  unfold resequence
  (repeat' split) <;> simp_all (maxDischargeDepth := 40)

@[simp] theorem takeFrame_sound (p : ℕ) (bs : List Sys2Proof.Byte) (s : State) (hs : (s).sound) :
    ((takeFrame p bs s)).sound := by
  unfold takeFrame
  (repeat' split) <;> simp_all (maxDischargeDepth := 40)

@[simp] theorem receive_sound (want : ℕ) (p : ℕ) (bs : List Sys2Proof.Byte) (s : State) (hs : (s).sound) :
    ((receive want p bs s)).sound := by
  unfold receive
  (repeat' split) <;> simp_all (maxDischargeDepth := 40)

@[simp] theorem journalWrite_sound (s : State) (hs : (s).sound) :
    ((journalWrite s)).sound := by
  unfold journalWrite
  split
  · exact hs
  · next e rest hq =>
    have hl := hs.journal
    rw [hq] at hl
    refine cistPut_sound _ _ _ (cistPut_sound _ _ _ ?_)
    apply State.sound_mk s hs <;> simp_all; omega

@[simp] theorem journalDrain_sound (x0 : ℕ) (x1 : State) (hs : (x1).sound) :
    ((journalDrain x0 x1)).sound := by
  induction x0 generalizing x1 with
  | zero => exact hs
  | succ n ih => unfold journalDrain; exact ih _ (journalWrite_sound _ hs)

@[simp] theorem State_modPower_sound (s : State) (f : Power → Power) (hs : (s).sound) :
    ((State.modPower s f)).sound := by
  unfold State.modPower
  (repeat' split) <;> simp_all (maxDischargeDepth := 40)

@[simp] theorem stepVid_sound (c : LevelChange) (m : ℕ) (s : State) (hs : (s).sound) :
    ((stepVid c m s)).sound := by
  unfold stepVid
  (repeat' split) <;> simp_all (maxDischargeDepth := 40)

@[simp] theorem paceBroken_sound (s : State) (hs : (s).sound) :
    ((paceBroken s)).sound := by
  unfold paceBroken
  (repeat' split) <;> simp_all (maxDischargeDepth := 40)

@[simp] theorem endLean_sound (s : State) (hs : (s).sound) :
    ((endLean s)).sound := by
  unfold endLean
  (repeat' split) <;> simp_all (maxDischargeDepth := 40)

@[simp] theorem beginChange_sound (n : ℕ) (s : State) (hs : (s).sound) :
    ((beginChange n s)).sound := by
  unfold beginChange
  (repeat' split) <;> simp_all (maxDischargeDepth := 40)

@[simp] theorem powerEvent_sound (i : ℕ) (s : State) (hs : (s).sound) :
    ((powerEvent i s)).sound := by
  unfold powerEvent
  (repeat' split) <;> simp_all (maxDischargeDepth := 40)

@[simp] theorem State_modWalk_sound (s : State) (w : ℕ) (f : Walk → Walk) (hs : (s).sound) (h1 : ∀ b, Walk.ok b → Walk.ok (f b)) :
    ((State.modWalk s w f)).sound := by
  refine State.sound_mk s hs _ _ _ _ _ _ _ _ _ _ _ _ _ _ _ _ _ _ _ _ _ _ _ _ _ _ _ _ _ hs.stores hs.bells hs.cist hs.journal hs.faults hs.sram hs.slots (walksOk_modAt _ _ _ hs.walks h1) hs.log

@[simp] theorem queryBlock_sound (b : SleepBlock) (s : State) (hs : (s).sound) :
    ((queryBlock b s)).sound := by
  unfold queryBlock
  (repeat' split) <;> simp_all (maxDischargeDepth := 40)

@[simp] theorem beginEntry_sound (t : ℕ) (s : State) (hs : (s).sound) :
    ((beginEntry t s)).sound := by
  unfold beginEntry
  (repeat' split) <;> simp_all (maxDischargeDepth := 40)

@[simp] theorem startRequest_sound (r : PowerReq) (s : State) (hs : (s).sound) :
    ((startRequest r s)).sound := by
  unfold startRequest
  (repeat' split) <;> simp_all (maxDischargeDepth := 40)

@[simp] theorem startPending_sound (s : State) (hs : (s).sound) :
    ((startPending s)).sound := by
  unfold startPending
  (repeat' split) <;> simp_all (maxDischargeDepth := 40)

@[simp] theorem endRequest_sound (s : State) (hs : (s).sound) :
    ((endRequest s)).sound := by
  unfold endRequest
  (repeat' split) <;> simp_all (maxDischargeDepth := 40)

@[simp] theorem arrive_sound (r : PowerReq) (s : State) (hs : (s).sound) :
    ((arrive r s)).sound := by
  unfold arrive
  (repeat' split) <;> simp_all (maxDischargeDepth := 40)

@[simp] theorem runRequest_sound (src : ℕ) (addr : ℕ) (s : State) (hs : (s).sound) :
    ((runRequest src addr s)).sound := by
  unfold runRequest
  (repeat' split) <;> simp_all (maxDischargeDepth := 40)

@[simp] theorem vidDwell_sound (s : State) (hs : (s).sound) :
    ((vidDwell s)).sound := by
  unfold vidDwell
  (repeat' split) <;> simp_all (maxDischargeDepth := 40)

@[simp] theorem vpgSettle_sound (s : State) (hs : (s).sound) :
    ((vpgSettle s)).sound := by
  unfold vpgSettle
  (repeat' split) <;> simp_all (maxDischargeDepth := 40)

@[simp] theorem vpgTimeout_sound (s : State) (hs : (s).sound) :
    ((vpgTimeout s)).sound := by
  unfold vpgTimeout
  (repeat' split) <;> simp_all (maxDischargeDepth := 40)

@[simp] theorem vpgFall_sound (s : State) (hs : (s).sound) :
    ((vpgFall s)).sound := by
  unfold vpgFall
  (repeat' split) <;> simp_all (maxDischargeDepth := 40)

@[simp] theorem stopBlock_sound (b : SleepBlock) (s : State) (hs : (s).sound) :
    ((stopBlock b s)).sound := by
  unfold stopBlock
  (repeat' split) <;> simp_all (maxDischargeDepth := 40)

@[simp] theorem restartBlock_sound (b : SleepBlock) (s : State) (hs : (s).sound) :
    ((restartBlock b s)).sound := by
  unfold restartBlock
  (repeat' split) <;> simp_all (maxDischargeDepth := 40)

@[simp] theorem servePeers_sound (s : State) (hs : (s).sound) :
    ((servePeers s)).sound := by
  unfold servePeers
  (repeat' split) <;> simp_all (maxDischargeDepth := 40)

@[simp] theorem rollBack_sound (bs : List SleepBlock) (s : State) (hs : (s).sound) :
    ((rollBack bs s)).sound := by
  unfold rollBack
  (repeat' split) <;> simp_all (maxDischargeDepth := 40)

@[simp] theorem stewardRefused_sound (s : State) (hs : (s).sound) :
    ((stewardRefused s)).sound := by
  unfold stewardRefused
  (repeat' split) <;> simp_all

@[simp] theorem refuseSleep_sound (b : SleepBlock) (s : State) (hs : (s).sound) :
    ((refuseSleep b s)).sound := by
  unfold refuseSleep
  (repeat' split) <;> simp_all (maxDischargeDepth := 40)

@[simp] theorem abortSleep_sound (s : State) (hs : (s).sound) :
    ((abortSleep s)).sound := by
  unfold abortSleep
  (repeat' split) <;> simp_all (maxDischargeDepth := 40)

@[simp] theorem agreeSleep_sound (s : State) (hs : (s).sound) :
    ((agreeSleep s)).sound := by
  unfold agreeSleep
  (repeat' split) <;> simp_all (maxDischargeDepth := 40)

@[simp] theorem sleepAnswer_sound (perf : Bool) (s : State) (hs : (s).sound) :
    ((sleepAnswer perf s)).sound := by
  unfold sleepAnswer
  (repeat' split) <;> simp_all (maxDischargeDepth := 40)

@[simp] theorem quiesceAnswer_sound (w : Nat) (agree : Bool) (refuse : Bool) (s : State) (hs : s.sound) :
    ((quiesceAnswer w agree refuse s)).sound := by
  unfold quiesceAnswer
  (repeat' split) <;> simp_all (maxDischargeDepth := 40)

@[simp] theorem quiesceTimeout_sound (w : ℕ) (s : State) (hs : (s).sound) :
    ((quiesceTimeout w s)).sound := by
  unfold quiesceTimeout
  (repeat' split) <;> simp_all (maxDischargeDepth := 40)

@[simp] theorem tickUnitTimeout_sound (s : State) (hs : (s).sound) :
    ((tickUnitTimeout s)).sound := by
  unfold tickUnitTimeout
  (repeat' split) <;> simp_all (maxDischargeDepth := 40)

@[simp] theorem walkWithdraws_sound (w : ℕ) (s : State) (hs : (s).sound) :
    ((walkWithdraws w s)).sound := by
  unfold walkWithdraws
  (repeat' split) <;> simp_all (maxDischargeDepth := 40)

@[simp] theorem drain_sound (s : State) (hs : (s).sound) :
    ((drain s)).sound := by
  unfold drain
  (repeat' split) <;> simp_all (maxDischargeDepth := 40)

@[simp] theorem hushExit_sound (src : ℕ) (addr : ℕ) (s : State) (hs : (s).sound) :
    ((hushExit src addr s)).sound := by
  unfold hushExit
  (repeat' split) <;> simp_all (maxDischargeDepth := 40)

@[simp] theorem hushGate_sound (s : State) (hs : (s).sound) :
    ((hushGate s)).sound := by
  unfold hushGate
  dsimp only
  repeat' split
  all_goals simp_all (maxDischargeDepth := 40)

@[simp] theorem paceWindowEnd_sound (n : ℕ) (gov : Bool) (s : State) (hs : (s).sound) :
    ((paceWindowEnd n gov s)).sound := by
  unfold paceWindowEnd
  have h1 := State_putB_sound s DEV 0x24 14 gov hs
  have h2 : ∀ (v : Word) (k : Nat), (({ (s.putB DEV 0x24 14 gov).wr DEV 0x24 v with pace := { overs := k, full := true } } : State)).sound := by
    intro v k
    have h3 := State_wr_sound _ DEV 0x24 v h1
    exact State.sound_mk _ h3 _ _ _ _ _ _ _ _ _ _ _ _ _ _ _ _ _ _ _ _ _ _ _ _ _ _ _ _ _ h3.stores h3.bells h3.cist h3.journal h3.faults h3.sram h3.slots h3.walks h3.log
  dsimp only
  split
  · exact paceBroken_sound _ h1
  · split
    · exact State.sound_mk _ h1 _ _ _ _ _ _ _ _ _ _ _ _ _ _ _ _ _ _ _ _ _ _ _ _ _ _ _ _ _ h1.stores h1.bells h1.cist h1.journal h1.faults h1.sram h1.slots h1.walks h1.log
    · generalize hx : (putFld (setBit ((s.putB DEV 0x24 14 gov).rd DEV 0x24) 15) 0 12 (pacePeriod n)) = v
      have h3 := h2 v
      split_ifs
      all_goals first | exact h3 _ | exact raise_sound _ _ (State_setB_sound _ _ _ _ (h3 _))

@[simp] theorem holdSlots_sound (ws : List Nat) (s0 : State) (b : Nat) (s : State) (hs : s.sound) :
    ((holdSlots ws s0 b s)).sound := by
  unfold holdSlots
  (repeat' split) <;> simp_all (maxDischargeDepth := 40)

@[simp] theorem holdPads_sound (s0 : State) (w : Nat) (s : State) (hs : s.sound) :
    ((holdPads s0 w s)).sound := by
  unfold holdPads
  (repeat' split) <;> simp_all (maxDischargeDepth := 40)

@[simp] theorem State_modClo_sound (s : State) (f : Cloister → Cloister) (hs : (s).sound) (h1 : ∀ u, walksOk u.walks → walksOk (f u).walks) :
    ((State.modClo s f)).sound := by
  exact State.sound_mk s hs _ _ _ _ _ _ _ _ _ _ _ _ _ _ _ _ _ _ _ _ _ _ _ _ _ _ _ _ _ hs.stores hs.bells hs.cist hs.journal hs.faults hs.sram hs.slots (h1 _ hs.walks) hs.log

@[simp] theorem loadEnds_sound (err : ℕ) (s : State) (hs : (s).sound) :
    ((loadEnds err s)).sound := by
  unfold loadEnds
  (repeat' split) <;> simp_all (maxDischargeDepth := 40)

@[simp] theorem cloLoad_sound (v : Sys2Proof.Word) (s : State) (hs : (s).sound) :
    ((cloLoad v s)).sound := by
  unfold cloLoad
  (repeat' split) <;> simp_all (maxDischargeDepth := 40)

@[simp] theorem cloAbort_sound (s : State) (hs : (s).sound) :
    ((cloAbort s)).sound := by
  unfold cloAbort
  (repeat' split) <;> simp_all (maxDischargeDepth := 40)

@[simp] theorem frameTaken_sound (typ : ℕ) (memInit : ℕ) (d : List Sys2Proof.Byte) (s : State) (hs : (s).sound) :
    ((frameTaken typ memInit d s)).sound := by
  unfold frameTaken
  split
  · exact State_modClo_sound _ _ hs (fun u h => h)
  · exact State_modWalk_sound _ _ _ hs (fun k hk => ⟨memOf_wf _ _, initMems_ok _ _ _ hk.2⟩)

@[simp] theorem State_setLoad_sound (s : State) (l : Load) (hs : (s).sound) :
    ((State.setLoad s l)).sound := by
  unfold State.setLoad
  (repeat' split) <;> simp_all (maxDischargeDepth := 40)

@[simp] theorem quietPort_sound (w : ℕ) (s : State) (hs : (s).sound) :
    ((quietPort w s)).sound := by
  unfold quietPort
  (repeat' split) <;> simp_all (maxDischargeDepth := 40)

@[simp] theorem enterLoading_sound (l : Load) (s : State) (hs : (s).sound) :
    ((enterLoading l s)).sound := by
  unfold enterLoading
  (repeat' split) <;> simp_all (maxDischargeDepth := 40)

@[simp] theorem loadChecks_sound (s : State) (l : Load) (hs : (s).sound) :
    ((loadChecks s l)).sound := by
  unfold loadChecks
  (repeat' split) <;> simp_all (maxDischargeDepth := 40)

@[simp] theorem loadLast_sound (s : State) (hs : (s).sound) :
    ((loadLast s)).sound := by
  unfold loadLast
  (repeat' split) <;> simp_all (maxDischargeDepth := 40)

@[simp] theorem loadByte_sound (b : Sys2Proof.Byte) (s : State) (hs : (s).sound) :
    ((loadByte b s)).sound := by
  unfold loadByte
  (repeat' split) <;> simp_all (maxDischargeDepth := 40)

@[simp] theorem cloConfigWord_sound (n : ℕ) (v : Sys2Proof.Word) (s : State) (hs : (s).sound) :
    ((cloConfigWord n v s).1).sound := by
  unfold cloConfigWord
  dsimp only
  repeat' split
  all_goals simp_all (maxDischargeDepth := 40)

@[simp] theorem flashByte_sound (addr : Nat) (quad : Bool) (b : Option Byte) (s : State) (hs : s.sound) :
    ((flashByte addr quad b s)).sound := by
  unfold flashByte
  (repeat' split) <;> simp_all (maxDischargeDepth := 40)

@[simp] theorem loadTimeout_sound (s : State) (hs : (s).sound) :
    ((loadTimeout s)).sound := by
  unfold loadTimeout
  (repeat' split) <;> simp_all (maxDischargeDepth := 40)

@[simp] theorem releaseStage_sound (s : State) (hs : (s).sound) :
    ((releaseStage s)).sound := by
  unfold releaseStage
  (repeat' split) <;> simp_all (maxDischargeDepth := 40)

@[simp] theorem cloSafe_sound (r : ℕ) (v : Sys2Proof.Word) (s : State) (hs : (s).sound) :
    ((cloSafe r v s)).sound := by
  unfold cloSafe
  (repeat' split) <;> simp_all (maxDischargeDepth := 40)

@[simp] theorem State_modSec_sound (s : State) (f : Sec → Sec) (hs : (s).sound) :
    ((State.modSec s f)).sound := by
  unfold State.modSec
  (repeat' split) <;> simp_all (maxDischargeDepth := 40)

@[simp] theorem State_freeBytes_sound (s : State) (x1 : ℕ) (hs : (s).sound) :
    ((State.freeBytes s x1).2).sound := by
  induction x1 generalizing s with
  | zero => exact hs
  | succ n ih => unfold State.freeBytes; exact ih _ (by unfold State.takeFree; simp_all (maxDischargeDepth := 40))

@[simp] theorem State_modSlot_sound (s : State) (n : ℕ) (f : BindSlot → BindSlot) (hs : (s).sound) :
    ((State.modSlot s n f)).sound := by
  unfold State.modSlot
  (repeat' split) <;> simp_all (maxDischargeDepth := 40)

@[simp] theorem secClash_sound (s : State) (hs : (s).sound) :
    ((secClash s)).sound := by
  unfold secClash
  (repeat' split) <;> simp_all (maxDischargeDepth := 40)

@[simp] theorem chalIn_sound (v : Sys2Proof.Word) (s : State) (hs : (s).sound) :
    ((chalIn v s)).sound := by
  unfold chalIn
  (repeat' split) <;> simp_all (maxDischargeDepth := 40)

@[simp] theorem respOut_sound (s : State) (hs : (s).sound) :
    ((respOut s).2).sound := by
  unfold respOut
  (repeat' split) <;> simp_all (maxDischargeDepth := 40)

@[simp] theorem idCert_sound (s : State) (hs : (s).sound) :
    ((idCert s).2).sound := by
  unfold idCert
  (repeat' split) <;> simp_all (maxDischargeDepth := 40)

@[simp] theorem ptrClear_sound (s : State) (hs : (s).sound) :
    ((ptrClear s)).sound := by
  unfold ptrClear
  (repeat' split) <;> simp_all (maxDischargeDepth := 40)

@[simp] theorem bindData_sound (v : Sys2Proof.Word) (s : State) (hs : (s).sound) :
    ((bindData v s)).sound := by
  unfold bindData
  (repeat' split) <;> simp_all (maxDischargeDepth := 40)

@[simp] theorem SecSource_events_sound (d : SecSource) (s : State) (hs : (s).sound) :
    ((SecSource.events d s)).sound := by
  unfold SecSource.events
  (repeat' split) <;> simp_all (maxDischargeDepth := 40)

@[simp] theorem secGo_sound (sup : Bool) (cmd : ℕ) (arg : ℕ) (s : State) (hs : (s).sound) :
    ((secGo sup cmd arg s)).sound := by
  unfold secGo
  (repeat' split) <;> simp_all (maxDischargeDepth := 40)

@[simp] theorem secFail_sound (code : ℕ) (s : State) (hs : (s).sound) :
    ((secFail code s)).sound := by
  unfold secFail
  (repeat' split) <;> simp_all (maxDischargeDepth := 40)

@[simp] theorem secDone_sound (out : List Sys2Proof.Byte) (s : State) (hs : (s).sound) :
    ((secDone out s)).sound := by
  unfold secDone
  dsimp only
  simp_all (maxDischargeDepth := 40)

@[simp] theorem finishProgram_sound (slot : ℕ) (s : State) (hs : (s).sound) :
    ((finishProgram slot s)).sound := by
  unfold finishProgram State.takeFree
  dsimp only
  split <;> simp_all (maxDischargeDepth := 40)

@[simp] theorem finishUpdate_sound (input : List Sys2Proof.Byte) (s : State) (hs : (s).sound) :
    ((finishUpdate input s)).sound := by
  unfold finishUpdate
  (repeat' split) <;> simp_all (maxDischargeDepth := 40)

@[simp] theorem secComplete_sound (s : State) (hs : (s).sound) :
    ((secComplete s)).sound := by
  unfold secComplete
  split
  · exact hs
  · next r _ =>
    have h0 := State_reach_sound s (r.start + r.left) hs
    have hm := fun f => State_modSec_sound (s.reach (r.start + r.left)) f h0
    have hl := fun n f => State_modSlot_sound (s.reach (r.start + r.left)) n f h0
    dsimp only
    split
    · exact secFail_sound _ _ h0
    · split
      · exact secDone_sound _ _ h0
      · exact secDone_sound _ _ (hm _)
      · exact finishUpdate_sound _ _ h0
      · split
        · exact secDone_sound _ _ (hm _)
        · exact secFail_sound _ _ h0
      · exact finishProgram_sound _ _ h0
      · exact secDone_sound _ _ (hl _ _)
      · exact secDone_sound _ _ h0

@[simp] theorem updateWaits_sound (s : State) (hs : (s).sound) :
    ((updateWaits s)).sound := by
  unfold updateWaits
  (repeat' split) <;> simp_all (maxDischargeDepth := 40)

@[simp] theorem rebuild_sound (p : Power) (s : State) (hs : (s).sound) :
    ((rebuild p s)).sound := by
  unfold rebuild
  have hf := fresh_sound s.part s.straps s.sec.slots
  exact ⟨⟨hs.regs.1.filter _, fun x hx => hs.regs.2 x (List.mem_filter.mp hx).1⟩, hf.cist, hf.stores, hf.sram, hf.slots, hf.walks, hf.faults, hf.journal, hs.log, hf.bells⟩

@[simp] theorem sampleStraps_sound (s : State) (hs : (s).sound) :
    ((sampleStraps s)).sound := by
  unfold sampleStraps
  (repeat' split) <;> simp_all (maxDischargeDepth := 40)

@[simp] theorem readyPulse_sound (s : State) (hs : (s).sound) :
    ((readyPulse s)).sound := by
  unfold readyPulse
  (repeat' split) <;> simp_all (maxDischargeDepth := 40)

@[simp] theorem State_modTb_sound (s : State) (f : Timebase → Timebase) (hs : (s).sound) (h1 : ∀ u, u.log.length ≤ 4 → (f u).log.length ≤ 4) :
    ((State.modTb s f)).sound := by
  exact State.sound_mk s hs _ _ _ _ _ _ _ _ _ _ _ _ _ _ _ _ _ _ _ _ _ _ _ _ _ _ _ _ _ hs.stores hs.bells hs.cist hs.journal hs.faults hs.sram hs.slots hs.walks (h1 _ hs.log)

@[simp] theorem changeover_sound (src : Bool) (stop : Bool) (reset : Bool) (s : State) (hs : (s).sound) :
    ((changeover src stop reset s)).sound := by
  unfold changeover
  have h1 : ∀ (t : Timebase → Timebase), (∀ u, (t u).log.length ≤ 4) → (s.modTb t).sound := fun t ht => State_modTb_sound s t hs (fun u _ => ht u)
  dsimp only
  split
  · refine State_setB_sound _ _ _ _ (State_wr_sound _ _ _ _ (h1 _ (fun u => ?_)))
    simp only [List.length_drop]; omega
  · refine State_wr_sound _ _ _ _ (h1 _ (fun u => ?_))
    simp only [List.length_drop]; omega

@[simp] theorem timebaseCount_sound (s : State) (hs : (s).sound) :
    ((timebaseCount s)).sound := by
  unfold timebaseCount
  (repeat' split) <;> simp_all (maxDischargeDepth := 40)

@[simp] theorem tbChangeover_sound (s : State) (hs : (s).sound) :
    ((tbChangeover s)).sound := by
  unfold tbChangeover
  (repeat' split) <;> simp_all (maxDischargeDepth := 40)

@[simp] theorem crystalStop_sound (s : State) (hs : (s).sound) :
    ((crystalStop s)).sound := by
  unfold crystalStop
  (repeat' split) <;> simp_all (maxDischargeDepth := 40)

@[simp] theorem moveRim_sound (pll : Bool) (s : State) (hs : (s).sound) :
    ((moveRim pll s)).sound := by
  unfold moveRim
  (repeat' split) <;> simp_all (maxDischargeDepth := 40)

@[simp] theorem rimSwitch_sound (s : State) (hs : (s).sound) :
    ((rimSwitch s)).sound := by
  unfold rimSwitch
  (repeat' split) <;> simp_all (maxDischargeDepth := 40)

@[simp] theorem rimToFio_sound (s : State) (hs : (s).sound) :
    ((rimToFio s)).sound := by
  unfold rimToFio
  (repeat' split) <;> simp_all (maxDischargeDepth := 40)

@[simp] theorem pllLockLoss_sound (s : State) (hs : (s).sound) :
    ((pllLockLoss s)).sound := by
  unfold pllLockLoss
  (repeat' split) <;> simp_all (maxDischargeDepth := 40)

@[simp] theorem rimPllLock_sound (s : State) (hs : (s).sound) :
    ((rimPllLock s)).sound := by
  unfold rimPllLock
  (repeat' split) <;> simp_all (maxDischargeDepth := 40)

@[simp] theorem powerUp_sound (b : Sys2Proof.Straps) (s : State) (hs : (s).sound) :
    ((powerUp b s)).sound := by
  unfold powerUp
  split
  · exact hs
  · have hf := fresh_sound s.part b s.sec.slots
    exact ⟨hf.regs, hf.cist, hf.stores, hf.sram, hf.slots, hf.walks, hf.faults, hf.journal, hf.log, hf.bells⟩

@[simp] theorem bootRom_sound (s : State) (hs : (s).sound) :
    ((bootRom s)).sound := by
  unfold bootRom
  (repeat' split) <;> simp_all (maxDischargeDepth := 40)

@[simp] theorem startStage_sound (s : State) (hs : (s).sound) :
    ((startStage s)).sound := by
  unfold startStage
  split
  · exact hs
  · split
    · exact State_modPower_sound _ _ hs
    · split
      · exact hs
      · exact sampleStraps_sound _ (State_modPower_sound _ _ hs)
    · exact State_modPower_sound _ _ hs
    · exact State_modPower_sound _ _ hs
    · exact bootRom_sound _ (readyPulse_sound _ (State_modPower_sound _ _ hs))

@[simp] theorem refclkTimeout_sound (s : State) (hs : (s).sound) :
    ((refclkTimeout s)).sound := by
  unfold refclkTimeout
  (repeat' split) <;> simp_all (maxDischargeDepth := 40)

@[simp] theorem resetCry_sound (s : State) (hs : (s).sound) :
    ((resetCry s)).sound := by
  unfold resetCry
  exact ⟨⟨hs.regs.1.filter _, fun x hx => hs.regs.2 x (List.mem_filter.mp hx).1⟩, hs.cist, hs.stores, hs.sram, hs.slots, hs.walks, hs.faults, hs.journal, hs.log, hs.bells⟩

@[simp] theorem resetAssert_sound (s : State) (hs : (s).sound) :
    ((resetAssert s)).sound := by
  unfold resetAssert
  (repeat' split) <;> simp_all (maxDischargeDepth := 40)

@[simp] theorem resetRelease_sound (s : State) (hs : (s).sound) :
    ((resetRelease s)).sound := by
  unfold resetRelease
  (repeat' split) <;> simp_all (maxDischargeDepth := 40)

@[simp] theorem cryptBrownout_sound (s : State) (hs : (s).sound) :
    ((cryptBrownout s)).sound := by
  unfold cryptBrownout
  have hf := fresh_sound s.part s.straps s.sec.slots
  exact ⟨hf.regs, hf.cist, hf.stores, hf.sram, hf.slots, hf.walks, hf.faults, hf.journal, hf.log, hf.bells⟩

@[simp] theorem latchWake_sound (src : ℕ) (addr : ℕ) (s : State) (hs : (s).sound) :
    ((latchWake src addr s)).sound := by
  unfold latchWake
  (repeat' split) <;> simp_all (maxDischargeDepth := 40)

@[simp] theorem wakeEvent_sound (src : ℕ) (addr : ℕ) (s : State) (hs : (s).sound) :
    ((wakeEvent src addr s)).sound := by
  unfold wakeEvent
  (repeat' split) <;> simp_all (maxDischargeDepth := 40)

@[simp] theorem wakeEdge_sound (s : State) (hs : (s).sound) :
    ((wakeEdge s)).sound := by
  unfold wakeEdge
  (repeat' split) <;> simp_all (maxDischargeDepth := 40)

@[simp] theorem tickWake_sound (s : State) (hs : (s).sound) :
    ((tickWake s)).sound := by
  unfold tickWake
  (repeat' split) <;> simp_all (maxDischargeDepth := 40)

@[simp] theorem listenerMatch_sound (a : BitVec 7) (s : State) (hs : (s).sound) :
    ((listenerMatch a s)).sound := by
  unfold listenerMatch
  (repeat' split) <;> simp_all (maxDischargeDepth := 40)

@[simp] theorem dormantEntry_sound (s : State) (hs : (s).sound) :
    ((dormantEntry s)).sound := by
  unfold dormantEntry
  (repeat' split) <;> simp_all (maxDischargeDepth := 40)

@[simp] theorem dormantWake_sound (s : State) (hs : (s).sound) :
    ((dormantWake s)).sound := by
  unfold dormantWake
  (repeat' split) <;> simp_all (maxDischargeDepth := 40)

@[simp] theorem tblAdvance_sound (n : ℕ) (s : State) (hs : (s).sound) :
    ((tblAdvance n s)).sound := by
  unfold tblAdvance
  (repeat' split) <;> simp_all (maxDischargeDepth := 40)

@[simp] theorem tblFlag_sound (b : ℕ) (s : State) (hs : (s).sound) :
    ((tblFlag b s)).sound := by
  unfold tblFlag
  (repeat' split) <;> simp_all (maxDischargeDepth := 40)

@[simp] theorem cistWordPut_sound (a : ℕ) (v : Sys2Proof.Word) (s : State) (hs : (s).sound) :
    ((cistWordPut a v s).1).sound := by
  unfold cistWordPut
  (repeat' split) <;> simp_all (maxDischargeDepth := 40)

@[simp] theorem storeWordPut_sound (e : ℕ) (a : ℕ) (v : Sys2Proof.Word) (s : State) (hs : (s).sound) :
    ((storeWordPut e a v s).1).sound := by
  unfold storeWordPut
  (repeat' split) <;> simp_all (maxDischargeDepth := 40)

@[simp] theorem rulePut_sound (c : ℕ) (p : ℕ) (v : Sys2Proof.Word) (s : State) (hs : (s).sound) :
    ((rulePut c p v s).1).sound := by
  unfold rulePut
  exact foldS_sound1 _ _ _ hs (fun e x hx => storeWordPut_sound _ _ _ _ hx)

@[simp] theorem eccFlag_sound (x : State × Bool) (hs : (x.1).sound) :
    ((eccFlag x)).sound := by
  unfold eccFlag
  (repeat' split) <;> simp_all (maxDischargeDepth := 40)

@[simp] theorem deniedFlag_sound (x : State × Bool) (hs : (x.1).sound) :
    ((deniedFlag x)).sound := by
  unfold deniedFlag
  (repeat' split) <;> simp_all (maxDischargeDepth := 40)

@[simp] theorem tblWrite_sound (t : ℕ) (i : ℕ) (p : ℕ) (v : Sys2Proof.Word) (s : State) (hs : (s).sound) :
    ((tblWrite t i p v s)).sound := by
  unfold tblWrite
  have hu := updateWaits_sound s hs
  split
  · split
    · exact eccFlag_sound _ (cistWordPut_sound _ _ _ hu)
    · exact tblFlag_sound _ _ hs
  · exact eccFlag_sound _ (storeWordPut_sound _ _ _ _ hu)
  · exact eccFlag_sound _ (storeWordPut_sound _ _ _ _ hu)
  · apply State.sound_mk s hs <;> simp_all
  · apply State.sound_mk s hs <;> simp_all
  · exact loadBell_sound _ _ _ hs (by have := Nat.mod_lt (v.toNat >>> 0) (show 0 < 2 ^ 8 by decide); simp only [wfld, fld]; omega)
  · exact eccFlag_sound _ (rulePut_sound _ _ _ _ hu)
  · exact deniedFlag_sound _ (cloConfigWord_sound _ _ _ hs)
  · exact State_modSup_sound _ _ hs (fun u h => memWriteL_wf _ _ _ h) (fun u h => h)
  · exact deniedFlag_sound _ (wellWordWrite_sound _ _ _ _ hs)
  · exact hs

@[simp] theorem cistWordGet_sound (a : ℕ) (s : State) (hs : (s).sound) :
    ((cistWordGet a s).2).sound := by
  unfold cistWordGet
  (repeat' split) <;> simp_all (maxDischargeDepth := 40)

@[simp] theorem storeWordGet_sound (e : ℕ) (a : ℕ) (s : State) (hs : (s).sound) :
    ((storeWordGet e a s).2).sound := by
  unfold storeWordGet
  (repeat' split) <;> simp_all (maxDischargeDepth := 40)

@[simp] theorem tblRead_sound (t : ℕ) (i : ℕ) (p : ℕ) (s : State) (hs : (s).sound) :
    ((tblRead t i p s).2).sound := by
  unfold tblRead
  have hu := updateWaits_sound s hs
  split
  · split
    · exact cistWordGet_sound _ _ hu
    · exact tblFlag_sound _ _ hs
  · exact storeWordGet_sound _ _ _ hu
  · exact storeWordGet_sound _ _ _ hu
  · exact hs
  · exact hs
  · exact hs
  · exact storeWordGet_sound _ _ _ hu
  · exact cistWordGet_sound _ _ hu
  · exact hs
  · exact hs
  · exact hs
  · exact hs

@[simp] theorem windowWrite_sound (v : Sys2Proof.Word) (s : State) (hs : (s).sound) :
    ((windowWrite v s)).sound := by
  unfold windowWrite
  dsimp only
  repeat' split
  all_goals simp_all (maxDischargeDepth := 40)

@[simp] theorem windowWordAt_sound (t : ℕ) (i : ℕ) (p : ℕ) (s : State) (hs : (s).sound) :
    ((windowWordAt t i p s).2).sound := by
  unfold windowWordAt
  (repeat' split) <;> simp_all (maxDischargeDepth := 40)

@[simp] theorem windowWords_sound (t : ℕ) (i : ℕ) (p : ℕ) (x3 : ℕ) (x4 : State) (hs : (x4).sound) :
    ((windowWords t i p x3 x4).2).sound := by
  induction x3 generalizing p x4 with
  | zero => exact hs
  | succ n ih => unfold windowWords; exact ih _ _ (windowWordAt_sound _ _ _ _ hs)

@[simp] theorem windowReads_sound (n : ℕ) (s : State) (hs : (s).sound) :
    ((windowReads n s).2).sound := by
  unfold windowReads
  (repeat' split) <;> simp_all (maxDischargeDepth := 40)

@[simp] theorem bootEnds_sound (src : ℕ) (img : List Sys2Proof.Byte) (code : ℕ) (s : State) (hs : (s).sound) :
    ((bootEnds src img code s)).sound := by
  unfold bootEnds
  (repeat' split) <;> simp_all (maxDischargeDepth := 40)

@[simp] theorem flashBoot_sound (image : List Sys2Proof.Byte) (quad : Bool) (s : State) (hs : (s).sound) :
    ((flashBoot image quad s)).sound := by
  unfold flashBoot
  (repeat' split) <;> simp_all (maxDischargeDepth := 40)

@[simp] theorem supGo_sound (s : State) (hs : (s).sound) :
    ((supGo s)).sound := by
  unfold supGo
  (repeat' split) <;> simp_all (maxDischargeDepth := 40)

@[simp] theorem goTimeout_sound (s : State) (hs : (s).sound) :
    ((goTimeout s)).sound := by
  unfold goTimeout
  (repeat' split) <;> simp_all (maxDischargeDepth := 40)

@[simp] theorem supRestart_sound (s : State) (hs : (s).sound) :
    ((supRestart s)).sound := by
  unfold supRestart
  (repeat' split) <;> simp_all (maxDischargeDepth := 40)

@[simp] theorem supHalt_sound (on : Bool) (s : State) (hs : (s).sound) :
    ((supHalt on s)).sound := by
  unfold supHalt
  (repeat' split) <;> simp_all (maxDischargeDepth := 40)

@[simp] theorem supTrap_sound (cause : Sys2Proof.Word) (s : State) (hs : (s).sound) :
    ((supTrap cause s)).sound := by
  unfold supTrap
  (repeat' split) <;> simp_all (maxDischargeDepth := 40)

@[simp] theorem supWfi_sound (s : State) (hs : (s).sound) :
    ((supWfi s)).sound := by
  unfold supWfi
  (repeat' split) <;> simp_all (maxDischargeDepth := 40)

@[simp] theorem hostDoorbell_sound (s : State) (hs : (s).sound) :
    ((hostDoorbell s)).sound := by
  unfold hostDoorbell
  (repeat' split) <;> simp_all (maxDischargeDepth := 40)

@[simp] theorem handover_sound (s : State) (hs : (s).sound) :
    ((handover s)).sound := by
  unfold handover
  (repeat' split) <;> simp_all (maxDischargeDepth := 40)

@[simp] theorem causeClear_sound (v : Sys2Proof.W32) (s : State) (hs : (s).sound) :
    ((causeClear v s)).sound := by
  unfold causeClear
  (repeat' split) <;> simp_all (maxDischargeDepth := 40)

@[simp] theorem drawWords_sound (f : State → Sys2Proof.Word × State) (x1 : ℕ) (x2 : State) (hs : (x2).sound) (h : ∀ s, s.sound → (f s).2.sound) :
    ((drawWords f x1 x2).2).sound := by
  induction x1 generalizing x2 with
  | zero => exact hs
  | succ n ih => unfold drawWords; exact ih _ (h _ hs)

@[simp] theorem windowRegRead_sound (t : ℕ) (r : ℕ) (n : ℕ) (s : State) (hs : (s).sound) :
    ((windowRegRead t r n s).2).sound := by
  unfold windowRegRead
  (repeat' split) <;> simp_all (maxDischargeDepth := 40)

@[simp] theorem wordRead_sound (t : ℕ) (r : ℕ) (s : State) (hs : (s).sound) :
    ((wordRead t r s).2).sound := by
  unfold wordRead
  dsimp only
  repeat' split
  all_goals simp_all (maxDischargeDepth := 40)

@[simp] theorem readEach_sound (t r : Nat) (ks : List Nat) (s : State) (hs : s.sound) :
    (readEach t r ks s).2.sound := by
  induction ks generalizing s with
  | nil => exact hs
  | cons k ks ih => exact ih (wordRead t (r + k) s).2 (wordRead_sound _ _ _ hs)

@[simp] theorem bgStart_sound (e : ℕ) (s : State) (hs : (s).sound) :
    ((bgStart e s)).sound := by
  unfold bgStart
  (repeat' split) <;> simp_all (maxDischargeDepth := 40)

@[simp] theorem clrFault_sound (e : ℕ) (s : State) (hs : (s).sound) :
    ((clrFault e s)).sound := by
  unfold clrFault
  (repeat' split) <;> simp_all (maxDischargeDepth := 40)

@[simp] theorem bankSize_sound (e : ℕ) (v : Sys2Proof.Word) (s : State) (hs : (s).sound) :
    ((bankSize e v s)).sound := by
  unfold bankSize
  (repeat' split) <;> simp_all (maxDischargeDepth := 40)

@[simp] theorem pmpCtrl_sound (v : Sys2Proof.Word) (s : State) (hs : (s).sound) :
    ((pmpCtrl v s)).sound := by
  unfold pmpCtrl
  (repeat' split) <;> simp_all (maxDischargeDepth := 40)

@[simp] theorem secCtrl_sound (sup : Bool) (v : Sys2Proof.Word) (s : State) (hs : (s).sound) :
    ((secCtrl sup v s)).sound := by
  unfold secCtrl
  (repeat' split) <;> simp_all (maxDischargeDepth := 40)

@[simp] theorem cloCtrl_sound (v : Sys2Proof.Word) (s : State) (hs : (s).sound) :
    ((cloCtrl v s)).sound := by
  unfold cloCtrl
  (repeat' split) <;> simp_all (maxDischargeDepth := 40)

@[simp] theorem tbSrc_sound (v : Sys2Proof.Word) (s : State) (hs : (s).sound) :
    ((tbSrc v s)).sound := by
  unfold tbSrc
  (repeat' split) <;> simp_all (maxDischargeDepth := 40)

@[simp] theorem supCtrl_sound (v : Sys2Proof.Word) (s : State) (hs : (s).sound) :
    ((supCtrl v s)).sound := by
  unfold supCtrl
  (repeat' split) <;> simp_all (maxDischargeDepth := 40)

@[simp] theorem injMode_sound (p : ℕ) (v : Sys2Proof.Word) (s : State) (hs : (s).sound) :
    ((injMode p v s)).sound := by
  unfold injMode
  (repeat' split) <;> simp_all (maxDischargeDepth := 40)

@[simp] theorem injSeed_sound (p : ℕ) (v : Sys2Proof.Word) (s : State) (hs : (s).sound) :
    ((injSeed p v s)).sound := by
  unfold injSeed
  (repeat' split) <;> simp_all (maxDischargeDepth := 40)

@[simp] theorem faultCount_sound (c : ℕ) (v : Sys2Proof.Word) (s : State) (hs : (s).sound) :
    ((faultCount c v s)).sound := by
  unfold faultCount
  (repeat' split) <;> simp_all (maxDischargeDepth := 40)

@[simp] theorem devEffect_sound (r : Nat) (v : Word) (s : State) (hs : s.sound) :
    ((devEffect r v s)).sound := by
  unfold devEffect
  (repeat' split) <;> simp_all (maxDischargeDepth := 40)

@[simp] theorem supPut_sound (sup : Bool) (r : ℕ) (v : Sys2Proof.Word) (s : State) (s1 : State) (hs : (s).sound) (h1 : s1.sound) :
    ((supPut sup r v s s1)).sound := by
  unfold supPut
  split
  · exact supCtrl_sound _ _ hs
  · split
    · exact State_wr_sound _ _ _ _ hs
    · exact h1

@[simp] theorem pwrPut_sound (r : ℕ) (v : Sys2Proof.Word) (s1 : State) (hs : (s1).sound) :
    ((pwrPut r v s1)).sound := by
  unfold pwrPut
  split
  · refine State_setTries_sound _ _ ?_
    split
    · exact runRequest_sound _ _ _ hs
    · exact hs
  · split
    · exact arrive_sound _ _ hs
    · exact hs

@[simp] theorem cryPut_sound (r : ℕ) (v : Sys2Proof.Word) (s : State) (s1 : State) (hs : (s).sound) (h1 : s1.sound) :
    ((cryPut r v s s1)).sound := by
  unfold cryPut
  split
  · exact tbSrc_sound _ _ hs
  · split
    · exact State_wr_sound _ _ _ _ h1
    · exact h1

@[simp] theorem secPut_sound (sup : Bool) (r : ℕ) (v : Sys2Proof.Word) (s : State) (s1 : State) (hs : (s).sound) (h1 : s1.sound) :
    ((secPut sup r v s s1)).sound := by
  unfold secPut
  split
  · exact secCtrl_sound _ _ _ hs
  · split
    · exact bindData_sound _ _ hs
    · exact h1

@[simp] theorem cloPut_sound (r : ℕ) (v : Sys2Proof.Word) (s : State) (s1 : State) (hs : (s).sound) (h1 : s1.sound) :
    ((cloPut r v s s1)).sound := by
  unfold cloPut
  split
  · exact cloCtrl_sound _ _ hs
  · split
    · exact cloSafe_sound _ _ _ hs
    · exact h1

@[simp] theorem lnkPut_sound (p : ℕ) (r : ℕ) (v : Sys2Proof.Word) (s : State) (s1 : State) (hs : (s).sound) (h1 : s1.sound) :
    ((lnkPut p r v s s1)).sound := by
  unfold lnkPut
  split
  · exact linkControl_sound _ _ h1
  · split
    · exact injMode_sound _ _ _ hs
    · split
      · exact injSeed_sound _ _ _ hs
      · exact h1

@[simp] theorem chPut_sound (c : ℕ) (r : ℕ) (v : Sys2Proof.Word) (s : State) (s1 : State) (hs : (s).sound) (h1 : s1.sound) :
    ((chPut c r v s s1)).sound := by
  unfold chPut
  split
  · split
    · exact mapsEdge_sound _ _ h1
    · exact h1
  · split
    · exact faultCount_sound _ _ _ hs
    · exact h1

@[simp] theorem engPut_sound (e : ℕ) (r : ℕ) (v : Sys2Proof.Word) (s : State) (s1 : State) (hs : (s).sound) (h1 : s1.sound) :
    ((engPut e r v s s1)).sound := by
  unfold engPut
  have h2 : (if wbit v 13 then clrFault e s1 else s1).sound := by
    split
    · exact clrFault_sound _ _ h1
    · exact h1
  split
  · dsimp only
    split
    · exact bgStart_sound _ _ h2
    · exact h2
  · split
    · exact bankSize_sound _ _ _ hs
    · exact h1

@[simp] theorem regPut_sound (sup : Bool) (t : ℕ) (r : ℕ) (i : RegInfo) (v : Sys2Proof.Word) (s : State) (hs : (s).sound) :
    ((regPut sup t r i v s)).sound := by
  unfold regPut
  have h1 := State_wr_sound s t r (storedWord i (s.rd t r) v) hs
  dsimp only
  split
  · exact devEffect_sound _ _ _ h1
  split
  · exact supPut_sound _ _ _ _ _ hs h1
  split
  · exact pwrPut_sound _ _ _ h1
  split
  · exact cryPut_sound _ _ _ _ hs h1
  split
  · exact secPut_sound _ _ _ _ _ hs h1
  split
  · split
    · exact pmpCtrl_sound _ _ hs
    · exact h1
  split
  · exact cloPut_sound _ _ _ _ hs h1
  split
  · exact lnkPut_sound _ _ _ _ _ hs h1
  split
  · exact chPut_sound _ _ _ _ _ hs h1
  split
  · exact engPut_sound _ _ _ _ _ hs h1
  · exact h1

@[simp] theorem windowRegWrite_sound (t : ℕ) (r : ℕ) (v : Sys2Proof.Word) (s : State) (hs : (s).sound) :
    ((windowRegWrite t r v s)).sound := by
  unfold windowRegWrite
  (repeat' split) <;> simp_all (maxDischargeDepth := 40)

@[simp] theorem wordWrite_sound (sup : Bool) (lk : Bool) (t : ℕ) (r : ℕ) (v : Sys2Proof.Word) (s : State) (hs : (s).sound) :
    ((wordWrite sup lk t r v s).1).sound := by
  unfold wordWrite
  (repeat' split) <;> simp_all (maxDischargeDepth := 40)

@[simp] theorem targetWrite_sound (sup : Bool) (lk : Bool) (t : ℕ) (r : ℕ) (v : Sys2Proof.Word) (s : State) (hs : (s).sound) :
    ((targetWrite sup lk t r v s).1).sound := by
  unfold targetWrite
  split
  · exact hs
  · exact foldS_sound1 _ _ _ hs (fun m x hx => wordWrite_sound _ _ _ _ _ _ hx)

@[simp] theorem State_modCtl_sound (s : State) (f : CtlPort → CtlPort) (hs : (s).sound) :
    ((State.modCtl s f)).sound := by
  unfold State.modCtl
  (repeat' split) <;> simp_all (maxDischargeDepth := 40)

@[simp] theorem recordWrite_sound (oc : ℕ) (s : State) (hs : (s).sound) :
    ((recordWrite oc s)).sound := by
  unfold recordWrite
  (repeat' split) <;> simp_all (maxDischargeDepth := 40)

@[simp] theorem frameWordPut_sound (lk : Bool) (t r : Nat) (w : Nat × Word) (x : State × Bool) (hs : x.1.sound) :
    (frameWordPut lk t r w x).1.sound := targetWrite_sound _ _ _ _ _ _ hs

@[simp] theorem rimWordPut_sound (lk : Bool) (t r : Nat) (w : Nat × Word) (x : (State × Bool) × List (Nat × Word)) (hs : x.1.1.sound) :
    (rimWordPut lk t r w x).1.1.sound := by
  unfold rimWordPut
  split
  · exact hs
  · exact frameWordPut_sound lk t r w x.1 hs

@[simp] theorem frameWords_sound (t r : Nat) (ws : List (Nat × Word)) (s : State) (hs : s.sound) :
    (frameWords t r ws s).1.sound := by
  unfold frameWords
  dsimp only
  refine foldS_sound1 _ _ _ ?_ (fun w x h => frameWordPut_sound _ t r w x h)
  refine foldS_inv (fun x : (State × Bool) × List (Nat × Word) => x.1.1.sound) _ (fun w x h => rimWordPut_sound _ t r w x h) _ _ ?_
  exact foldS_sound1 _ _ (s, false) hs (fun w x h => frameWordPut_sound _ t r w x h)

@[simp] theorem writeRun_sound (bs : List Sys2Proof.Byte) (s : State) (hs : (s).sound) :
    ((writeRun bs s)).sound := by
  unfold writeRun
  (repeat' split) <;> simp_all (maxDischargeDepth := 40)

@[simp] theorem writeHush_sound (bs : List Sys2Proof.Byte) (s : State) (hs : (s).sound) :
    ((writeHush bs s)).sound := by
  unfold writeHush
  (repeat' split) <;> simp_all (maxDischargeDepth := 40)

@[simp] theorem noAnswer_sound (s : State) (hs : (s).sound) :
    ((noAnswer s)).sound := by
  unfold noAnswer
  (repeat' split) <;> simp_all (maxDischargeDepth := 40)

@[simp] theorem writeFrame_sound (bs : List Byte) (s : State) (hs : s.sound) :
    (writeFrame bs s).sound := by
  unfold writeFrame
  (repeat' split) <;> simp [hs]

@[simp] theorem drive_sound (rcur : ℕ) (ws : List Sys2Proof.Word) (s : State) (hs : (s).sound) :
    ((drive rcur ws s)).sound := by
  unfold drive
  (repeat' split) <;> simp_all (maxDischargeDepth := 40)

@[simp] theorem readWords_sound (t r : Nat) (ks : List Nat) (s : State) (hs : s.sound) :
    (readWords t r ks s).2.sound := readEach_sound _ _ _ _ (readEach_sound _ _ _ _ hs)

@[simp] theorem readData_sound (t : ℕ) (r : ℕ) (n : ℕ) (s : State) (hs : (s).sound) :
    ((readData t r n s).2.2).sound := by
  unfold readData
  dsimp only
  split
  · dsimp only
    split
    · exact windowRegRead_sound t r n s hs
    · exact readWords_sound t r _ s hs
  · exact hs
  · exact hs
  · exact hs

@[simp] theorem readChecked_sound (bs : List Sys2Proof.Byte) (s : State) (hs : (s).sound) :
    ((readChecked bs s)).sound := by
  unfold readChecked
  (repeat' split) <;> simp_all (maxDischargeDepth := 40)

@[simp] theorem readStarting_sound (bs : List Sys2Proof.Byte) (s : State) (hs : (s).sound) :
    ((readStarting bs s)).sound := by
  unfold readStarting
  (repeat' split) <;> simp_all (maxDischargeDepth := 40)

@[simp] theorem readFrame_sound (bs : List Sys2Proof.Byte) (s : State) (hs : (s).sound) :
    ((readFrame bs s)).sound := by
  unfold readFrame
  (repeat' split) <;> simp_all (maxDischargeDepth := 40)

@[simp] theorem State_modTap_sound (s : State) (f : Tap → Tap) (hs : (s).sound) :
    ((State.modTap s f)).sound := by
  unfold State.modTap
  (repeat' split) <;> simp_all (maxDischargeDepth := 40)

@[simp] theorem tapInstr_sound (i : TapIns) (s : State) (hs : (s).sound) :
    ((tapInstr i s)).sound := by
  unfold tapInstr
  (repeat' split) <;> simp_all (maxDischargeDepth := 40)

@[simp] theorem tapReset_sound (s : State) (hs : (s).sound) :
    ((tapReset s)).sound := by
  unfold tapReset
  (repeat' split) <;> simp_all (maxDischargeDepth := 40)

@[simp] theorem tapDone_sound (refused : Bool) (addr : ℕ) (data : Sys2Proof.Word) (s : State) (hs : (s).sound) :
    ((tapDone refused addr data s)).sound := by
  unfold tapDone
  (repeat' split) <;> simp_all (maxDischargeDepth := 40)

@[simp] theorem regaccAccess_sound (wr : Bool) (t : ℕ) (r : ℕ) (v : Sys2Proof.Word) (s : State) (hs : (s).sound) :
    ((regaccAccess wr t r v s)).sound := by
  unfold regaccAccess
  dsimp only
  repeat' split
  all_goals simp_all (maxDischargeDepth := 40)

@[simp] theorem regaccUpdate_sound (dr : BitVec 34) (s : State) (hs : (s).sound) :
    ((regaccUpdate dr s)).sound := by
  unfold regaccUpdate
  (repeat' split) <;> simp_all (maxDischargeDepth := 40)

@[simp] theorem retireBank_sound (b : ℕ) (cause : ℕ) (s : State) (hs : (s).sound) :
    ((retireBank b cause s)).sound := by
  unfold retireBank
  (repeat' split) <;> simp_all (maxDischargeDepth := 40)

@[simp] theorem exhausted_sound (i : Sys2Proof.BankId) (column : ℕ) (s : State) (hs : (s).sound) :
    ((exhausted i column s)).sound := by
  unfold exhausted
  (repeat' split) <;> simp_all (maxDischargeDepth := 40)

@[simp] theorem assignSpare_sound (i : Sys2Proof.BankId) (column : ℕ) (cause : ℕ) (s : State) (hs : (s).sound) :
    ((assignSpare i column cause s)).sound := by
  unfold assignSpare
  (repeat' split) <;> simp_all (maxDischargeDepth := 40)

@[simp] theorem scrubLine_sound (n : ℕ) (b : ℕ) (s : State) (hs : (s).sound) :
    ((scrubLine n b s)).sound := by
  unfold scrubLine
  (repeat' split) <;> simp_all (maxDischargeDepth := 40)

@[simp] theorem scrubGranule_sound (n : ℕ) (e : ℕ) (s : State) (hs : (s).sound) :
    ((scrubGranule n e s)).sound := by
  unfold scrubGranule
  (repeat' split) <;> simp_all (maxDischargeDepth := 40)

@[simp] theorem scrubInterval_sound (s : State) (hs : (s).sound) :
    ((scrubInterval s)).sound := by
  unfold scrubInterval
  (repeat' split) <;> simp_all (maxDischargeDepth := 40)

@[simp] theorem columnTest_sound (i : Sys2Proof.BankId) (result : ℕ) (bitPos : ℕ) (s : State) (hs : (s).sound) :
    ((columnTest i result bitPos s)).sound := by
  unfold columnTest
  (repeat' split) <;> simp_all (maxDischargeDepth := 40)

@[simp] theorem spareCopy_sound (i : Sys2Proof.BankId) (s : State) (hs : (s).sound) :
    ((spareCopy i s)).sound := by
  unfold spareCopy
  (repeat' split) <;> simp_all (maxDischargeDepth := 40)

@[simp] theorem copyRecords_sound (i : Sys2Proof.BankId) (column : ℕ) (s : State) (hs : (s).sound) :
    ((copyRecords i column s)).sound := by
  unfold copyRecords
  (repeat' split) <;> simp_all (maxDischargeDepth := 40)

@[simp] theorem spareSwitch_sound (i : Sys2Proof.BankId) (s : State) (hs : (s).sound) :
    ((spareSwitch i s)).sound := by
  unfold spareSwitch
  (repeat' split) <;> simp_all (maxDischargeDepth := 40)

@[simp] theorem repairEdge_sound (c : Sys2Proof.BankId × ℕ) (s : State) (hs : (s).sound) :
    ((repairEdge c s)).sound := by
  unfold repairEdge
  (repeat' split) <;> simp_all (maxDischargeDepth := 40)

@[simp] theorem pumpEdge_sound (p : ℕ) (s : State) (hs : (s).sound) :
    ((pumpEdge p s)).sound := by
  unfold pumpEdge
  (repeat' split) <;> simp_all (maxDischargeDepth := 40)

@[simp] theorem portEdge_sound (c : ℕ × Bool) (s : State) (hs : (s).sound) :
    ((portEdge c s)).sound := by
  unfold portEdge
  (repeat' split) <;> simp_all (maxDischargeDepth := 40)

@[simp] theorem unitCommands_sound (s : State) (hs : (s).sound) :
    ((unitCommands s)).sound := by
  unfold unitCommands
  (repeat' split) <;> simp_all (maxDischargeDepth := 40)

@[simp] theorem withEdge_sound (f : State → State) (s : State) (hs : (s).sound) (h : ∀ s, s.sound → (f s).sound) :
    ((withEdge f s)).sound := by
  unfold withEdge
  dsimp only
  split
  · exact h _ hs
  · exact unitCommands_sound _ (h _ hs)

@[simp] theorem forgetBlock_sound (o : PumpOp) (s : State) (hs : (s).sound) :
    ((forgetBlock o s)).sound := by
  unfold forgetBlock
  (repeat' split) <;> simp_all (maxDischargeDepth := 40)

@[simp] theorem completeStill_sound (mine : PumpOp → Bool) (s : State) (hs : (s).sound) :
    ((completeStill mine s)).sound := by
  unfold completeStill
  refine foldS_sound _ _ _ hs (fun o s h => ?_)
  split
  · simp_all (maxDischargeDepth := 40)
  · exact h

@[simp] theorem stillTick_sound (s : State) (hs : s.sound) :
    ((stillTick s)).sound := by
  unfold stillTick
  (repeat' split) <;> simp_all (maxDischargeDepth := 40)

@[simp] theorem stillRun_sound (r : Run) (s : State) (hs : s.sound) :
    ((stillRun r s)).sound := by
  unfold stillRun
  (repeat' split) <;> simp_all (maxDischargeDepth := 40)

@[simp] theorem stopStill_sound (e : ℕ) (r : Run) (s : State) (hs : (s).sound) :
    ((stopStill e r s)).sound := by
  unfold stopStill
  (repeat' split) <;> simp_all (maxDischargeDepth := 40)

@[simp] theorem stillEngine_sound (e : ℕ) (s : State) (hs : (s).sound) :
    ((stillEngine e s)).sound := by
  unfold stillEngine
  dsimp only
  repeat' split
  all_goals simp_all (maxDischargeDepth := 40)

@[simp] theorem stillPump_sound (p : ℕ) (s : State) (hs : (s).sound) :
    ((stillPump p s)).sound := by
  unfold stillPump
  (repeat' split) <;> simp_all (maxDischargeDepth := 40)

@[simp] theorem stillBank_sound (b : ℕ) (s : State) (hs : (s).sound) :
    ((stillBank b s)).sound := by
  unfold stillBank
  (repeat' split) <;> simp_all (maxDischargeDepth := 40)

@[simp] theorem stillPool_sound (s : State) (hs : s.sound) :
    ((stillPool s)).sound := by
  unfold stillPool
  (repeat' split) <;> simp_all (maxDischargeDepth := 40)

@[simp] theorem endWaits_sound (b : Nat) (s : State) (hs : s.sound) :
    ((endWaits b s)).sound := by
  unfold endWaits
  (repeat' split) <;> simp_all (maxDischargeDepth := 40)

@[simp] theorem stillBells_sound (s : State) (hs : s.sound) :
    ((stillBells s)).sound := by
  unfold stillBells
  (repeat' split) <;> simp_all (maxDischargeDepth := 40)

@[simp] theorem stillnessFault_sound (u : Sys2Proof.StillUnit) (s : State) (hs : (s).sound) :
    ((stillnessFault u s)).sound := by
  unfold stillnessFault
  (repeat' split) <;> simp_all (maxDischargeDepth := 40)

@[simp] theorem busValue_sound (v : Sys2Proof.W32) (s : State) (hs : (s).sound) :
    ((busValue v s)).sound := by
  unfold busValue
  (repeat' split) <;> simp_all (maxDischargeDepth := 40)

@[simp] theorem busDone_sound (s : State) (hs : (s).sound) :
    ((busDone s)).sound := by
  unfold busDone
  (repeat' split) <;> simp_all (maxDischargeDepth := 40)

@[simp] theorem busError_sound (s : State) (hs : (s).sound) :
    ((busError s)).sound := by
  unfold busError
  (repeat' split) <;> simp_all (maxDischargeDepth := 40)

@[simp] theorem supRing_sound (b : ℕ) (inc : ℕ) (s : State) (hs : (s).sound) :
    ((supRing b inc s)).sound := by
  unfold supRing
  (repeat' split) <;> simp_all (maxDischargeDepth := 40)

@[simp] theorem supTry_sound (b : ℕ) (s : State) (hs : (s).sound) :
    ((supTry b s)).sound := by
  unfold supTry
  (repeat' split) <;> simp_all (maxDischargeDepth := 40)

@[simp] theorem supPeek_sound (b : ℕ) (s : State) (hs : (s).sound) :
    ((supPeek b s)).sound := by
  unfold supPeek
  (repeat' split) <;> simp_all (maxDischargeDepth := 40)

@[simp] theorem bellsWrite_sound (b : ℕ) (v : Sys2Proof.Word) (s : State) (hs : (s).sound) :
    ((bellsWrite b v s)).sound := by
  unfold bellsWrite
  split
  · exact hs
  · exact loadBell_sound _ _ _ hs (by have := Nat.mod_lt (v.toNat >>> 0) (show 0 < 2 ^ 8 by decide); simp only [wfld, fld]; omega)

@[simp] theorem bankReadyMark_sound (c : ℕ) (foreign : Bool) (s : State) (hs : (s).sound) :
    ((bankReadyMark c foreign s)).sound := by
  unfold bankReadyMark
  (repeat' split) <;> simp_all (maxDischargeDepth := 40)

@[simp] theorem fltQstat_sound (s : State) (hs : (s).sound) :
    ((fltQstat s)).sound := by
  unfold fltQstat
  (repeat' split) <;> simp_all (maxDischargeDepth := 40)

@[simp] theorem fltHeadRead_sound (i : ℕ) (s : State) (hs : (s).sound) :
    ((fltHeadRead i s)).sound := by
  unfold fltHeadRead
  (repeat' split) <;> simp_all (maxDischargeDepth := 40)

@[simp] theorem fltPop_sound (s : State) (hs : (s).sound) :
    ((fltPop s)).sound := by
  unfold fltPop
  split
  · next r rest hq =>
    have hl := hs.faults
    rw [hq] at hl
    refine busDone_sound _ (State_modSup_sound _ _ ?_ (fun u h => ?_) (fun u h => ?_))
    · apply State.sound_mk s hs <;> simp_all; omega
    · unfold keepRecord; split <;> exact h
    · unfold keepRecord; split <;> exact h
  · exact busDone_sound _ hs

@[simp] theorem retireUnit_sound (kind : ℕ) (i : ℕ) (s : State) (hs : (s).sound) :
    ((retireUnit kind i s)).sound := by
  unfold retireUnit
  split
  · exact State_modEng_sound _ _ _ hs (fun g h => h)
  · exact State_modPump_sound _ _ _ hs
  · exact retireBank_sound _ _ _ hs
  · apply State.sound_mk s hs <;> simp_all
  · exact State_modChan_sound _ _ _ hs
  · exact hs

@[simp] theorem readmitUnit_sound (kind : ℕ) (i : ℕ) (s : State) (hs : (s).sound) :
    ((readmitUnit kind i s)).sound := by
  unfold readmitUnit
  split
  · exact State_modEng_sound _ _ _ hs (fun g h => h)
  · exact State_modPump_sound _ _ _ hs
  · apply State.sound_mk s hs <;> simp_all
  · exact State_modChan_sound _ _ _ hs
  · exact hs

@[simp] theorem fltRetire_sound (v : Sys2Proof.W32) (s : State) (hs : (s).sound) :
    ((fltRetire v s)).sound := by
  unfold fltRetire
  (repeat' split) <;> simp_all (maxDischargeDepth := 40)

@[simp] theorem fltReadmit_sound (v : Sys2Proof.W32) (s : State) (hs : (s).sound) :
    ((fltReadmit v s)).sound := by
  unfold fltReadmit
  (repeat' split) <;> simp_all (maxDischargeDepth := 40)

@[simp] theorem setButtress_sound (s : State) (hs : (s).sound) :
    ((setButtress s)).sound := by
  unfold setButtress
  (repeat' split) <;> simp_all (maxDischargeDepth := 40)

@[simp] theorem fltButtress_sound (v : Sys2Proof.W32) (s : State) (hs : (s).sound) :
    ((fltButtress v s)).sound := by
  unfold fltButtress
  split
  · exact busDone_sound _ (setButtress_sound _ hs)
  · exact busDone_sound _ hs

@[simp] theorem queueRepair_sound (i : Sys2Proof.BankId) (column : ℕ) (s : State) (hs : (s).sound) :
    ((queueRepair i column s)).sound := by
  unfold queueRepair
  (repeat' split) <;> simp_all (maxDischargeDepth := 40)

@[simp] theorem fltRepair_sound (v : Sys2Proof.W32) (s : State) (hs : (s).sound) :
    ((fltRepair v s)).sound := by
  unfold fltRepair
  (repeat' split) <;> simp_all (maxDischargeDepth := 40)

@[simp] theorem fltScrub_sound (v : Sys2Proof.W32) (s : State) (hs : (s).sound) :
    ((fltScrub v s)).sound := by
  unfold fltScrub
  (repeat' split) <;> simp_all (maxDischargeDepth := 40)

@[simp] theorem shadowCfg_sound (c : ℕ) (v : Sys2Proof.W32) (s : State) (hs : (s).sound) :
    ((shadowCfg c v s)).sound := by
  unfold shadowCfg
  (repeat' split) <;> simp_all (maxDischargeDepth := 40)

@[simp] theorem State_modSlotOf_sound (s : State) (n : ℕ) (f : Slot → Slot) (hs : (s).sound) (h1 : ∀ b, Memory.wf b.desc = true → Memory.wf (f b).desc = true) :
    ((State.modSlotOf s n f)).sound := by
  exact State_modSup_sound _ _ hs (fun u h => h) (fun u hu => slotsOk_modAt _ _ _ hu h1)

@[simp] theorem postSlot_sound (n p : Nat) (s : State) (hs : s.sound) :
    (postSlot n p s).sound := by
  unfold postSlot
  exact acceptOp_sound _ _ _ (readEntries_sound _ _ _ (State_modSlotOf_sound _ _ _ hs (fun _ h => h)))

@[simp] theorem supPost_sound (n : ℕ) (p : ℕ) (s : State) (hs : (s).sound) :
    ((supPost n p s)).sound := by
  unfold supPost
  (repeat' split) <;> simp_all (maxDischargeDepth := 40)

@[simp] theorem cistLoad_sound (a : ℕ) (n : ℕ) (s : State) (hs : (s).sound) :
    ((cistLoad a n s)).sound := by
  unfold cistLoad
  (repeat' split) <;> simp_all (maxDischargeDepth := 40)

@[simp] theorem cistStore_sound (a : ℕ) (n : ℕ) (v : Sys2Proof.W32) (s : State) (hs : (s).sound) :
    ((cistStore a n v s)).sound := by
  unfold cistStore
  (repeat' split) <;> simp_all (maxDischargeDepth := 40)

@[simp] theorem regLoad_sound (t : ℕ) (r : ℕ) (s : State) (hs : (s).sound) :
    ((regLoad t r s)).sound := by
  unfold regLoad
  dsimp only
  repeat' split
  all_goals simp_all (maxDischargeDepth := 40)

@[simp] theorem regStore_sound (t : ℕ) (r : ℕ) (v : Sys2Proof.Word) (s : State) (hs : (s).sound) :
    ((regStore t r v s)).sound := by
  unfold regStore
  dsimp only
  repeat' split
  all_goals simp_all (maxDischargeDepth := 40)

@[simp] theorem fltLoad_sound (o : ℕ) (s : State) (hs : (s).sound) :
    ((fltLoad o s)).sound := by
  unfold fltLoad
  (repeat' split) <;> simp_all (maxDischargeDepth := 40)

@[simp] theorem fltStore_sound (o : ℕ) (v : Sys2Proof.W32) (s : State) (hs : (s).sound) :
    ((fltStore o v s)).sound := by
  unfold fltStore
  (repeat' split) <;> simp_all (maxDischargeDepth := 40)

@[simp] theorem slotLoad_sound (n : ℕ) (o : ℕ) (s : State) (hs : (s).sound) :
    ((slotLoad n o s)).sound := by
  unfold slotLoad
  (repeat' split) <;> simp_all (maxDischargeDepth := 40)

@[simp] theorem slotStore_sound (n : ℕ) (o : ℕ) (v : Sys2Proof.W32) (s : State) (hs : (s).sound) :
    ((slotStore n o v s)).sound := by
  unfold slotStore
  (repeat' split) <;> simp_all (maxDischargeDepth := 40)

@[simp] theorem supLoad_sound (a : ℕ) (size : ℕ) (s : State) (hs : (s).sound) :
    ((supLoad a size s)).sound := by
  unfold supLoad
  (repeat' split) <;> simp_all (maxDischargeDepth := 40)

@[simp] theorem supStore_sound (a : ℕ) (size : ℕ) (v : Sys2Proof.W32) (s : State) (hs : (s).sound) :
    ((supStore a size v s)).sound := by
  unfold supStore
  split
  · exact busError_sound _ hs
  · split
    · exact busError_sound _ hs
    · exact busDone_sound _ (State_modSup_sound _ _ hs (fun u h => memWriteL_wf _ _ _ h) (fun u h => h))
    · exact regStore_sound _ _ _ _ hs
    · split
      · exact supRing_sound _ _ _ hs
      · exact busError_sound _ hs
    · split
      · exact bankReadyMark_sound _ _ _ hs
      · exact busDone_sound _ hs
    · exact fltStore_sound _ _ _ hs
    · exact slotStore_sound _ _ _ _ hs
    · split
      · exact busDone_sound _ (causeClear_sound _ _ hs)
      · split
        · exact busDone_sound _ (handover_sound _ hs)
        · exact busDone_sound _ hs
    · exact cistStore_sound _ _ _ _ hs
    · exact busError_sound _ hs

@[simp] theorem supFence_sound (s : State) (hs : (s).sound) :
    ((supFence s)).sound := by
  unfold supFence
  (repeat' split) <;> simp_all (maxDischargeDepth := 40)

@[simp] theorem takeRequest_sound (s : State) (hs : (s).sound) :
    ((takeRequest s)).sound := by
  unfold takeRequest
  (repeat' split) <;> simp_all (maxDischargeDepth := 40)

@[simp] theorem mboxReply_sound (m0 : Sys2Proof.Word) (result : ℕ) (low : ℕ) (w6 : ℕ) (w7 : ℕ) (s : State) (hs : (s).sound) :
    ((mboxReply m0 result low w6 w7 s)).sound := by
  unfold mboxReply
  (repeat' split) <;> simp_all (maxDischargeDepth := 40)

@[simp] theorem serveRequest_sound (code : ℕ) (f : State → State × ℕ × ℕ × ℕ × ℕ) (s : State) (hs : (s).sound) (h : ∀ s, s.sound → (f s).1.sound) :
    ((serveRequest code f s)).sound := by
  unfold serveRequest
  split
  · exact mboxReply_sound _ _ _ _ _ _ (h _ (takeRequest_sound _ hs))
  · exact hs

@[simp] theorem copyRange_sound (a : ℕ) (b : ℕ) (x : ℕ × ℕ) (s : State) (hs : (s).sound) :
    ((copyRange a b x s)).sound := by
  unfold copyRange
  dsimp only
  refine State_modEng_sound _ _ _ (storeReadEvents_sound _ _ _ _ _ hs) (fun k hk => ?_)
  refine memCopy_wf _ _ _ _ ?_ hk
  exact nth_store_wf s a hs.stores

@[simp] theorem copyPairs_sound (f : ℕ → ℕ → List (ℕ × ℕ)) (ps : List (ℕ × ℕ)) (s : State) (hs : (s).sound) :
    ((copyPairs f ps s)).sound := by
  unfold copyPairs
  (repeat' split) <;> simp_all (maxDischargeDepth := 40)

@[simp] theorem supWrite_sound (t : ℕ) (r : ℕ) (v : Sys2Proof.Word) (s : State) (hs : (s).sound) :
    ((supWrite t r v s)).sound := by
  unfold supWrite
  (repeat' split) <;> simp_all (maxDischargeDepth := 40)

@[simp] theorem admitGrant_sound (f : Sys2Proof.Word) (c : ℕ) (v : Sys2Proof.Word) (s : State) (hs : (s).sound) :
    ((admitGrant f c v s)).sound := by
  unfold admitGrant
  (repeat' split) <;> simp_all (maxDischargeDepth := 40)

@[simp] theorem admitServe_sound (s : State) (hs : (s).sound) :
    ((admitServe s).1).sound := by
  unfold admitServe
  dsimp only
  repeat' split
  all_goals simp_all (maxDischargeDepth := 40)

@[simp] theorem mboxAdmit_sound (s : State) (hs : (s).sound) :
    ((mboxAdmit s)).sound := by
  unfold mboxAdmit
  repeat' split
  all_goals (try simp_all (maxDischargeDepth := 40))
  refine serveRequest_sound _ _ _ hs (fun s h => ?_)
  split <;> simp_all (maxDischargeDepth := 40)

@[simp] theorem retireServe_sound (s : State) (hs : (s).sound) :
    ((retireServe s).1).sound := by
  unfold retireServe
  dsimp only
  repeat' split
  all_goals simp_all (maxDischargeDepth := 40)

@[simp] theorem readmitChan_sound (c : ℕ) (newMap : Bool) (w cfg : Sys2Proof.Word) (s : State) (hs : (s).sound) :
    ((readmitChan c newMap w cfg s).1).sound := by
  unfold readmitChan
  dsimp only
  repeat' split
  all_goals simp_all (maxDischargeDepth := 40)

@[simp] theorem readmitServe_sound (s : State) (hs : (s).sound) :
    ((readmitServe s).1).sound := by
  unfold readmitServe
  dsimp only
  repeat' split
  all_goals simp_all (maxDischargeDepth := 40)

@[simp] theorem policyRetire_sound (kind i : ℕ) (s : State) (hs : (s).sound) :
    ((policyRetire kind i s)).sound := by
  unfold policyRetire
  try dsimp only
  repeat' split
  all_goals simp_all (maxDischargeDepth := 40)

@[simp] theorem policyEngine_sound (e : ℕ) (s : State) (hs : (s).sound) :
    ((policyEngine e s)).sound := by
  unfold policyEngine
  try dsimp only
  repeat' split
  all_goals simp_all (maxDischargeDepth := 40)

@[simp] theorem policyPump_sound (k : ℕ) (s : State) (hs : (s).sound) :
    ((policyPump k s)).sound := by
  unfold policyPump
  try dsimp only
  repeat' split
  all_goals simp_all (maxDischargeDepth := 40)

@[simp] theorem policyPort_sound (k rim : ℕ) (s : State) (hs : (s).sound) :
    ((policyPort k rim s)).sound := by
  unfold policyPort
  try dsimp only
  repeat' split
  all_goals simp_all (maxDischargeDepth := 40)

@[simp] theorem policyRemap_sound (c : ℕ) (s : State) (hs : (s).sound) :
    ((policyRemap c s)).sound := by
  unfold policyRemap
  try dsimp only
  repeat' split
  all_goals simp_all (maxDischargeDepth := 40)

@[simp] theorem policyAct_sound (r : FaultRec) (s : State) (hs : (s).sound) :
    ((policyAct r s)).sound := by
  unfold policyAct
  try dsimp only
  repeat' split
  all_goals simp_all (maxDischargeDepth := 40)

@[simp] theorem keepAll_sound (s : State) (hs : (s).sound) :
    ((keepAll s)).sound := by
  unfold keepAll
  dsimp only
  refine foldS_sound _ _ _ ?_ (fun r s h => ?_)
  · apply State.sound_mk s hs <;> simp_all
  · refine policyAct_sound _ _ (State_modSup_sound _ _ h (fun u h => ?_) (fun u h => ?_))
    · unfold keepRecord; split <;> exact h
    · unfold keepRecord; split <;> exact h

@[simp] theorem faultsServe_sound (s : State) (hs : (s).sound) :
    ((faultsServe s).1).sound := by
  unfold faultsServe
  dsimp only
  split
  · exact hs
  · dsimp only
    refine State_modSup_sound _ _ (foldS_sound _ _ _ (keepAll_sound _ hs) (fun i s h => cistPut_sound _ _ _ h)) (fun u h => h) (fun u h => h)

@[simp] theorem repairServe_sound (s : State) (hs : (s).sound) :
    ((repairServe s).1).sound := by
  unfold repairServe
  dsimp only
  repeat' split
  all_goals simp_all (maxDischargeDepth := 40)

@[simp] theorem stewardPop_sound (s : State) (hs : (s).sound) :
    ((stewardPop s)).sound := by
  unfold stewardPop
  (repeat' split) <;> simp_all (maxDischargeDepth := 40)

@[simp] theorem stewardWfi_sound (s : State) (hs : (s).sound) :
    ((stewardWfi s)).sound := by
  unfold stewardWfi
  (repeat' split) <;> simp_all (maxDischargeDepth := 40)

@[simp] theorem stewardHandover_sound (s : State) (hs : (s).sound) :
    ((stewardHandover s)).sound := by
  unfold stewardHandover
  (repeat' split) <;> simp_all (maxDischargeDepth := 40)

@[simp] theorem mboxRetire_sound (s : State) (hs : (s).sound) :
    ((mboxRetire s)).sound := by
  unfold mboxRetire
  (repeat' split) <;> simp_all (maxDischargeDepth := 40)

@[simp] theorem mboxReadmit_sound (s : State) (hs : (s).sound) :
    ((mboxReadmit s)).sound := by
  unfold mboxReadmit
  (repeat' split) <;> simp_all (maxDischargeDepth := 40)

@[simp] theorem mboxFaults_sound (s : State) (hs : (s).sound) :
    ((mboxFaults s)).sound := by
  unfold mboxFaults
  (repeat' split) <;> simp_all (maxDischargeDepth := 40)

@[simp] theorem mboxRepair_sound (s : State) (hs : (s).sound) :
    ((mboxRepair s)).sound := by
  unfold mboxRepair
  (repeat' split) <;> simp_all (maxDischargeDepth := 40)

@[simp] theorem putHeaders_sound (a : ℕ) (bs : List Sys2Proof.Byte) (s : State) (hs : (s).sound) :
    ((putHeaders a bs s)).sound := by
  unfold putHeaders
  (repeat' split) <;> simp_all (maxDischargeDepth := 40)

@[simp] theorem imageReads_sound (e : ℕ) (act : Bool) (cs : List ℕ) (s : State) (hs : (s).sound) :
    ((imageReads e act cs s)).sound := by
  unfold imageReads
  (repeat' split) <;> simp_all (maxDischargeDepth := 40)

@[simp] theorem sealSession_sound (tag : List Sys2Proof.Byte) (s : State) (hs : (s).sound) :
    ((sealSession tag s)).sound := by
  unfold sealSession
  split
  · exact hs
  · dsimp only
    simp_all (maxDischargeDepth := 40)

@[simp] theorem importSession_sound (bad : ℕ) (tag : Option (List Sys2Proof.Byte)) (s : State) (hs : (s).sound) :
    ((importSession bad tag s)).sound := by
  unfold importSession
  (repeat' split) <;> simp_all

@[simp] theorem wexportServe_sound (s : State) (hs : (s).sound) :
    ((wexportServe s).1).sound := by
  unfold wexportServe
  dsimp only
  repeat' split
  all_goals simp_all (maxDischargeDepth := 40)

@[simp] theorem importChan_sound (e : ℕ) (foreign : Bool) (c : ℕ) (s : State) (hs : (s).sound) :
    ((importChan e foreign c s)).sound := by
  unfold importChan
  (repeat' split) <;> simp_all (maxDischargeDepth := 40)

@[simp] theorem wimportServe_sound (s : State) (hs : (s).sound) :
    ((wimportServe s).1).sound := by
  unfold wimportServe
  dsimp only
  repeat' split
  all_goals simp_all (maxDischargeDepth := 40)

@[simp] theorem mboxWexport_sound (s : State) (hs : (s).sound) :
    ((mboxWexport s)).sound := by
  unfold mboxWexport
  (repeat' split) <;> simp_all (maxDischargeDepth := 40)

@[simp] theorem mboxWimport_sound (s : State) (hs : (s).sound) :
    ((mboxWimport s)).sound := by
  unfold mboxWimport
  (repeat' split) <;> simp_all (maxDischargeDepth := 40)

@[simp] theorem grantEngines_sound (tick : Bool) (es : List Nat) (s : State) (hs : s.sound) :
    ((grantEngines tick es s)).sound := by
  unfold grantEngines
  (repeat' split) <;> simp_all (maxDischargeDepth := 40)

@[simp] theorem grantSupervisor_sound (s : State) (hs : (s).sound) :
    ((grantSupervisor s)).sound := by
  unfold grantSupervisor
  refine foldS_sound _ _ _ hs (fun n s h => ?_)
  repeat' split
  all_goals simp_all (maxDischargeDepth := 40)

@[simp] theorem grantPeers_sound (s : State) (hs : (s).sound) :
    ((grantPeers s)).sound := by
  unfold grantPeers
  (repeat' split) <;> simp_all (maxDischargeDepth := 40)

@[simp] theorem tagGrant_sound (s : State) (hs : (s).sound) :
    ((tagGrant s)).sound := by
  unfold tagGrant
  (repeat' split) <;> simp_all (maxDischargeDepth := 40)

@[simp] theorem forChan_sound (c : ℕ) (f : State → State) (s : State) (hs : (s).sound) (h : ∀ s, s.sound → (f s).sound) :
    ((forChan c f s)).sound := by
  unfold forChan
  split
  · exact h s hs
  · exact hs

@[simp] theorem forEngine_sound (e : ℕ) (f : State → State) (s : State) (hs : (s).sound) (h : ∀ s, s.sound → (f s).sound) :
    ((forEngine e f s)).sound := by
  unfold forEngine
  split
  · exact h s hs
  · exact hs

@[simp] theorem forWell_sound (w : ℕ) (f : State → State) (s : State) (hs : (s).sound) (h : ∀ s, s.sound → (f s).sound) :
    ((forWell w f s)).sound := by
  unfold forWell
  split
  · exact h s hs
  · exact hs

@[simp] theorem forPort_sound (p : ℕ) (f : State → State) (s : State) (hs : (s).sound) (h : ∀ s, s.sound → (f s).sound) :
    ((forPort p f s)).sound := by
  unfold forPort
  split
  · exact h s hs
  · exact hs

@[simp] theorem forLane_sound (p : ℕ) (lane : ℕ) (f : State → State) (s : State) (hs : (s).sound) (h : ∀ s, s.sound → (f s).sound) :
    ((forLane p lane f s)).sound := by
  unfold forLane
  split
  · exact h s hs
  · exact hs

@[simp] theorem hostWord_sound (t : ℕ) (r : ℕ) (v : Sys2Proof.Word) (s : State) (hs : (s).sound) :
    ((hostWord t r v s)).sound := by
  unfold hostWord
  dsimp only
  repeat' split
  all_goals simp_all (maxDischargeDepth := 40)

@[simp] theorem readAt_sound (t : ℕ) (r : ℕ) (n : ℕ) (s : State) (hs : (s).sound) :
    ((readAt t r n s)).sound := by
  unfold readAt
  (repeat' split) <;> simp_all (maxDischargeDepth := 40)

@[simp] theorem registerWrite_sound (src : Sys2Proof.Source) (t : ℕ) (r : ℕ) (v : Sys2Proof.Word) (s : State) (hs : (s).sound) :
    ((registerWrite src t r v s)).sound := by
  unfold registerWrite
  dsimp only
  repeat' split
  all_goals simp_all (maxDischargeDepth := 40)

@[simp] theorem tickPin_sound (dt : ℕ) (s : State) (hs : (s).sound) :
    ((tickPin dt s)).sound := by
  unfold tickPin
  (repeat' split) <;> simp_all (maxDischargeDepth := 40)

@[simp] theorem onEdge_sound (store effect : State → State) (h1 : ∀ s : State, s.sound → (store s).sound) (h2 : ∀ s : State, s.sound → (effect s).sound) (s : State) (hs : s.sound) :
    (onEdge store effect s).sound := by
  unfold onEdge
  split
  · exact h1 s hs
  · exact h2 _ (h1 s hs)

@[simp] theorem samplePort_sound (w : Nat) (data : Nat) (valid : Bool) (opn : Bool) (stuck : Bool) (dt : Nat) (s : State) (hs : s.sound) :
    ((samplePort w data valid opn stuck dt s)).sound := by
  unfold samplePort
  (repeat' split) <;> simp_all (maxDischargeDepth := 40)

@[simp] theorem windowExpires_sound (c : ℕ) (s : State) (hs : (s).sound) :
    ((windowExpires c s)).sound := by
  unfold windowExpires
  (repeat' split) <;> simp_all (maxDischargeDepth := 40)

@[simp] theorem epochEnds_sound (c : ℕ) (s : State) (hs : (s).sound) :
    ((epochEnds c s)).sound := by
  unfold epochEnds
  (repeat' split) <;> simp_all (maxDischargeDepth := 40)

@[simp] theorem newLevels_sound (s : State) (hs : s.sound) :
    ((newLevels s)).sound := by
  unfold newLevels
  (repeat' split) <;> simp_all (maxDischargeDepth := 40)

@[simp] theorem edgeMemory_sound (s : State) (x : Edges) (k : Nat) (w : Nat) (t : State) (hs : t.sound) :
    ((edgeMemory s x k w t)).sound := by
  unfold edgeMemory
  exact State_modWalk_sound _ _ _ hs (fun k hk =>
    ⟨hk.1, modAt_mem_wf _ (fun m hm => portsStore_wf _ _ _ _ m hm) _ _ hk.2⟩)

@[simp] theorem edgeWalk_sound (s : State) (x : Edges) (w : Nat) (t : State) (hs : t.sound) :
    ((edgeWalk s x w t)).sound := by
  unfold edgeWalk
  (repeat' split) <;> simp_all (maxDischargeDepth := 40)

@[simp] theorem clockEdge_sound (s : State) (hs : s.sound) :
    ((clockEdge s)).sound := by
  unfold clockEdge
  (repeat' split) <;> simp_all (maxDischargeDepth := 40)

theorem afterEdges_sound (s t : State) (h : t.sound) : (afterEdges s t).sound :=
  State.sound_mk _ h _ _ _ _ _ _ _ _ _ _ _ _ _ _ _ _ _ _ _ _ _ _ _ _ _ _ _ _ _ h.stores h.bells h.cist h.journal
    h.faults h.sram h.slots h.walks h.log

@[simp] theorem userClock_sound (s : State) (hs : s.sound) : (userClock s).sound := by
  unfold userClock
  split
  · exact hs
  · exact afterEdges_sound s _ (clockEdge_sound s hs)

end Sys2Proof.Machine
end

