-- ==== Sys2Proof/Laws/Steady.lean ====
section
/-! SUPPORT. The operations that leave the power mode, the timebase count, the binding slots and the tick number alone. -/

namespace Sys2Proof.Machine
open Sys2Proof
set_option linter.all false
/-- The power mode, the timebase count, the binding slots and the tick number. -/
def State.steady (s : State) : PowerMode × Nat × List BindSlot × Nat := (s.power.mode, s.tb, s.sec.slots, s.tick.number)
@[simp] theorem State.steady_mk (x : State) (part straps regs now pace chans wells engs ops nextOp pumps bells tables cist cistUe cistCe banks storeBanks journal faults ctl sup clo ports tbase tap free pending) : (State.mk part straps regs now x.tick pace chans wells engs ops nextOp pumps bells tables cist cistUe cistCe banks storeBanks journal faults ctl sup clo ports x.power tbase x.sec tap x.tb free pending).steady = x.steady := rfl
@[simp] theorem steady_ite (c : Prop) [Decidable c] (a b : State) : (if c then a else b).steady = if c then a.steady else b.steady := by
  split <;> rfl
@[simp] theorem foldS_steady {α : Type} (f : α → State → State) (xs : List α) (s : State)
    (h : ∀ a s, (f a s).steady = s.steady) : (foldS f xs s).steady = s.steady := foldS_keeps State.steady f h xs s
theorem foldS_steady1 {α β : Type} (f : α → State × β → State × β) (xs : List α) (x : State × β)
    (h : ∀ a x, (f a x).1.steady = x.1.steady) : (foldS f xs x).1.steady = x.1.steady :=
  foldS_keeps (fun x : State × β => x.1.steady) f h xs x
theorem foldl_steadyM {α : Type} (f : Moving → α → Moving) (xs : List α) (m : Moving)
    (h : ∀ m a, (f m a).s.steady = m.s.steady) : (xs.foldl f m).s.steady = m.s.steady := by
  induction xs generalizing m with
  | nil => rfl
  | cons x xs ih => rw [List.foldl_cons, ih, h]
theorem foldl_steadyM1 {α β : Type} (f : Moving × β → α → Moving × β) (xs : List α) (m : Moving × β)
    (h : ∀ m a, (f m a).1.s.steady = m.1.s.steady) : (xs.foldl f m).1.s.steady = m.1.s.steady := by
  induction xs generalizing m with
  | nil => rfl
  | cons x xs ih => rw [List.foldl_cons, ih, h]
@[simp] theorem State.steady_tick (x : State) (en src fallback pend lost : Bool) (lossRef freeDue lastEdge : Option Nat) (intervals : List Nat)
    (entered : Nat) (open_ : Bool) (snapAt snapTb guard : Nat) (flagged : List Nat) (buttressOnly lean stopped reported : Bool)
    (vdQueue : List (Nat × Nat)) (vd vdClass : BitVec 4) (vdPulses : Nat) (vdStb : Bool) (part straps regs now pace chans wells engs ops nextOp
    pumps bells tables cist cistUe cistCe banks storeBanks journal faults ctl sup clo ports tbase tap free pending) :
    (State.mk part straps regs now (TickUnit.mk en src fallback pend lost lossRef freeDue lastEdge intervals entered x.tick.number open_ snapAt
      snapTb guard flagged buttressOnly lean stopped reported vdQueue vd vdClass vdPulses vdStb) pace chans wells engs ops nextOp pumps bells
      tables cist cistUe cistCe banks storeBanks journal faults ctl sup clo ports x.power tbase x.sec tap x.tb free pending).steady = x.steady := rfl


@[simp] theorem State_wr_steady (s : State) (t : ℕ) (r : ℕ) (v : Sys2Proof.Word) :
    ((State.wr s t r v)).steady = s.steady := by
  unfold State.wr
  (repeat' split) <;> simp_all

@[simp] theorem State_setB_steady (s : State) (t : ℕ) (r : ℕ) (i : ℕ) :
    ((State.setB s t r i)).steady = s.steady := by
  unfold State.setB
  (repeat' split) <;> simp_all

@[simp] theorem State_clrB_steady (s : State) (t : ℕ) (r : ℕ) (i : ℕ) :
    ((State.clrB s t r i)).steady = s.steady := by
  unfold State.clrB
  (repeat' split) <;> simp_all

@[simp] theorem State_putB_steady (s : State) (t : ℕ) (r : ℕ) (i : ℕ) (b : Bool) :
    ((State.putB s t r i b)).steady = s.steady := by
  unfold State.putB
  (repeat' split) <;> simp_all

@[simp] theorem State_modChan_steady (s : State) (c : ℕ) (f : Channel → Channel) :
    ((State.modChan s c f)).steady = s.steady := by
  unfold State.modChan
  (repeat' split) <;> simp_all

@[simp] theorem State_mapChans_steady (s : State) (f : Channel → Channel) :
    ((State.mapChans s f)).steady = s.steady := by
  unfold State.mapChans
  (repeat' split) <;> simp_all

@[simp] theorem State_modWell_steady (s : State) (w : ℕ) (f : Well → Well) :
    ((State.modWell s w f)).steady = s.steady := by
  unfold State.modWell
  (repeat' split) <;> simp_all

@[simp] theorem State_modEng_steady (s : State) (e : ℕ) (f : Engine → Engine) :
    ((State.modEng s e f)).steady = s.steady := by
  unfold State.modEng
  (repeat' split) <;> simp_all

@[simp] theorem State_modBank_steady (s : State) (b : ℕ) (f : Bank → Bank) :
    ((State.modBank s b f)).steady = s.steady := by
  unfold State.modBank
  (repeat' split) <;> simp_all

@[simp] theorem State_modBankOf_steady (s : State) (i : Sys2Proof.BankId) (f : Bank → Bank) :
    ((State.modBankOf s i f)).steady = s.steady := by
  unfold State.modBankOf
  (repeat' split) <;> simp_all

@[simp] theorem State_modBell_steady (s : State) (b : ℕ) (f : Bell → Bell) :
    ((State.modBell s b f)).steady = s.steady := by
  unfold State.modBell
  (repeat' split) <;> simp_all

@[simp] theorem State_modOp_steady (s : State) (i : ℕ) (f : PumpOp → PumpOp) :
    ((State.modOp s i f)).steady = s.steady := by
  unfold State.modOp
  (repeat' split) <;> simp_all

@[simp] theorem State_modSup_steady (s : State) (f : Sup → Sup) :
    ((State.modSup s f)).steady = s.steady := by
  unfold State.modSup
  simp

@[simp] theorem State_setTries_steady (n : ℕ) (s : State) : (s.setTries n).steady = s.steady := rfl

@[simp] theorem State_modPolicy_steady (f : Policy → Policy) (s : State) : (s.modPolicy f).steady = s.steady := rfl

@[simp] theorem State_pass_steady (s : State) (d : ℕ) :
    ((State.pass s d)).steady = s.steady := by
  unfold State.pass
  (repeat' split) <;> simp_all

@[simp] theorem State_reach_steady (s : State) (t : ℕ) :
    ((State.reach s t)).steady = s.steady := by
  unfold State.reach
  (repeat' split) <;> simp_all

@[simp] theorem supCauseSet_steady (m : Sys2Proof.W32) (s : State) :
    ((supCauseSet m s)).steady = s.steady := by
  unfold supCauseSet
  (repeat' split) <;> simp_all

@[simp] theorem raise_steady (i : ℕ) (s : State) :
    ((raise i s)).steady = s.steady := by
  unfold raise
  (repeat' split) <;> simp_all

@[simp] theorem cfgConflict_steady (s : State) :
    ((cfgConflict s)).steady = s.steady := by
  unfold cfgConflict
  (repeat' split) <;> simp_all

@[simp] theorem frameError_steady (s : State) :
    ((frameError s)).steady = s.steady := by
  unfold frameError
  (repeat' split) <;> simp_all

@[simp] theorem bump16_steady (t : ℕ) (r : ℕ) (d : ℕ) (s : State) :
    ((bump16 t r d s)).steady = s.steady := by
  unfold bump16
  (repeat' split) <;> simp_all

@[simp] theorem setChState_steady (c : ℕ) (st : ChState) (s : State) :
    ((setChState c st s)).steady = s.steady := by
  unfold setChState
  (repeat' split) <;> simp_all

@[simp] theorem promiseBroken_steady (stall : Bool) (no : ℕ) (cs : List ℕ) (s : State) :
    ((promiseBroken stall no cs s)).steady = s.steady := by
  unfold promiseBroken
  (repeat' split) <;> simp_all

@[simp] theorem faultRecord_steady (src : ℕ) (unit : ℕ) (chan : ℕ) (flags : ℕ) (detail : ℕ) (detail2 : ℕ) (s : State) :
    ((faultRecord src unit chan flags detail detail2 s)).steady = s.steady := by
  unfold faultRecord
  (repeat' split) <;> simp_all

@[simp] theorem chargeChannel_steady (c : ℕ) (s : State) :
    ((chargeChannel c s)).steady = s.steady := by
  unfold chargeChannel
  (repeat' split) <;> simp_all

@[simp] theorem tickFault_steady (src : ℕ) (unit : ℕ) (c : ℕ) (no : ℕ) (flags : ℕ) (detail : ℕ) (detail2 : ℕ) (s : State) :
    ((tickFault src unit c no flags detail detail2 s)).steady = s.steady := by
  unfold tickFault
  (repeat' split) <;> simp_all

@[simp] theorem numberEntry_steady (bs : List Byte) (s : State) :
    ((numberEntry bs s)).steady = s.steady := by
  unfold numberEntry
  (repeat' split) <;> simp_all

@[simp] theorem journal_steady (typ : ℕ) (chan : ℕ) (cls : ℕ) (flags : ℕ) (score : ℕ) (aux : ℕ) (rim : ℕ) (tb : ℕ) (payload : List Sys2Proof.Byte) (s : State) :
    ((journal typ chan cls flags score aux rim tb payload s)).steady = s.steady := by
  unfold journal
  (repeat' split) <;> simp_all

@[simp] theorem collectEntries_steady (s : State) :
    ((collectEntries s)).steady = s.steady := by
  unfold collectEntries
  (repeat' split) <;> simp_all

@[simp] theorem settleEntries_steady (s : State) :
    ((settleEntries s)).steady = s.steady := by
  unfold settleEntries
  (repeat' split) <;> simp_all

@[simp] theorem startHold_steady (c : ℕ) (t : ℕ) (s : State) :
    ((startHold c t s)).steady = s.steady := by
  unfold startHold
  (repeat' split) <;> simp_all

@[simp] theorem State_takeFree_steady (s : State) :
    ((State.takeFree s).2).steady = s.steady := by
  unfold State.takeFree
  (repeat' split) <;> simp_all

@[simp] theorem latchRegs_steady (c : ℕ) (score : ℕ) (kind : ℕ) (cls : ℕ) (srcB : Bool) (s : State) :
    ((latchRegs c score kind cls srcB s)).steady = s.steady := by
  unfold latchRegs
  (repeat' split) <;> simp_all

@[simp] theorem formReport_steady (s : State) :
    ((formReport s)).steady = s.steady := by
  unfold formReport
  (repeat' split) <;> simp_all

@[simp] theorem journalVerdict_steady (c : ℕ) (cls : ℕ) (kind : ℕ) (flags : ℕ) (score : ℕ) (payload : List Sys2Proof.Byte) (s : State) :
    ((journalVerdict c cls kind flags score payload s)).steady = s.steady := by
  unfold journalVerdict
  (repeat' split) <;> simp_all

@[simp] theorem latchUsed_steady (c : ℕ) (score : ℕ) (kind : ℕ) (payload : List Sys2Proof.Byte) (s : State) :
    ((latchUsed c score kind payload s)).steady = s.steady := by
  unfold latchUsed
  (repeat' split) <;> simp_all

@[simp] theorem latchTrial_steady (c : ℕ) (score : ℕ) (kind : ℕ) (payload : List Sys2Proof.Byte) (s : State) :
    ((latchTrial c score kind payload s)).steady = s.steady := by
  unfold latchTrial
  (repeat' split) <;> simp_all

@[simp] theorem latchLate_steady (c : Nat) (score : Nat) (kind : Nat) (brk : Bool) (bt : Nat) (rim : Nat) (tb : Nat) (payload : List Byte) (s : State) :
    ((latchLate c score kind brk bt rim tb payload s)).steady = s.steady := by
  unfold latchLate
  (repeat' split) <;> simp_all

@[simp] theorem latchButtress_steady (c : ℕ) (cls : ℕ) (s : State) :
    ((latchButtress c cls s)).steady = s.steady := by
  unfold latchButtress
  (repeat' split) <;> simp_all

@[simp] theorem latchEngine_steady (c : Nat) (no : Nat) (score : Nat) (kind : Nat) (clean : Bool) (bt : Nat) (rim : Nat) (tb : Nat) (payload : List Byte) (s : State) :
    ((latchEngine c no score kind clean bt rim tb payload s)).steady = s.steady := by
  unfold latchEngine
  (repeat' split) <;> simp_all

@[simp] theorem guardChannel_steady (c : ℕ) (s : State) :
    ((guardChannel c s)).steady = s.steady := by
  unfold guardChannel
  (repeat' split) <;> simp_all

@[simp] theorem closeTick_steady (s : State) :
    ((closeTick s)).steady = s.steady := by
  unfold closeTick
  (repeat' split) <;> simp_all

@[simp] theorem vdDrive_steady (s : State) :
    ((vdDrive s)).steady = s.steady := by
  unfold vdDrive
  (repeat' split) <;> simp_all

@[simp] theorem State_modLearn_steady (s : State) (c : ℕ) (f : Learn → Learn) :
    ((State.modLearn s c f)).steady = s.steady := by
  unfold State.modLearn
  (repeat' split) <;> simp_all

@[simp] theorem State_modDrift_steady (s : State) (c : ℕ) (f : Drift → Drift) :
    ((State.modDrift s c f)).steady = s.steady := by
  unfold State.modDrift
  (repeat' split) <;> simp_all

@[simp] theorem swapBanks_steady (c : ℕ) (s : State) :
    ((swapBanks c s)).steady = s.steady := by
  unfold swapBanks
  (repeat' split) <;> simp_all

@[simp] theorem setReady_steady (c : ℕ) (f : Option Bool) (s : State) :
    ((setReady c f s)).steady = s.steady := by
  unfold setReady
  (repeat' split) <;> simp_all

@[simp] theorem edgeSwap_steady (c : ℕ) (s : State) :
    ((edgeSwap c s)).steady = s.steady := by
  unfold edgeSwap
  (repeat' split) <;> simp_all

@[simp] theorem settleSweep_steady (c : ℕ) (s : State) :
    ((settleSweep c s)).steady = s.steady := by
  unfold settleSweep
  (repeat' split) <;> simp_all

@[simp] theorem dropPending_steady (c : ℕ) (s : State) :
    ((dropPending c s)).steady = s.steady := by
  unfold dropPending
  (repeat' split) <;> simp_all

@[simp] theorem startSweep_steady (c : ℕ) (s : State) :
    ((startSweep c s)).steady = s.steady := by
  unfold startSweep
  (repeat' split) <;> simp_all

@[simp] theorem endEpoch_steady (c : ℕ) (held : Bool) (rim : ℕ) (tb : ℕ) (s : State) :
    ((endEpoch c held rim tb s)).steady = s.steady := by
  unfold endEpoch
  (repeat' split) <;> simp_all

@[simp] theorem completeSweep_steady (c : ℕ) (s : State) :
    ((completeSweep c s)).steady = s.steady := by
  unfold completeSweep
  (repeat' split) <;> simp_all

@[simp] theorem sweepPartDone_steady (c : ℕ) (e : ℕ) (s : State) :
    ((sweepPartDone c e s)).steady = s.steady := by
  unfold sweepPartDone
  (repeat' split) <;> simp_all

@[simp] theorem sweepTrapped_steady (c : ℕ) (s : State) :
    ((sweepTrapped c s)).steady = s.steady := by
  unfold sweepTrapped
  (repeat' split) <;> simp_all

@[simp] theorem storePut_steady (e : ℕ) (a : ℕ) (bs : List Sys2Proof.Byte) (s : State) :
    ((storePut e a bs s)).steady = s.steady := by
  unfold storePut
  (repeat' split) <;> simp_all

@[simp] theorem queueTest_steady (i : Sys2Proof.BankId) (column : ℕ) (s : State) :
    ((queueTest i column s)).steady = s.steady := by
  unfold queueTest
  (repeat' split) <;> simp_all

@[simp] theorem memRecord_steady (unit : ℕ) (c : Option ℕ) (flags : ℕ) (detail : ℕ) (detail2 : ℕ) (s : State) :
    ((memRecord unit c flags detail detail2 s)).steady = s.steady := by
  unfold memRecord
  (repeat' split) <;> simp_all

@[simp] theorem storeReadEvents_steady (e : ℕ) (a : ℕ) (n : ℕ) (c : Option ℕ) (s : State) :
    ((storeReadEvents e a n c s)).steady = s.steady := by
  unfold storeReadEvents
  (repeat' split) <;> simp_all

@[simp] theorem holdFault_steady (e : ℕ) (code : ℕ) (pc : Option ℕ) (s : State) :
    ((holdFault e code pc s)).steady = s.steady := by
  unfold holdFault
  (repeat' split) <;> simp_all

@[simp] theorem engineRecord_steady (e : ℕ) (code : ℕ) (pc : ℕ) (stops : Bool) (k : ProgKind) (no : ℕ) (s : State) :
    ((engineRecord e code pc stops k no s)).steady = s.steady := by
  unfold engineRecord
  (repeat' split) <;> simp_all

@[simp] theorem liftAfter_steady (e : ℕ) (no : ℕ) (s : State) :
    ((liftAfter e no s)).steady = s.steady := by
  unfold liftAfter
  (repeat' split) <;> simp_all

@[simp] theorem clearRun_steady (e : ℕ) (s : State) :
    ((clearRun e s)).steady = s.steady := by
  unfold clearRun
  (repeat' split) <;> simp_all

@[simp] theorem settleDrift_steady (c : ℕ) (s : State) :
    ((settleDrift c s)).steady = s.steady := by
  unfold settleDrift
  (repeat' split) <;> simp_all

@[simp] theorem tickPartEnded_steady (c : ℕ) (e : ℕ) (s : State) :
    ((tickPartEnded c e s)).steady = s.steady := by
  unfold tickPartEnded
  (repeat' split) <;> simp_all

@[simp] theorem dropWaiter_steady (e : ℕ) (tick : Bool) (s : State) :
    ((dropWaiter e tick s)).steady = s.steady := by
  unfold dropWaiter
  (repeat' split) <;> simp_all

@[simp] theorem dropDue_steady (x : Nat) (c : Nat) (s : State) :
    ((dropDue x c s)).steady = s.steady := by
  unfold dropDue
  (repeat' split) <;> simp_all

@[simp] theorem endPart_steady (x : Nat) (c : Nat) (s : State) :
    ((endPart x c s)).steady = s.steady := by
  unfold endPart
  (repeat' split) <;> simp_all

@[simp] theorem stopOtherParts_steady (c e : Nat) (s : State) :
    (stopOtherParts c e s).steady = s.steady := by
  unfold stopOtherParts
  refine foldS_steady _ _ _ (fun x s => ?_)
  (repeat' split) <;> simp

@[simp] theorem trapped_steady (e : ℕ) (code : ℕ) (pc : ℕ) (k : ProgKind) (no : ℕ) (s : State) :
    ((trapped e code pc k no s)).steady = s.steady := by
  unfold trapped
  (repeat' split) <;> simp_all

@[simp] theorem fixBank_steady (r : Run) (s : State) :
    ((fixBank r s)).steady = s.steady := by
  unfold fixBank
  (repeat' split) <;> simp_all

@[simp] theorem launch_steady (e : ℕ) (r : Run) (s : State) :
    ((launch e r s)).steady = s.steady := by
  unfold launch
  (repeat' split) <;> simp_all

@[simp] theorem startNext_steady (e : ℕ) (s : State) :
    ((startNext e s)).steady = s.steady := by
  unfold startNext
  (repeat' split) <;> simp_all

@[simp] theorem startDue_steady (x0 : ℕ) (x1 : State) :
    ((startDue x0 x1)).steady = x1.steady := by
  induction x0 generalizing x1 with
  | zero => rfl
  | succ n ih => unfold startDue; split <;> simp [ih]

@[simp] theorem startAllDue_steady (s : State) :
    ((startAllDue s)).steady = s.steady := by
  unfold startAllDue
  (repeat' split) <;> simp_all

@[simp] theorem trap_steady (e : ℕ) (code : ℕ) (s : State) :
    ((trap e code s)).steady = s.steady := by
  unfold trap
  (repeat' split) <;> simp_all

@[simp] theorem startBackground_steady (e : ℕ) (s : State) :
    ((startBackground e s)).steady = s.steady := by
  unfold startBackground
  (repeat' split) <;> (try simp) <;> (repeat' split) <;> (try simp) <;> (repeat' split) <;> simp_all

@[simp] theorem suspendBg_steady (e : ℕ) (s : State) :
    ((suspendBg e s)).steady = s.steady := by
  unfold suspendBg
  (repeat' split) <;> simp_all

@[simp] theorem fenceAll_steady (s : State) :
    ((fenceAll s)).steady = s.steady := by
  unfold fenceAll
  (repeat' split) <;> simp_all

@[simp] theorem enterActive_steady (c : ℕ) (s : State) :
    ((enterActive c s)).steady = s.steady := by
  unfold enterActive
  (repeat' split) <;> simp_all

@[simp] theorem enterEnabled_steady (c : ℕ) (s : State) :
    ((enterEnabled c s)).steady = s.steady := by
  unfold enterEnabled
  (repeat' split) <;> simp_all

@[simp] theorem finishShutdown_steady (c : ℕ) (s : State) :
    ((finishShutdown c s)).steady = s.steady := by
  unfold finishShutdown
  (repeat' split) <;> simp_all

@[simp] theorem shutdown_steady (c : ℕ) (s : State) :
    ((shutdown c s)).steady = s.steady := by
  unfold shutdown
  (repeat' split) <;> simp_all

@[simp] theorem enableEdge_steady (c : ℕ) (s : State) :
    ((enableEdge c s)).steady = s.steady := by
  unfold enableEdge
  (repeat' split) <;> simp_all

@[simp] theorem stopStarts_steady (c : Nat) (s : State) :
    ((stopStarts c s)).steady = s.steady := by
  unfold stopStarts
  (repeat' split) <;> simp_all

@[simp] theorem disableEdge_steady (c : ℕ) (s : State) :
    ((disableEdge c s)).steady = s.steady := by
  unfold disableEdge
  (repeat' split) <;> simp_all

@[simp] theorem learnEdge_steady (c : ℕ) (s : State) :
    ((learnEdge c s)).steady = s.steady := by
  unfold learnEdge
  (repeat' split) <;> simp_all

@[simp] theorem mapsEdge_steady (c : ℕ) (s : State) :
    ((mapsEdge c s)).steady = s.steady := by
  unfold mapsEdge
  (repeat' split) <;> simp_all

@[simp] theorem driftEdge_steady (c : ℕ) (s : State) :
    ((driftEdge c s)).steady = s.steady := by
  unfold driftEdge
  (repeat' split) <;> simp_all

@[simp] theorem enterRetired_steady (c : ℕ) (cause : ℕ) (s : State) :
    ((enterRetired c cause s)).steady = s.steady := by
  unfold enterRetired
  (repeat' split) <;> simp_all

@[simp] theorem retireChannel_steady (c : ℕ) (cause : ℕ) (s : State) :
    ((retireChannel c cause s)).steady = s.steady := by
  unfold retireChannel
  (repeat' split) <;> simp_all

@[simp] theorem shadowFail_steady (c : ℕ) (failed : ℕ) (cause : ℕ) (s : State) :
    ((shadowFail c failed cause s)).steady = s.steady := by
  unfold shadowFail
  (repeat' split) <;> simp_all

@[simp] theorem readmitChannel_steady (c : ℕ) (s : State) :
    ((readmitChannel c s)).steady = s.steady := by
  unfold readmitChannel
  (repeat' split) <;> simp_all

@[simp] theorem commandEdge_steady (c : ℕ) (s : State) :
    ((commandEdge c s)).steady = s.steady := by
  unfold commandEdge
  (repeat' split) <;> (try simp) <;> (repeat' split) <;> (try simp) <;> (repeat' split) <;> simp_all

@[simp] theorem watchEnds_steady (c : Nat) (s : State) :
    ((watchEnds c s)).steady = s.steady := by
  unfold watchEnds
  (repeat' split) <;> simp_all

@[simp] theorem endWindow_steady (c : ℕ) (s : State) :
    ((endWindow c s)).steady = s.steady := by
  unfold endWindow
  (repeat' split) <;> simp_all

@[simp] theorem windowEdge_steady (c : ℕ) (s : State) :
    ((windowEdge c s)).steady = s.steady := by
  unfold windowEdge
  (repeat' split) <;> simp_all

@[simp] theorem countFault_steady (c : ℕ) (s : State) :
    ((countFault c s)).steady = s.steady := by
  unfold countFault
  (repeat' split) <;> simp_all

@[simp] theorem shadowTick_steady (c : ℕ) (s : State) :
    ((shadowTick c s)).steady = s.steady := by
  unfold shadowTick
  (repeat' split) <;> simp_all

@[simp] theorem shadowBoundary_steady (c : ℕ) (s : State) :
    ((shadowBoundary c s)).steady = s.steady := by
  unfold shadowBoundary
  (repeat' split) <;> simp_all

@[simp] theorem epochAdvance_steady (c : ℕ) (s : State) :
    ((epochAdvance c s)).steady = s.steady := by
  unfold epochAdvance
  (repeat' split) <;> simp_all

@[simp] theorem epochBoundary_steady (c : ℕ) (held : Bool) (rim : ℕ) (tb : ℕ) (s : State) :
    ((epochBoundary c held rim tb s)).steady = s.steady := by
  unfold epochBoundary
  (repeat' split) <;> simp_all

@[simp] theorem leaveButtress_steady (c : ℕ) (s : State) :
    ((leaveButtress c s)).steady = s.steady := by
  unfold leaveButtress
  (repeat' split) <;> simp_all

@[simp] theorem retiredMap_steady (c : Nat) (s : State) :
    ((retiredMap c s)).steady = s.steady := by
  unfold retiredMap
  (repeat' split) <;> simp_all

@[simp] theorem channelEdge_steady (rim : ℕ) (tb : ℕ) (leaving : Bool) (c : ℕ) (s : State) :
    ((channelEdge rim tb leaving c s)).steady = s.steady := by
  unfold channelEdge
  (repeat' split) <;> simp_all

@[simp] theorem cistUeRecord_steady (c : Option ℕ) (w : ℕ) (s : State) :
    ((cistUeRecord c w s)).steady = s.steady := by
  unfold cistUeRecord
  (repeat' split) <;> simp_all

@[simp] theorem cistReadEvents_steady (a : ℕ) (n : ℕ) (c : Option ℕ) (s : State) :
    ((cistReadEvents a n c s)).steady = s.steady := by
  unfold cistReadEvents
  (repeat' split) <;> simp_all

@[simp] theorem cistPut_steady (a : ℕ) (bs : List Sys2Proof.Byte) (s : State) :
    ((cistPut a bs s)).steady = s.steady := by
  unfold cistPut
  (repeat' split) <;> simp_all

@[simp] theorem compare_steady (w : ℕ) (c : ℕ) (s : State) :
    ((compare w c s)).steady = s.steady := by
  unfold compare
  (repeat' split) <;> simp_all

@[simp] theorem ringWrite_steady (w : ℕ) (i : ℕ) (v : ℤ) (s : State) :
    ((ringWrite w i v s)).steady = s.steady := by
  unfold ringWrite
  (repeat' split) <;> simp_all

@[simp] theorem overrun_steady (w : ℕ) (s : State) :
    ((overrun w s)).steady = s.steady := by
  unfold overrun
  (repeat' split) <;> simp_all

@[simp] theorem capture_steady (w : ℕ) (data : ℕ) (opn : Bool) (stuck : Bool) (s : State) :
    ((capture w data opn stuck s)).steady = s.steady := by
  unfold capture
  (repeat' split) <;> simp_all

@[simp] theorem presentSample_steady (w : Nat) (data : Nat) (valid : Bool) (opn : Bool) (stuck : Bool) (s : State) :
    ((presentSample w data valid opn stuck s)).steady = s.steady := by
  unfold presentSample
  (repeat' split) <;> (try simp) <;> (repeat' split) <;> (try simp) <;> (repeat' split) <;> simp_all

@[simp] theorem wellEdge_steady (rim : ℕ) (tb : ℕ) (w : ℕ) (s : State) :
    ((wellEdge rim tb w s)).steady = s.steady := by
  unfold wellEdge
  (repeat' split) <;> simp_all

@[simp] theorem wellsEdge_steady (rim : ℕ) (tb : ℕ) (s : State) :
    ((wellsEdge rim tb s)).steady = s.steady := by
  unfold wellsEdge
  (repeat' split) <;> simp_all

@[simp] theorem cutReads_steady (hit : Nat → Bool) (s : State) :
    ((cutReads hit s)).steady = s.steady := by
  unfold cutReads
  (repeat' split) <;> simp_all

@[simp] theorem startWell_steady (w : ℕ) (s : State) :
    ((startWell w s)).steady = s.steady := by
  unfold startWell
  (repeat' split) <;> simp_all

@[simp] theorem stopWell_steady (w : ℕ) (s : State) :
    ((stopWell w s)).steady = s.steady := by
  unfold stopWell
  (repeat' split) <;> simp_all

@[simp] theorem wellCtrl_steady (w : ℕ) (v : Sys2Proof.Word) (s : State) :
    ((wellCtrl w v s).1).steady = s.steady := by
  unfold wellCtrl
  (repeat' split) <;> (try simp) <;> (repeat' split) <;> (try simp) <;> (repeat' split) <;> simp_all

@[simp] theorem wellWordWrite_steady (w : ℕ) (i : ℕ) (v : Sys2Proof.Word) (s : State) :
    ((wellWordWrite w i v s).1).steady = s.steady := by
  unfold wellWordWrite
  (repeat' split) <;> (try simp) <;> (repeat' split) <;> (try simp) <;> (repeat' split) <;> simp_all

@[simp] theorem clearValid_steady (s : State) :
    ((clearValid s)).steady = s.steady := by
  unfold clearValid
  (repeat' split) <;> simp_all

@[simp] theorem applyTickCtrl_steady (s : State) :
    ((applyTickCtrl s)).steady = s.steady := by
  unfold applyTickCtrl
  (repeat' split) <;> simp_all

@[simp] theorem tickCtrlWritten_steady (s : State) :
    ((tickCtrlWritten s)).steady = s.steady := by
  unfold tickCtrlWritten
  (repeat' split) <;> simp_all

@[simp] theorem measure_steady (d : ℕ) (s : State) :
    ((measure d s)).steady = s.steady := by
  unfold measure
  (repeat' split) <;> simp_all

@[simp] theorem dropAllDue_steady (e : Nat) (s : State) :
    (dropAllDue e s).steady = s.steady := by
  unfold dropAllDue
  refine foldS_steady _ _ _ (fun r s => ?_)
  split <;> simp

@[simp] theorem engEnableEdge_steady (e : ℕ) (s : State) :
    ((engEnableEdge e s)).steady = s.steady := by
  unfold engEnableEdge
  (repeat' split) <;> simp_all

@[simp] theorem engDisableEdge_steady (e : ℕ) (s : State) :
    ((engDisableEdge e s)).steady = s.steady := by
  unfold engDisableEdge
  (repeat' split) <;> simp_all

@[simp] theorem retireEngine_steady (e : ℕ) (cause : ℕ) (s : State) :
    ((retireEngine e cause s)).steady = s.steady := by
  unfold retireEngine
  (repeat' split) <;> simp_all

@[simp] theorem readmitEngine_steady (e : ℕ) (s : State) :
    ((readmitEngine e s)).steady = s.steady := by
  unfold readmitEngine
  (repeat' split) <;> simp_all

@[simp] theorem engineEdge_steady (e : ℕ) (s : State) :
    ((engineEdge e s)).steady = s.steady := by
  unfold engineEdge
  (repeat' split) <;> simp_all

@[simp] theorem scheduleChan_steady (c : ℕ) (s : State) :
    ((scheduleChan c s)).steady = s.steady := by
  unfold scheduleChan
  (repeat' split) <;> simp_all

@[simp] theorem overhangAt_steady (e : ℕ) (s : State) :
    ((overhangAt e s)).steady = s.steady := by
  unfold overhangAt
  (repeat' split) <;> simp_all

@[simp] theorem ingressAt_steady (starts : Nat → Bool) (e : Nat) (s : State) :
    ((ingressAt starts e s)).steady = s.steady := by
  unfold ingressAt
  (repeat' split) <;> simp_all

@[simp] theorem ingress_steady (s : State) :
    ((ingress s)).steady = s.steady := by
  unfold ingress
  (repeat' split) <;> simp_all

@[simp] theorem class8_steady (s : State) :
    ((class8 s)).steady = s.steady := by
  unfold class8
  (repeat' split) <;> simp_all

@[simp] theorem buttressEntry_steady (rim : ℕ) (tb : ℕ) (c : ℕ) (s : State) :
    ((buttressEntry rim tb c s)).steady = s.steady := by
  unfold buttressEntry
  (repeat' split) <;> simp_all

@[simp] theorem beginTick_steady (c : ℕ) (s : State) :
    ((beginTick c s)).steady = s.steady := by
  unfold beginTick
  (repeat' split) <;> simp_all



@[simp] theorem snapPulse_steady (s : State) :
    ((snapPulse s)).steady = s.steady := by
  unfold snapPulse
  (repeat' split) <;> simp_all

@[simp] theorem tickLost_steady (s : State) :
    ((tickLost s)).steady = s.steady := by
  unfold tickLost
  dsimp only
  repeat' split
  all_goals (try rfl)
  all_goals simp


@[simp] theorem guardEdge_steady (s : State) :
    ((guardEdge s)).steady = s.steady := by
  unfold guardEdge
  (repeat' split) <;> simp_all

@[simp] theorem delayedStart_steady (e : ℕ) (s : State) :
    ((delayedStart e s)).steady = s.steady := by
  unfold delayedStart
  (repeat' split) <;> simp_all

@[simp] theorem tripHoldEnd_steady (c : ℕ) (s : State) :
    ((tripHoldEnd c s)).steady = s.steady := by
  unfold tripHoldEnd
  (repeat' split) <;> simp_all

@[simp] theorem State_modPump_steady (s : State) (p : ℕ) (f : Pump → Pump) :
    ((State.modPump s p f)).steady = s.steady := by
  unfold State.modPump
  (repeat' split) <;> simp_all

@[simp] theorem State_modPort_steady (s : State) (p : ℕ) (f : Port → Port) :
    ((State.modPort s p f)).steady = s.steady := by
  unfold State.modPort
  (repeat' split) <;> simp_all

@[simp] theorem tagStall_steady (s : State) :
    ((tagStall s)).steady = s.steady := by
  unfold tagStall
  (repeat' split) <;> simp_all

@[simp] theorem unclean_steady (e : Nat) (c : Nat) (no : Nat) (s : State) :
    ((unclean e c no s)).steady = s.steady := by
  unfold unclean
  (repeat' split) <;> simp_all

@[simp] theorem completionFault_steady (o : PumpOp) (s : State) :
    ((completionFault o s)).steady = s.steady := by
  unfold completionFault
  (repeat' split) <;> simp_all

@[simp] theorem storeCompletion_steady (o : PumpOp) (s : State) :
    ((storeCompletion o s)).steady = s.steady := by
  unfold storeCompletion
  split <;> (try simp [slotDone])

@[simp] theorem freeXid_steady (p : ℕ) (x : ℕ) (s : State) :
    ((freeXid p x s)).steady = s.steady := by
  unfold freeXid
  (repeat' split) <;> simp_all

@[simp] theorem returnXid_steady (o : PumpOp) (s : State) :
    ((returnXid o s)).steady = s.steady := by
  unfold returnXid
  (repeat' split) <;> simp_all

@[simp] theorem completeOp_steady (o : PumpOp) (s : State) :
    ((completeOp o s)).steady = s.steady := by
  unfold completeOp
  (repeat' split) <;> simp_all

@[simp] theorem noteTag_steady (o : PumpOp) (s : State) :
    ((noteTag o s)).steady = s.steady := by
  unfold noteTag
  (repeat' split) <;> simp_all

@[simp] theorem noteXid_steady (o : PumpOp) (s : State) :
    ((noteXid o s)).steady = s.steady := by
  unfold noteXid
  (repeat' split) <;> simp_all

@[simp] theorem notePresented_steady (i : Nat) (s : State) :
    (notePresented i s).steady = s.steady := by
  show (State.modOp s.takeFree.2 i _).steady = s.steady
  simp

@[simp] theorem acceptOp_steady (o : PumpOp) (v : Option Variant) (s : State) :
    ((acceptOp o v s)).steady = s.steady := by
  unfold acceptOp
  (repeat' split) <;> simp_all

@[simp] theorem readPiece_steady (x : Access) (m : Moving) (lanes : List ℤ) :
    ((readPiece x m lanes).1.s).steady = m.s.steady := by
  unfold readPiece
  dsimp only
  repeat' split
  all_goals simp

@[simp] theorem writePiece_steady (x : Access) (m : Moving) (lanes : List (ℤ × List Sys2Proof.Byte)) :
    ((writePiece x m lanes).s).steady = m.s.steady := by
  unfold writePiece
  dsimp only
  repeat' split
  all_goals simp

@[simp] theorem storeReadLanes_steady (e : ℕ) (c : Option ℕ) (m : Moving) (lanes : List ℤ) :
    ((storeReadLanes e c m lanes).1.s).steady = m.s.steady := by
  unfold storeReadLanes
  (repeat' split) <;> simp_all

@[simp] theorem storeWriteLanes_steady (e : ℕ) (tick : Bool) (m : Moving) (lanes : List (ℤ × List Sys2Proof.Byte)) :
    ((storeWriteLanes e tick m lanes).s).steady = m.s.steady := by
  unfold storeWriteLanes
  (repeat' split) <;> simp_all

@[simp] theorem readLanes_steady (x : Access) (d : Desc) (lanes : List (Option ℤ)) (m : Moving) :
    ((readLanes x d lanes m).1.s).steady = m.s.steady := by
  unfold readLanes
  rw [foldl_steadyM1]
  intro m g
  dsimp only
  split
  · rfl
  · next as _ => exact readPiece_steady x m.1 _

@[simp] theorem readStoreLanes_steady (e : ℕ) (c : Option ℕ) (d : Desc) (lanes : List (Option ℤ)) (m : Moving) :
    ((readStoreLanes e c d lanes m).1.s).steady = m.s.steady := by
  unfold readStoreLanes
  rw [foldl_steadyM1]
  intro m g
  dsimp only
  split
  · rfl
  · next as _ => exact storeReadLanes_steady e c m.1 _

@[simp] theorem writeLanes_steady (x : Access) (lanes : List (Option ℤ × List Sys2Proof.Byte)) (m : Moving) :
    ((writeLanes x lanes m).s).steady = m.s.steady := by
  unfold writeLanes
  exact foldl_steadyM _ _ _ (fun m g => writePiece_steady x m _)

@[simp] theorem writeStoreLanes_steady (e : ℕ) (tick : Bool) (lanes : List (Option ℤ × List Sys2Proof.Byte)) (m : Moving) :
    ((writeStoreLanes e tick lanes m).s).steady = m.s.steady := by
  unfold writeStoreLanes
  exact foldl_steadyM _ _ _ (fun m g => storeWriteLanes_steady e tick m _)

@[simp] theorem deliver_steady (o : PumpOp) (x : Access) (ep : Endpoint) (lanes : List (Option ℤ × List Sys2Proof.Byte)) (m : Moving) :
    ((deliver o x ep lanes m).s).steady = m.s.steady := by
  unfold deliver
  (repeat' split) <;> simp_all

@[simp] theorem collect_steady (o : PumpOp) (x : Access) (d : Desc) (ep : Endpoint) (lanes : List (Option ℤ)) (m : Moving) :
    ((collect o x d ep lanes m).1.s).steady = m.s.steady := by
  unfold collect
  (repeat' split) <;> simp_all

@[simp] theorem entryEvents_steady (o : PumpOp) (e : Nat) (s : State) :
    ((entryEvents o e s)).steady = s.steady := by
  unfold entryEvents
  (repeat' split) <;> simp_all

@[simp] theorem readEntries_steady (es : List Nat) (o : PumpOp) (s : State) :
    (readEntries es o s).2.steady = s.steady := by
  induction es generalizing o s with
  | nil => rfl
  | cons e es ih => unfold readEntries; rw [ih]; simp

@[simp] theorem readPost_steady (e : Nat) (r : Run) (i : Ins) (a : Nat) (s : State) :
    (readPost e r i a s).2.steady = s.steady := readEntries_steady _ _ _

@[simp] theorem readLateEntries_steady (i : Nat) (s : State) :
    (readLateEntries i s).steady = s.steady := by
  unfold readLateEntries
  split
  · rfl
  · dsimp only
    split
    · rfl
    · simp

@[simp] theorem Moving_hold_steady (m : Moving) (xs : List (Nat × List Byte)) :
    ((Moving.hold m xs).s).steady = m.s.steady := by
  unfold Moving.hold
  (repeat' split) <;> simp_all

@[simp] theorem readLine_steady (o : PumpOp) (n : Nat) (m : Moving) :
    (readLine o n m).s.steady = m.s.steady := by
  unfold readLine
  dsimp only
  (repeat' split) <;> simp

@[simp] theorem formFrames_steady (o : PumpOp) (d : Desc) (m : Moving) :
    ((formFrames o d m).s).steady = m.s.steady := by
  unfold formFrames
  (repeat' split) <;> simp_all

@[simp] theorem turnTile_steady (d : Desc) (first : Nat) (m : Moving) :
    ((turnTile d first m).s).steady = m.s.steady := by
  unfold turnTile
  (repeat' split) <;> simp_all

@[simp] theorem countFlaw_steady (o : PumpOp) (e : Nat) (n : Nat) (m : Moving) :
    ((countFlaw o e n m).s).steady = m.s.steady := by
  unfold countFlaw
  (repeat' split) <;> simp_all

@[simp] theorem performStep_steady (o : PumpOp) (d : Desc) (m : Moving) (st : PumpStep) :
    ((performStep o d m st).s).steady = m.s.steady := by
  unfold performStep
  (repeat' split) <;> simp_all

@[simp] theorem runSteps_steady (n i : Nat) (s : State) :
    (runSteps n i s).steady = s.steady := by
  unfold runSteps
  dsimp only
  split
  · rfl
  · split
    · rfl
    · rw [State_modOp_steady]
      exact (foldl_steadyM _ _ _ (fun m st => performStep_steady _ _ m st)).trans (readLateEntries_steady i s)

@[simp] theorem advance_steady (fuel n i : Nat) (s : State) :
    (advance fuel n i s).steady = s.steady := by
  induction fuel generalizing n i s with
  | zero => exact runSteps_steady n i s
  | succ fuel ih =>
    unfold advance
    dsimp only
    split
    · rfl
    · rw [runSteps_steady]
      refine (foldS_steady _ _ _ (fun p s => ?_)).trans (readLateEntries_steady i s)
      split
      · split
        · rw [ih, readLateEntries_steady]
        · rfl
      · rfl

@[simp] theorem advanceOp_steady (n i : Nat) (s : State) :
    (advanceOp n i s).steady = s.steady := advance_steady _ n i s

@[simp] theorem orderIssuer_steady (mine : Issuer → Bool) (store : Bool) (xs : List (Nat × Nat)) (s : State) :
    (orderIssuer mine store xs s).steady = s.steady := by
  unfold orderIssuer
  refine foldS_steady _ _ _ (fun i s => ?_)
  dsimp only
  split <;> simp

@[simp] theorem pumpMove_steady (want : DOp) (i : ℕ) (defer : ℕ) (s : State) :
    ((pumpMove want i defer s)).steady = s.steady := by
  unfold pumpMove
  (repeat' split) <;> simp_all

@[simp] theorem sealIssuer_steady (mine : Issuer → Bool) (s : State) :
    ((sealIssuer mine s)).steady = s.steady := by
  unfold sealIssuer
  (repeat' split) <;> simp_all

@[simp] theorem pumpComplete_steady (i : ℕ) (s : State) :
    ((pumpComplete i s)).steady = s.steady := by
  unfold pumpComplete
  (repeat' split) <;> simp_all

@[simp] theorem wellWaitEnd_steady (i : ℕ) (s : State) :
    ((wellWaitEnd i s)).steady = s.steady := by
  unfold wellWaitEnd
  (repeat' split) <;> simp_all

@[simp] theorem releaseWaiter_steady (w : ℕ × Bool) (s : State) :
    ((releaseWaiter w s)).steady = s.steady := by
  unfold releaseWaiter
  (repeat' split) <;> simp_all

@[simp] theorem ringBell_steady (b : ℕ) (k : ℕ) (s : State) :
    ((ringBell b k s).1).steady = s.steady := by
  unfold ringBell
  (repeat' split) <;> simp_all

@[simp] theorem loadBell_steady (b : ℕ) (v : ℕ) (s : State) :
    ((loadBell b v s)).steady = s.steady := by
  unfold loadBell
  (repeat' split) <;> simp_all

@[simp] theorem takeBell_steady (b : ℕ) (s : State) :
    ((takeBell b s)).steady = s.steady := by
  unfold takeBell
  (repeat' split) <;> simp_all

@[simp] theorem engineRing_steady (e : ℕ) (b : ℕ) (k : ℕ) (r : Run) (s : State) :
    ((engineRing e b k r s)).steady = s.steady := by
  unfold engineRing
  have h := ringBell_steady b k s
  dsimp only
  repeat' split
  all_goals simp_all

@[simp] theorem supervisorRing_steady (b : ℕ) (k : ℕ) (s : State) :
    ((supervisorRing b k s)).steady = s.steady := by
  unfold supervisorRing
  have h := ringBell_steady b k s
  dsimp only
  repeat' split
  all_goals simp_all

@[simp] theorem State_modRun_steady (s : State) (e : ℕ) (f : Run → Run) :
    ((State.modRun s e f)).steady = s.steady := by
  unfold State.modRun
  (repeat' split) <;> simp_all

@[simp] theorem next_steady (e : ℕ) (s : State) :
    ((next e s)).steady = s.steady := by
  unfold next
  (repeat' split) <;> simp_all

@[simp] theorem endTileRun_steady (e : ℕ) (s : State) :
    ((endTileRun e s)).steady = s.steady := by
  unfold endTileRun
  (repeat' split) <;> (try simp) <;> (repeat' split) <;> (try simp) <;> (repeat' split) <;> simp_all

@[simp] theorem doTile_steady (e : ℕ) (r : Run) (m : TileMode) (i : Ins) (ts : List Touch) (s : State) :
    ((doTile e r m i ts s)).steady = s.steady := by
  unfold doTile
  (repeat' split) <;> simp_all

@[simp] theorem doVec_steady (e : ℕ) (o : VecOp) (i : Ins) (ts : List Touch) (s : State) :
    ((doVec e o i ts s)).steady = s.steady := by
  unfold doVec
  (repeat' split) <;> simp_all

@[simp] theorem doRed_steady (e : ℕ) (o : RedOp) (i : Ins) (ts : List Touch) (s : State) :
    ((doRed e o i ts s)).steady = s.steady := by
  unfold doRed
  (repeat' split) <;> simp_all

@[simp] theorem doCmp_steady (e : ℕ) (o : CmpOp) (i : Ins) (ts : List Touch) (s : State) :
    ((doCmp e o i ts s)).steady = s.steady := by
  unfold doCmp
  (repeat' split) <;> simp_all

@[simp] theorem doTrace_steady (e : ℕ) (r : Run) (i : Ins) (ts : List Touch) (s : State) :
    ((doTrace e r i ts s)).steady = s.steady := by
  unfold doTrace
  (repeat' split) <;> simp_all

@[simp] theorem doSrnd_steady (e : ℕ) (i : Ins) (ts : List Touch) (s : State) :
    ((doSrnd e i ts s)).steady = s.steady := by
  unfold doSrnd
  (repeat' split) <;> simp_all

@[simp] theorem doDgate_steady (e : ℕ) (r : Run) (i : Ins) (ts : List Touch) (s : State) :
    ((doDgate e r i ts s)).steady = s.steady := by
  unfold doDgate
  (repeat' split) <;> simp_all

@[simp] theorem doLoop_steady (e : ℕ) (r : Run) (i : Ins) (s : State) :
    ((doLoop e r i s)).steady = s.steady := by
  unfold doLoop
  (repeat' split) <;> simp_all

@[simp] theorem doBr_steady (e : ℕ) (r : Run) (i : Ins) (s : State) :
    ((doBr e r i s)).steady = s.steady := by
  unfold doBr
  (repeat' split) <;> simp_all

@[simp] theorem doAwait_steady (e : ℕ) (b : ℕ) (r : Run) (s : State) :
    ((doAwait e b r s)).steady = s.steady := by
  unfold doAwait
  (repeat' split) <;> simp_all

@[simp] theorem doSeal_steady (e : ℕ) (s : State) :
    ((doSeal e s)).steady = s.steady := by
  unfold doSeal
  (repeat' split) <;> simp_all

@[simp] theorem stallPost_steady (e : Nat) (r : Run) (v : Variant) (o : PumpOp) (s : State) :
    ((stallPost e r v o s)).steady = s.steady := by
  unfold stallPost
  (repeat' split) <;> simp_all

@[simp] theorem doTens_steady (e : Nat) (r : Run) (i : Ins) (v : Variant) (ts : List Touch) (s : State) :
    (doTens e r i v ts s).steady = s.steady := by
  unfold doTens
  dsimp only
  (repeat' split) <;> simp

@[simp] theorem doHalt_steady (e : ℕ) (r : Run) (s : State) :
    ((doHalt e r s)).steady = s.steady := by
  unfold doHalt
  (repeat' split) <;> simp_all

@[simp] theorem countTick_steady (c : ℕ) (s : State) :
    ((countTick c s)).steady = s.steady := by
  unfold countTick
  (repeat' split) <;> simp_all

@[simp] theorem endTick_steady (c : ℕ) (e : ℕ) (r : Run) (strokes : ℕ) (lane : List Sys2Proof.Byte) (s : State) :
    ((endTick c e r strokes lane s)).steady = s.steady := by
  unfold endTick
  (repeat' split) <;> simp_all

@[simp] theorem doHaltV_steady (e : ℕ) (r : Run) (strokes : ℕ) (ts : List Touch) (s : State) :
    ((doHaltV e r strokes ts s)).steady = s.steady := by
  unfold doHaltV
  (repeat' split) <;> simp_all

@[simp] theorem readEvents_steady (e : ℕ) (r : Run) (rs : List (ℕ × ℕ)) (s : State) :
    ((readEvents e r rs s)).steady = s.steady := by
  unfold readEvents
  (repeat' split) <;> simp_all

@[simp] theorem fetchEvents_steady (e : Nat) (r : Run) (s : State) :
    ((fetchEvents e r s)).steady = s.steady := by
  unfold fetchEvents
  (repeat' split) <;> simp_all

@[simp] theorem perform_steady (e : ℕ) (r : Run) (strokes : ℕ) (i : Ins) (ts : List Touch) (s : State) :
    ((perform e r strokes i ts s)).steady = s.steady := by
  unfold perform
  (repeat' split) <;> simp_all

@[simp] theorem issueIns_steady (e : ℕ) (r : Run) (strokes : ℕ) (i : Ins) (s : State) :
    ((issueIns e r strokes i s)).steady = s.steady := by
  unfold issueIns
  (repeat' split) <;> simp_all

@[simp] theorem issue_steady (want : EOp → Bool) (strokes : ℕ) (e : ℕ) (s : State) :
    ((issue want strokes e s)).steady = s.steady := by
  unfold issue
  (repeat' split) <;> simp_all

@[simp] theorem stopHalting_steady (e : Nat) (r : Run) (s : State) :
    ((stopHalting e r s)).steady = s.steady := by
  unfold stopHalting
  (repeat' split) <;> simp_all

@[simp] theorem grantEngine_steady (tick : Bool) (e : Nat) (s : State) :
    ((grantEngine tick e s)).steady = s.steady := by
  unfold grantEngine
  (repeat' split) <;> (try simp) <;> (repeat' split) <;> (try simp) <;> (repeat' split) <;> simp_all

@[simp] theorem putLanes_steady (p : ℕ) (bs : List Sys2Proof.Byte) (s : State) :
    ((putLanes p bs s)).steady = s.steady := by
  unfold putLanes
  (repeat' split) <;> simp_all

@[simp] theorem sendControl_steady (p : ℕ) (t : ℕ) (seq : ℕ) (s : State) :
    ((sendControl p t seq s)).steady = s.steady := by
  unfold sendControl
  (repeat' split) <;> simp_all

@[simp] theorem sendNak_steady (p : ℕ) (s : State) :
    ((sendNak p s)).steady = s.steady := by
  unfold sendNak
  (repeat' split) <;> simp_all

@[simp] theorem flushLate_steady (p : ℕ) (s : State) :
    ((flushLate p s)).steady = s.steady := by
  unfold flushLate
  (repeat' split) <;> simp_all

@[simp] theorem sendPlain_steady (p : ℕ) (bs : List Sys2Proof.Byte) (s : State) :
    ((sendPlain p bs s)).steady = s.steady := by
  unfold sendPlain
  (repeat' split) <;> simp_all

@[simp] theorem inject_steady (p : ℕ) (bs : List Sys2Proof.Byte) (s : State) :
    ((inject p bs s)).steady = s.steady := by
  unfold inject
  (repeat' split) <;> simp_all

@[simp] theorem transmit_steady (p : ℕ) (seq : ℕ) (f : TxFrame) (s : State) :
    ((transmit p seq f s)).steady = s.steady := by
  unfold transmit
  (repeat' split) <;> simp_all

@[simp] theorem enqueue_steady (p : ℕ) (f : TxFrame) (s : State) :
    ((enqueue p f s)).steady = s.steady := by
  unfold enqueue
  (repeat' split) <;> simp_all

@[simp] theorem sendHead_steady (p : ℕ) (s : State) :
    ((sendHead p s)).steady = s.steady := by
  unfold sendHead
  (repeat' split) <;> simp_all

@[simp] theorem measured_steady (p : Nat) (offset : Int) (skew : Nat) (s : State) :
    ((measured p offset skew s)).steady = s.steady := by
  unfold measured
  (repeat' split) <;> simp_all

@[simp] theorem replayFrom_steady (p : ℕ) (n : ℕ) (s : State) :
    ((replayFrom p n s)).steady = s.steady := by
  unfold replayFrom
  (repeat' split) <;> simp_all

@[simp] theorem takeAck_steady (p : ℕ) (a : ℕ) (s : State) :
    ((takeAck p a s)).steady = s.steady := by
  unfold takeAck
  (repeat' split) <;> simp_all

@[simp] theorem takeCredit_steady (p : ℕ) (c : ℕ) (s : State) :
    ((takeCredit p c s)).steady = s.steady := by
  unfold takeCredit
  (repeat' split) <;> simp_all

@[simp] theorem ensureAck_steady (p : ℕ) (s : State) :
    ((ensureAck p s)).steady = s.steady := by
  unfold ensureAck
  (repeat' split) <;> simp_all

@[simp] theorem setLink_steady (p : ℕ) (st : LinkSt) (s : State) :
    ((setLink p st s)).steady = s.steady := by
  unfold setLink
  (repeat' split) <;> simp_all

@[simp] theorem freezeXfers_steady (p : ℕ) (s : State) :
    ((freezeXfers p s)).steady = s.steady := by
  unfold freezeXfers
  (repeat' split) <;> simp_all

@[simp] theorem runXfers_steady (p : ℕ) (s : State) :
    ((runXfers p s)).steady = s.steady := by
  unfold runXfers
  (repeat' split) <;> simp_all

@[simp] theorem leaveUp_steady (p : ℕ) (reason : ℕ) (paused : Bool) (s : State) :
    ((leaveUp p reason paused s)).steady = s.steady := by
  unfold leaveUp
  (repeat' split) <;> simp_all

@[simp] theorem feedLanes_steady (p : Nat) (b0 : List (BitVec 66)) (b1 : List (BitVec 66)) (s : State) :
    ((feedLanes p b0 b1 s)).steady = s.steady := by
  unfold feedLanes
  (repeat' split) <;> simp_all

@[simp] theorem loseTransfers_steady (p : ℕ) (s : State) :
    ((loseTransfers p s)).steady = s.steady := by
  unfold loseTransfers
  (repeat' split) <;> simp_all

@[simp] theorem endPeerService_steady (p : ℕ) (s : State) :
    ((endPeerService p s)).steady = s.steady := by
  unfold endPeerService
  (repeat' split) <;> simp_all

@[simp] theorem clearSequence_steady (p : ℕ) (s : State) :
    ((clearSequence p s)).steady = s.steady := by
  unfold clearSequence
  (repeat' split) <;> simp_all

@[simp] theorem killPort_steady (p : ℕ) (st : LinkSt) (s : State) :
    ((killPort p st s)).steady = s.steady := by
  unfold killPort
  (repeat' split) <;> simp_all

@[simp] theorem linkControl_steady (p : ℕ) (s : State) :
    ((linkControl p s)).steady = s.steady := by
  unfold linkControl
  (repeat' split) <;> simp_all

@[simp] theorem retryStep_steady (p : ℕ) (s : State) :
    ((retryStep p s)).steady = s.steady := by
  unfold retryStep
  (repeat' split) <;> simp_all

@[simp] theorem retryWindowEnd_steady (p : ℕ) (s : State) :
    ((retryWindowEnd p s)).steady = s.steady := by
  unfold retryWindowEnd
  (repeat' split) <;> simp_all

@[simp] theorem blockLockRegained_steady (p : Nat) (b0 : List (BitVec 66)) (b1 : List (BitVec 66)) (s : State) :
    ((blockLockRegained p b0 b1 s)).steady = s.steady := by
  unfold blockLockRegained
  (repeat' split) <;> simp_all

@[simp] theorem laneLockLost_steady (p : Nat) (lane : Nat) (ws : List (BitVec 66)) (s : State) :
    ((laneLockLost p lane ws s)).steady = s.steady := by
  unfold laneLockLost
  (repeat' split) <;> simp_all

@[simp] theorem replayTimer_steady (p : ℕ) (s : State) :
    ((replayTimer p s)).steady = s.steady := by
  unfold replayTimer
  (repeat' split) <;> simp_all

@[simp] theorem heldFrameTimeout_steady (p : ℕ) (s : State) :
    ((heldFrameTimeout p s)).steady = s.steady := by
  unfold heldFrameTimeout
  (repeat' split) <;> simp_all

@[simp] theorem queueBlock_steady (o : PumpOp) (d : Desc) (e : ℕ) (m : Moving) :
    ((queueBlock o d e m).s).steady = m.s.steady := by
  unfold queueBlock
  dsimp only
  rw [foldS_steady _ _ _ (fun a s => by simp), collect_steady]

@[simp] theorem settleRemote_steady (i : ℕ) (s : State) :
    ((settleRemote i s)).steady = s.steady := by
  unfold settleRemote
  (repeat' split) <;> simp_all

@[simp] theorem takeXid_steady (i : ℕ) (s : State) :
    ((takeXid i s)).steady = s.steady := by
  unfold takeXid
  (repeat' split) <;> simp_all

@[simp] theorem remoteSend_steady (read : Bool) (i : ℕ) (s : State) :
    ((remoteSend read i s)).steady = s.steady := by
  unfold remoteSend
  extract_lets s0
  have h0 : s0.steady = s.steady := by
    unfold s0
    repeat' split
    all_goals simp
  split
  · exact h0
  · dsimp only
    split
    · exact h0
    · refine (settleRemote_steady _ _).trans ((State_modOp_steady _ _ _).trans ?_)
      have h2 : ∀ (f : Moving → Nat → Moving) (xs : List Nat) (m : Moving), (∀ m e, (f m e).s.steady = m.s.steady) →
          m.s.steady = s.steady → (xs.foldl f m).s.steady = s.steady := fun f xs m hf hm => (foldl_steadyM f xs m hf).trans hm
      split
      · refine h2 _ _ _ (fun m e => countFlaw_steady _ _ _ _) ?_
        exact (foldS_steady _ _ _ (fun a s => enqueue_steady _ _ _)).trans h0
      · refine h2 _ _ _ (fun m e => queueBlock_steady _ _ _ _) ?_
        refine h2 _ _ _ (fun m e => countFlaw_steady _ _ _ _) ?_
        exact (foldS_steady _ _ _ (fun a s => enqueue_steady _ _ _)).trans h0

@[simp] theorem takeRdata_steady (p : ℕ) (f : RxFrame) (s : State) :
    ((takeRdata p f s)).steady = s.steady := by
  unfold takeRdata
  (repeat' split) <;> simp_all

@[simp] theorem takeWdone_steady (p : ℕ) (f : RxFrame) (s : State) :
    ((takeWdone p f s)).steady = s.steady := by
  unfold takeWdone
  (repeat' split) <;> simp_all

@[simp] theorem takeRefuse_steady (p : ℕ) (f : RxFrame) (s : State) :
    ((takeRefuse p f s)).steady = s.steady := by
  unfold takeRefuse
  (repeat' split) <;> simp_all

@[simp] theorem xferTimeout_steady (i : ℕ) (s : State) :
    ((xferTimeout i s)).steady = s.steady := by
  unfold xferTimeout
  (repeat' split) <;> simp_all

@[simp] theorem leaveBuffer_steady (p : Nat) (n : Nat) (s : State) :
    ((leaveBuffer p n s)).steady = s.steady := by
  unfold leaveBuffer
  (repeat' split) <;> simp_all

@[simp] theorem dropBlocks_steady (p : Nat) (gone : PeerBlock → Bool) (s : State) :
    ((dropBlocks p gone s)).steady = s.steady := by
  unfold dropBlocks
  (repeat' split) <;> simp_all

@[simp] theorem modBlock_steady (p : Nat) (x : Nat) (e : Nat) (f : PeerBlock → PeerBlock) (s : State) :
    ((modBlock p x e f s)).steady = s.steady := by
  unfold modBlock
  (repeat' split) <;> simp_all

@[simp] theorem dropBlock_steady (p : ℕ) (x : ℕ) (e : ℕ) (s : State) :
    ((dropBlock p x e s)).steady = s.steady := by
  unfold dropBlock
  (repeat' split) <;> simp_all

@[simp] theorem refuseBlock_steady (p : ℕ) (b : PeerBlock) (s : State) :
    ((refuseBlock p b s)).steady = s.steady := by
  unfold refuseBlock
  (repeat' split) <;> simp_all

@[simp] theorem serveRead_steady (p : ℕ) (o : PumpOp) (b : PeerBlock) (s : State) :
    ((serveRead p o b s)).steady = s.steady := by
  unfold serveRead
  (repeat' split) <;> simp_all

@[simp] theorem serveWrite_steady (p : ℕ) (i : ℕ) (b : PeerBlock) (s : State) :
    ((serveWrite p i b s)).steady = s.steady := by
  unfold serveWrite
  (repeat' split) <;> simp_all

@[simp] theorem startBlock_steady (p : ℕ) (k : ℕ) (b : PeerBlock) (s : State) :
    ((startBlock p k b s)).steady = s.steady := by
  unfold startBlock
  (repeat' split) <;> simp_all

@[simp] theorem stallBlock_steady (p : ℕ) (b : PeerBlock) (s : State) :
    ((stallBlock p b s)).steady = s.steady := by
  unfold stallBlock
  (repeat' split) <;> simp_all

@[simp] theorem serveNext_steady (granted : Bool) (p : ℕ) (s : State) :
    ((serveNext granted p s).1).steady = s.steady := by
  unfold serveNext
  (repeat' split) <;> simp_all

@[simp] theorem servePort_steady (x0 : ℕ) (x1 : ℕ) (x2 : State) :
    ((servePort x0 x1 x2)).steady = x2.steady := by
  induction x0 generalizing x2 with
  | zero => rfl
  | succ n ih =>
    unfold servePort
    dsimp only
    split
    · rw [ih]; simp
    · simp

@[simp] theorem serveAll_steady (p : ℕ) (s : State) :
    ((serveAll p s)).steady = s.steady := by
  unfold serveAll
  (repeat' split) <;> simp_all

@[simp] theorem takeReq_steady (p : ℕ) (f : RxFrame) (s : State) :
    ((takeReq p f s)).steady = s.steady := by
  unfold takeReq
  (repeat' split) <;> simp_all

@[simp] theorem takeWdata_steady (p : ℕ) (f : RxFrame) (s : State) :
    ((takeWdata p f s)).steady = s.steady := by
  unfold takeWdata
  (repeat' split) <;> simp_all

@[simp] theorem takeCancel_steady (p : Nat) (f : RxFrame) (s : State) :
    (takeCancel p f s).steady = s.steady := by
  unfold takeCancel
  dsimp only
  rw [enqueue_steady, dropBlocks_steady]
  refine foldS_steady _ _ _ (fun b s => ?_)
  split <;> simp

@[simp] theorem takeCdone_steady (p : ℕ) (f : RxFrame) (s : State) :
    ((takeCdone p f s)).steady = s.steady := by
  unfold takeCdone
  (repeat' split) <;> simp_all

@[simp] theorem sendHello_steady (p : Nat) (s : State) :
    ((sendHello p s)).steady = s.steady := by
  unfold sendHello
  (repeat' split) <;> simp_all

@[simp] theorem frameTransmit_steady (p : Nat) (s : State) :
    (frameTransmit p s).steady = s.steady := by
  unfold frameTransmit
  dsimp only
  (repeat' split) <;> simp

@[simp] theorem enterUp_steady (p : ℕ) (h : Hello) (s : State) :
    ((enterUp p h s)).steady = s.steady := by
  unfold enterUp
  (repeat' split) <;> simp_all

@[simp] theorem resumeLink_steady (p : ℕ) (h : Hello) (s : State) :
    ((resumeLink p h s)).steady = s.steady := by
  unfold resumeLink
  (repeat' split) <;> simp_all

@[simp] theorem restartLink_steady (p : ℕ) (b : ℕ) (h : Hello) (s : State) :
    ((restartLink p b h s)).steady = s.steady := by
  unfold restartLink
  (repeat' split) <;> simp_all

@[simp] theorem trained_steady (p : Nat) (hello : List Byte) (s : State) :
    ((trained p hello s)).steady = s.steady := by
  unfold trained
  (repeat' split) <;> simp_all

@[simp] theorem trainingComplete_steady (p : Nat) (hello : List Byte) (b0 : List (BitVec 66)) (b1 : List (BitVec 66)) (offset : Int) (skew : Nat) (s : State) :
    ((trainingComplete p hello b0 b1 offset skew s)).steady = s.steady := by
  unfold trainingComplete
  (repeat' split) <;> simp_all

@[simp] theorem takeHello_steady (p : ℕ) (f : RxFrame) (s : State) :
    ((takeHello p f s)).steady = s.steady := by
  unfold takeHello
  (repeat' split) <;> simp_all

@[simp] theorem deliverFrame_steady (p : ℕ) (bs : List Sys2Proof.Byte) (s : State) :
    ((deliverFrame p bs s)).steady = s.steady := by
  unfold deliverFrame
  (repeat' split) <;> simp_all

@[simp] theorem advanceE_steady (p : ℕ) (s : State) :
    ((advanceE p s)).steady = s.steady := by
  unfold advanceE
  (repeat' split) <;> simp_all

@[simp] theorem deliverHeld_steady (x0 : ℕ) (x1 : ℕ) (x2 : State) :
    ((deliverHeld x0 x1 x2)).steady = x2.steady := by
  induction x0 generalizing x2 with
  | zero => rfl
  | succ n ih =>
    unfold deliverHeld
    split
    · rfl
    · rw [ih]; simp

@[simp] theorem resequence_steady (p : ℕ) (bs : List Sys2Proof.Byte) (s : State) :
    ((resequence p bs s)).steady = s.steady := by
  unfold resequence
  (repeat' split) <;> simp_all

@[simp] theorem takeFrame_steady (p : ℕ) (bs : List Sys2Proof.Byte) (s : State) :
    ((takeFrame p bs s)).steady = s.steady := by
  unfold takeFrame
  (repeat' split) <;> simp_all

@[simp] theorem receive_steady (want : ℕ) (p : ℕ) (bs : List Sys2Proof.Byte) (s : State) :
    ((receive want p bs s)).steady = s.steady := by
  unfold receive
  (repeat' split) <;> simp_all

@[simp] theorem journalWrite_steady (s : State) :
    ((journalWrite s)).steady = s.steady := by
  unfold journalWrite
  (repeat' split) <;> simp_all

@[simp] theorem journalDrain_steady (x0 : ℕ) (x1 : State) :
    ((journalDrain x0 x1)).steady = x1.steady := by
  induction x0 generalizing x1 with
  | zero => rfl
  | succ n ih => unfold journalDrain; simp [ih]

@[simp] theorem State_modPower_steady (s : State) (f : Power → Power) (h : ∀ u, (f u).mode = u.mode) :
    ((State.modPower s f)).steady = s.steady := by
  unfold State.modPower State.steady
  simp [h]

@[simp] theorem stepVid_steady (c : LevelChange) (m : ℕ) (s : State) :
    ((stepVid c m s)).steady = s.steady := by
  unfold stepVid
  (repeat' split) <;> simp_all

@[simp] theorem paceBroken_steady (s : State) :
    ((paceBroken s)).steady = s.steady := by
  unfold paceBroken
  (repeat' split) <;> simp_all

@[simp] theorem endLean_steady (s : State) :
    ((endLean s)).steady = s.steady := by
  unfold endLean
  (repeat' split) <;> simp_all

@[simp] theorem beginChange_steady (n : ℕ) (s : State) :
    ((beginChange n s)).steady = s.steady := by
  unfold beginChange
  (repeat' split) <;> simp_all

@[simp] theorem powerEvent_steady (i : ℕ) (s : State) :
    ((powerEvent i s)).steady = s.steady := by
  unfold powerEvent
  (repeat' split) <;> simp_all

@[simp] theorem State_modWalk_steady (s : State) (w : ℕ) (f : Walk → Walk) :
    ((State.modWalk s w f)).steady = s.steady := by
  unfold State.modWalk
  (repeat' split) <;> simp_all

@[simp] theorem queryBlock_steady (b : SleepBlock) (s : State) :
    ((queryBlock b s)).steady = s.steady := by
  unfold queryBlock
  (repeat' split) <;> simp_all

@[simp] theorem beginEntry_steady (t : ℕ) (s : State) :
    ((beginEntry t s)).steady = s.steady := by
  unfold beginEntry
  (repeat' split) <;> simp_all

@[simp] theorem startRequest_steady (r : PowerReq) (s : State) :
    ((startRequest r s)).steady = s.steady := by
  unfold startRequest
  (repeat' split) <;> simp_all

@[simp] theorem startPending_steady (s : State) :
    ((startPending s)).steady = s.steady := by
  unfold startPending
  (repeat' split) <;> simp_all

@[simp] theorem endRequest_steady (s : State) :
    ((endRequest s)).steady = s.steady := by
  unfold endRequest
  (repeat' split) <;> simp_all

@[simp] theorem arrive_steady (r : PowerReq) (s : State) :
    ((arrive r s)).steady = s.steady := by
  unfold arrive
  (repeat' split) <;> simp_all

@[simp] theorem runRequest_steady (src : ℕ) (addr : ℕ) (s : State) :
    ((runRequest src addr s)).steady = s.steady := by
  unfold runRequest
  (repeat' split) <;> simp_all

@[simp] theorem vidDwell_steady (s : State) :
    ((vidDwell s)).steady = s.steady := by
  unfold vidDwell
  (repeat' split) <;> simp_all

@[simp] theorem vpgSettle_steady (s : State) :
    ((vpgSettle s)).steady = s.steady := by
  unfold vpgSettle
  (repeat' split) <;> simp_all

@[simp] theorem vpgTimeout_steady (s : State) :
    ((vpgTimeout s)).steady = s.steady := by
  unfold vpgTimeout
  (repeat' split) <;> simp_all

@[simp] theorem vpgFall_steady (s : State) :
    ((vpgFall s)).steady = s.steady := by
  unfold vpgFall
  (repeat' split) <;> simp_all

@[simp] theorem stopBlock_steady (b : SleepBlock) (s : State) :
    ((stopBlock b s)).steady = s.steady := by
  unfold stopBlock
  (repeat' split) <;> simp_all

@[simp] theorem restartBlock_steady (b : SleepBlock) (s : State) :
    ((restartBlock b s)).steady = s.steady := by
  unfold restartBlock
  (repeat' split) <;> simp_all

@[simp] theorem servePeers_steady (s : State) :
    ((servePeers s)).steady = s.steady := by
  unfold servePeers
  (repeat' split) <;> simp_all

@[simp] theorem rollBack_steady (bs : List SleepBlock) (s : State) :
    ((rollBack bs s)).steady = s.steady := by
  unfold rollBack
  (repeat' split) <;> simp_all

@[simp] theorem stewardRefused_steady (s : State) :
    ((stewardRefused s)).steady = s.steady := by
  unfold stewardRefused
  (repeat' split) <;> simp

@[simp] theorem refuseSleep_steady (b : SleepBlock) (s : State) :
    ((refuseSleep b s)).steady = s.steady := by
  unfold refuseSleep
  (repeat' split) <;> simp_all

@[simp] theorem abortSleep_steady (s : State) :
    ((abortSleep s)).steady = s.steady := by
  unfold abortSleep
  (repeat' split) <;> simp_all

@[simp] theorem agreeSleep_steady (s : State) :
    ((agreeSleep s)).steady = s.steady := by
  unfold agreeSleep
  (repeat' split) <;> simp_all

@[simp] theorem sleepAnswer_steady (perf : Bool) (s : State) :
    ((sleepAnswer perf s)).steady = s.steady := by
  unfold sleepAnswer
  (repeat' split) <;> simp_all

@[simp] theorem quiesceAnswer_steady (w : Nat) (agree : Bool) (refuse : Bool) (s : State) :
    ((quiesceAnswer w agree refuse s)).steady = s.steady := by
  unfold quiesceAnswer
  (repeat' split) <;> simp_all

@[simp] theorem quiesceTimeout_steady (w : ℕ) (s : State) :
    ((quiesceTimeout w s)).steady = s.steady := by
  unfold quiesceTimeout
  (repeat' split) <;> simp_all

@[simp] theorem tickUnitTimeout_steady (s : State) :
    ((tickUnitTimeout s)).steady = s.steady := by
  unfold tickUnitTimeout
  (repeat' split) <;> simp_all

@[simp] theorem walkWithdraws_steady (w : ℕ) (s : State) :
    ((walkWithdraws w s)).steady = s.steady := by
  unfold walkWithdraws
  (repeat' split) <;> simp_all

@[simp] theorem drain_steady (s : State) :
    ((drain s)).steady = s.steady := by
  unfold drain
  (repeat' split) <;> simp_all



@[simp] theorem paceWindowEnd_steady (n : ℕ) (gov : Bool) (s : State) :
    ((paceWindowEnd n gov s)).steady = s.steady := by
  unfold paceWindowEnd
  (repeat' split) <;> simp_all

@[simp] theorem holdSlots_steady (ws : List Nat) (s0 : State) (b : Nat) (s : State) :
    ((holdSlots ws s0 b s)).steady = s.steady := by
  unfold holdSlots
  (repeat' split) <;> simp_all

@[simp] theorem holdPads_steady (s0 : State) (w : Nat) (s : State) :
    ((holdPads s0 w s)).steady = s.steady := by
  unfold holdPads
  (repeat' split) <;> simp_all

@[simp] theorem State_modClo_steady (s : State) (f : Cloister → Cloister) :
    ((State.modClo s f)).steady = s.steady := by
  unfold State.modClo
  simp

@[simp] theorem loadEnds_steady (err : ℕ) (s : State) :
    ((loadEnds err s)).steady = s.steady := by
  unfold loadEnds
  (repeat' split) <;> simp_all

@[simp] theorem cloLoad_steady (v : Sys2Proof.Word) (s : State) :
    ((cloLoad v s)).steady = s.steady := by
  unfold cloLoad
  (repeat' split) <;> simp_all

@[simp] theorem cloAbort_steady (s : State) :
    ((cloAbort s)).steady = s.steady := by
  unfold cloAbort
  (repeat' split) <;> simp_all

@[simp] theorem frameTaken_steady (typ : ℕ) (memInit : ℕ) (d : List Sys2Proof.Byte) (s : State) :
    ((frameTaken typ memInit d s)).steady = s.steady := by
  unfold frameTaken
  (repeat' split) <;> simp_all

@[simp] theorem State_setLoad_steady (s : State) (l : Load) :
    ((State.setLoad s l)).steady = s.steady := by
  unfold State.setLoad
  (repeat' split) <;> simp_all

@[simp] theorem quietPort_steady (w : ℕ) (s : State) :
    ((quietPort w s)).steady = s.steady := by
  unfold quietPort
  (repeat' split) <;> simp_all

@[simp] theorem enterLoading_steady (l : Load) (s : State) :
    ((enterLoading l s)).steady = s.steady := by
  unfold enterLoading
  (repeat' split) <;> simp_all

@[simp] theorem loadChecks_steady (s : State) (l : Load) :
    ((loadChecks s l)).steady = s.steady := by
  unfold loadChecks
  (repeat' split) <;> simp_all

@[simp] theorem loadLast_steady (s : State) :
    ((loadLast s)).steady = s.steady := by
  unfold loadLast
  (repeat' split) <;> simp_all

@[simp] theorem loadByte_steady (b : Sys2Proof.Byte) (s : State) :
    ((loadByte b s)).steady = s.steady := by
  unfold loadByte
  (repeat' split) <;> simp_all

@[simp] theorem cloConfigWord_steady (n : ℕ) (v : Sys2Proof.Word) (s : State) :
    ((cloConfigWord n v s).1).steady = s.steady := by
  unfold cloConfigWord
  (repeat' split) <;> (try simp) <;> (repeat' split) <;> (try simp) <;> (repeat' split) <;> simp_all

@[simp] theorem flashByte_steady (addr : Nat) (quad : Bool) (b : Option Byte) (s : State) :
    ((flashByte addr quad b s)).steady = s.steady := by
  unfold flashByte
  (repeat' split) <;> simp_all

@[simp] theorem loadTimeout_steady (s : State) :
    ((loadTimeout s)).steady = s.steady := by
  unfold loadTimeout
  (repeat' split) <;> simp_all

@[simp] theorem releaseStage_steady (s : State) :
    ((releaseStage s)).steady = s.steady := by
  unfold releaseStage
  (repeat' split) <;> simp_all

@[simp] theorem cloSafe_steady (r : ℕ) (v : Sys2Proof.Word) (s : State) :
    ((cloSafe r v s)).steady = s.steady := by
  unfold cloSafe
  (repeat' split) <;> simp_all

@[simp] theorem State_modSec_steady (s : State) (f : Sec → Sec) (h : ∀ u, (f u).slots = u.slots) :
    ((State.modSec s f)).steady = s.steady := by
  unfold State.modSec State.steady
  simp [h]

@[simp] theorem State_freeBytes_steady (s : State) (x1 : ℕ) :
    ((State.freeBytes s x1).2).steady = s.steady := by
  induction x1 generalizing s with
  | zero => rfl
  | succ n ih => unfold State.freeBytes; simp only [ih]; simp


@[simp] theorem secClash_steady (s : State) :
    ((secClash s)).steady = s.steady := by
  unfold secClash
  (repeat' split) <;> simp_all

@[simp] theorem chalIn_steady (v : Sys2Proof.Word) (s : State) :
    ((chalIn v s)).steady = s.steady := by
  unfold chalIn
  (repeat' split) <;> simp_all

@[simp] theorem respOut_steady (s : State) :
    ((respOut s).2).steady = s.steady := by
  unfold respOut
  (repeat' split) <;> simp_all

@[simp] theorem idCert_steady (s : State) :
    ((idCert s).2).steady = s.steady := by
  unfold idCert
  (repeat' split) <;> simp_all

@[simp] theorem ptrClear_steady (s : State) :
    ((ptrClear s)).steady = s.steady := by
  unfold ptrClear
  (repeat' split) <;> simp_all

@[simp] theorem bindData_steady (v : Sys2Proof.Word) (s : State) :
    ((bindData v s)).steady = s.steady := by
  unfold bindData
  (repeat' split) <;> simp_all

@[simp] theorem SecSource_events_steady (d : SecSource) (s : State) :
    ((SecSource.events d s)).steady = s.steady := by
  unfold SecSource.events
  (repeat' split) <;> simp_all


@[simp] theorem secFail_steady (code : ℕ) (s : State) :
    ((secFail code s)).steady = s.steady := by
  unfold secFail
  (repeat' split) <;> simp_all

@[simp] theorem secDone_steady (out : List Sys2Proof.Byte) (s : State) :
    ((secDone out s)).steady = s.steady := by
  unfold secDone
  dsimp only
  simp


@[simp] theorem finishUpdate_steady (input : List Sys2Proof.Byte) (s : State) :
    ((finishUpdate input s)).steady = s.steady := by
  unfold finishUpdate
  (repeat' split) <;> simp_all


@[simp] theorem updateWaits_steady (s : State) :
    ((updateWaits s)).steady = s.steady := by
  unfold updateWaits
  (repeat' split) <;> simp_all


@[simp] theorem sampleStraps_steady (s : State) :
    ((sampleStraps s)).steady = s.steady := by
  unfold sampleStraps
  (repeat' split) <;> simp_all

@[simp] theorem readyPulse_steady (s : State) :
    ((readyPulse s)).steady = s.steady := by
  unfold readyPulse
  (repeat' split) <;> simp_all

@[simp] theorem State_modTb_steady (s : State) (f : Timebase → Timebase) :
    ((State.modTb s f)).steady = s.steady := by
  unfold State.modTb
  (repeat' split) <;> simp_all

@[simp] theorem changeover_steady (src : Bool) (stop : Bool) (reset : Bool) (s : State) :
    ((changeover src stop reset s)).steady = s.steady := by
  unfold changeover
  (repeat' split) <;> simp_all


@[simp] theorem tbChangeover_steady (s : State) :
    ((tbChangeover s)).steady = s.steady := by
  unfold tbChangeover
  (repeat' split) <;> simp_all

@[simp] theorem crystalStop_steady (s : State) :
    ((crystalStop s)).steady = s.steady := by
  unfold crystalStop
  (repeat' split) <;> simp_all

@[simp] theorem moveRim_steady (pll : Bool) (s : State) :
    ((moveRim pll s)).steady = s.steady := by
  unfold moveRim
  (repeat' split) <;> simp_all

@[simp] theorem rimSwitch_steady (s : State) :
    ((rimSwitch s)).steady = s.steady := by
  unfold rimSwitch
  (repeat' split) <;> simp_all

@[simp] theorem rimToFio_steady (s : State) :
    ((rimToFio s)).steady = s.steady := by
  unfold rimToFio
  (repeat' split) <;> simp_all

@[simp] theorem pllLockLoss_steady (s : State) :
    ((pllLockLoss s)).steady = s.steady := by
  unfold pllLockLoss
  (repeat' split) <;> simp_all

@[simp] theorem rimPllLock_steady (s : State) :
    ((rimPllLock s)).steady = s.steady := by
  unfold rimPllLock
  (repeat' split) <;> simp_all


@[simp] theorem bootRom_steady (s : State) :
    ((bootRom s)).steady = s.steady := by
  unfold bootRom
  (repeat' split) <;> simp_all


@[simp] theorem refclkTimeout_steady (s : State) :
    ((refclkTimeout s)).steady = s.steady := by
  unfold refclkTimeout
  (repeat' split) <;> simp_all

@[simp] theorem resetCry_steady (s : State) :
    ((resetCry s)).steady = s.steady := by
  unfold resetCry
  (repeat' split) <;> simp_all


@[simp] theorem resetRelease_steady (s : State) :
    ((resetRelease s)).steady = s.steady := by
  unfold resetRelease
  (repeat' split) <;> simp_all


@[simp] theorem latchWake_steady (src : ℕ) (addr : ℕ) (s : State) :
    ((latchWake src addr s)).steady = s.steady := by
  unfold latchWake
  (repeat' split) <;> simp_all




@[simp] theorem listenerMatch_steady (a : BitVec 7) (s : State) :
    ((listenerMatch a s)).steady = s.steady := by
  unfold listenerMatch
  (repeat' split) <;> simp_all



@[simp] theorem tblAdvance_steady (n : ℕ) (s : State) :
    ((tblAdvance n s)).steady = s.steady := by
  unfold tblAdvance
  (repeat' split) <;> simp_all

@[simp] theorem tblFlag_steady (b : ℕ) (s : State) :
    ((tblFlag b s)).steady = s.steady := by
  unfold tblFlag
  (repeat' split) <;> simp_all

@[simp] theorem cistWordPut_steady (a : ℕ) (v : Sys2Proof.Word) (s : State) :
    ((cistWordPut a v s).1).steady = s.steady := by
  unfold cistWordPut
  (repeat' split) <;> simp_all

@[simp] theorem storeWordPut_steady (e : ℕ) (a : ℕ) (v : Sys2Proof.Word) (s : State) :
    ((storeWordPut e a v s).1).steady = s.steady := by
  unfold storeWordPut
  (repeat' split) <;> simp_all

@[simp] theorem rulePut_steady (c : ℕ) (p : ℕ) (v : Sys2Proof.Word) (s : State) :
    ((rulePut c p v s).1).steady = s.steady := by
  unfold rulePut
  refine (foldS_steady1 _ _ _ (fun e x => ?_)).trans rfl
  exact storeWordPut_steady _ _ _ _

@[simp] theorem eccFlag_steady (x : State × Bool) :
    ((eccFlag x)).steady = x.1.steady := by
  unfold eccFlag
  (repeat' split) <;> simp_all

@[simp] theorem deniedFlag_steady (x : State × Bool) :
    ((deniedFlag x)).steady = x.1.steady := by
  unfold deniedFlag
  (repeat' split) <;> simp_all

@[simp] theorem tblWrite_steady (t : ℕ) (i : ℕ) (p : ℕ) (v : Sys2Proof.Word) (s : State) :
    ((tblWrite t i p v s)).steady = s.steady := by
  unfold tblWrite
  split
  · split <;> simp
  all_goals simp

@[simp] theorem cistWordGet_steady (a : ℕ) (s : State) :
    ((cistWordGet a s).2).steady = s.steady := by
  unfold cistWordGet
  (repeat' split) <;> simp_all

@[simp] theorem storeWordGet_steady (e : ℕ) (a : ℕ) (s : State) :
    ((storeWordGet e a s).2).steady = s.steady := by
  unfold storeWordGet
  (repeat' split) <;> simp_all

@[simp] theorem tblRead_steady (t : ℕ) (i : ℕ) (p : ℕ) (s : State) :
    ((tblRead t i p s).2).steady = s.steady := by
  unfold tblRead
  (repeat' split) <;> simp_all

@[simp] theorem windowWrite_steady (v : Sys2Proof.Word) (s : State) :
    ((windowWrite v s)).steady = s.steady := by
  unfold windowWrite
  (repeat' split) <;> (try simp) <;> (repeat' split) <;> (try simp) <;> (repeat' split) <;> simp_all

@[simp] theorem windowWordAt_steady (t : ℕ) (i : ℕ) (p : ℕ) (s : State) :
    ((windowWordAt t i p s).2).steady = s.steady := by
  unfold windowWordAt
  (repeat' split) <;> simp_all

@[simp] theorem windowWords_steady (t : ℕ) (i : ℕ) (p : ℕ) (x3 : ℕ) (x4 : State) :
    ((windowWords t i p x3 x4).2).steady = x4.steady := by
  induction x3 generalizing p x4 with
  | zero => rfl
  | succ n ih => unfold windowWords; simp only [ih]; simp

@[simp] theorem windowReads_steady (n : ℕ) (s : State) :
    ((windowReads n s).2).steady = s.steady := by
  unfold windowReads
  (repeat' split) <;> simp_all

@[simp] theorem bootEnds_steady (src : ℕ) (img : List Sys2Proof.Byte) (code : ℕ) (s : State) :
    ((bootEnds src img code s)).steady = s.steady := by
  unfold bootEnds
  (repeat' split) <;> simp_all

@[simp] theorem flashBoot_steady (image : List Sys2Proof.Byte) (quad : Bool) (s : State) :
    ((flashBoot image quad s)).steady = s.steady := by
  unfold flashBoot
  (repeat' split) <;> simp_all

@[simp] theorem supGo_steady (s : State) :
    ((supGo s)).steady = s.steady := by
  unfold supGo
  (repeat' split) <;> simp_all

@[simp] theorem goTimeout_steady (s : State) :
    ((goTimeout s)).steady = s.steady := by
  unfold goTimeout
  (repeat' split) <;> simp_all

@[simp] theorem supRestart_steady (s : State) :
    ((supRestart s)).steady = s.steady := by
  unfold supRestart
  (repeat' split) <;> simp_all

@[simp] theorem supHalt_steady (on : Bool) (s : State) :
    ((supHalt on s)).steady = s.steady := by
  unfold supHalt
  (repeat' split) <;> simp_all

@[simp] theorem supTrap_steady (cause : Sys2Proof.Word) (s : State) :
    ((supTrap cause s)).steady = s.steady := by
  unfold supTrap
  (repeat' split) <;> simp_all

@[simp] theorem supWfi_steady (s : State) :
    ((supWfi s)).steady = s.steady := by
  unfold supWfi
  (repeat' split) <;> simp_all

@[simp] theorem hostDoorbell_steady (s : State) :
    ((hostDoorbell s)).steady = s.steady := by
  unfold hostDoorbell
  (repeat' split) <;> simp_all

@[simp] theorem handover_steady (s : State) :
    ((handover s)).steady = s.steady := by
  unfold handover
  (repeat' split) <;> simp_all

@[simp] theorem causeClear_steady (v : Sys2Proof.W32) (s : State) :
    ((causeClear v s)).steady = s.steady := by
  unfold causeClear
  (repeat' split) <;> simp_all

@[simp] theorem drawWords_steady (f : State → Sys2Proof.Word × State) (x1 : ℕ) (x2 : State) (h : ∀ s, (f s).2.steady = s.steady) :
    ((drawWords f x1 x2).2).steady = x2.steady := by
  induction x1 generalizing x2 with
  | zero => rfl
  | succ n ih => unfold drawWords; simp only [ih, h]

@[simp] theorem windowRegRead_steady (t : ℕ) (r : ℕ) (n : ℕ) (s : State) :
    ((windowRegRead t r n s).2).steady = s.steady := by
  unfold windowRegRead
  (repeat' split) <;> simp_all

@[simp] theorem wordRead_steady (t : ℕ) (r : ℕ) (s : State) :
    ((wordRead t r s).2).steady = s.steady := by
  unfold wordRead
  split
  · rfl
  · split
    · exact windowRegRead_steady t r 1 s
    · rfl

@[simp] theorem readEach_steady (t r : Nat) (ks : List Nat) (s : State) :
    (readEach t r ks s).2.steady = s.steady := by
  induction ks generalizing s with
  | nil => rfl
  | cons k ks ih =>
    show (readEach t r ks (wordRead t (r + k) s).2).2.steady = s.steady
    rw [ih]; simp

@[simp] theorem bgStart_steady (e : ℕ) (s : State) :
    ((bgStart e s)).steady = s.steady := by
  unfold bgStart
  (repeat' split) <;> simp_all

@[simp] theorem clrFault_steady (e : ℕ) (s : State) :
    ((clrFault e s)).steady = s.steady := by
  unfold clrFault
  (repeat' split) <;> simp_all

@[simp] theorem bankSize_steady (e : ℕ) (v : Sys2Proof.Word) (s : State) :
    ((bankSize e v s)).steady = s.steady := by
  unfold bankSize
  (repeat' split) <;> simp_all

@[simp] theorem pmpCtrl_steady (v : Sys2Proof.Word) (s : State) :
    ((pmpCtrl v s)).steady = s.steady := by
  unfold pmpCtrl
  (repeat' split) <;> simp_all


@[simp] theorem cloCtrl_steady (v : Sys2Proof.Word) (s : State) :
    ((cloCtrl v s)).steady = s.steady := by
  unfold cloCtrl
  (repeat' split) <;> simp_all

@[simp] theorem tbSrc_steady (v : Sys2Proof.Word) (s : State) :
    ((tbSrc v s)).steady = s.steady := by
  unfold tbSrc
  (repeat' split) <;> simp_all

@[simp] theorem supCtrl_steady (v : Sys2Proof.Word) (s : State) :
    ((supCtrl v s)).steady = s.steady := by
  unfold supCtrl
  (repeat' split) <;> simp_all

@[simp] theorem injMode_steady (p : ℕ) (v : Sys2Proof.Word) (s : State) :
    ((injMode p v s)).steady = s.steady := by
  unfold injMode
  (repeat' split) <;> simp_all

@[simp] theorem injSeed_steady (p : ℕ) (v : Sys2Proof.Word) (s : State) :
    ((injSeed p v s)).steady = s.steady := by
  unfold injSeed
  (repeat' split) <;> simp_all

@[simp] theorem faultCount_steady (c : ℕ) (v : Sys2Proof.Word) (s : State) :
    ((faultCount c v s)).steady = s.steady := by
  unfold faultCount
  (repeat' split) <;> simp_all

@[simp] theorem devEffect_steady (r : Nat) (v : Word) (s : State) :
    ((devEffect r v s)).steady = s.steady := by
  unfold devEffect
  (repeat' split) <;> simp_all

@[simp] theorem supPut_steady (sup : Bool) (r : ℕ) (v : Sys2Proof.Word) (s : State) (s1 : State) (h1 : s1.steady = s.steady) :
    ((supPut sup r v s s1)).steady = s.steady := by
  unfold supPut
  repeat' split
  all_goals simp_all

@[simp] theorem pwrPut_steady (r : ℕ) (v : Sys2Proof.Word) (s1 : State) :
    ((pwrPut r v s1)).steady = s1.steady := by
  unfold pwrPut
  (repeat' split) <;> simp_all

@[simp] theorem cryPut_steady (r : ℕ) (v : Sys2Proof.Word) (s : State) (s1 : State) (h1 : s1.steady = s.steady) :
    ((cryPut r v s s1)).steady = s.steady := by
  unfold cryPut
  repeat' split
  all_goals simp_all


@[simp] theorem cloPut_steady (r : ℕ) (v : Sys2Proof.Word) (s : State) (s1 : State) (h1 : s1.steady = s.steady) :
    ((cloPut r v s s1)).steady = s.steady := by
  unfold cloPut
  repeat' split
  all_goals simp_all

@[simp] theorem lnkPut_steady (p : ℕ) (r : ℕ) (v : Sys2Proof.Word) (s : State) (s1 : State) (h1 : s1.steady = s.steady) :
    ((lnkPut p r v s s1)).steady = s.steady := by
  unfold lnkPut
  repeat' split
  all_goals simp_all

@[simp] theorem chPut_steady (c : ℕ) (r : ℕ) (v : Sys2Proof.Word) (s : State) (s1 : State) (h1 : s1.steady = s.steady) :
    ((chPut c r v s s1)).steady = s.steady := by
  unfold chPut
  repeat' split
  all_goals simp_all

@[simp] theorem engPut_steady (e : ℕ) (r : ℕ) (v : Sys2Proof.Word) (s : State) (s1 : State) (h1 : s1.steady = s.steady) :
    ((engPut e r v s s1)).steady = s.steady := by
  unfold engPut
  repeat' split
  all_goals simp_all


@[simp] theorem windowRegWrite_steady (t : ℕ) (r : ℕ) (v : Sys2Proof.Word) (s : State) :
    ((windowRegWrite t r v s)).steady = s.steady := by
  unfold windowRegWrite
  (repeat' split) <;> simp_all



@[simp] theorem State_modCtl_steady (s : State) (f : CtlPort → CtlPort) :
    ((State.modCtl s f)).steady = s.steady := by
  unfold State.modCtl
  (repeat' split) <;> simp_all

@[simp] theorem recordWrite_steady (oc : ℕ) (s : State) :
    ((recordWrite oc s)).steady = s.steady := by
  unfold recordWrite
  (repeat' split) <;> simp_all





@[simp] theorem drive_steady (rcur : ℕ) (ws : List Sys2Proof.Word) (s : State) :
    ((drive rcur ws s)).steady = s.steady := by
  unfold drive
  (repeat' split) <;> simp_all

@[simp] theorem noAnswer_steady (s : State) :
    ((noAnswer s)).steady = s.steady := by
  unfold noAnswer
  (repeat' split) <;> simp_all

@[simp] theorem readWords_steady (t r : Nat) (ks : List Nat) (s : State) :
    (readWords t r ks s).2.steady = s.steady := by
  show (readEach t r _ (readEach t r _ s).2).2.steady = s.steady
  rw [readEach_steady, readEach_steady]

@[simp] theorem readData_steady (t : ℕ) (r : ℕ) (n : ℕ) (s : State) :
    ((readData t r n s).2.2).steady = s.steady := by
  unfold readData
  dsimp only
  split
  · dsimp only
    split
    · exact windowRegRead_steady t r n s
    · exact readWords_steady t r _ s
  · rfl
  · rfl
  · rfl

@[simp] theorem readChecked_steady (bs : List Sys2Proof.Byte) (s : State) :
    ((readChecked bs s)).steady = s.steady := by
  unfold readChecked
  (repeat' split) <;> simp_all

@[simp] theorem readStarting_steady (bs : List Sys2Proof.Byte) (s : State) :
    ((readStarting bs s)).steady = s.steady := by
  unfold readStarting
  (repeat' split) <;> simp_all

@[simp] theorem readFrame_steady (bs : List Sys2Proof.Byte) (s : State) :
    ((readFrame bs s)).steady = s.steady := by
  unfold readFrame
  (repeat' split) <;> simp_all

@[simp] theorem State_modTap_steady (s : State) (f : Tap → Tap) :
    ((State.modTap s f)).steady = s.steady := by
  unfold State.modTap
  (repeat' split) <;> simp_all

@[simp] theorem tapInstr_steady (i : TapIns) (s : State) :
    ((tapInstr i s)).steady = s.steady := by
  unfold tapInstr
  (repeat' split) <;> simp_all

@[simp] theorem tapReset_steady (s : State) :
    ((tapReset s)).steady = s.steady := by
  unfold tapReset
  (repeat' split) <;> simp_all

@[simp] theorem tapDone_steady (refused : Bool) (addr : ℕ) (data : Sys2Proof.Word) (s : State) :
    ((tapDone refused addr data s)).steady = s.steady := by
  unfold tapDone
  (repeat' split) <;> simp_all



@[simp] theorem retireBank_steady (b : ℕ) (cause : ℕ) (s : State) :
    ((retireBank b cause s)).steady = s.steady := by
  unfold retireBank
  (repeat' split) <;> simp_all

@[simp] theorem exhausted_steady (i : Sys2Proof.BankId) (column : ℕ) (s : State) :
    ((exhausted i column s)).steady = s.steady := by
  unfold exhausted
  (repeat' split) <;> simp_all

@[simp] theorem assignSpare_steady (i : Sys2Proof.BankId) (column : ℕ) (cause : ℕ) (s : State) :
    ((assignSpare i column cause s)).steady = s.steady := by
  unfold assignSpare
  (repeat' split) <;> simp_all

@[simp] theorem scrubLine_steady (n : ℕ) (b : ℕ) (s : State) :
    ((scrubLine n b s)).steady = s.steady := by
  unfold scrubLine
  (repeat' split) <;> simp_all

@[simp] theorem scrubGranule_steady (n : ℕ) (e : ℕ) (s : State) :
    ((scrubGranule n e s)).steady = s.steady := by
  unfold scrubGranule
  (repeat' split) <;> simp_all

@[simp] theorem scrubInterval_steady (s : State) :
    ((scrubInterval s)).steady = s.steady := by
  unfold scrubInterval
  (repeat' split) <;> simp_all

@[simp] theorem columnTest_steady (i : Sys2Proof.BankId) (result : ℕ) (bitPos : ℕ) (s : State) :
    ((columnTest i result bitPos s)).steady = s.steady := by
  unfold columnTest
  (repeat' split) <;> simp_all

@[simp] theorem spareCopy_steady (i : Sys2Proof.BankId) (s : State) :
    ((spareCopy i s)).steady = s.steady := by
  unfold spareCopy
  (repeat' split) <;> simp_all

@[simp] theorem copyRecords_steady (i : Sys2Proof.BankId) (column : ℕ) (s : State) :
    ((copyRecords i column s)).steady = s.steady := by
  unfold copyRecords
  (repeat' split) <;> simp_all

@[simp] theorem spareSwitch_steady (i : Sys2Proof.BankId) (s : State) :
    ((spareSwitch i s)).steady = s.steady := by
  unfold spareSwitch
  (repeat' split) <;> simp_all

@[simp] theorem repairEdge_steady (c : Sys2Proof.BankId × ℕ) (s : State) :
    ((repairEdge c s)).steady = s.steady := by
  unfold repairEdge
  (repeat' split) <;> simp_all

@[simp] theorem pumpEdge_steady (p : ℕ) (s : State) :
    ((pumpEdge p s)).steady = s.steady := by
  unfold pumpEdge
  (repeat' split) <;> simp_all

@[simp] theorem portEdge_steady (c : ℕ × Bool) (s : State) :
    ((portEdge c s)).steady = s.steady := by
  unfold portEdge
  (repeat' split) <;> simp_all

@[simp] theorem unitCommands_steady (s : State) :
    ((unitCommands s)).steady = s.steady := by
  unfold unitCommands
  (repeat' split) <;> simp_all

@[simp] theorem withEdge_steady (f : State → State) (s : State) (h : ∀ s, (f s).steady = s.steady) :
    ((withEdge f s)).steady = s.steady := by
  unfold withEdge
  dsimp only
  split <;> simp [h]

@[simp] theorem forgetBlock_steady (o : PumpOp) (s : State) :
    ((forgetBlock o s)).steady = s.steady := by
  unfold forgetBlock
  (repeat' split) <;> simp_all

@[simp] theorem completeStill_steady (mine : PumpOp → Bool) (s : State) :
    ((completeStill mine s)).steady = s.steady := by
  unfold completeStill
  refine foldS_steady _ _ _ (fun o s => ?_)
  split <;> simp

@[simp] theorem stillTick_steady (s : State) :
    ((stillTick s)).steady = s.steady := by
  unfold stillTick
  (repeat' split) <;> simp_all

@[simp] theorem stillRun_steady (r : Run) (s : State) :
    ((stillRun r s)).steady = s.steady := by
  unfold stillRun
  (repeat' split) <;> simp_all

@[simp] theorem stopStill_steady (e : ℕ) (r : Run) (s : State) :
    ((stopStill e r s)).steady = s.steady := by
  unfold stopStill
  (repeat' split) <;> simp_all

@[simp] theorem stillEngine_steady (e : ℕ) (s : State) :
    ((stillEngine e s)).steady = s.steady := by
  unfold stillEngine
  (repeat' split) <;> (try simp) <;> (repeat' split) <;> (try simp) <;> (repeat' split) <;> simp_all

@[simp] theorem stillPump_steady (p : ℕ) (s : State) :
    ((stillPump p s)).steady = s.steady := by
  unfold stillPump
  (repeat' split) <;> simp_all

@[simp] theorem stillBank_steady (b : ℕ) (s : State) :
    ((stillBank b s)).steady = s.steady := by
  unfold stillBank
  (repeat' split) <;> simp_all

@[simp] theorem stillPool_steady (s : State) :
    ((stillPool s)).steady = s.steady := by
  unfold stillPool
  (repeat' split) <;> simp_all

@[simp] theorem endWaits_steady (b : Nat) (s : State) :
    ((endWaits b s)).steady = s.steady := by
  unfold endWaits
  (repeat' split) <;> simp_all

@[simp] theorem stillBells_steady (s : State) :
    ((stillBells s)).steady = s.steady := by
  unfold stillBells
  (repeat' split) <;> simp_all

@[simp] theorem stillnessFault_steady (u : Sys2Proof.StillUnit) (s : State) :
    ((stillnessFault u s)).steady = s.steady := by
  unfold stillnessFault
  (repeat' split) <;> simp_all

@[simp] theorem busValue_steady (v : Sys2Proof.W32) (s : State) :
    ((busValue v s)).steady = s.steady := by
  unfold busValue
  (repeat' split) <;> simp_all

@[simp] theorem busDone_steady (s : State) :
    ((busDone s)).steady = s.steady := by
  unfold busDone
  (repeat' split) <;> simp_all

@[simp] theorem busError_steady (s : State) :
    ((busError s)).steady = s.steady := by
  unfold busError
  (repeat' split) <;> simp_all

@[simp] theorem supRing_steady (b : ℕ) (inc : ℕ) (s : State) :
    ((supRing b inc s)).steady = s.steady := by
  unfold supRing
  (repeat' split) <;> simp_all

@[simp] theorem supTry_steady (b : ℕ) (s : State) :
    ((supTry b s)).steady = s.steady := by
  unfold supTry
  (repeat' split) <;> simp_all

@[simp] theorem supPeek_steady (b : ℕ) (s : State) :
    ((supPeek b s)).steady = s.steady := by
  unfold supPeek
  (repeat' split) <;> simp_all

@[simp] theorem bellsWrite_steady (b : ℕ) (v : Sys2Proof.Word) (s : State) :
    ((bellsWrite b v s)).steady = s.steady := by
  unfold bellsWrite
  (repeat' split) <;> simp_all

@[simp] theorem bankReadyMark_steady (c : ℕ) (foreign : Bool) (s : State) :
    ((bankReadyMark c foreign s)).steady = s.steady := by
  unfold bankReadyMark
  (repeat' split) <;> simp_all

@[simp] theorem fltQstat_steady (s : State) :
    ((fltQstat s)).steady = s.steady := by
  unfold fltQstat
  (repeat' split) <;> simp_all

@[simp] theorem fltHeadRead_steady (i : ℕ) (s : State) :
    ((fltHeadRead i s)).steady = s.steady := by
  unfold fltHeadRead
  (repeat' split) <;> simp_all

@[simp] theorem fltPop_steady (s : State) :
    ((fltPop s)).steady = s.steady := by
  unfold fltPop
  split <;> simp [keepRecord]

@[simp] theorem retireUnit_steady (kind : ℕ) (i : ℕ) (s : State) :
    ((retireUnit kind i s)).steady = s.steady := by
  unfold retireUnit
  (repeat' split) <;> simp_all

@[simp] theorem readmitUnit_steady (kind : ℕ) (i : ℕ) (s : State) :
    ((readmitUnit kind i s)).steady = s.steady := by
  unfold readmitUnit
  (repeat' split) <;> simp_all

@[simp] theorem fltRetire_steady (v : Sys2Proof.W32) (s : State) :
    ((fltRetire v s)).steady = s.steady := by
  unfold fltRetire
  (repeat' split) <;> simp_all

@[simp] theorem fltReadmit_steady (v : Sys2Proof.W32) (s : State) :
    ((fltReadmit v s)).steady = s.steady := by
  unfold fltReadmit
  (repeat' split) <;> simp_all

@[simp] theorem setButtress_steady (s : State) :
    ((setButtress s)).steady = s.steady := by
  unfold setButtress
  (repeat' split) <;> simp_all

@[simp] theorem fltButtress_steady (v : Sys2Proof.W32) (s : State) :
    ((fltButtress v s)).steady = s.steady := by
  unfold fltButtress
  (repeat' split) <;> simp_all

@[simp] theorem queueRepair_steady (i : Sys2Proof.BankId) (column : ℕ) (s : State) :
    ((queueRepair i column s)).steady = s.steady := by
  unfold queueRepair
  (repeat' split) <;> simp_all

@[simp] theorem fltRepair_steady (v : Sys2Proof.W32) (s : State) :
    ((fltRepair v s)).steady = s.steady := by
  unfold fltRepair
  (repeat' split) <;> simp_all

@[simp] theorem fltScrub_steady (v : Sys2Proof.W32) (s : State) :
    ((fltScrub v s)).steady = s.steady := by
  unfold fltScrub
  (repeat' split) <;> simp_all

@[simp] theorem shadowCfg_steady (c : ℕ) (v : Sys2Proof.W32) (s : State) :
    ((shadowCfg c v s)).steady = s.steady := by
  unfold shadowCfg
  (repeat' split) <;> simp_all

@[simp] theorem State_modSlotOf_steady (s : State) (n : ℕ) (f : Slot → Slot) :
    ((State.modSlotOf s n f)).steady = s.steady := by
  unfold State.modSlotOf
  (repeat' split) <;> simp_all

@[simp] theorem postSlot_steady (n p : Nat) (s : State) :
    (postSlot n p s).steady = s.steady := by
  unfold postSlot
  dsimp only
  rw [acceptOp_steady]
  simp

@[simp] theorem supPost_steady (n : ℕ) (p : ℕ) (s : State) :
    ((supPost n p s)).steady = s.steady := by
  unfold supPost
  (repeat' split) <;> simp_all

@[simp] theorem cistLoad_steady (a : ℕ) (n : ℕ) (s : State) :
    ((cistLoad a n s)).steady = s.steady := by
  unfold cistLoad
  (repeat' split) <;> simp_all

@[simp] theorem cistStore_steady (a : ℕ) (n : ℕ) (v : Sys2Proof.W32) (s : State) :
    ((cistStore a n v s)).steady = s.steady := by
  unfold cistStore
  (repeat' split) <;> simp_all

@[simp] theorem regLoad_steady (t : ℕ) (r : ℕ) (s : State) :
    ((regLoad t r s)).steady = s.steady := by
  unfold regLoad
  have h := readData_steady t r 1 s
  dsimp only
  split <;> simp [h]


@[simp] theorem fltLoad_steady (o : ℕ) (s : State) :
    ((fltLoad o s)).steady = s.steady := by
  unfold fltLoad
  (repeat' split) <;> simp_all

@[simp] theorem fltStore_steady (o : ℕ) (v : Sys2Proof.W32) (s : State) :
    ((fltStore o v s)).steady = s.steady := by
  unfold fltStore
  (repeat' split) <;> simp_all

@[simp] theorem slotLoad_steady (n : ℕ) (o : ℕ) (s : State) :
    ((slotLoad n o s)).steady = s.steady := by
  unfold slotLoad
  (repeat' split) <;> simp_all

@[simp] theorem slotStore_steady (n : ℕ) (o : ℕ) (v : Sys2Proof.W32) (s : State) :
    ((slotStore n o v s)).steady = s.steady := by
  unfold slotStore
  (repeat' split) <;> simp_all

@[simp] theorem supLoad_steady (a : ℕ) (size : ℕ) (s : State) :
    ((supLoad a size s)).steady = s.steady := by
  unfold supLoad
  (repeat' split) <;> simp_all


@[simp] theorem supFence_steady (s : State) :
    ((supFence s)).steady = s.steady := by
  unfold supFence
  (repeat' split) <;> simp_all

@[simp] theorem takeRequest_steady (s : State) :
    ((takeRequest s)).steady = s.steady := by
  unfold takeRequest
  (repeat' split) <;> simp_all

@[simp] theorem mboxReply_steady (m0 : Sys2Proof.Word) (result : ℕ) (low : ℕ) (w6 : ℕ) (w7 : ℕ) (s : State) :
    ((mboxReply m0 result low w6 w7 s)).steady = s.steady := by
  unfold mboxReply
  (repeat' split) <;> simp_all

@[simp] theorem serveRequest_steady (code : ℕ) (f : State → State × ℕ × ℕ × ℕ × ℕ) (s : State) (h : ∀ s, (f s).1.steady = s.steady) :
    ((serveRequest code f s)).steady = s.steady := by
  unfold serveRequest
  split
  · dsimp only
    rw [mboxReply_steady, h, takeRequest_steady]
  · rfl

@[simp] theorem copyRange_steady (a : ℕ) (b : ℕ) (x : ℕ × ℕ) (s : State) :
    ((copyRange a b x s)).steady = s.steady := by
  unfold copyRange
  (repeat' split) <;> simp_all

@[simp] theorem copyPairs_steady (f : ℕ → ℕ → List (ℕ × ℕ)) (ps : List (ℕ × ℕ)) (s : State) :
    ((copyPairs f ps s)).steady = s.steady := by
  unfold copyPairs
  (repeat' split) <;> simp_all





@[simp] theorem retireServe_steady (s : State) :
    ((retireServe s).1).steady = s.steady := by
  unfold retireServe
  (repeat' split) <;> (try simp) <;> (repeat' split) <;> (try simp) <;> (repeat' split) <;> simp_all



@[simp] theorem repairServe_steady (s : State) :
    ((repairServe s).1).steady = s.steady := by
  unfold repairServe
  (repeat' split) <;> (try simp) <;> (repeat' split) <;> (try simp) <;> (repeat' split) <;> simp_all

@[simp] theorem mboxRetire_steady (s : State) :
    ((mboxRetire s)).steady = s.steady := by
  unfold mboxRetire
  (repeat' split) <;> simp_all


@[simp] theorem mboxRepair_steady (s : State) :
    ((mboxRepair s)).steady = s.steady := by
  unfold mboxRepair
  (repeat' split) <;> simp_all

@[simp] theorem putHeaders_steady (a : ℕ) (bs : List Sys2Proof.Byte) (s : State) :
    ((putHeaders a bs s)).steady = s.steady := by
  unfold putHeaders
  (repeat' split) <;> simp_all

@[simp] theorem imageReads_steady (e : ℕ) (act : Bool) (cs : List ℕ) (s : State) :
    ((imageReads e act cs s)).steady = s.steady := by
  unfold imageReads
  (repeat' split) <;> simp_all

@[simp] theorem sealSession_steady (tag : List Sys2Proof.Byte) (s : State) :
    ((sealSession tag s)).steady = s.steady := by
  unfold sealSession
  split
  · rfl
  · dsimp only
    simp

@[simp] theorem importSession_steady (bad : ℕ) (tag : Option (List Sys2Proof.Byte)) (s : State) :
    ((importSession bad tag s)).steady = s.steady := by
  unfold importSession
  (repeat' split) <;> simp_all

@[simp] theorem wexportServe_steady (s : State) :
    ((wexportServe s).1).steady = s.steady := by
  unfold wexportServe
  (repeat' split) <;> (try simp) <;> (repeat' split) <;> (try simp) <;> (repeat' split) <;> simp_all

@[simp] theorem importChan_steady (e : ℕ) (foreign : Bool) (c : ℕ) (s : State) :
    ((importChan e foreign c s)).steady = s.steady := by
  unfold importChan
  (repeat' split) <;> simp_all

@[simp] theorem wimportServe_steady (s : State) :
    ((wimportServe s).1).steady = s.steady := by
  unfold wimportServe
  (repeat' split) <;> (try simp) <;> (repeat' split) <;> (try simp) <;> (repeat' split) <;> simp_all

@[simp] theorem mboxWexport_steady (s : State) :
    ((mboxWexport s)).steady = s.steady := by
  unfold mboxWexport
  (repeat' split) <;> simp_all

@[simp] theorem mboxWimport_steady (s : State) :
    ((mboxWimport s)).steady = s.steady := by
  unfold mboxWimport
  (repeat' split) <;> simp_all

@[simp] theorem grantEngines_steady (tick : Bool) (es : List Nat) (s : State) :
    ((grantEngines tick es s)).steady = s.steady := by
  unfold grantEngines
  (repeat' split) <;> simp_all

@[simp] theorem grantSupervisor_steady (s : State) :
    ((grantSupervisor s)).steady = s.steady := by
  unfold grantSupervisor
  refine foldS_steady _ _ _ (fun n s => ?_)
  repeat' split
  all_goals simp

@[simp] theorem grantPeers_steady (s : State) :
    ((grantPeers s)).steady = s.steady := by
  unfold grantPeers
  (repeat' split) <;> simp_all

@[simp] theorem tagGrant_steady (s : State) :
    ((tagGrant s)).steady = s.steady := by
  unfold tagGrant
  (repeat' split) <;> simp_all

@[simp] theorem forChan_steady (c : ℕ) (f : State → State) (s : State) (h : ∀ s, (f s).steady = s.steady) :
    ((forChan c f s)).steady = s.steady := by
  unfold forChan
  split <;> simp [h]

@[simp] theorem forEngine_steady (e : ℕ) (f : State → State) (s : State) (h : ∀ s, (f s).steady = s.steady) :
    ((forEngine e f s)).steady = s.steady := by
  unfold forEngine
  split <;> simp [h]

@[simp] theorem forWell_steady (w : ℕ) (f : State → State) (s : State) (h : ∀ s, (f s).steady = s.steady) :
    ((forWell w f s)).steady = s.steady := by
  unfold forWell
  split <;> simp [h]

@[simp] theorem forPort_steady (p : ℕ) (f : State → State) (s : State) (h : ∀ s, (f s).steady = s.steady) :
    ((forPort p f s)).steady = s.steady := by
  unfold forPort
  split <;> simp [h]

@[simp] theorem forLane_steady (p : ℕ) (lane : ℕ) (f : State → State) (s : State) (h : ∀ s, (f s).steady = s.steady) :
    ((forLane p lane f s)).steady = s.steady := by
  unfold forLane
  split <;> simp [h]


@[simp] theorem readAt_steady (t : ℕ) (r : ℕ) (n : ℕ) (s : State) :
    ((readAt t r n s)).steady = s.steady := by
  unfold readAt
  (repeat' split) <;> simp_all



@[simp] theorem onEdge_steady (store effect : State → State) (h1 : ∀ s, (store s).steady = s.steady) (h2 : ∀ s, (effect s).steady = s.steady) (s : State) :
    (onEdge store effect s).steady = s.steady := by
  unfold onEdge
  split <;> simp [h1, h2]

@[simp] theorem samplePort_steady (w : Nat) (data : Nat) (valid : Bool) (opn : Bool) (stuck : Bool) (dt : Nat) (s : State) :
    ((samplePort w data valid opn stuck dt s)).steady = s.steady := by
  unfold samplePort
  (repeat' split) <;> simp_all

@[simp] theorem windowExpires_steady (c : ℕ) (s : State) :
    ((windowExpires c s)).steady = s.steady := by
  unfold windowExpires
  (repeat' split) <;> simp_all

@[simp] theorem epochEnds_steady (c : ℕ) (s : State) :
    ((epochEnds c s)).steady = s.steady := by
  unfold epochEnds
  (repeat' split) <;> simp_all

@[simp] theorem newLevels_steady (s : State) :
    ((newLevels s)).steady = s.steady := by
  unfold newLevels
  (repeat' split) <;> simp_all

@[simp] theorem edgeMemory_steady (s : State) (x : Edges) (k : Nat) (w : Nat) (t : State) :
    ((edgeMemory s x k w t)).steady = t.steady := by
  unfold edgeMemory
  (repeat' split) <;> simp_all

@[simp] theorem edgeWalk_steady (s : State) (x : Edges) (w : Nat) (t : State) :
    ((edgeWalk s x w t)).steady = t.steady := by
  unfold edgeWalk
  (repeat' split) <;> simp_all

@[simp] theorem clockEdge_steady (s : State) :
    ((clockEdge s)).steady = s.steady := by
  unfold clockEdge
  (repeat' split) <;> simp_all

/-- A write of CH_ENGINE_MAP by the supervisor. -/
@[simp] theorem supWrite_map_steady (c : ℕ) (v : Sys2Proof.Word) (s : State) : (supWrite (CH c) 0x02 v s).steady = s.steady := by
  unfold supWrite wordWrite
  split
  · rfl
  · split
    · simp
    · split
      · rfl
      · split
        · rfl
        · split
          · simp
          · unfold regPut
            rw [if_neg (show ¬ (0x10 + c = 0x00) by omega), if_neg (show ¬ (0x10 + c = 0x01) by omega),
              if_neg (show ¬ (0x10 + c = 0x02) by omega), if_neg (show ¬ (0x10 + c = 0x03) by omega),
              if_neg (show ¬ (0x10 + c = 0x04) by omega), if_neg (show ¬ (0x10 + c = 0x05) by omega),
              if_neg (show ¬ (0x10 + c = 0x0C) by omega), if_neg (show ¬ (0x08 ≤ 0x10 + c ∧ 0x10 + c < 0x0C) by omega)]
            split
            · refine chPut_steady _ _ _ _ _ ?_
              simp
            · split
              · unfold engPut
                rw [if_neg (by decide), if_neg (by decide)]
                simp
              · simp

@[simp] theorem readmitChan_steady (c : ℕ) (newMap : Bool) (w cfg : Sys2Proof.Word) (s : State) :
    (readmitChan c newMap w cfg s).1.steady = s.steady := by
  unfold readmitChan
  (repeat' split) <;> (try simp) <;> (repeat' split) <;> (try simp) <;> (repeat' split) <;> simp_all

@[simp] theorem readmitServe_steady (s : State) : (readmitServe s).1.steady = s.steady := by
  unfold readmitServe
  dsimp only
  (repeat' split) <;> simp

@[simp] theorem mboxReadmit_steady (s : State) : (mboxReadmit s).steady = s.steady := by
  unfold mboxReadmit
  (repeat' split) <;> simp_all

@[simp] theorem policyRetire_steady (kind i : ℕ) (s : State) : (policyRetire kind i s).steady = s.steady := by
  unfold policyRetire
  (repeat' split) <;> simp

@[simp] theorem policyEngine_steady (e : ℕ) (s : State) : (policyEngine e s).steady = s.steady := by
  unfold policyEngine
  (repeat' split) <;> simp

@[simp] theorem policyPump_steady (k : ℕ) (s : State) : (policyPump k s).steady = s.steady := by
  unfold policyPump
  (repeat' split) <;> simp

@[simp] theorem policyPort_steady (k rim : ℕ) (s : State) : (policyPort k rim s).steady = s.steady := by
  unfold policyPort
  (repeat' split) <;> simp

@[simp] theorem policyRemap_steady (c : ℕ) (s : State) : (policyRemap c s).steady = s.steady := by
  unfold policyRemap
  split
  · rfl
  · dsimp only
    split <;> simp

@[simp] theorem policyAct_steady (r : FaultRec) (s : State) : (policyAct r s).steady = s.steady := by
  unfold policyAct
  (repeat' split) <;> simp

@[simp] theorem stewardPop_steady (s : State) : (stewardPop s).steady = s.steady := by
  unfold stewardPop
  (repeat' split) <;> simp

@[simp] theorem keepAll_steady (s : State) : (keepAll s).steady = s.steady := by
  unfold keepAll
  dsimp only
  rw [foldS_steady]
  · simp
  · intro r s; simp [keepRecord]

@[simp] theorem faultsServe_steady (s : State) : (faultsServe s).1.steady = s.steady := by
  unfold faultsServe
  (repeat' split) <;> (try simp) <;> (repeat' split) <;> (try simp) <;> (repeat' split) <;> simp_all

@[simp] theorem mboxFaults_steady (s : State) : (mboxFaults s).steady = s.steady := by
  unfold mboxFaults
  (repeat' split) <;> simp_all

@[simp] theorem stewardWfi_steady (s : State) : (stewardWfi s).steady = s.steady := by
  unfold stewardWfi
  (repeat' split) <;> simp

theorem afterEdges_steady (s t : State) : (afterEdges s t).steady = t.steady := rfl

@[simp] theorem userClock_steady (s : State) : (userClock s).steady = s.steady := by
  unfold userClock
  split
  · rfl
  · exact (afterEdges_steady s _).trans (clockEdge_steady s)

end Sys2Proof.Machine
end

