-- ==== Sys2Proof/Tests/Slice0.lean ====
section
/-! SUPPORT. The author's own tests: ill-formed commands are refused, and for every statement of the obligations that has
hypotheses a small state that meets them. -/

open Sys2Proof Sys2Proof.Machine

namespace Sys2Proof.Tests

/-! ## Well-formed commands -/

/-- One ill-formed command for each check of WellFormed: tick, channel and engine rows. -/
def illFormed1 : List Instr :=
  [.delayedProgramStart 16, .tripHoldEnd 16, .stillnessFault (.engine 16), .stillnessFault (.pump 8),
   .stillnessFault (.bank 16), .windowRead 0, .windowRead 129, .chEnable 16, .chDisable 16, .shutdownComplete 16,
   .chLearn 16, .inWinClear 16, .faultWindowEnd 16, .engEnable 16, .engDisable 16, .bgStart 16, .clrFault 16,
   .bankSizeWrite 16 0, .backgroundStart 16, .halt 16, .haltV 16 0, .ldt 16, .stt 16, .post 16]

/-- One ill-formed command for each check of WellFormed: engine program rows. -/
def illFormed2 : List Instr :=
  [.tileI8I8 16, .tileI4I4 16, .tileI8I4 16, .tileI8I6 16, .vecAdd 16, .vecSub 16, .vecMul 16, .vecMulh 16, .vecMin 16,
   .vecMax 16, .vecAbs 16, .vecRelu 16, .vecClamp 16, .vecShr 16, .vecShl 16, .vecNarrow 16, .vecWiden 16, .vecScale 16,
   .vecLut 16, .vecMove 16, .vecBroadcast 16, .redSum 16, .redSumsq 16, .redMax 16, .redMin 16, .cmpGt 16, .cmpGe 16,
   .cmpLt 16, .cmpLe 16, .cmpEq 16, .cmpNe 16, .trace 16, .srnd 16, .dgate 16, .seal 16, .ring 16, .await 16,
   .tagwait 16, .loop 16, .br 16]

/-- One ill-formed command for each check of WellFormed: well, repair and supervisor rows. -/
def illFormed3 : List Instr :=
  [.sampleCapture 64 ⟨0, true⟩ false false 0, .wellEnable 64, .wellDisable 64, .epochEnd 16, .sweepComplete 16, .bankSwap 16,
   .columnTest (.cistern 16) 1 0, .columnTest (.cistern 0) 0 0, .columnTest (.cistern 0) 5 0,
   .columnTest (.cistern 0) 1 72, .spareCopy (.store 16 0), .spareSwitch (.store 0 16), .supLoad 0 3,
   .supLoad (2 ^ 32) 1, .supStore 0 8 0, .supStore (2 ^ 32) 1 0, .supRing 64 1, .supTry 64, .supPeek 64,
   .bellsWrite 64 0, .supPost 8 0, .bankReadyMark 16 false, .fltHeadRead 4, .shadowCfg 16 0, .quiesceTimeout 4,
   .tbLogRead 0, .tbLogRead 129]

/-- One ill-formed command for each check of WellFormed: link, cloister and security rows. -/
def illFormed4 : List Instr :=
  [.linkEnable 4, .linkDisable 4, .linkRetire 4, .linkUnretire 4, .trainingComplete 4 ⟨⟨[], 0, 0⟩, ⟨[], []⟩⟩, .laneLockLost 4 ⟨0, []⟩,
   .laneLockLost 0 ⟨2, []⟩, .hello 4 ⟨[], 0, 0⟩, .ack 4 [], .nak 4 [], .pause 4 [], .req 4 [], .rdata 4 [], .wdata 4 [], .wdone 4 [],
   .refuse 4 [], .cancel 4 [], .cdone 4 [], .frameTransmit 4, .replayTimer 4, .heldFrameTimeout 4, .retryStep 4,
   .retryWindowEnd 4, .injArm 4 0, .injSeedWrite 4 0, .cloSafeWrite 3 0, .cloSafeWrite 7 0, .quiesceAnswer 4 ⟨true, false⟩,
   .respOutRead 0, .idCertRead 129, .blockLockRegained ⟨4, ⟨[], []⟩⟩]

theorem test_ill_formed_refused :
    illFormed1.all (fun c => !c.wellFormed) = true ∧ illFormed2.all (fun c => !c.wellFormed) = true ∧
    illFormed3.all (fun c => !c.wellFormed) = true ∧ illFormed4.all (fun c => !c.wellFormed) = true := by decide

theorem test_well_formed_accepted :
    [Instr.chEnable 15, .tileI8I8 15, .sampleCapture 63 ⟨0, true⟩ false false 0, .columnTest (.store 15 15) 4 71,
     .supLoad (2 ^ 32 - 4) 4, .laneLockLost 3 ⟨1, []⟩, .windowRead 128, .tickEdge 0].all Instr.wellFormed = true := by decide

/-! ## Small states -/

/-- What `State.sound` asks, as a test. -/
def soundB (s : State) : Bool :=
  decide (s.regs.Pairwise (fun x y => x.1 < y.1)) && s.regs.all (fun x => decide (x.2 ≠ resetWord s.part s.straps x.1)) &&
    Memory.wf s.cist && s.engs.all (fun g => Memory.wf g.store) && Memory.wf s.sup.sram &&
    s.sup.slots.all (fun l => Memory.wf l.desc) &&
    s.clo.walks.all (fun k => Memory.wf k.config && k.mems.all (fun m => Memory.wf m)) &&
    decide (s.faults.queue.length ≤ 64) && decide (s.journal.queue.length ≤ 64) && decide (s.tbase.log.length ≤ 4) &&
    s.bells.all (fun b => decide (b.count ≤ 255))

theorem sound_of {s : State} (h : soundB s = true) : s.sound := by
  simp only [soundB, Bool.and_eq_true, decide_eq_true_eq, List.all_eq_true] at h
  obtain ⟨⟨⟨⟨⟨⟨⟨⟨⟨⟨h1, h2⟩, h3⟩, h4⟩, h5⟩, h6⟩, h7⟩, h8⟩, h9⟩, h10⟩, h11⟩ := h
  exact ⟨⟨h1, h2⟩, h3, h4, h5, h6, h7, h8, h9, h10, h11⟩

theorem part_of {s : State} {p : Part} (h : s.part = p ∧ s.shape = Part.shape p) : s.ofPart p := h

theorem num_of {s : State} (h : s.ops.Pairwise (fun a b => a.id < b.id) ∧ ∀ o ∈ s.ops, o.id < s.nextOp) : s.numbered := h

/-- The state after reset. -/
abbrev s0 : State := State.reset

/-- Reset with the tick unit changed. -/
def tickS (f : TickUnit → TickUnit) : State := { s0 with tick := f s0.tick }

/-- Reset with channel 15 changed. -/
def chanS (f : Channel → Channel) : State := s0.modChan 15 f

/-- Reset with engine 15 changed. -/
def engS (f : Engine → Engine) : State := s0.modEng 15 f

/-- Reset with link port 3 changed. -/
def portS (f : Port → Port) : State := s0.modPort 3 f

/-- Reset with the power sequencer changed. -/
def powerS (f : Power → Power) : State := s0.modPower f

/-- A program at instruction 0 of 8, in store bytes 0x8000 to 0x803F. -/
def runOf (k : ProgKind) : Run :=
  { kind := k, entry := 0x8000, len := 8, strokes := 100, pc := 0, loops := [], any := false, tickNo := 0, snapAt := 0,
    snapTb := 0, snaps := [], clean := true, active := false, lean := false, waitBell := none, stalled := none,
    post := none, halting := false, firstOp := 0, primary := true, bt := 0, sampled := false, row := 0, bound := 0 }

/-- An operation in flight that engine `e` posted: a COPY from the cistern to its store. -/
def opOf (e : Nat) (tick : Bool) (desc : List Byte) : PumpOp :=
  { id := 0, pump := 7, issuer := .engine e tick (if tick then some 15 else none), handle := 31, ctx := 0, lane := 0,
    desc := desc, entries := [], listBase := 0, refCount := 0, seen := 0, filled := false, cut := false, tickNo := 0,
    started := true, waitEnd := none, prior := [], steps := 0, shown := 0, buf := [], judged := [], moved := false, prot := 0, ecc := 0, defer := 0, short := 0, drop := 0, fail := 0, port := 0, xid := none,
    blocks := [], xferFrom := none, xferCount := 0, xferLimit := 0 }

/-- A state with the operation `o` in flight. -/
def opS (o : PumpOp) (s : State) : State := { s with ops := [o], nextOp := 1 }

/-- A valid directory entry: ENTRY 0x8000, STROKES 100, VALID, LENGTH 8 (R204, R205). -/
def entryBytes : List Byte := leBytes 4 0x8000 ++ leBytes 2 100 ++ leBytes 2 0 ++ [0, 1] ++ leBytes 2 8

/-! ## The machine, the tick, the guard and the monitors -/

theorem wit_machine : State.reset.ofPart .idp1640 ∧ State.reset.sound ∧ State.reset.numbered ∧ State.reset.selfCleared ∧
    (s0.withPending [.lockSet]).pending = .lockSet :: [] ∧ (∃ t, step (s0.withPending [.lockSet]) = .next t) ∧ State.reset.settled ∧
    userClocksOn State.reset = false ∧ step State.reset = .next State.reset :=
  ⟨part_of (by decide), sound_of (by decide), num_of (by decide), by unfold State.selfCleared; decide, by decide, ⟨_, rfl⟩, rfl, by decide, rfl⟩

/-- Reset with ENABLE in force, and an edge accepted on RIM count 0. -/
def ticking : State := tickS (fun t => { t with en := true, lastEdge := some 0, lossRef := some 0 })

theorem wit_SourcesStartTicks : { ticking with clo := { s0.clo with global := [1] } }.clo.global ≠ [] ∧ ticking.sound ∧ ticking.power.mode = .run ∧ ticking.power.committed = none ∧
    ticking.tick.src = false ∧ ticking.tick.stopped = false ∧ ticking.tick.pend = false ∧ ticking.tick.en = true ∧
    ticking.tick.lastEdge = some 0 ∧ 0 + 3000 ≤ ticking.now + 3000 ∧
    (tickS (fun t => { t with en := true, pend := true })).tick.pend = true ∧
    ((tickS (fun t => { t with pend := true })).setB DEV 0x20 15).bit DEV 0x20 15 = true :=
  ⟨by decide, sound_of (by decide), by decide⟩

theorem wit_SourcesStartTicks_free :
    let s := tickS (fun t => { t with en := true, src := true, freeDue := some 6250 })
    s.power.mode = .run ∧ s.tick.en = true ∧ s.tick.pend = false ∧ s.tick.stopped = false ∧ s.tick.freeDue = some 6250 := by
  decide

theorem wit_EarlyTickEdgeIsRunt : ticking.sound ∧ ticking.power.mode = .run ∧ ticking.tick.lastEdge = some 0 ∧
    ticking.now + 2999 < 0 + 3000 := ⟨sound_of (by decide), by decide⟩

theorem wit_NoTickWhileDisabledOrAsleep : (powerS (fun p => { p with mode := .hush })).power.mode = .hush ∧
    (powerS (fun p => { p with mode := .dormant })).power.mode = .dormant ∧
    (powerS (fun p => { p with mode := .off })).power.mode = .off ∧ s0.power.mode = .run ∧ s0.tick.en = false ∧
    s0.tick.pend = false := by decide

theorem wit_SourcesStartTicks_loss :
    let s := tickS (fun t => { t with en := true, lossRef := some 0, fallback := true })
    ticking.sound ∧ ticking.power.mode = .run ∧ ticking.tick.en = true ∧ ticking.tick.src = false ∧
    ticking.tick.lost = false ∧ ticking.tick.pend = false ∧ ticking.tick.lossRef = some 0 ∧
    ticking.tick.fallback = false ∧ s.tick.fallback = true ∧ s.tick.lossRef = some 0 ∧ s.tick.lost = false :=
  ⟨sound_of (by decide), by decide⟩

/-- An open tick: channel 15 is Active, served and without a verdict. -/
def openTick : State :=
  { chanS (fun c => { c with st := .active, served := true }) with tick := { s0.tick with en := true, open_ := true, number := 1, guard := 5625 } }

theorem wit_GuardEdgeLatchesLate : openTick.ofPart .idp1640 ∧ openTick.sound ∧ openTick.power.mode = .run ∧
    openTick.tick.open_ = true ∧ (openTick.chan 15).st.onDuty = true ∧ (openTick.chan 15).served = true ∧
    (openTick.chan 15).latched = false ∧ (openTick.chan 0).st.onDuty = false :=
  ⟨part_of (by decide), sound_of (by decide), by decide⟩

theorem wit_ReportsAndHolds :
    let s := tickS (fun t => { t with vdQueue := [(8, 15)] })
    let u := chanS (fun c => { c with holdEnd := some 65536 })
    s.power.mode = .run ∧ s.tick.vdQueue = (8, 15) :: [] ∧ u.power.mode = .run ∧ (u.chan 15).holdEnd = some 65536 ∧
    15 < u.chans.length := by decide

theorem wit_PaceWindows :
    let u := { s0 with pace := { overs := 1, full := true } }
    let r := powerS (fun p => { p with rimPll := false })
    s0.sound ∧ s0.power.mode = .run ∧ s0.power.rimPll = true ∧ s0.power.change = none ∧ s0.pace.full = true ∧
    guarantee (levelNow s0) < min 4095 ((5120000 + 1 - 1) / 1) ∧ 1 ≤ u.pace.overs ∧
    guarantee (levelNow s0) ≥ min 4095 ((5120000 + 5120 - 1) / 5120) ∧ r.power.rimPll = false :=
  ⟨sound_of (by decide), by decide⟩

theorem wit_DelayedStartAndStillness :
    let s := storePut 15 dirBase entryBytes (engS (fun g => { g with overhang := true, due := [runOf (.tick 0)] }))
    s.power.mode = .run ∧ (s.eng 15).overhang = true ∧ bgInFlight s 15 = false ∧ (s.eng 15).run = none ∧
    (s.eng 15).due = runOf (.tick 0) :: [] ∧ (s.eng 14).due = [] ∧ storeBad s 15 (dirBase + 16 * 0) 16 = false ∧
    (dirEntry s 15 0).runnable true = true := by decide

theorem wit_StillnessFault :
    let r := runOf (.job 0)
    let w := { r with waitBell := some 63 }
    let s := opS (opOf 15 false []) (engS (fun g => { g with run := some r }))
    let u := { engS (fun g => { g with run := some w }) with
      bells := modAt s0.bells 63 (fun b => { b with waiters := [(15, false)] }) }
    s.sound ∧ u.sound ∧ s.power.mode = .run ∧ 15 < s.engs.length ∧ (s.eng 15).run = some r ∧ declaredWait s 15 r = false ∧
    s.fld (ENG 15) 0x04 0 12 ≠ 0 ∧ pumpWorks s 7 = true ∧ pumpWorks s 0 = false ∧ 15 < s.banks.length ∧
    (s.bank 15).fenced = false ∧ s.ops ≠ [] ∧ u.bells.length = 64 ∧ (u.bell 63).waiters ≠ [] ∧ (u.eng 15).run = some w ∧
    (15, w.kind.isTick) ∈ (u.bell 63).waiters ∧ w.waitBell.isSome = true ∧ declaredWait u 15 w = true ∧
    tickDone s = true ∧ tickDone openTick = false := ⟨sound_of (by decide), sound_of (by decide), by decide⟩

/-! ## The control port, the registers and the table window -/

/-- Reset with LOCK = 1. -/
def lockedS : State := s0.setB DEV 0x03 15

theorem wit_RegisterWordsAreWritten : s0.sound ∧ s0.power.mode = .run ∧ supActs s0 = true ∧ locked s0 = false ∧
    lockedS.sound ∧ lockedS.power.mode = .run ∧ locked lockedS = true ∧ (0x0000 : Word) ≠ lockedS.rd (CH 15) 0x0F ∧
    (0xFFFF : Word) = lockedS.rd (CH 15) 0x08 :=
  ⟨sound_of (by decide), by decide, by decide, by decide, sound_of (by decide), by decide⟩

theorem wit_RegisterWordsAreWritten_events :
    let s := raise evFrame s0
    s.sound ∧ s.power.mode = .run ∧ 15 < 16 ∧ s.bit DEV 0x05 8 = true := ⟨sound_of (by decide), by decide⟩

theorem wit_FramesAreCheckedAndAnswered :
    let short : List Byte := [0x90, 0, 6, 1, 0, 0]
    let bad : List Byte := [0x90, 0, 6, 1, 0, 0, 0]
    s0.sound ∧ s0.power.mode = .run ∧ addressed s0 short = true ∧ frameByte short 0 % 2 = 0 ∧
    short.length < 5 + 2 * frameByte short 3 ∧ addressed s0 bad = true ∧ 4 ≤ bad.length ∧
    limitBroken (frameByte bad 1) (frameByte bad 2) (frameByte bad 3) = false ∧ 5 + 2 * frameByte bad 3 ≤ bad.length ∧
    crc8 (bad.take (4 + 2 * frameByte bad 3)) ≠ frameByte bad (4 + 2 * frameByte bad 3) ∧
    limitBroken (frameByte [0x90, 0, 0xFF, 2] 1) (frameByte [0x90, 0, 0xFF, 2] 2) (frameByte [0x90, 0, 0xFF, 2] 3) = true ∧
    (∀ k, k < 2 → isWindow (CH 0) (0 + k) = false) ∧ (∀ k, k < 1 → isWindow (ENG 7) (255 + k) = false) :=
  ⟨sound_of (by decide), by decide +kernel⟩

/-- Reset with a table selected and the window's pointer at `p`. -/
def windowS (table index p : Nat) : State :=
  ((s0.wr DEV 0x08 (word (table * 256 + index))).wr DEV 0x09 (word p)).wr DEV 0x0A (word (p / 65536))

theorem wit_TableWindow :
    let s := windowS 2 15 0xBFFFF
    let u := windowS 2 15 0xC0000
    let x := windowS 5 0 0
    s.sound ∧ u.sound ∧ x.sound ∧ s.power.mode = .run ∧ tblTable s = 2 ∧ tblIndex s < s.part.engines ∧
    s.engs.length = s.part.engines ∧ tblPtr s < 0xC0000 ∧ storeBad s (tblIndex s) (2 * tblPtr s) 2 = false ∧
    tblTable u = 2 ∧ tblIndex u < u.part.engines ∧ 0xC0000 ≤ tblPtr u ∧ tblTable x = 5 ∧ tblIndex x = 0 ∧
    tblPtr x + 128 ≤ 0x80 :=
  ⟨sound_of (by decide), sound_of (by decide), sound_of (by decide), by decide⟩

theorem wit_DeviceControlRows : lockedS.sound ∧ s0.power.mode = .run ∧ locked s0 = false ∧ lockedS.power.mode = .run ∧
    locked lockedS = true ∧ true ≠ lockedS.bit DEV 0x03 14 ∧ s0.ops.length ≤ 256 := ⟨sound_of (by decide), by decide⟩

theorem wit_LockFallsOnlyByReset : lockedS.sound ∧ locked lockedS = true ∧
    (∃ t, exec .resetNAssert lockedS = .next t ∧ locked t = false) := ⟨sound_of (by decide), by decide, _, rfl, by decide⟩

theorem wit_OnlyEdgesCountTimebase : s0.power.mode ≠ .off ∧
    (∃ t, exec .timebaseCount s0 = .next t ∧ t.tb ≠ s0.tb) := ⟨by decide, _, rfl, by decide⟩

/-- Reset with every binding slot used, slot 7 revoked. -/
def slotS : State :=
  { s0 with sec := { s0.sec with slots := List.replicate 7 { used := true, revoked := false, key := [1], spoiled := none } ++
                                            [{ used := true, revoked := true, key := [2], spoiled := none }] } }

theorem wit_BindingFusesAreOneWay : (slotS.slot 0).used = true ∧ (slotS.slot 7).revoked = true ∧ slotS.sec.run = none ∧
    (∃ t, exec .resetNAssert slotS = .next t) := ⟨by decide, by decide, by decide, _, rfl⟩

theorem wit_RunIsLeftOnlyBySleepOrReset : s0.power.mode = .run ∧
    (∃ t, exec .cryptBrownout s0 = .next t ∧ t.power.mode ≠ .run) := ⟨by decide, _, rfl, by decide⟩

/-! ## Channels, engines and learning -/

theorem wit_ChannelControl :
    let off := s0
    let mark := chanS (fun c => { c with retMark := true })
    let stop := chanS (fun c => { c with st := .stopping })
    let act := chanS (fun c => { c with st := .active, enabled := true })
    let busy := opS (opOf 15 true []) act
    let win := chanS (fun c => { c with st := .watch, winLeft := some 1 })
    off.ofPart .idp1640 ∧ mark.ofPart .idp1640 ∧ stop.ofPart .idp1640 ∧ act.ofPart .idp1640 ∧ busy.ofPart .idp1640 ∧
    win.ofPart .idp1640 ∧ off.sound ∧ mark.sound ∧ stop.sound ∧ act.sound ∧ busy.sound ∧ win.sound ∧
    off.power.mode = .run ∧ (off.chan 15).st = .off ∧ (off.chan 15).retMark = false ∧ (mark.chan 15).st = .off ∧
    (mark.chan 15).retMark = true ∧ (stop.chan 15).st = .stopping ∧ (stop.chan 15).done = false ∧
    outstanding stop 15 = false ∧ (act.chan 15).st.counting = true ∧ outstanding act 15 = false ∧
    (busy.chan 15).st.counting = true ∧ outstanding busy 15 = true ∧ (win.chan 15).winLeft.isSome = true ∧
    [off, mark, stop, act, busy].all (fun s => !midTick s) = true ∧ midTick openTick = true :=
  ⟨part_of (by decide), part_of (by decide), part_of (by decide), part_of (by decide), part_of (by decide),
   part_of (by decide), sound_of (by decide), sound_of (by decide), sound_of (by decide), sound_of (by decide),
   sound_of (by decide), sound_of (by decide), by decide⟩

/-- Channel 15 Active at the last position of its epoch, ENABLE and LEARN set. -/
def epochS : State :=
  (chanS (fun c => { c with st := .active, enabled := true, learnOn := true, learn := { c.learn with pos := 4095 } })).setB
    (CH 15) 0x00 15

theorem wit_EpochsAndSweeps :
    let held := epochS.modChan 15 (fun c => { c with learn := { c.learn with hold := true } })
    let swept := chanS (fun c => { c with st := .active, learn := { c.learn with sweepOn := true } })
    let ready := chanS (fun c => { c with st := .active, learn := { c.learn with ready := true } })
    epochS.ofPart .idp1640 ∧ epochS.sound ∧ held.sound ∧ swept.ofPart .idp1640 ∧ ready.ofPart .idp1640 ∧
    epochS.power.mode = .run ∧ (epochS.chan 15).st.onDuty = true ∧ epochS.tick.buttressOnly = false ∧
    epochDue epochS 15 = true ∧ epochS.settled ∧ epochS.journal.queue.length < 64 ∧ epochS.bit (CH 15) 0x00 15 = true ∧
    (epochS.chan 15).learnOn = true ∧ (epochS.chan 15).learn.hold = false ∧ (epochS.chan 15).learn.tainted = false ∧
    epochDue held 15 = true ∧ (held.chan 15).learn.hold = true ∧ (swept.chan 15).learn.sweepOn = true ∧
    (swept.chan 15).learn.parts = [] ∧ (swept.chan 15).learn.sweepBad = false ∧ (swept.chan 15).st ≠ .off ∧
    (ready.chan 15).learn.ready = true ∧ (ready.chan 15).st.counting = true :=
  ⟨part_of (by decide), sound_of (by decide), sound_of (by decide), part_of (by decide), part_of (by decide),
   by unfold State.settled; decide⟩

theorem wit_EngineControlAndJobs :
    let stop := opS (opOf 15 false []) (engS (fun g => { g with stopping := true }))
    let shut := engS (fun g => { g with enabled := true, fenced := some 0 })
    let opn := storePut 15 (dirBase + 16 * 32) entryBytes (engS (fun g => { g with enabled := true }))
    let used := chanS (fun c => { c with st := .active })
    stop.ofPart .idp1640 ∧ stop.sound ∧ shut.ofPart .idp1640 ∧ opn.ofPart .idp1640 ∧ used.sound ∧
    (s0.eng 15).retired = false ∧ (s0.eng 15).stopping = false ∧ (stop.eng 15).stopping = true ∧
    engQuiet stop 15 = false ∧ (shut.eng 15).enabled = true ∧ engStopping shut 15 = false ∧ (shut.eng 15).bgPend = none ∧
    (shut.eng 15).run = none ∧ (shut.eng 15).susp = none ∧ bgOpen shut 15 = false ∧ bgOpen opn 15 = true ∧
    (opn.eng 15).sweeps = [] ∧ storeBad opn 15 (dirBase + 16 * (32 + opn.fld (ENG 15) 0x00 8 5)) 16 = false ∧
    (dirEntry opn 15 (32 + opn.fld (ENG 15) 0x00 8 5)).runnable false = true ∧ (s0.eng 15).enabled = false ∧
    (0xBE : BitVec 8).toNat < 0xBF ∧ (∀ c, c ∈ chansOn s0 15 → (s0.chan c).st = .off) ∧
    (15 ∈ chansOn used 15 ∧ (used.chan 15).st ≠ .off) ∧ 0xBF ≤ (0xBF : BitVec 8).toNat ∧ midTick s0 = false ∧
    midTick stop = false :=
  ⟨part_of (by decide), sound_of (by decide), part_of (by decide), part_of (by decide), sound_of (by decide), by decide⟩

theorem wit_BackgroundStart :
    let fenced := engS (fun g => { g with susp := some (runOf (.job 0)) })
    let sweep := storePut 15 (dirBase + 16 * 31) entryBytes (engS (fun g => { g with enabled := true, sweeps := [15] }))
    let job := storePut 15 (dirBase + 16 * 63) entryBytes (engS (fun g => { g with enabled := true, bgPend := some 31 }))
    bgOpen fenced 15 = true ∧ (fenced.eng 15).susp = some (runOf (.job 0)) ∧ bgOpen sweep 15 = true ∧
    (sweep.eng 15).sweeps = 15 :: [] ∧ storeBad sweep 15 (dirBase + 16 * (16 + 15)) 16 = false ∧
    (dirEntry sweep 15 (16 + 15)).runnable false = true ∧ bgOpen job 15 = true ∧ (job.eng 15).sweeps = [] ∧
    (job.eng 15).bgPend = some 31 ∧ (dirEntry job 15 (32 + 31)).runnable false = true := by decide

/-! ## The instructions of the engines -/

/-- Engine 15 at instruction 0 of a program of kind `k`, whose words are `ws` at store byte 0x8000. -/
def codeS (k : ProgKind) (ws : List Nat) : State :=
  engS (fun g => { g with run := some (runOf k), store := memOf 0x8000 (ws.flatMap (leBytes 8)) })

/-- What `State.reaches` asks, as a test. -/
def reachesB (s : State) (e : Nat) (r : Run) (i : Ins) : Bool :=
  decide (s.power.mode = .run) && decide ((s.eng e).run = some r) && r.waitBell.isNone && r.stalled.isNone &&
    (match fetchIns s e r with
     | .ok w => (match decodeIns w with | some i0 => decide (i = i0.strided r.loops) | none => false)
     | .error _ => false) &&
    !badLane i && decide (touchTrap (touches s e r i) = 0) && decide (modeTrap r i = 0) &&
    !mustHold s e r i (touches s e r i) && (readRanges e r (refreshed s e r i) (touches s e r (refreshed s e r i))).all (fun x => !storeBad s e x.1 x.2)

theorem reach_of {s : State} {e : Nat} {r : Run} {i : Ins} (h : reachesB s e r i = true) : s.reaches e r i := by
  simp only [reachesB, Bool.and_eq_true, Bool.not_eq_true', decide_eq_true_eq, Option.isNone_iff_eq_none,
    List.all_eq_true] at h
  obtain ⟨⟨⟨⟨⟨⟨⟨⟨⟨h1, h2⟩, h3⟩, h4⟩, h5⟩, h6⟩, h7⟩, h8⟩, h9⟩, h10⟩ := h
  refine ⟨h1, h2, h3, h4, ?_, h6, h7, h8, h9, h10⟩
  split at h5
  · split at h5
    · exact ⟨_, _, by assumption, by assumption, by simpa using h5⟩
    · cases h5
  · cases h5

/-- The instruction that a word decodes to; HALT where it decodes to none. -/
def insOf (w : Nat) : Ins := (decodeIns w).getD { op := .halt, sb := false, xs := [] }

/-- Every word of the list, run as its program's first instruction, decodes to its operation and is reached. -/
def allReached (k : ProgKind) (xs : List (Nat × EOp)) : Bool :=
  xs.all (fun x => decide ((insOf x.1).op = x.2) && reachesB (codeS k [x.1]) 15 (runOf k) (insOf x.1))

theorem reached_of {k : ProgKind} {xs : List (Nat × EOp)} (h : allReached k xs = true) :
    ∀ x ∈ xs, (insOf x.1).op = x.2 ∧ (codeS k [x.1]).reaches 15 (runOf k) (insOf x.1) := by
  intro x hx
  have := List.all_eq_true.mp h x hx
  simp only [Bool.and_eq_true, decide_eq_true_eq] at this
  exact ⟨this.1, reach_of this.2⟩

/-- A word of class `c` and OP `o` with the fields `f`. -/
def insWord (c o f : Nat) : Nat := c * 2 ^ 59 + o * 2 ^ 56 + f

/-- S-operands at store bytes 0x10000 and 0x12000, INT8, N = 1 (08, instruction word layouts). -/
def twoOps : Nat := 0x1000 * 2 ^ 37 + 0x1200 * 2 ^ 19

theorem wit_VectorRows : allReached (.job 15)
    [(insWord 3 0 twoOps, .vec .add), (insWord 3 0 (twoOps + 2), .vec .sub), (insWord 3 0 (twoOps + 4), .vec .mul),
     (insWord 3 0 (twoOps + 6), .vec .mulh), (insWord 3 1 twoOps, .vec .min), (insWord 3 1 (twoOps + 2), .vec .max),
     (insWord 3 1 (twoOps + 4), .vec .abs), (insWord 3 1 (twoOps + 6), .vec .relu), (insWord 3 1 (twoOps + 8), .vec .clamp),
     (insWord 3 2 twoOps, .vec .shr), (insWord 3 2 (twoOps + 2), .vec .shl),
     (insWord 3 3 (twoOps + 0x800), .vec .narrow), (insWord 3 3 (twoOps + 2), .vec .widen), (insWord 3 4 twoOps, .vec .scale),
     (insWord 3 5 (twoOps + 0x800), .vec .lut), (insWord 3 6 twoOps, .vec .move), (insWord 3 6 (twoOps + 2), .vec .broadcast)]
    = true := by decide

theorem wit_ReductionsAndComparisons : allReached (.job 15)
    [(insWord 4 0 twoOps, .red .sum), (insWord 4 1 twoOps, .red .sumsq), (insWord 4 2 twoOps, .red .max),
     (insWord 4 3 twoOps, .red .min)] = true ∧ allReached (.sweep 15)
    [(insWord 5 0 (0x100 * 2 ^ 42 + 0x110 * 2 ^ 29 + 0x1200 * 2 ^ 12), .cmp .gt),
     (insWord 5 1 (0x100 * 2 ^ 42 + 0x110 * 2 ^ 29 + 0x1200 * 2 ^ 12), .cmp .ge),
     (insWord 5 2 (0x100 * 2 ^ 42 + 0x110 * 2 ^ 29 + 0x1200 * 2 ^ 12), .cmp .lt),
     (insWord 5 3 (0x100 * 2 ^ 42 + 0x110 * 2 ^ 29 + 0x1200 * 2 ^ 12), .cmp .le),
     (insWord 5 4 (0x100 * 2 ^ 42 + 0x110 * 2 ^ 29 + 0x1200 * 2 ^ 12), .cmp .eq),
     (insWord 5 5 (0x100 * 2 ^ 42 + 0x110 * 2 ^ 29 + 0x1200 * 2 ^ 12 + 8), .cmp .ne)] = true := by decide

theorem wit_TileRowsMultiply : allReached (.job 15)
    [(insWord 2 0 (0x1000 * 2 ^ 37 + 0x1200 * 2 ^ 19 + 0x1400 * 2), .tile .i8i8),
     (insWord 2 1 (0x1000 * 2 ^ 37 + 0x1200 * 2 ^ 19 + 0x1400 * 2 + 1), .tile .i4i4),
     (insWord 2 2 (0x1000 * 2 ^ 37 + 0x1200 * 2 ^ 19 + 0x1400 * 2), .tile .i8i4),
     (insWord 2 3 (0x1000 * 2 ^ 37 + 0x1200 * 2 ^ 19 + 0x1400 * 2), .tile .i8i6)] = true := by decide

theorem wit_RoundingRows : allReached (.job 15)
    [(insWord 7 0 twoOps, .srnd), (insWord 7 0 (twoOps + 0x800), .srnd), (insWord 7 0 (twoOps + 0x1000), .srnd),
     (insWord 6 0 (0x1000 * 2 ^ 38 + 0x120 * 2 ^ 25 + 0x130 * 2 ^ 12), .trace),
     (insWord 8 0 (0x100 * 2 ^ 42 + 0x110 * 2 ^ 29 + 0x120 * 2 ^ 16), .dgate)] = true := by decide

theorem wit_ControlAndOrdering : allReached (.job 15)
    [(insWord 9 0 0, .seal), (insWord 11 0 (31 * 2 ^ 50), .tagwait), (insWord 11 1 0, .tagwait),
     (insWord 10 0 (63 * 2 ^ 49 + 255 * 2 ^ 41), .ring), (insWord 10 1 (63 * 2 ^ 49), .await),
     (insWord 12 0 (6 * 2 ^ 31), .loop), (insWord 12 0 (7 * 2 ^ 31), .loop), (insWord 13 0 0, .br), (insWord 13 1 0, .br),
     (insWord 13 2 0, .br), (insWord 0 0 0, .halt)] = true ∧ allReached (.tick 15)
    [(insWord 0 1 (0x1000 * 2 ^ 37), .haltV)] = true ∧ allReached (.sweep 15) [(insWord 0 0 0, .halt)] = true ∧
    s0.numbered ∧ (opOf 15 false []).presents = true ∧ nothingDue s0 ∧ 63 < s0.bells.length ∧ 0 + 1 + 6 < (runOf (.job 15)).len ∧
    (runOf (.job 15)).len ≤ 0 + 1 + 7 ∧ 15 < s0.chans.length :=
  ⟨by decide, by decide, by decide, num_of (by decide), by decide, by
    intro x; unfold State.eng nth; rw [List.getD_eq_getElem?_getD]
    by_cases h : x < s0.engs.length
    · have : ∀ y, y < 16 → (s0.engs[y]?.getD Engine.reset).due = [] := by decide
      exact this x h
    · rw [List.getElem?_eq_none (by omega)]; rfl, by decide⟩

/-- The primary's HALT.V comes in its own tick, before the guard edge, of an Active channel without a verdict. -/
theorem wit_HaltV :
    let w := insWord 0 1 (0x1000 * 2 ^ 37)
    let s := (codeS (.tick 15) [w]).modChan 15 (fun c => { c with st := .active })
    let u := { s with tick := { s.tick with open_ := true } }
    u.reaches 15 (runOf (.tick 15)) (insOf w) ∧ (insOf w).op = .haltV ∧ (runOf (.tick 15)).primary = true ∧
    u.tick.open_ = true ∧ u.tick.number = (runOf (.tick 15)).tickNo ∧ (u.chan 15).st = .active ∧ (u.chan 15).latched = false :=
  ⟨reach_of (by decide), by decide⟩

/-! ## Pumps, tags and wells -/

/-- An endpoint block of one dimension: space, UNIT, BASE, STRIDE0 and BOUND0 (R256). -/
def endBytes (space unit base stride bound : Nat) : List Byte :=
  leBytes 1 space ++ leBytes 1 unit ++ leBytes 6 (base * 65536) ++ leBytes 20 stride ++ leBytes 20 bound

/-- A descriptor of one dimension: OP and KIND byte, EXT0, list length and its endpoints (R255). -/
def descBytes (op ext0 list : Nat) (src dst : List Byte) : List Byte :=
  leBytes 1 op ++ leBytes 1 1 ++ leBytes 2 list ++ leBytes 12 0x5A5A5A5A ++ leBytes 16 ext0 ++ src ++ dst

/-- FILL of two units of a store of one unit: the second is dropped. -/
def fillDesc : List Byte := descBytes 6 2 0 (endBytes 0 0 0 0 0) (endBytes 2 0 0x20000 16 1)

/-- COPY of two lanes of cistern page 1 to a store. -/
def copyDesc : List Byte := descBytes 0 2 0 (endBytes 1 0 0x10000 16 2) (endBytes 2 0 0x20000 16 2)

/-- Context 0's page 1 is physical page 1, readable and writable, by peers too. -/
def pagedS (s : State) : State := { s with tables := { s.tables with pages := [(2, 1), (3, 0xF000)] } }

/-- Engine 15 about to post a descriptor at store byte 0x10000 with OP `o` of TENS, pump 7, handle 31; pumps enabled as
DEV_PUMP_CTRL `en` says. -/
def postS (desc : List Byte) (k : ProgKind) (o : Nat) (en : Word) : State :=
  (engS (fun g => { g with
    run := some (runOf k), store := memOf 0x8000 (leBytes 8 (insWord 1 o (7 * 2 ^ 52 + 0x1000 * 2 ^ 35 + 31 * 2 ^ 30))) ++
                                      memOf 0x10000 desc })).wr PMP 0x00 en

/-- The TENS that `postS` is about to issue. -/
def postIns (o : Nat) : Ins := insOf (insWord 1 o (7 * 2 ^ 52 + 0x1000 * 2 ^ 35 + 31 * 2 ^ 30))

/-- A state whose 256 tags are all taken. -/
def tagsOut (s : State) : State :=
  { s with ops := (List.range 256).map (fun i => { opOf 0 false [] with id := i, handle := 0, pump := 0 }), nextOp := 256 }

theorem wit_PostsTakeTags :
    let s := postS fillDesc (.tick 15) 0 0x8000
    let off := postS fillDesc (.tick 15) 0 0
    let d := parseDesc (storeGet s 15 0x10000 128)
    s.reaches 15 (runOf (.tick 15)) (postIns 0) ∧ off.reaches 15 (runOf (.tick 15)) (postIns 0) ∧ s.numbered ∧
    (postIns 0).op = .tens .ldt ∧ atOf (touches s 15 (runOf (.tick 15)) (postIns 0)) 0 = 0x10000 ∧ d.op = .fill ∧
    tagsAhead s 15 true < freeTags s ∧ pumpAccepts s (postIns 0).num = true ∧
    formatBad d (some .ldt) false s.part.engines (windowWidth s d) = false ∧ alignBad d = false ∧
    pumpAccepts off (postIns 0).num = false ∧ formatBad d (some .stt) false s.part.engines (windowWidth s d) = true :=
  ⟨reach_of (by decide), reach_of (by decide), num_of (by decide), by decide⟩

theorem wit_PostsWaitForTags :
    let s := tagsOut (postS fillDesc (.job 15) 0 0x8000)
    let r := { runOf (.job 15) with stalled := some 0, post := some (0, opOf 15 false fillDesc) }
    let g := (postS fillDesc (.job 15) 0 0x8000).modEng 15 (fun g => { g with run := some r })
    s.reaches 15 (runOf (.job 15)) (postIns 0) ∧ freeTags s ≤ tagsAhead s 15 false ∧
    g.ops.length < 256 ∧ stalledEngines g true ++ stalledEngines g false = [15] ∧ stalledSlots g = [] ∧
    (∀ q ∈ g.ports, q.peers = []) ∧ (Port.reset).peers = [] ∧
    (g.eng 15).run = some r ∧ r.stalled.isSome = true ∧ r.halting = false :=
  ⟨reach_of (by decide +kernel), by decide +kernel⟩

theorem nothing_due {s : State} (h : ∀ x, x < 16 → (s.engs[x]?.getD Engine.reset).due = []) (n : s.engs.length ≤ 16) :
    nothingDue s := by
  intro x
  unfold State.eng nth
  rw [List.getD_eq_getElem?_getD]
  by_cases hx : x < 16
  · exact h x hx
  · rw [List.getElem?_eq_none (by omega)]; rfl

theorem wit_TrapsStopThePrograms :
    let s := codeS (.tick 15) [2 ^ 63 - 1]
    let u := codeS (.tick 15) [insWord 0 1 (0x3FFFF * 2 ^ 37)]
    let v := codeS (.job 15) [insWord 0 1 (0x1000 * 2 ^ 37)]
    nothingDue s ∧ s.power.mode = .run ∧ (s.eng 15).run = some (runOf (.tick 15)) ∧ s.faults.queue.length < 64 ∧
    fetchIns s 15 (runOf (.tick 15)) = .ok (2 ^ 63 - 1) ∧ decodeIns (2 ^ 63 - 1) = none ∧
    (decodeIns (insWord 0 1 (0x3FFFF * 2 ^ 37))).isSome = true ∧
    touchTrap (touches u 15 (runOf (.tick 15)) (insOf (insWord 0 1 (0x3FFFF * 2 ^ 37)))) ≠ 0 ∧
    touchTrap (touches v 15 (runOf (.job 15)) (insOf (insWord 0 1 (0x1000 * 2 ^ 37)))) = 0 ∧
    modeTrap (runOf (.job 15)) (insOf (insWord 0 1 (0x1000 * 2 ^ 37))) ≠ 0 ∧ (EOp.haltV ≠ EOp.halt) ∧
    fetchIns (codeS (.job 15) []) 15 { runOf (.job 15) with pc := 8 } = .error 4 :=
  ⟨nothing_due (by decide) (by decide), by decide⟩

theorem wit_PumpRows :
    let copy := pagedS (opS (opOf 15 true copyDesc) s0)
    let fil := opS (opOf 15 false fillDesc) s0
    let kinds : List (List Byte) := [copyDesc, fillDesc, descBytes 1 0 0 (endBytes 1 0 0 0 0) (endBytes 1 0 0 0 0),
      descBytes 2 0 0 (endBytes 1 0 0 0 0) (endBytes 2 0 0 0 0), descBytes 3 0 0 (endBytes 2 0 0 0 0) (endBytes 1 0 0 0 0),
      descBytes 4 0 0 (endBytes 3 0 0 0 0) (endBytes 2 0 0 0 0)]
    kinds.all (fun b => (variantOf (parseDesc b)).isSome) = true ∧
    kinds.map (fun b => (parseDesc b).op) = [.copy, .fill, .relayout, .gather, .scatter, .window] ∧
    (opOf 15 true copyDesc).prior = [] ∧ (opOf 15 true copyDesc).steps = 0 ∧ (opOf 15 true copyDesc).buf = [] ∧
    let wait := opS { opOf 15 true copyDesc with started := false } s0
    copy.numbered ∧ fil.numbered ∧ copy.op? 0 = some (opOf 15 true copyDesc) ∧ (parseDesc copyDesc).op = .copy ∧
    (parseDesc copyDesc).src.space = .cistern ∧ (parseDesc copyDesc).dst.space = .store ∧ (parseDesc fillDesc).op = .fill ∧
    (parseDesc fillDesc).src.space = .none ∧ unitPairs (parseDesc copyDesc) =
      [(some 0x10000, some 0x20000), (some 0x10010, some 0x20010)] ∧
    unitPairs (parseDesc fillDesc) = [(none, some 0x20000), (none, none)] ∧
    translate copy 0 .read false 0x10000 = some 0x10000 ∧ translate copy 0 .read false 0x10010 = some 0x10010 ∧
    cistBad copy 0x10010 16 = false ∧ bankDead copy (cistBankOf 0x10010) = false ∧
    storeRefused copy 15 true true [0x20010] = false ∧ storeRefused fil 15 false true [0x20000] = false ∧
    wait.op? 0 = some { opOf 15 true copyDesc with started := false } :=
  ⟨by decide, by decide, by decide, by decide, by decide, num_of (by decide), num_of (by decide), by decide⟩

theorem wit_OperationsCompleteAndWaitsEnd :
    let done := opS { opOf 15 true copyDesc with moved := true, prot := 1 } s0
    let sup := opS { opOf 15 true copyDesc with issuer := .supervisor 7, moved := true, short := 1 } s0
    let wait := opS { opOf 15 false (descBytes 4 2 0 (endBytes 3 63 0 0 0) (endBytes 2 0 0x20000 16 1)) with
                      started := false, waitEnd := some 100, refCount := 1 }
      (s0.modWell 63 (fun g => { g with ctrl := 0x8000 }))
    done.numbered ∧ sup.numbered ∧ wait.numbered ∧
    done.op? 0 = some { opOf 15 true copyDesc with moved := true, prot := 1 } ∧
    faultStatus ({ opOf 15 true copyDesc with moved := true, prot := 1 } : PumpOp).status.1 = true ∧
    ({ opOf 15 true copyDesc with issuer := .supervisor 7, moved := true, short := 1 } : PumpOp).status.1 = 1 ∧
    7 < sup.sup.slots.length ∧ (wait.well 63).enabled = true ∧
    (∀ o ∈ wait.ops, (parseDesc o.desc).op = .window ∧ o.started = false ∧ (parseDesc o.desc).src.unit = 63 ∧
      notYet o.refCount (wait.well 63).count (windowLast (parseDesc o.desc)) = true) :=
  ⟨num_of (by decide), num_of (by decide), num_of (by decide), by decide⟩

theorem wit_WellRows :
    let s := (s0.modWell 63 (fun g => { g with ctrl := 0x8000 })).modWalk 3 (fun k => { k with mode := .running })
    let u := s.modWell 63 (fun g => { g with lastCap := some 0 })
    let good := s0.modWell 63 (fun g => { g with guard := 0 })
    let off := s0.modWell 63 (fun g => { g with format := 0x0009, guard := 0 })
    s.ofPart .idp1640 ∧ s.sound ∧ wellPortLive s 63 = true ∧ (s.well 63).enabled = true ∧ (s.well 63).lastCap = none ∧
    (u.well 63).lastCap = some 0 ∧ u.now + 1 < 0 + 2 ∧ (good.well 63).enabled = false ∧ (good.well 63).badConfig = false ∧
    (off.well 63).enabled = false ∧ (off.well 63).badConfig = true :=
  ⟨part_of (by decide), sound_of (by decide), by decide⟩

/-- A REMOTE read or write of one block by port 3, whose list is one entry. -/
def remoteDesc (kind : Nat) : List Byte :=
  if kind = 0 then descBytes 5 1 1 (endBytes 4 0 0 0 0) (endBytes 2 0 0x20000 0 0)
  else descBytes 0x15 1 1 (endBytes 2 0 0x20000 0 0) (endBytes 4 0 0 0 0)

/-- A remote operation of engine 15 that has not started. -/
def remoteOp (kind : Nat) : PumpOp :=
  { opOf 15 false (remoteDesc kind) with started := false, port := 3, entries := List.replicate 128 0,
                                         blocks := [{ got := [], done := false, refused := false }] }

theorem wit_RemoteRowsQueueFrames :
    let r := opS (remoteOp 0) s0
    let w := opS { remoteOp 1 with xid := some 255 } s0
    r.numbered ∧ w.numbered ∧ (parseDesc (remoteDesc 0)).op = .remote ∧ (parseDesc (remoteDesc 0)).isRead = true ∧
    (parseDesc (remoteDesc 1)).op = .remote ∧ (parseDesc (remoteDesc 1)).isRead = false ∧ 3 < r.ports.length ∧
    0 < (parseDesc (remoteDesc 0)).listLen ∧ ((readLateEntries 0 r).op? 0).map PumpOp.judged = some [] ∧
    (lowestXid (r.port 3)).isSome = true ∧ r.op? 0 = some (remoteOp 0) ∧ (remoteOp 0).started = false ∧
    (let full := opS (remoteOp 0) (portS (fun q => { q with xids := List.range 256 }))
     full.op? 0 = some (remoteOp 0) ∧ lowestXid (full.port 3) = none) :=
  ⟨num_of (by decide), num_of (by decide), by decide +kernel⟩

/-! ## Repair, the journal and the mailbox -/

theorem wit_RepairAndJournal :
    let tst := s0.modBankOf (.store 15 15) (fun b => { b with job := .test 71 })
    let due := s0.modBankOf (.cistern 15) (fun b => { b with job := .copyDue 71 3 0 })
    let cpy := s0.modBankOf (.cistern 15) (fun b => { b with job := .copying 71 4 3 })
    let scr := { s0 with faults := { s0.faults with scrub := 0 } }
    let jrn := { s0 with journal := { s0.journal with queue := [{ seq := 8191, bytes := List.replicate 32 255 }] } }
    tst.ofPart .idp1640 ∧ due.ofPart .idp1640 ∧ cpy.ofPart .idp1640 ∧ jrn.sound ∧
    (s0.storeBanks.all (fun bs => decide (bs.length = 16)) = true ∧ s0.storeBanks.length = 16) ∧
    bankLive tst (.store 15 15) = true ∧ (tst.bankOf (.store 15 15)).job = .test 71 ∧ bankBits (.store 15 15) = 39 ∧
    (nth (tst.bankOf (.store 15 15)).spares 0 Spare.reset).used = false ∧ (due.bankOf (.cistern 15)).job = .copyDue 71 3 0 ∧
    bankLive due (.cistern 15) = true ∧ (cpy.bankOf (.cistern 15)).job = .copying 71 4 3 ∧
    3 < (cpy.bankOf (.cistern 15)).spares.length ∧ s0.faults.scrub ≠ 0 ∧ scr.faults.scrub = 0 ∧
    (∀ b, b < 16 → bankDead jrn b = false) :=
  ⟨part_of (by decide), part_of (by decide), part_of (by decide), sound_of (by decide), by decide⟩

/-- The steward firmware serves a request whose four words are these. -/
def mboxS (m0 m1 m2 m3 : Word) (s : State) : State :=
  (((({ s with sup := { s.sup with mode := .running, image := true, ready := true, hostReq := true } }.wr SUP 0x08 m0).wr
    SUP 0x09 m1).wr SUP 0x0A m2).wr SUP 0x0B m3)

theorem wit_AdmitAnswers :
    let bad := mboxS 0xFF01 0 0 0 s0
    let args := mboxS 0x0101 0 0 0 s0
    let gp := mboxS 0x0101 0x0800 0 0x5A (s0.setB DEV 0x20 14)
    let busy := { gp with power := { gp.power with prog := some (.level 0) } }
    bad.sound ∧ args.sound ∧ gp.sound ∧ busy.sound ∧ mboxOpen s0 = false ∧ mboxOpen bad = true ∧ otherCode (mboxCode bad) = false ∧
    mboxCode bad ≠ 1 ∧ mboxCode args = 1 ∧ wfld (args.rd SUP 0x09) 11 5 = 0 ∧ mboxOpen gp = true ∧ mboxCode gp = 1 ∧
    wfld (gp.rd SUP 0x09) 11 5 = 1 ∧ reservedWord gp.part DEV 0x28 (gp.rd SUP 0x0B) = false ∧
    sharesEngine (allChans.map (mapAfter gp none)) (admitAfter gp 0 none none) = false ∧ levelBusy gp = false ∧ levelBusy busy = true ∧ unmeasured gp = false ∧
    refusal gp (admitAfter gp 0 none none) (guarantee (levelNow gp)) (admitTimes gp 0x5A (gp.rd DEV 0x22)).1
      (admitTimes gp 0x5A (gp.rd DEV 0x22)).2 = none :=
  ⟨sound_of (by decide), sound_of (by decide), sound_of (by decide), sound_of (by decide), by decide⟩

/-- A test refuses the configuration: channel 15 is Active with a program of 65,535 strokes. -/
def refusedS : State :=
  mboxS 0x0101 0x0800 0 0x5A ((chanS (fun c => { c with st := .active, enabled := true })).setB DEV 0x20 14 |>
    storePut 15 (dirBase + 16 * 15) (leBytes 4 0x8000 ++ leBytes 2 0xFFFF ++ leBytes 3 0x10000 ++ [1] ++ leBytes 2 8))

theorem wit_AdmitRefuses : refusedS.sound ∧ mboxOpen refusedS = true ∧ unmeasured refusedS = false ∧
    levelBusy refusedS = false ∧ sharesEngine (allChans.map (mapAfter refusedS none)) (admitAfter refusedS 0 none none) = false ∧
    (refusal refusedS (admitAfter refusedS 0 none none) (guarantee (levelNow refusedS))
      (admitTimes refusedS 0x5A (refusedS.rd DEV 0x22)).1 (admitTimes refusedS 0x5A (refusedS.rd DEV 0x22)).2).isSome = true :=
  ⟨sound_of (by decide), by decide⟩

/-- Bytes 0 to 95 of a weight image of engine 15 for no channel under tag 7, with header CRC `crc` (R327). -/
def weightHead (crc : Nat) : List Byte :=
  [0x58, 0x44, 0x44, 0x52] ++ leBytes 3 0x20001 ++ [1] ++ leBytes 4 160 ++ leBytes 4 crc ++ leBytes 4 0x1640 ++
    [15, 0, 0xFF, 2] ++ leBytes 72 (7 * 65536)

/-- The two section headers of an image of an empty bank and no table. -/
def weightSections : List Byte := sectionHeader 1 [] ++ sectionHeader 2 []

/-- The whole image at the start of the cistern; channel 15 is mapped to engine 14. -/
def imported (tag : List Byte) : State :=
  mboxS 0x2102 0xFF00 0 7 { chanS (fun c => { c with engMap := 14 }) with
    cist := memOf 0 (weightHead (crc32 (weightHead 0)) ++ tag ++ weightSections) }

/-- The error code of WIMPORT of engine 15's image. -/
def importCode (s : State) : Nat :=
  importError s 15 7 (chansOn s 15) (cistGet s 0 128 ++ cistGet s 128 32) (bankData s 15 true)
    (ruleData s 15 (chansOn s 15))

theorem wit_FirmwareRequests_weights :
    let live := mboxS 0x2001 0xFF00 0 7 (chanS (fun c => { c with st := .active, learnOn := true }))
    let ex := mboxS 0x2001 0xFF00 0 7 s0
    let cs := chansOn ex 15
    live.sound ∧ ex.ofPart .idp1640 ∧ mboxOpen live = true ∧ mboxCode live = 0x20 ∧ weightError live 15 15 (chansOn live 15) ≠ 0 ∧
    mboxCode ex = 0x20 ∧ weightError ex 15 15 cs = 0 ∧ (∀ b, b < 16 → bankDead ex b = false) ∧ cs ≠ [] :=
  ⟨sound_of (by decide), part_of (by decide), by decide⟩

theorem wit_FirmwareRequests_import :
    let good := imported (hmac (List.replicate 16 0) (weightHead (crc32 (weightHead 0)) ++ weightSections))
    mboxOpen good = true ∧ mboxCode good = 0x21 ∧ weightError good 15 15 (chansOn good 15) = 0 ∧
    importCode (imported []) ≠ 0 ∧ importCode good = 0 := by decide +kernel

theorem wit_FirmwareRequests_faults :
    let r (kind i : Nat) := mboxS 0x3001 (word (kind * 4096 + i)) 0 0 s0
    let a (kind i : Nat) := mboxS 0x3101 (word (kind * 4096 + i)) 0 0 s0
    let f := mboxS 0x3201 0 0xFFFF 32 { s0 with sup := { s0.sup with kept := [⟨16, 0, 255, 0, 0, 0, 0, 0⟩] } }
    let p := mboxS 0x3301 0x0FFF 0 0 s0
    (r 5 0).sound ∧ f.sound ∧ mboxOpen (r 5 0) = true ∧ mboxCode (r 2 15) = 0x30 ∧ wfld ((r 2 15).rd SUP 0x09) 12 4 = 2 ∧
    ((r 2 15).bank 15).retired = false ∧ wfld ((r 0 15).rd SUP 0x09) 0 8 < 16 ∧ mboxCode (a 4 15) = 0x31 ∧
    ((a 4 15).chan 15).st ≠ .retired ∧ 5 < wfld ((r 6 0).rd SUP 0x09) 12 4 ∧ mboxCode f = 0x32 ∧
    0xFFFF * 512 + 16 * 32 ≤ 32 * 1048576 ∧ (f.sup.kept ++ f.faults.queue).length ≤ 64 ∧ mboxCode p = 0x33 ∧
    bankLive p (repairBank (wbit (p.rd SUP 0x0A) 0) (p.rd SUP 0x09).toNat) = true ∧
    (p.bankOf (repairBank (wbit (p.rd SUP 0x0A) 0) (p.rd SUP 0x09).toNat)).job = .idle :=
  ⟨sound_of (by decide), sound_of (by decide), by decide⟩

/-! ## The supervisor, power and clocks -/

/-- A supervisor image of one word whose checks pass but for its signature, which it does not ask for (R522). -/
def supImage : List Byte :=
  let code : List Byte := [1, 2, 3, 4]
  let head : List Byte := leBytes 6 0x15754534B ++ [0, 0] ++ leBytes 4 4 ++ leBytes 4 0 ++ leBytes 4 (crc32 code)
  head ++ leBytes 4 (crc32 head) ++ List.replicate 104 0 ++ code

theorem wit_SupervisorRows :
    let run := { s0 with sup := { s0.sup with mode := .running } }
    let halt := { s0 with straps := { s0.straps with boot := 2 }, sup := { s0.sup with mode := .halted, sram := memOf 0 supImage } }
    let poor := { halt with sup := { halt.sup with sram := [] } }
    let wait := { run with regs := run.regs }.wr PWR 0x01 2
    let held := { wait with sup := { wait.sup with image := true, hostReq := true } }
    held.sound ∧ held.selfCleared ∧ sleepHeld held = true ∧ sleepHeld wait = false ∧ supActs held = true ∧ run.sound ∧ halt.sound ∧ poor.sound ∧ run.selfCleared ∧ halt.selfCleared ∧ poor.selfCleared ∧ wait.selfCleared ∧
    locked run = false ∧ run.bit SUP 0x00 15 = false ∧ goAccepted halt = true ∧ goAccepted poor = true ∧
    bootError false supImage = 0 ∧ bootError false (List.replicate 128 0) ≠ 0 ∧ halt.straps.boot = 2 ∧
    halt.sup.mode = .halted ∧ halt.bit SUP 0x02 13 = false ∧ halt.bit SUP 0x02 11 = false ∧ supActs run = true ∧
    supState run = .running ∧ run.fld PWR 0x01 0 2 = 0 ∧ wait.fld PWR 0x01 0 2 = 2 ∧ wait.power.prog = none :=
  ⟨sound_of (by decide), by unfold State.selfCleared; decide, by decide, by decide, by decide,
   sound_of (by decide), sound_of (by decide +kernel), sound_of (by decide), by unfold State.selfCleared; decide,
   by unfold State.selfCleared; decide +kernel, by unfold State.selfCleared; decide, by unfold State.selfCleared; decide,
   by decide +kernel⟩

theorem wit_SupervisorBus :
    let s := pagedS s0
    s.sound ∧ supActs s = true ∧ 0x1FFFC % 4 = 0 ∧ 0x1FFFC + 4 ≤ 0x20000 ∧ accessOk 0x10000001 4 = false ∧ regionOf 0x10020000 = .hole ∧
    translate s 0x10 .read false 0x7FFFFC = none ∧ presentOps Issuer.isSup s = [] ∧ s.numbered :=
  ⟨sound_of (by decide), by decide, by decide, by decide, by decide, by decide, by decide, by decide, num_of (by decide)⟩

theorem wit_SupervisorCistern :
    let s := { s0 with tables := { s0.tables with pages := [(0x10 * 256 + 0xFE, 0x1FF), (0x10 * 256 + 0xFF, 0xE000)] } }
    s.sound ∧ 0x7FFFFC % 4 = 0 ∧ translate s 0x10 .read false 0x7FFFFC = some 0x1FFFFFC ∧
    translate s 0x10 .write false 0x7FFFFC = some 0x1FFFFFC ∧ bankDead s (cistBankOf 0x1FFFFFC) = false ∧ s.cistUe = [] :=
  ⟨sound_of (by decide), by decide⟩

theorem wit_BellsAndSupervisorPorts :
    let slot := { s0 with sup := { s0.sup with slots := modAt s0.sup.slots 7 (fun l =>
                    { l with desc := memOf 0 (descBytes 6 2 0 (endBytes 0 0 0 0 0) (endBytes 2 15 0x20000 16 1)) }) } }.wr PMP 0x00 0x8000
    let busy := { s0 with sup := { s0.sup with slots := modAt s0.sup.slots 7 (fun l => { l with busy := true }) } }
    let sweep := chanS (fun c => { c with st := .active, learn := { c.learn with sweepOn := true } })
    let act := chanS (fun c => { c with st := .active })
    let d := parseDesc (memReadN (slot.slotOf 7).desc 0 128)
    slot.ofPart .idp1640 ∧ slot.sound ∧ busy.sound ∧ sweep.sound ∧ act.sound ∧ slot.numbered ∧ s0.bells.length = 64 ∧
    supActs slot = true ∧ (slot.slotOf 7).busy = false ∧ supHeld slot < 8 ∧ (stalledEngines slot true).length < freeTags slot ∧
    pumpAccepts slot (7 : BitVec 3).toNat = true ∧ formatBad d none true slot.part.engines (windowWidth slot d) = false ∧
    alignBad d = false ∧ d.op ≠ .remote ∧ (busy.slotOf 7).busy = true ∧ (sweep.chan 15).learn.sweepOn = true ∧
    (act.chan 15).learn.sweepOn = false ∧ (act.chan 15).learn.ready = false ∧ (act.chan 15).st ≠ .off ∧ (s0.chan 15).st = .off :=
  ⟨part_of (by decide), sound_of (by decide), sound_of (by decide), sound_of (by decide), sound_of (by decide),
   num_of (by decide), by decide⟩

theorem wit_HandoverSelectsCrystal :
    let s := { s0 with sup := { s0.sup with mode := .running, image := true }, tbase := { s0.tbase with xtalOk := true } }
    s.ofPart .idp1640 ∧ s.sound ∧ s.numbered ∧ supActs s = true ∧ s.sup.image = true ∧ s.sup.ready = false ∧
    s.tbase.xtalOk = true ∧ (stewardHandover s).bit CRY 0x0B 0 = true ∧ (stewardHandover s).sup.ready = true :=
  ⟨part_of (by decide), sound_of (by decide), num_of (by decide), by decide +kernel⟩

theorem wit_FaultPortRows :
    let r : FaultRec := ⟨16, 0, 255, 0, 0, 0, 0, 0⟩
    let q := { s0 with faults := { s0.faults with queue := [r] }, sup := { s0.sup with image := true } }
    q.ofPart .idp1640 ∧ q.sound ∧ supActs q = true ∧ q.faults.queue = r :: [] ∧ q.sup.image = true ∧ q.sup.kept.length < 64 ∧
    cmdKind 0x200F = 2 ∧ cmdIndex 0x200F < 16 ∧ (q.bank (cmdIndex 0x200F)).retired = false ∧ cmdKind 0x000F = 0 ∧
    cmdIndex 0x000F < 16 ∧ cmdKind 0x400F = 4 ∧ 4 < cmdKind 0x5000 ∧ (1 : W32).getLsbD 0 = true ∧
    q.faults.shadowCfg.length = 16 := ⟨part_of (by decide), sound_of (by decide), by decide⟩

/-- A running firmware with record `r` at the head of the queue and policy memory `y`. -/
def policyS (r : FaultRec) (y : Policy) : State :=
  { s0 with tick := { s0.tick with number := 70000 }, faults := { s0.faults with queue := [r] },
            sup := { s0.sup with mode := .running, image := true, policy := y } }

/-- Channel 15 was retired with engine 15; engine 0 is spare; the free-run timer gives the period. -/
def remapS : State :=
  let s := policyS ⟨16, 15, 255, 0, 4, 3, 0, 0⟩ { Policy.reset with remap := [15] }
  (((s.modChan 15 (fun c => { c with st := .retired })).modEng 0 (fun g => { g with enabled := true })).wr
    (CH 0) 0x02 1).wr DEV 0x20 0x4000

theorem wit_StewardPolicy :
    let e := policyS ⟨3, 15, 255, 0, 0, 0, 0, 0⟩ { Policy.reset with engines := [(15, 4465)] }
    let m := policyS ⟨9, 15, 255, 4, 0, 0, 0, 0⟩ Policy.reset
    let l := policyS ⟨13, 3, 255, 0, 0, 0, 2 ^ 26 + 4, 0⟩ { Policy.reset with ports := [(3, 5), (3, 5)] }
    e.ofPart .idp1640 ∧ e.sound ∧ m.sound ∧ l.sound ∧ remapS.sound ∧ supActs e = true ∧ e.sup.image = true ∧
    e.tick.number < 2 ^ 32 ∧ 4465 ≤ e.tick.number ∧ e.tick.number < 4465 + 65536 ∧ nbit 4 2 = true ∧
    2 ^ 26 + 4 < 5 + 2 ^ 26 ∧ (e.bank 15).retired = false ∧ 15 ∈ chanEngines remapS 15 ∧ 15 ∈ remapS.sup.policy.remap ∧
    15 ∉ remapS.sup.policy.barred ∧ spareRun remapS (remapS.fld (CH 15) 0x02 4 3 + 1) = some 0 ∧
    (readmitChan 15 true 0 0 (fltPop remapS)).2.1 = 0 :=
  ⟨part_of (by decide), sound_of (by decide), sound_of (by decide), sound_of (by decide), sound_of (by decide),
   by decide +kernel⟩

/-- The answers of FLT_POP that the policy gives (R486): a second STILL_PUMP within the window retires the pump, a later
one only counts, and a retired channel moves to the spare engine. -/
theorem test_policy :
    let at_ (x : Nat) := policyS ⟨4, 7, 255, 0, 0, 0, 0, 0⟩ { Policy.reset with pumps := [(7, x)] }
    ((stewardPop (at_ 4465)).pump 7).retireCmd = some true ∧ ((stewardPop (at_ 4464)).pump 7).retireCmd = none ∧
    (stewardPop (at_ 4464)).sup.policy.pumps = [(7, 70000)] ∧ ((stewardPop remapS).chan 15).readmitCmd = true ∧
    (stewardPop remapS).rd (CH 15) 0x02 = 0 := by decide +kernel

/-- A change to PL3 in its step `st`. -/
def changeOf (st : ChangeStep) (revert : Bool) : LevelChange :=
  { dest := 3, startVid := 15, target := 29, step := st, revert := revert, mark := 0, bias := 10, assist := 5, gov := 1 }

theorem wit_LevelChange :
    let ask := powerS (fun p => { p with prog := some (.level 3) })
    let vid := powerS (fun p => { p with change := some (changeOf .vid false) })
    let atEnd := powerS (fun p => { p with vid := 29, change := some (changeOf .vid false) })
    let set := powerS (fun p => { p with vid := 29, change := some (changeOf .settle false) })
    let rev := powerS (fun p => { p with change := some (changeOf .settle true) })
    s0.sound ∧ s0.power.prog = none ∧ levelNow s0 = (1 : BitVec 2).toNat ∧ levelNow s0 ≠ (0 : BitVec 2).toNat ∧
    levelNow s0 ≠ (3 : BitVec 2).toNat ∧ ask.power.prog = some (.level 3) ∧ PowerReq.level 3 ≠ .level (1 : BitVec 2).toNat ∧
    ask.power.pend = none ∧ (changeOf .vid false).step = .vid ∧ vid.power.vid ≠ 29 ∧ atEnd.power.vid = 29 ∧
    set.power.change = some (changeOf .settle false) ∧ set.power.pend = none ∧ (changeOf .settle false).dest < 4 ∧
    rev.power.change = some (changeOf .settle true) ∧ s0.power.change = none := ⟨sound_of (by decide), by decide⟩

/-- A sleep entry whose queried block is `b`. -/
def entryS (b : SleepBlock) (rest : List SleepBlock) : State :=
  powerS (fun p => { p with prog := some (.mode 1), entry := some ⟨1, b :: rest, [], false, 0⟩ })

theorem wit_SleepQuery :
    let busy := (entryS (.engine 15) []).modEng 15 (fun g => { g with enabled := true, bgPend := some 0 })
    let walk := (entryS (.walk 3) [.clocks]).modWalk 3 (fun k => { k with mode := .running, qreq := true })
    let open_ := { (entryS .tick [.clocks]).modChan 15 (fun c => { c with st := .active, served := true }) with
                   tick := { s0.tick with open_ := true } }
    (entryS .clocks []).sound ∧ busy.sound ∧ walk.sound ∧ open_.sound ∧ (entryS .clocks []).power.committed = none ∧
    (entryS .clocks []).power.pend = none ∧ blockAnswer (entryS .clocks [.well 63]) false .clocks = some true ∧
    blockAnswer (entryS (.well 63) []) true (.well 63) = some true ∧ blockAnswer s0 false .tick = some true ∧
    blockAnswer (entryS (.well 63) []) false (.well 63) = some false ∧ blockAnswer busy false (.engine 15) = some false ∧
    (walk.walk 3).qreq = true ∧ tickDone open_ = false ∧
    (let last := { entryS (.well 63) [] with sup := { s0.sup with image := true } }.wr PWR 0x01 1
     let more := last.wr PWR 0x01 0x11
     soundB last = true ∧ soundB more = true ∧ last.fld PWR 0x01 4 4 ≤ last.sup.policy.tries ∧
     more.sup.policy.tries < more.fld PWR 0x01 4 4) :=
  ⟨sound_of (by decide), sound_of (by decide), sound_of (by decide), sound_of (by decide), by decide⟩

theorem wit_SleepAndWake :
    let go (m : Nat) := powerS (fun p => { p with committed := some m })
    let zz (m : PowerMode) (w : Option (Nat × Nat)) := powerS (fun p => { p with mode := m, wake := w })
    (go 1).sound ∧ (go 2).sound ∧ (zz .hush none).sound ∧ (zz .dormant none).sound ∧ (zz .dormant (some (7, 127))).sound ∧
    (go 1).power.wake = none ∧ (zz .hush none).power.pend = none ∧ listenerMatches (zz .dormant none) 0x48 = true ∧
    listenerMatches (zz .dormant none) 0x49 = false ∧ (zz .dormant (some (7, 127))).power.wake = some (7, 127) :=
  ⟨sound_of (by decide), sound_of (by decide), sound_of (by decide), sound_of (by decide), sound_of (by decide), by decide⟩

theorem wit_StartUpAndResets :
    let st (n : Nat) (low : Bool) := powerS (fun p => { p with mode := .starting, stage := n, resetLow := low })
    let off := powerS (fun p => { p with mode := .off })
    off.sound ∧ (st 0 false).sound ∧ (st 1 true).sound ∧ (st 1 false).sound ∧ (st 2 false).sound ∧ (st 3 false).sound ∧
    (st 4 false).sound ∧ s0.tbase.act = false ∧ s0.power.mode ≠ .off ∧ supState s0 = .boot ∧ s0.straps.boot.toNat = 0 ∧
    flashHeld s0 = false ∧ imageSizeOk supImage = true ∧ 128 + imageLength supImage ≤ supImage.length ∧ bootError true supImage = 0 ∧
    bootError true (supImage.set 16 0) ≠ 0 ∧ imageSizeOk (supImage.set 16 0) = true :=
  ⟨sound_of (by decide), sound_of (by decide), sound_of (by decide), sound_of (by decide), sound_of (by decide),
   sound_of (by decide), sound_of (by decide), by decide +kernel⟩

theorem wit_ClockSources :
    let sel := { s0 with straps := { s0.straps with xtal := true } }.setB CRY 0x0B 0
    let cry := { s0 with straps := { s0.straps with xtal := true }, tbase := { s0.tbase with act := true, xtalOk := true } }
    sel.sound ∧ cry.sound ∧ sel.bit CRY 0x0B 0 = true ∧ true ≠ sel.tbase.act ∧ sel.straps.xtal = true ∧
    cry.straps.xtal = true ∧ cry.tbase.act = true ∧ s0.power.rimPll = true := ⟨sound_of (by decide), sound_of (by decide), by decide⟩

/-! ## Links -/

theorem wit_LinkControl :
    let down := s0
    let up := portS (fun q => { q with st := .up })
    let out := (portS (fun q => { q with st := .retired })).setB (LNK 3) 0x00 15
    down.sound ∧ up.sound ∧ out.sound ∧ 3 < s0.part.links ∧ 3 < s0.ports.length ∧
    reservedWord s0.part (LNK 3) 0x00 (s0.rd (LNK 3) 0x00) = false ∧
    (s0.rd (LNK 3) 0x02).toNat * s0.fld (LNK 3) 0x03 0 8 < (s0.rd PMP 0x02).toNat ∧
    reservedWord out.part (LNK 3) 0x00 (out.rd (LNK 3) 0x00) = false ∧ (down.port 3).st = .down ∧
    down.bit (LNK 3) 0x00 14 = false ∧ (up.port 3).st ≠ .down ∧ (out.port 3).st = .retired ∧
    out.bit (LNK 3) 0x00 15 = true := ⟨sound_of (by decide), sound_of (by decide), sound_of (by decide), by decide⟩

/-- The payload of a HELLO of chip 7, port 3 of an IDP1640 (R443). -/
def helloOf (version flags : Nat) (remembered : List Byte) : List Byte :=
  leBytes 2 (version + 0x3700) ++ leBytes 4 0x1640 ++ leBytes 2 flags ++ List.replicate 32 0 ++ remembered ++ leBytes 24 0

/-- Port 3 in Retry with sequence state of that partner. -/
def retryS : State := portS (fun q => { q with st := .retry, hasState := true, partner := List.replicate 32 0, partnerChip := 7 })

/-- Port 3 is Up; its partner expects the next frame to be 0. -/
def upS : State := portS (fun q => { q with st := .up })

theorem wit_LinkTraining :
    let z : List Byte := List.replicate 32 0
    let lk := { LaneRx.reset with lock := true }
    let train := portS (fun q => { q with st := .training, rx0 := lk, rx1 := lk })
    let blocks := (codeLane 0 (List.replicate 64 idleBlock)).1
    let other := retryS.modPort 3 (fun q => { q with partnerChip := 6 })
    let paused := retryS.modPort 3 (fun q => { q with paused := true })
    train.sound ∧ retryS.sound ∧ other.sound ∧ paused.sound ∧ (helloOf 1 1 z).length = 96 ∧
    (train.port 3).locked = true ∧ (retryS.port 3).locked = false ∧ (paused.port 3).locked = false ∧
    ((feedLanes 3 blocks blocks paused).port 3).locked = true ∧ lk.loses (List.replicate 16 0) = true ∧
    lk.loses [] = false ∧ (upS.port 3).st = .up ∧
    helloReason (feedLanes 3 [] [] (measured 3 20 16 train)) 3 (parseHello (helloOf 2 1 z)) ≠ 0 ∧
    helloReason (feedLanes 3 [] [] (measured 3 20 16 train)) 3 (parseHello (helloOf 1 0 z)) = 0 ∧
    helloReason (feedLanes 3 [] [] (measured 3 (-21) 16 train)) 3 (parseHello (helloOf 1 0 z)) = 8 ∧
    helloReason (feedLanes 3 [] [] (measured 3 20 17 train)) 3 (parseHello (helloOf 1 0 z)) = 9 ∧
    (parseHello (helloOf 1 0 z)).chip ≠ chipId train ∧ (parseHello (helloOf 1 0 z)).devId = 0x1640 ∧
    (parseHello (helloOf 1 0 z)).seen = false ∧ (parseHello (helloOf 1 1 z)).seen = true ∧
    (retryS.port 3).partner = (parseHello (helloOf 1 1 z)).identity ∧
    (retryS.port 3).partnerChip = (parseHello (helloOf 1 1 z)).chip ∧
    resumes .idp1640 (retryS.port 3) (parseHello (helloOf 1 1 z)) = false ∧
    (other.port 3).partnerChip ≠ (parseHello (helloOf 1 1 z)).chip ∧ (paused.port 3).paused = true ∧
    (retryS.port 3).paused = false ∧ retryS.ops = [] ∧ retryS.faults.queue.length < 64 :=
  ⟨sound_of (by decide), sound_of (by decide), sound_of (by decide), sound_of (by decide), by decide +kernel⟩

/-- Both halves of a digest hold four words. -/
def whole (g : Digest) : Prop := g.upper.length = 4 ∧ g.lower.length = 4

theorem whole_rounds (ks : List Nat) : ∀ (g : Digest) (ws : List Nat), whole g → whole (g.rounds ws ks) := by
  induction ks with
  | nil => intro g ws h; exact h
  | cons k ks ih => intro g ws h; exact ih _ _ (by simp [whole, Digest.round, h.1, h.2])

theorem whole_absorb (g : Digest) (b : List Byte) (h : whole g) : whole (g.absorb b) := by
  obtain ⟨h1, h2⟩ := whole_rounds shaConstants g ((List.range 16).map (fun i => beVal ((b.drop (4 * i)).take 4))) h
  simp [whole, Digest.absorb, h.1, h.2, h1, h2]

theorem whole_fold (f : Nat → List Byte) (xs : List Nat) : ∀ g : Digest, whole g →
    whole (xs.foldl (fun g i => g.absorb (f i)) g) := by
  induction xs with
  | nil => intro g h; exact h
  | cons x xs ih => intro g h; exact ih _ (whole_absorb g _ h)

theorem le_length (n : Nat) : ∀ x, (leBytes n x).length = n := by
  induction n with
  | zero => intro x; rfl
  | succ n ih => intro x; simp [leBytes, ih]

theorem be_length (n x : Nat) : (beBytes n x).length = n := by simp [beBytes, le_length]

theorem flat_length : ∀ xs : List Nat, (xs.flatMap (fun x => beBytes 4 x)).length = 4 * xs.length
  | [] => rfl
  | x :: xs => by rw [List.flatMap_cons, List.length_append, flat_length xs, be_length, List.length_cons]; omega

theorem sha_length (m : List Byte) : (sha256 m).length = 32 := by
  obtain ⟨h1, h2⟩ := whole_fold (fun i => ((shaMessage m).drop (64 * i)).take 64)
    (List.range ((shaMessage m).length / 64)) Digest.start ⟨by decide +kernel, by decide +kernel⟩
  show (List.flatMap (fun x => beBytes 4 x) (_ ++ _)).length = 32
  rw [flat_length, List.length_append, h1, h2]

theorem identity_length (p : Part) : (identityDigest p).length = 32 := sha_length _

/-- A partner that remembers this device and whose numbers fit ours: the link resumes (R445). -/
theorem wit_LinkTraining_resumes :
    (helloOf 1 3 (identityDigest .idp1640)).length = 96 ∧ (parseHello (helloOf 1 3 (identityDigest .idp1640))).seen = true ∧
    resumes .idp1640 (retryS.port 3) (parseHello (helloOf 1 3 (identityDigest .idp1640))) = true := by
  have len := identity_length .idp1640
  obtain ⟨pre, hp, l, h1, h2, h3⟩ : ∃ pre : List Byte, (∀ d, helloOf 1 3 d = pre ++ (d ++ leBytes 24 0)) ∧ pre.length = 40 ∧
      (pre.drop 8).take 32 = List.replicate 32 0 ∧ nbit (leAt pre 6 1) 1 = true ∧ nbit (leAt pre 6 1) 0 = true :=
    ⟨leBytes 2 0x3701 ++ leBytes 4 0x1640 ++ leBytes 2 3 ++ List.replicate 32 0, fun d => by simp [helloOf], by decide⟩
  generalize hd : identityDigest .idp1640 = d at len ⊢
  have at_ (o n : Nat) (h : o + n ≤ 40) : leAt (pre ++ (d ++ leBytes 24 0)) o n = leAt pre o n := by
    unfold leAt
    rw [List.drop_append_of_le_length (by omega), List.take_append_of_le_length (by rw [List.length_drop]; omega)]
  have tail_ (o n : Nat) (h : 72 ≤ o) : leAt (pre ++ (d ++ leBytes 24 0)) o n = leAt (leBytes 24 0) (o - 72) n := by
    unfold leAt
    rw [List.drop_append, List.drop_append, l, len, List.drop_eq_nil_of_le (by omega), List.drop_eq_nil_of_le (by omega)]
    simp [show o - 40 - 32 = o - 72 by omega]
  have rem : ((pre ++ (d ++ leBytes 24 0)).drop 40).take 32 = d := by
    rw [List.drop_append_of_le_length (by omega), List.drop_eq_nil_of_le (by omega), List.nil_append,
      List.take_append_of_le_length (by omega), List.take_of_length_le (by omega)]
  have id_ : ((pre ++ (d ++ leBytes 24 0)).drop 8).take 32 = List.replicate 32 0 := by
    rw [List.drop_append_of_le_length (by omega), List.take_append_of_le_length (by rw [List.length_drop]; omega), h1]
  refine ⟨by rw [hp]; simp [l, len, le_length], ?_, ?_⟩
  · rw [hp]; simp only [parseHello, at_ 6 1 (by omega), h3]
  · rw [hp]
    simp only [resumes, parseHello, hd, rem, id_, at_ 6 1 (by omega), h2, tail_ 72 2 (by omega), tail_ 74 2 (by omega),
      tail_ 76 2 (by omega), decide_true, Bool.and_true]
    decide

/-- A link frame to chip 0 (R432). -/
def frameOf (typ write seq ack xid offset credit : Nat) (payload : List Byte) : List Byte :=
  let body : List Byte := [byte (typ + 16 * write), 1] ++ leBytes 2 seq ++ leBytes 2 ack ++ leBytes 2 payload.length ++
    [15, byte xid] ++ leBytes 2 0 ++ leBytes 2 offset ++ leBytes 2 credit ++ payload
  body ++ leBytes 4 (crc32 body)

/-- That frame as its receiver finds it in its padded blocks (R429). -/
def arrived (typ write seq ack xid offset credit : Nat) (payload : List Byte) : List Byte :=
  unpadded (frameOf typ write seq ack xid offset credit payload ++ List.replicate 12 0)

theorem wit_LaneBlocksCarryFrames :
    let bs := frameOf lfAck 0 0 1 0 0 7 []
    20 ≤ bs.length ∧ bs.length = 20 + leAt bs 6 2 ∧ (dataBlock [1, 2, 3]).payload < 2 ^ 64 ∧ 3 < upS.ports.length ∧
    (upS.port 3).scr0 = 0 ∧ (upS.port 3).scr1 = 0 ∧ LaneRx.reset.lock = false ∧ LaneRx.reset.count = 0 ∧ LaneRx.reset.bad = 0 ∧
    (List.replicate 64 idleBlock).length = 64 ∧ (∀ b ∈ List.replicate 64 idleBlock, b.payload < 2 ^ 64 ∧ validBlock (some b) = true) := by
  decide +kernel

/-- R428, R429: a control block of another type is no valid sync header; the block pairs of an empty frame and of a HELLO. -/
theorem test_blocks : validBlock (some { control := true, payload := 0x55 }) = false ∧ framePairs 0 = 3 ∧ framePairs 96 = 9 := by
  decide

theorem wit_LinkTransmission_hello :
    let train := portS (fun q => { q with st := .training })
    let asleep := train.modPort 3 (fun q => { q with quiet := true })
    train.sound ∧ (train.port 3).quiet = false ∧ (train.port 3).st = .training ∧ train.bit (LNK 3) 0x05 14 = false ∧
    (train.port 3).shot = false ∧ (train.port 3).late = none ∧ canSend (asleep.port 3) = false ∧ (asleep.port 3).quiet = true ∧
    (train.port 3).hasState = false := ⟨sound_of (by decide), by decide⟩

theorem wit_LinkTransmission :
    let f := controlFrame lfCancel
    let ready := upS.modPort 3 (fun q => { q with queue := [f], limit := 1 })
    let poor := upS.modPort 3 (fun q => { q with queue := [f] })
    let last := upS.modPort 3 (fun q => { q with replay := [(65535, f)], firings := 3 })
    let gap := upS.modPort 3 (fun q => { q with held := [(1, [])], nak := some (0, 0) })
    let xfer := opS { remoteOp 0 with xid := some 255, xferFrom := some 0, xferLimit := 1024, started := true } upS
    ready.sound ∧ poor.sound ∧ last.sound ∧ gap.sound ∧ xfer.sound ∧ ready.bit (LNK 3) 0x05 14 = false ∧
    (ready.port 3).shot = false ∧ (ready.port 3).late = none ∧ canSend (ready.port 3) = true ∧ canSend (poor.port 3) = false ∧
    (last.port 3).replay = (65535, f) :: [] ∧ (gap.port 3).held ≠ [] ∧ gap.now < 0 + ltx 8192 ∧
    (gap.port 3).expect = 0 ∧ xfer.ops.length = 1 ∧ wfld (4 : Word) 0 3 ≤ 4 :=
  ⟨sound_of (by decide), sound_of (by decide), sound_of (by decide), sound_of (by decide), sound_of (by decide), by decide⟩

theorem wit_LinkFrames :
    let one := upS.modPort 3 (fun q => { q with replay := [(0, controlFrame lfCancel)], txNext := 1 })
    let z : List Byte := List.replicate 32 0
    one.sound ∧ frameKept upS (arrived lfHello 0 0 0 0 0 0 (helloOf 1 1 z)) = true ∧
    (parseFrame (arrived lfHello 0 0 0 0 0 0 (helloOf 1 1 z))).typ = lfHello ∧
    frameKept one (arrived lfAck 0 0 1 0 0 7 []) = true ∧ seqFrom (one.port 3).txNext 1 = true ∧
    frameKept one (arrived lfNak 0 0 0 0 0 7 []) = true ∧ frameKept one (arrived lfPause 0 0 0 0 0 7 []) = true ∧
    frameRow 3 [] lfReq = some (.req 3 []) ∧ frameRow 3 [] lfCdone = some (.cdone 3 []) ∧ (s0.port 3).st ≠ .up ∧
    (one.port 3).st = .up ∧ frameKept one [0, 0, 0] = false ∧ crcOk [0, 0, 0] = false ∧
    frameKept (one.modPort 3 (fun q => { q with st := .training })) (arrived lfWdone 0 0 0 255 0 0 []) = true ∧
    (one.port 3).held = [] ∧ (one.port 3).nak = none ∧ (one.port 3).quiet = false ∧ (one.port 3).expect = 0 :=
  ⟨sound_of (by decide), by decide +kernel⟩

/-- A sequenced frame of number `seq` counts as one ahead, eight ahead or delivered already. -/
theorem wit_LinkFrames_order :
    [0, 1, 7, 8, 32767, 32768, 65535].all (fun n =>
      frameKept upS (arrived lfWdone 0 n 0 255 0 0 []) &&
        decide (((parseFrame (arrived lfWdone 0 n 0 255 0 0 [])).seq + 65536 - (upS.port 3).expect) % 65536 = n)) = true := by
  decide +kernel

theorem wit_RequesterFrames :
    let lane : List Byte := List.replicate 16 7
    let r := opS { remoteOp 0 with xid := some 255, started := true } upS
    let w := opS { remoteOp 1 with xid := some 255, started := true } upS
    r.sound ∧ w.sound ∧ r.numbered ∧ w.numbered ∧ frameKept r (arrived lfRdata 0 0 0 255 0 0 lane) = true ∧
    frameKept w (arrived lfWdone 0 0 0 255 0 0 []) = true ∧ frameKept w (arrived lfRefuse 0 0 0 255 0 0 []) = true ∧
    frameKept w (arrived lfCdone 0 0 0 254 0 0 []) = true ∧ xidOp r 3 254 = none ∧ (xidOp r 3 255).isSome = true ∧
    xidOp r 3 255 = some { remoteOp 0 with xid := some 255, started := true } ∧
    (parseFrame (arrived lfRdata 0 0 0 255 0 0 lane)).len / 16 ≤ at0 (parseDesc (remoteDesc 0)).ext 0 ∧
    (remoteOp 0).blocks[0]? = some { got := [], done := false, refused := false } ∧ (r.port 3).held = [] ∧
    (r.port 3).expect = 0 ∧ (parseFrame (arrived lfRdata 0 0 0 255 0 0 lane)).seq = 0 ∧
    storeRefused r 15 false true [remoteLane (parseDesc (remoteDesc 0)) 0 0] = false :=
  ⟨sound_of (by decide), sound_of (by decide), num_of (by decide), num_of (by decide), by decide +kernel⟩

/-- Handle 15 exports one block of one lane at virtual 0x10000 of context 0, readable and writable; pump 6 serves. -/
def exportS : State :=
  let s := pagedS upS
  { s with tables := { s.tables with exportTbl := [(120, 0xC001), (122, 1), (123, 1), (124, 1)] } }.wr PMP 0x00 0x4000

/-- Block 0 of transfer 255 under handle 15. -/
def blockOf (write : Bool) (op : Option Nat) : PeerBlock :=
  { xid := 255, block := 0, write := write, handle := 15, entry := List.replicate 16 0, op := op, stalled := false, data := [], credit := 0 }

/-- The operation that serves a write of that block. -/
def servingOp : PumpOp :=
  { opOf 0 false [] with issuer := .peer 3 255, pump := 6, listBase := 0x10000, seen := 1, handle := 15, port := 3 }

theorem wit_ServingFrames :
    let z : List Byte := List.replicate 16 0
    let w := opS servingOp (exportS.modPort 3 (fun q => { q with peers := [blockOf true (some 0)] }))
    exportS.sound ∧ w.sound ∧ exportS.numbered ∧ w.numbered ∧ frameKept exportS (arrived lfReq 0 0 0 255 0 0 z) = true ∧
    (parseFrame (arrived lfReq 0 0 0 255 0 0 z)).len = 16 ∧ servingPump (exportS.wr PMP 0x00 0) 3 = none ∧ servingPump exportS 3 = some 6 ∧
    pumpAsleep exportS 6 = false ∧ peerHeld exportS 6 < 16 ∧
    (stalledEngines exportS true).length + slotsAhead exportS + peersAhead exportS 3 < freeTags exportS ∧
    (exportS.port 3).peers = [] ∧ (blockOf true (some 0)).credit = 0 ∧ servingOp.refCount = 0 ∧
    (parseFrame (arrived lfWdata 1 0 0 255 0 0 z)).len = 16 * servingOp.seen ∧ peerBase exportS (blockOf false none) = some 0x10000 ∧
    peerBase exportS { blockOf false none with handle := 14 } = none ∧ exportLanes exportS 15 = 1 ∧
    frameKept w (arrived lfWdata 1 0 0 255 0 0 z) = true ∧ (blockOf true (some 0)).is 255 0 = true ∧
    w.op? 0 = some servingOp ∧ translate w 0 .write true 0x10000 = some 0x10000 ∧
    frameKept w (arrived lfCancel 0 0 0 255 0 0 []) = true :=
  ⟨sound_of (by decide), sound_of (by decide), num_of (by decide), num_of (by decide), by decide +kernel⟩

/-! ## The cloister -/

/-- A load of walk 3 from flash in step `st`. -/
def loadOf (st : LoadStep) (bytes : List Byte) (n : Nat) : Load :=
  { flash := true, target := 3, bound := false, slot := 0, bytes := bytes, count := n, length := 0x20000, step := st,
    last := 0, gap := 0 }

/-- Reset with that load in progress. -/
def loadS (l : Load) : State := { s0 with clo := { s0.clo with load := some l } }

theorem clean_of {s : State} (h : s.rd SUP 0x00 &&& 0x7FFF = 0 ∧ s.rd CLO 0x00 &&& 0xC03F = 0) : s.selfCleared := h

theorem wit_CloisterCommands :
    let l := loadOf (.data [0x23] 0 144 98304 0) [] 144
    let port := { loadOf .header [] 0 with flash := false, target := 4 }
    let rel := loadS (loadOf .release [] 0x20000)
    let rel2 := rel.modWalk 3 (fun k => { k with mode := .release, stage := 2 })
    s0.ofPart .idp1640 ∧ (loadS l).ofPart .idp1640 ∧ (loadS l).sound ∧ (loadS port).sound ∧ rel.sound ∧ rel2.sound ∧
    (loadS l).selfCleared ∧ rel2.selfCleared ∧ wfld (0x3000 : Word) 10 3 ≤ 4 ∧ 5 ≤ wfld (0x1400 : Word) 10 3 ∧
    s0.clo.load = none ∧ (loadS l).clo.load ≠ none ∧ l.step ≠ .release ∧ l.target ≤ 4 ∧ port.target ≤ 4 ∧
    (loadS l).fld CLO 0x00 10 3 ≤ 4 ∧ port.flash = false ∧ l.inLoading = true ∧ port.inLoading = false ∧
    userClocksOn rel = false ∧ userClocksOn { rel with clo := { rel.clo with global := [1] } } = true ∧
    userClocksOn { rel2 with clo := { rel2.clo with global := [1] } } = true ∧
    (rel.walk 3).stage < 2 ∧ 2 ≤ (rel2.walk 3).stage ∧ locked s0 = false ∧ s0.clo.safe.length = 96 ∧
    4 ≤ (6 : BitVec 8).toNat ∧ (6 : BitVec 8).toNat ≤ 6 ∧ wfld (0x1F04 : Word) 0 3 ≤ 4 ∧ wfld (0x1F07 : Word) 0 3 = 7 ∧
    wfld (0x1F05 : Word) 0 3 = 5 :=
  ⟨part_of (by decide), part_of (by decide), sound_of (by decide), sound_of (by decide), sound_of (by decide),
   sound_of (by decide), clean_of (by decide), clean_of (by decide), by decide⟩

/-- The header of an image for walk 3 of the present global tag (R401), but for its last byte. -/
def headerBytes : List Byte :=
  let a : List Byte := leBytes 4 0x52444458 ++ leBytes 4 0x00010001 ++ leBytes 4 0x20000
  let b : List Byte := leBytes 2 0 ++ [8, 0xFF] ++ List.replicate 76 0
  a ++ leBytes 4 (crc32 (a ++ [0, 0, 0, 0] ++ b)) ++ b ++ List.replicate 31 0

theorem wit_ImageBytes_headers :
    let good := loadOf .header headerBytes.reverse 127
    let bad := loadOf .header (List.replicate 127 0) 127
    let next (l : Load) (x : Byte) : Load := { l with bytes := x :: l.bytes, count := l.count + 1 }
    let head : List Byte := leBytes 4 0x23 ++ leBytes 4 98304 ++ leBytes 7 0
    let frame (h : List Byte) := loadOf (.frame [0x23]) h.reverse 143
    (loadS good).ofPart .idp1640 ∧ (loadS good).sound ∧ (loadS bad).sound ∧ (loadS (frame head)).sound ∧
    good.takes = true ∧ (frame head).takes = true ∧ flashReads (loadS good) false = true ∧
    flashReads (loadS good) true = false ∧ good.flashAddress = 0x10007F ∧ good.flash = true ∧ good.count + 1 = 128 ∧ s0.power.entry = none ∧
    headerError (loadS good) (next good 0) (next good 0).image = 0 ∧
    128 < leVal (((next good 0).image.drop 8).take 4) ∧ headerError (loadS bad) (next bad 0) (next bad 0).image ≠ 0 ∧
    (frame head).count + 1 < (frame head).length ∧ ((frame head).count + 1) % 16 = 0 ∧ [0x23] = frameTypes 3 ∧
    frameHeaderOk (((next (frame head) 0).bytes.take 16).reverse) 0x23 = true ∧
    frameHeaderOk (((next (frame []) 0).bytes.take 16).reverse) 0x23 = false :=
  ⟨part_of (by decide), sound_of (by decide), sound_of (by decide), sound_of (by decide), by decide +kernel⟩

/-- Bytes 0 to 95 of an image whose slot is `id`. -/
def imagePre (id : Byte) : List Byte := List.replicate 19 0 ++ id :: List.replicate 76 0

theorem hmac_length (k m : List Byte) : (hmac k m).length = 32 := sha_length _

/-- An image ends in zeros: taken in but for the last of them, it lies in the load newest byte first. -/
theorem image_of (l : Load) (pre : List Byte) (n : Nat) (h : l.bytes = List.replicate n 0 ++ pre.reverse) :
    Load.image { l with bytes := 0 :: l.bytes, count := l.count + 1 } = pre ++ List.replicate (n + 1) 0 := by
  show (0 :: l.bytes).reverse = _
  rw [h, ← List.cons_append, ← List.replicate_succ, List.reverse_append, List.reverse_reverse, List.reverse_replicate]

/-- The last `n` bytes taken in are the zeros. -/
theorem data_of (pre : List Byte) (m n : Nat) (h : m ≤ n + 1) :
    ((0 :: (List.replicate n 0 ++ pre.reverse)).take m).reverse = List.replicate m (0 : Byte) := by
  rw [← List.cons_append, ← List.replicate_succ, List.take_append_of_le_length (by rw [List.length_replicate]; exact h),
    List.take_replicate, List.reverse_replicate, Nat.min_eq_left h]

/-- The HMAC of an image of that head is right under key 0xFF, and wrong under the empty slot 8. -/
theorem hmac_of (s : State) (id : Byte) (rest : List Byte) : ∃ tag : List Byte, tag.length = 32 ∧
    (id = 0xFF → hmacHolds s ((imagePre id ++ tag) ++ rest) = true) ∧
    (id = 8 → s.sec.slots.length = 8 → hmacHolds s ((imagePre id ++ tag) ++ rest) = false) := by
  have l : (imagePre id).length = 96 := by simp [imagePre]
  refine ⟨hmac (List.replicate 16 0) (imagePre id ++ rest), hmac_length _ _, ?_, ?_⟩
  · rintro rfl
    have k : slotKey s (nth (imagePre 0xFF ++ hmac (List.replicate 16 0) (imagePre 0xFF ++ rest) ++ rest) 19 0).toNat =
        some (List.replicate 16 0) := rfl
    generalize hd : hmac (List.replicate 16 0) (imagePre 0xFF ++ rest) = d at k
    have ld : d.length = 32 := by rw [← hd]; exact hmac_length _ _
    have e1 : ((imagePre 0xFF ++ d) ++ rest).take 96 = imagePre 0xFF := by
      rw [List.append_assoc, List.take_append_of_le_length (by omega), List.take_of_length_le (by omega)]
    have e2 : ((imagePre 0xFF ++ d) ++ rest).drop 128 = rest := by
      rw [List.drop_append, List.drop_eq_nil_of_le (by rw [List.length_append, l, ld]), List.length_append, l, ld]; rfl
    have e3 : (((imagePre 0xFF ++ d) ++ rest).drop 96).take 32 = d := by
      rw [List.append_assoc, List.drop_append, List.drop_eq_nil_of_le (by omega), l, List.nil_append, Nat.sub_self,
        List.drop_zero, List.take_append_of_le_length (by omega), List.take_of_length_le (by omega)]
    unfold hmacHolds
    rw [k, e1, e2, e3]
    exact decide_eq_true hd
  · rintro rfl hs
    have k : slotKey s (nth (imagePre 8 ++ hmac (List.replicate 16 0) (imagePre 8 ++ rest) ++ rest) 19 0).toNat = none := by
      show slotKey s 8 = none
      unfold slotKey
      rw [List.getElem?_eq_none (by omega)]
      rfl
    unfold hmacHolds
    rw [k]

theorem flash_reads (l : Load) : flashReads (loadS l) false = true := by
  have h : (loadS l).fld SUP 0x02 14 2 = 0 := (by decide : s0.fld SUP 0x02 14 2 = 0)
  unfold flashReads
  rw [h]
  rfl

/-- Walk 3's frame of 98,304 zeros, all but its last byte taken in: its CRC is right for `w` = 0 alone, and its HMAC as
the slot says. -/
theorem wit_ImageBytes_data (w : Nat) (id : Byte) : ∃ l : Load,
    let l1 : Load := { l with bytes := 0 :: l.bytes, count := l.count + 1 }
    (loadS l).power.mode = .run ∧ flashReads (loadS l) false = true ∧ l.takes = true ∧ l.flash = true ∧ l.target = 3 ∧
    l.step = .data [0x23] 0 144 98304 (crc32 ((l1.bytes.take 98304).reverse) + w) ∧ l.count + 1 = 144 + 98304 ∧
    l.length = l.count + 1 ∧ l.bytes.length + 1 ≥ 98304 ∧ (id = 0xFF → hmacHolds (loadS l) l1.image = true) ∧
    (id = 8 → hmacHolds (loadS l) l1.image = false) := by
  obtain ⟨tag, -, h1, h2⟩ := hmac_of s0 id (List.replicate (98319 + 1) 0)
  obtain ⟨zeros, hz⟩ : ∃ z : List Byte, z = List.replicate 98319 0 ++ (imagePre id ++ tag).reverse := ⟨_, rfl⟩
  refine ⟨{ loadOf (.data [0x23] 0 144 98304 (crc32 (((0 :: zeros).take 98304).reverse) + w)) zeros 98447 with
            length := 98448 }, rfl, flash_reads _, rfl, rfl, rfl, rfl, rfl, rfl, ?_, ?_, ?_⟩
  · show zeros.length + 1 ≥ 98304
    rw [hz, List.length_append, List.length_replicate]; omega
  · intro h
    rw [image_of _ _ _ hz]
    exact h1 h
  · intro h
    rw [image_of _ _ _ hz]
    exact h2 h (by decide)

theorem wit_CloConfigWord :
    let s (l : Load) := ((loadS l).wr DEV 0x08 0x0903).wr DEV 0x09 5
    let port := { loadOf .header [] 0 with flash := false }
    (s port).sound ∧ tblTable (s port) = 9 ∧ tblIndex (s port) = port.target ∧ port.flash = false ∧ port.count + 2 < 128 ∧
    tblIndex (s (loadOf .header [] 0)) ≤ 4 ∧ (loadOf .header [] 0).flash = true := ⟨sound_of (by decide), by decide⟩

/-- A walk 1 whose slots are all used, beside a walk 0 in mode `m`. -/
def slotWalks (m : WalkMode) : State :=
  (s0.modWalk 0 (fun k => { k with mode := m, stage := 1 })).modWalk 1 (fun k =>
    { k with held := true, config := memOf 98192 (List.replicate 16 255) })

theorem wit_FabricLogic :
    let x : PortUse := { bits := ratioBits 5 511, write := true, data := List.replicate 36 true, mode := .noChange }
    let y : PortUse := { bits := ratioBits 0 16383, write := false, data := [false], mode := .readFirst }
    let on := slotWalks .release
    let off := slotWalks .failed
    let cck := { off with clo := { off.clo with global := [2, 4, 0, 4] } }
    let held := off.modWalk 1 (fun k => { k with fabric := { k.fabric with padOn := 1, padLevel := 1 } })
    let code (c : Nat) : State := { off with clo := { off.clo with safe := List.replicate 96 c } }
    Memory.wf [] = true ∧ x.data.length = x.bits.length ∧ x.bits.Nodup ∧ x.meets y = true ∧ y.meets x = true ∧
    (on.walk 1).held = true ∧ on.boundaryBit 1 16 63 = true ∧ slotSource 1 63 = 0 ∧ slotSource 1 64 = 2 ∧
    (on.walk 0).outputsOn = true ∧ (off.walk 0).outputsOn = false ∧ clampMode off 0 1 = 0 ∧
    clampMode (off.wr CLO 0x07 3) 0 1 = 3 ∧ isCckPin cck (pinOf 0 0) = true ∧ isCckPin off (pinOf 1 0) = false ∧
    (held.walk 1).fabric.padOn.getLsbD 0 = true ∧ nth (code 4).clo.safe (pinOf 1 0) 0 = 4 ∧
    userClocksOn cck = true ∧ cellBelow 0 = none ∧ cellBelow 3071 = some 3070 ∧ cellBelow 192 = some 7 := by decide +kernel

/-- R389: a write returns the data, the old data or what stood; R390: port A's data stands where both write; R386: P wraps,
or clamps with SAT. -/
theorem test_fabric :
    let a (m : WriteMode) : PortUse := { bits := [0, 1], write := true, data := [true, false], mode := m }
    let b : PortUse := { bits := [1, 2], write := true, data := [true, true], mode := .readFirst }
    let reads (m : WriteMode) := portReads (a m) none true true [true, true] [] (portsStore (some (a m)) none true true [])
    reads .writeFirst = [true, false] ∧ reads .readFirst = [false, false] ∧ reads .noChange = [true, true] ∧
    portsStore (some (a .readFirst)) (some b) true false [] = [(0, 1)] ∧
    macResult false (2 ^ 47) = 0x800000000000#48 ∧ macResult true (2 ^ 47) = 0x7FFFFFFFFFFF#48 ∧ macOverflow (2 ^ 47) = true ∧
    ratioBits 2 1 = [4, 5, 6, 7] ∧ ratioBits 2 2 = [9, 10, 11, 12] ∧ carryOut true false true = true ∧
    driveStrength true 3 = 16 ∧ driveStrength false 0 = 2 := by decide +kernel

/-! ## Identity and the test access port -/

/-- A binding slot with a key. -/
def keySlot (revoked : Bool) : BindSlot := { used := true, revoked := revoked, key := List.replicate 16 7, spoiled := none }

/-- Slot 7 bound, slot 6 revoked, a session open, a key staged. -/
def secS : State :=
  { s0 with sec := { s0.sec with slots := List.replicate 6 (s0.slot 0) ++ [keySlot true, keySlot false], stage := List.replicate 16 1,
                                 session := some (List.replicate 16 7, []), chal := leBytes 64 (1 + 2 ^ 64) } }

theorem wit_SecCommandsAccepted :
    secS.sound ∧ (lockedS.power.mode = .run ∧ locked lockedS = true) ∧ secRow .supervisor 7 5 = some (.program .supervisor 7) ∧
    secRow .host 0xFF 2 = some (.hmacInit .host 0xFF) ∧ secRow .host 0 8 = none ∧ secS.sec.run = none ∧
    secS.sec.session ≠ none ∧ s0.sec.session = none ∧ (secS.slot 7).used = true ∧ (secS.slot 7).revoked = false ∧
    (secS.slot 6).revoked = true ∧ (secS.slot 0).used = false ∧ locked secS = false ∧
    (parseSource secS.sec.chal).ok secS.engs.length = true ∧ (parseSource s0.sec.chal).ok s0.engs.length = false ∧
    (∃ b ∈ secS.sec.stage, b ≠ 0) ∧ (∀ b ∈ s0.sec.stage, b = 0) ∧ secS.sec.slots.length = 8 :=
  ⟨sound_of (by decide), by decide⟩

/-- Command `cmd` runs on slot `arg`, to end with `code`. -/
def runS (cmd arg code : Nat) : State :=
  { secS with sec := { secS.sec with run := some ⟨cmd, arg, secS.sec.chal, code, 256, 0⟩ } }

theorem wit_SecCommandsComplete :
    (runS 1 0 0).sound ∧ (runS 7 7 9).sound ∧ (runS 3 0 0).sec.run = some ⟨3, 0, secS.sec.chal, 0, 256, 0⟩ ∧
    (runS 3 0 0).sec.session = some (List.replicate 16 7, []) ∧ (runS 5 0 0).sec.slots.length = 8 ∧
    (parseSource secS.sec.chal).bad (runS 3 0 0) = false ∧
    (parseSource secS.sec.chal).bad { runS 3 0 0 with cistUe := [0] } = true ∧ (9 : Nat) ≠ 0 ∧ 9 < 16 ∧
    (runS 6 7 0).slot 7 = keySlot false := ⟨sound_of (by decide), sound_of (by decide), by decide⟩

theorem wit_SecCommandsComplete_spoiled :
    let q := (runS 7 0 0).modSlot 0 (fun b => { b with used := true, spoiled := some [] })
    q.sound ∧ q.sec.run = some ⟨7, 0, secS.sec.chal, 0, 256, 0⟩ ∧ q.sec.slots.length = 8 ∧ (q.slot 0).spoiled = some [] :=
  ⟨sound_of (by decide), by decide⟩

theorem wit_SecWindows :
    let last := { s0 with sec := { s0.sec with chalPtr := 31 } }
    let past := { s0 with sec := { s0.sec with chalPtr := 32 } }
    last.sound ∧ past.sound ∧ last.sec.run = none ∧ last.sec.chal.length = 64 ∧ last.sec.chalPtr < 32 ∧ 32 ≤ past.sec.chalPtr ∧
    (runS 1 0 0).sec.run.isSome = true ∧ s0.sec.certPtr < 128 := ⟨sound_of (by decide), sound_of (by decide), by decide⟩

theorem wit_TestAccessPort :
    let acc := { s0 with tap := { s0.tap with ins := .regacc } }
    let zz := powerS (fun p => { p with mode := .dormant })
    acc.sound ∧ zz.sound ∧ cellDrives .tripN = true ∧ cellDrives (.prb 7) = true ∧ locked acc = false ∧ acc.tap.ins = .regacc ∧ isWindow (CH 15) 0x0F = false ∧ (regInfo .idp1640 s0.straps (CH 15) 0x0F).isSome = true ∧
    CH 15 < 256 ∧ (1 : Word) ≠ lockedS.rd (CH 0) 8 ∧ nbit (2 ^ 33 + 0x10 * 2 ^ 24 + 8 * 2 ^ 16) 33 = true ∧
    fld (2 ^ 33 + 0x30 * 2 ^ 24) 24 8 = 0x30 ∧ isWindow DEV 0x0B = true := ⟨sound_of (by decide), sound_of (by decide), by decide⟩

/-! ## Worked examples of the spec -/

/-- The state after a command. -/
def after (c : Instr) (s : State) : State := match exec c s with | .next t => t | _ => s

/-- The write frame of 04, Example: GUARD_POINT takes 0x005F, and it is the first write frame since reset. -/
theorem test_write_frame_example :
    let t := after (.writeFrame [0x90, 0x00, 0x28, 0x01, 0x00, 0x5F, 0xFD]) s0
    t.rd DEV 0x28 = 0x005F ∧ t.ctl.seq = 1 ∧ t.ctl.wlast = 0 := by decide +kernel

/-- The read frame of 04, Example, on the same device once the firmware has handed over: the answer is those seven bytes. -/
theorem test_read_frame_example :
    (after (.readFrame [0x91, 0x00, 0x00, 0x02, 0x4E])
      (after (.writeFrame [0x90, 0x00, 0x28, 0x01, 0x00, 0x5F, 0xFD])
        { s0 with sup := { s0.sup with ready := true } })).ctl.answer =
      some [0x00, 0x01, 0x16, 0x40, 0x00, 0xB0, 0xEE] := by decide +kernel

/-- A CRC byte that is wrong by one bit: nothing is written (04, R97). -/
theorem test_write_frame_bad_crc :
    (after (.writeFrame [0x90, 0x00, 0x28, 0x01, 0x00, 0x5F, 0xFC]) s0).rd DEV 0x28 = s0.rd DEV 0x28 := by decide +kernel

/-- 11, Example: SRND to I8 with shift 9 from seed 1 writes 0x3B, 0xC6, 0x7F. -/
theorem test_srnd_example :
    let s := (codeS (.job 15) [insWord 7 0 (twoOps + 9 * 2 ^ 6)]).modEng 15 (fun g =>
      { g with gen := 1, store := g.store ++ memOf 0x10000 (leBytes 4 29952 ++ leBytes 4 (2 ^ 32 - 29952) ++ leBytes 4 80000) })
    storeGet (after (.srnd 15) s) 15 0x12000 3 = [0x3B, 0xC6, 0x7F] := by decide +kernel

/-- 22, Example: the straps of chip 1 read as 0xA4 in the low byte of DEV_STATUS; bit 13 is TRIP, which TRIP_SAFE holds
until LOCK (R352). -/
theorem test_strap_example :
    regRead { s0 with straps := { s0.straps with addr := 1, boot := 1, tripSafe := true } } DEV 0x04 = 0x20A4 := by
  decide +kernel

/-- 03, Example: G = ⌊3,125 × 90 / 100⌋ = 2,812 with GUARD_POINT at its reset value. -/
theorem test_guard_example : guardPoint (s0.rd DEV 0x28) false true 3125 = 2812 := by decide

/-- FIPS 180-4: the digest of "abc" begins BA7816BF. -/
theorem test_sha256 : (sha256 [0x61, 0x62, 0x63]).take 4 = [0xBA, 0x78, 0x16, 0xBF] := by decide +kernel

/-! ## The package (R564 to R568, R584) -/

/-- Ball counts as R568 gives them, and the 138 boundary cells of R584. -/
theorem test_ball_counts : [Rail.core, .mem, .rim, .crypt, .pll, .lnk, .lnkA, .ioA, .ioB, .ioC, .cp, .vss].map railBalls =
    [84, 14, 20, 2, 2, 20, 8, 14, 9, 13, 7, 301] ∧
    (allBalls.filter (fun b => match b with | .signal x => hasCell x | .rail _ => false)).length = 138 := by decide +kernel

/-- The clock-capable pins (R564), the two lanes R565 places by name, and balls of the manual's example. -/
theorem test_ball_names : ballAt 1 7 = .signal (.io 0) ∧ ballAt 1 8 = .signal (.io 1) ∧ ballAt 15 26 = .signal (.io 32) ∧
    ballAt 16 26 = .signal (.io 33) ∧ ballAt 26 22 = .signal (.tx 2 1 false) ∧ ballAt 24 3 = .signal (.rx 3 0 true) ∧
    ballAt 5 14 = .signal .tripN ∧ ballAt 6 15 = .signal .tripSafe ∧ ballAt 10 5 = .signal .tdo := by decide

/-- Out of reset TRIP_N is not pulled, VID holds code 15 and the verdict port is 0 (R569, R570, R573). -/
theorem test_pins : pinState s0 .tripN = .openDrain false ∧ pinState s0 (.vid 3) = .driven true ∧
    pinState s0 (.vid 4) = .driven false ∧ pinState s0 .vdStb = .driven false := by decide

end Sys2Proof.Tests
end

/-! ## What a row can answer

A row of the table answers the state its operation makes, or, while its gate is shut, the state it was given. -/

namespace Sys2Proof.Machine

section Gates
variable {R : State → Prop} {f : State → State} {s : State}

theorem always_next (h : R (f s)) : ∃ t, always f s = .next t ∧ R t := ⟨f s, rfl, h⟩

theorem whenRun_next (shut : R s) (h : s.power.mode = .run → R (f s)) : ∃ t, whenRun f s = .next t ∧ R t := by
  refine ⟨_, rfl, ?_⟩
  split
  · next hm => exact h hm
  · exact shut

theorem whenUp_next (shut : R s) (h : R (f s)) : ∃ t, whenUp f s = .next t ∧ R t := by
  refine ⟨_, rfl, ?_⟩
  split
  · exact h
  · exact shut

theorem whenPowered_next (shut : R s) (h : R (f s)) : ∃ t, whenPowered f s = .next t ∧ R t := by
  refine ⟨_, rfl, ?_⟩
  split
  · exact shut
  · exact h

theorem whenSup_next (shut : R s) (h : R (f s)) : ∃ t, whenSup f s = .next t ∧ R t := by
  refine ⟨_, rfl, ?_⟩
  split
  · exact h
  · exact shut

end Gates

/-! ## The part and its units (R1, R2, R4) -/

/-- From `s` to `t` the part and the queue are kept; the units are those of `s`, or a reset has built those of the part. -/
def State.keepsUnits (s t : State) : Prop := t.frame = s.frame ∨ t.frame = (s.part, Part.shape s.part, s.pending)

theorem State.keepsUnits.part {s t : State} (h : s.keepsUnits t) : t.part = s.part := by
  rcases h with h | h <;> exact congrArg (·.1) h

theorem State.keepsUnits.pending {s t : State} (h : s.keepsUnits t) : t.pending = s.pending := by
  rcases h with h | h <;> exact congrArg (·.2.2) h

theorem State.keepsUnits.ofPart {s t : State} {p : Part} (h : s.keepsUnits t) (hs : s.ofPart p) : t.ofPart p := by
  obtain ⟨rfl, hshape⟩ := hs
  refine ⟨h.part, ?_⟩
  rcases h with h | h
  · exact (congrArg (·.2.1) h).trans hshape
  · exact congrArg (·.2.1) h

theorem State.keepsUnits_of_frame {s t : State} (h : t.frame = s.frame) : s.keepsUnits t := .inl h

/-- A device fresh from a reset, with the queue kept, has the units of its part. -/
theorem fresh_keepsUnits (s : State) (b : Straps) (regs power tbase tb free) :
    s.keepsUnits { State.fresh s.part b s.sec.slots with
      regs := regs, power := power, tbase := tbase, tb := tb, free := free, pending := s.pending } :=
  .inr (by simp [State.frame, State.shape, State.fresh, Part.shape, Sup.reset, Cloister.reset])

theorem rebuild_frame (p : Power) (s : State) : (rebuild p s).frame = (s.part, Part.shape s.part, s.pending) := by
  simp [rebuild, State.frame, State.shape, State.fresh, Part.shape, Sup.reset, Cloister.reset]

/-- A rebuild after operations that keep the units. -/
theorem rebuild_keepsUnits (p : Power) (s s1 : State) (h : s1.frame = s.frame) : s.keepsUnits (rebuild p s1) := by
  have hp : s1.part = s.part := congrArg (·.1) h
  have hq : s1.pending = s.pending := congrArg (·.2.2) h
  exact .inr (by rw [rebuild_frame, hp, hq])

theorem powerUp_keepsUnits (b : Straps) (s : State) : s.keepsUnits (powerUp b s) := by
  unfold powerUp
  split
  · exact .inl rfl
  · exact fresh_keepsUnits s b _ _ _ _ _

theorem cryptBrownout_keepsUnits (s : State) : s.keepsUnits (cryptBrownout s) := fresh_keepsUnits s _ _ _ _ _ _

theorem resetAssert_keepsUnits (s : State) : s.keepsUnits (resetAssert s) := by
  unfold resetAssert
  split
  · exact .inl rfl
  · refine rebuild_keepsUnits _ _ _ ?_
    have hcry : ∀ x : State, (resetCry x).frame = x.frame := fun x => rfl
    rw [hcry]
    split <;> simp

theorem dormantEntry_keepsUnits (s : State) : s.keepsUnits (dormantEntry s) := by
  unfold dormantEntry
  split
  · exact .inl rfl
  · exact rebuild_keepsUnits _ _ _ (drain_frame s)

theorem dormantWake_keepsUnits (s : State) : s.keepsUnits (dormantWake s) := by
  unfold dormantWake
  split
  · exact .inr (by simp [rebuild_frame])
  · exact .inl rfl

/-- Every command answers a next state of the same part, with the queue as it was and the units it had or those of the
part. -/
theorem exec_keepsUnits (c : Instr) (s : State) : ∃ t, exec c s = .next t ∧ s.keepsUnits t := by
  have same : s.keepsUnits s := .inl rfl
  cases c
  case powerUp b => exact always_next (powerUp_keepsUnits b s)
  case cryptBrownout => exact always_next (cryptBrownout_keepsUnits s)
  case resetNAssert => exact whenPowered_next same (resetAssert_keepsUnits s)
  case dormantEntry => exact whenRun_next same fun _ => dormantEntry_keepsUnits s
  case dormantWake => exact whenPowered_next same (dormantWake_keepsUnits s)
  case tickEdge | writeFrame | readFrame | tbLogRead | tapReset | extest | samplePreload | idcode | clamp | highz |
      regacc | bypass | regaccUpdate =>
    exact always_next (.inl (by simp))
  case wakeEdge | listenerMatch | startStage | refclkTimeout | resetNRelease | tbChangeover | crystalStop |
      timebaseCount =>
    exact whenPowered_next same (.inl (by simp))
  case pllLockLoss | rimPllLock => exact whenUp_next same (.inl (by simp))
  case supWfi | supLoad | supStore | supFence | supRing | supTry | supPeek | supPost | bankReadyMark | fltQstat |
      fltHeadRead | fltPop | fltRetire | fltReadmit | fltButtress | fltRepair | fltScrub | shadowCfg | handover =>
    exact whenSup_next same (.inl (by simp))
  case intCauseClear v => exact whenSup_next (f := fun s => busDone (causeClear v s)) same (.inl (by simp))
  case lockSet => exact whenRun_next (f := fun s => s.setB DEV 0x03 15) same fun _ => .inl (by simp)
  all_goals exact whenRun_next same fun _ => .inl (by simp)

theorem step_keepsOfPart (p : Part) (s t : State) (hs : s.ofPart p) (h : step s = .next t) : t.ofPart p := by
  unfold step at h
  split at h
  · obtain ⟨hpart, hshape⟩ := userClock_shape s
    cases h
    exact ⟨hpart.trans hs.1, hshape.trans hs.2⟩
  · next c rest _ =>
    obtain ⟨u, hu, hk⟩ := exec_keepsUnits c (s.withPending rest)
    cases hu.symm.trans h
    exact hk.ofPart hs

end Sys2Proof.Machine

/-- Settles O3: a command keeps the frame or rebuilds the device with the units of its part; the user clocks keep both. -/
theorem stepKeepsPart : Obligations.StepKeepsPart := Sys2Proof.Machine.step_keepsOfPart

/-! ## Self-clearing bits (R12)

Targets LNK n are numbered 0x08 + n and CLO is target 0x0C, so a fifth link port would share its registers with the
cloister. Soundness says nothing of the number of ports, so the statement admits such a state, although no part has it. -/

namespace Sys2Proof.Machine

/-- A device on its free-run timer with a fifth link port, whose retirement waits for the next snapshot edge. -/
def fifthPortRetiring : State :=
  { State.reset with
    ports := List.replicate 5 Port.reset
    faults := { Faults.reset with portCmds := [(4, true)] }
    tick := { TickUnit.reset with en := true, src := true, freeDue := some 0 }
    pending := [.freeRunExpiry] }

theorem fifthPortRetiring_sound : fifthPortRetiring.sound where
  regs := ⟨List.Pairwise.nil, by intro x hx; cases hx⟩
  cist := rfl
  stores := by unfold storesOk; decide
  sram := rfl
  slots := by unfold slotsOk; decide
  walks := by unfold walksOk; decide
  faults := Nat.zero_le _
  journal := Nat.zero_le _
  log := Nat.zero_le _
  bells := by unfold bellsOk; decide

theorem fifthPortRetiring_selfCleared : fifthPortRetiring.selfCleared := ⟨rfl, rfl⟩

theorem retiring_fifth_port_sets_cloCtrl :
    ∃ t, step fifthPortRetiring = .next t ∧ t.rd CLO 0x00 = 0x4000 := by
  have run : (match step fifthPortRetiring with | .next t => decide (t.rd CLO 0x00 = 0x4000) | _ => false) = true := by
    decide +kernel
  split at run
  · next t ht => exact ⟨t, ht, of_decide_eq_true run⟩
  · cases run

end Sys2Proof.Machine

/-- Refutes O37: soundness leaves the number of link ports open, and retiring a fifth port sets bit 14 of CLO_CTRL, the
register that its LNK_CTRL would be. No part has more than four ports; the statement does not ask for a part's. -/
theorem not_selfClearingBitsHoldZero : ¬ Obligations.SelfClearingBitsHoldZero := by
  rintro ⟨-, keeps⟩
  obtain ⟨t, hstep, hclo⟩ := Sys2Proof.Machine.retiring_fifth_port_sets_cloCtrl
  have hs := Sys2Proof.Machine.fifthPortRetiring_sound
  obtain ⟨-, hzero⟩ := keeps _ t hs Sys2Proof.Machine.fifthPortRetiring_selfCleared hstep
  rw [hclo] at hzero
  exact absurd hzero (by decide)

/-! ## What serving a peer, restarting a block and writing the journal leave alone

No time passes, the power state and the timebase stay, so do the registers of targets PWR and CRY, and the supervisor does
not begin to wait. -/

namespace Sys2Proof.Machine

/-- From `r` to `s` the time, the power state, the timebase and the PWR and CRY registers are the same, and a
supervisor that waits in `s` waited in `r`. -/
structure State.undisturbed (r s : State) : Prop where
  now : s.now = r.now
  power : s.power = r.power
  tbase : s.tbase = r.tbase
  tb : s.tb = r.tb
  regs : ∀ t x, x < 256 → t = PWR ∨ t = CRY → s.rd t x = r.rd t x
  wfi : s.sup.wfi = true → r.sup.wfi = true

theorem State.undisturbed_refl (s : State) : s.undisturbed s := ⟨rfl, rfl, rfl, rfl, fun _ _ _ _ => rfl, id⟩

/-- The fields that a `State.undisturbed` step compares, but for the supervisor. -/
def State.calm (s : State) : Nat × Power × Timebase × Nat × Straps × Part × RegFile :=
  (s.now, s.power, s.tbase, s.tb, s.straps, s.part, s.regs)

section
variable {r s t : State}

/-- An update of other fields that starts no wait. -/
theorem State.undisturbed.same (h : r.undisturbed s) (hcalm : t.calm = s.calm)
    (hw : t.sup.wfi = true → s.sup.wfi = true := by exact id) : r.undisturbed t := by
  simp only [State.calm, Prod.mk.injEq] at hcalm
  obtain ⟨hnow, hpower, htbase, htb, hstraps, hpart, hregs⟩ := hcalm
  exact ⟨hnow.trans h.now, hpower.trans h.power, htbase.trans h.tbase, htb.trans h.tb,
    fun a x hx ha => (State.rd_regs s t a x hregs hpart hstraps).trans (h.regs a x hx ha), fun hs => h.wfi (hw hs)⟩

/-- A write to another target. -/
theorem State.wr_undisturbed (h : r.undisturbed s) {a x : Nat} {v : Word} (hk : key a x < 0x200 ∨ 0x400 ≤ key a x) :
    r.undisturbed (s.wr a x v) where
  now := h.now
  power := h.power
  tbase := h.tbase
  tb := h.tb
  wfi := h.wfi
  regs b y hy hb := by
    refine (State.rd_wr_other s a x b y v ?_).trans (h.regs b y hy hb)
    rcases hb with rfl | rfl <;> simp only [key, PWR, CRY] at hk ⊢ <;> omega

theorem State.wrDEV_undisturbed (h : r.undisturbed s) {x : Nat} {v : Word} (hx : x < 256) : r.undisturbed (s.wr DEV x v) :=
  State.wr_undisturbed h (.inl (by simp only [key, DEV]; omega))

theorem State.setDEV_undisturbed (h : r.undisturbed s) {x i : Nat} (hx : x < 256) : r.undisturbed (s.setB DEV x i) :=
  State.wrDEV_undisturbed h hx

theorem foldS_undisturbed {α : Type} {f : α → State → State} {xs : List α} (h : r.undisturbed s)
    (hf : ∀ a s, r.undisturbed s → r.undisturbed (f a s)) : r.undisturbed (foldS f xs s) :=
  foldS_inv r.undisturbed f hf xs s h

theorem ite_undisturbed {c : Prop} [Decidable c] (hs : r.undisturbed s) (ht : r.undisturbed t) :
    r.undisturbed (if c then s else t) := by
  split
  · exact hs
  · exact ht

/-! ### Events and records -/

theorem raise_undisturbed (h : r.undisturbed s) {i : Nat} : r.undisturbed (raise i s) := by
  have hset : r.undisturbed (s.setB DEV 0x05 i) := State.setDEV_undisturbed h (by decide)
  unfold raise
  dsimp only
  split
  · exact hset
  · exact hset.same rfl (fun hw => nomatch hw)

theorem bump16_undisturbed (h : r.undisturbed s) {a x d : Nat} (hk : key a x < 0x200 ∨ 0x400 ≤ key a x) :
    r.undisturbed (bump16 a x d s) := State.wr_undisturbed h hk

theorem faultRecord_undisturbed (h : r.undisturbed s) {src unit chan flags detail detail2 : Nat} :
    r.undisturbed (faultRecord src unit chan flags detail detail2 s) := by
  unfold faultRecord
  refine raise_undisturbed ?_
  exact h.same rfl

theorem chargeChannel_undisturbed (h : r.undisturbed s) {c : Nat} : r.undisturbed (chargeChannel c s) := h.same rfl

theorem memRecord_undisturbed (h : r.undisturbed s) {unit : Nat} {c : Option Nat} {flags detail detail2 : Nat} :
    r.undisturbed (memRecord unit c flags detail detail2 s) := by
  unfold memRecord
  split
  · exact chargeChannel_undisturbed (faultRecord_undisturbed h)
  · exact faultRecord_undisturbed h

theorem promiseBroken_undisturbed (h : r.undisturbed s) {stall : Bool} {no : Nat} {cs : List Nat} :
    r.undisturbed (promiseBroken stall no cs s) := by
  unfold promiseBroken
  extract_lets s1 w tick s2
  have h1 : r.undisturbed s1 := State.setDEV_undisturbed h (by decide)
  have h2 : r.undisturbed s2 := by
    unfold s2
    split
    · exact h1
    · refine raise_undisturbed (State.wrDEV_undisturbed ?_ (by decide))
      exact h1.same rfl
  split
  · exact foldS_undisturbed h2 (fun c s hs => hs.same rfl)
  · exact h2

theorem tickFault_undisturbed (h : r.undisturbed s) {src unit c no flags detail detail2 : Nat} :
    r.undisturbed (tickFault src unit c no flags detail detail2 s) :=
  promiseBroken_undisturbed (chargeChannel_undisturbed (faultRecord_undisturbed h))

/-! ### The cistern and the journal -/

theorem cistUeRecord_undisturbed (h : r.undisturbed s) {c : Option Nat} {w : Nat} : r.undisturbed (cistUeRecord c w s) :=
  (memRecord_undisturbed h).same rfl

theorem cistReadEvents_undisturbed (h : r.undisturbed s) {a n : Nat} {c : Option Nat} :
    r.undisturbed (cistReadEvents a n c s) := by
  unfold cistReadEvents
  split
  · exact h
  · have hue : r.undisturbed (foldS (cistUeRecord c) (hitWords s.cistUe 8 a n) s) :=
      foldS_undisturbed h (fun w _ hs => cistUeRecord_undisturbed hs)
    exact foldS_undisturbed hue (fun w s hs => hs.same rfl)

theorem cistPut_undisturbed (h : r.undisturbed s) {a : Nat} {bs : List Byte} : r.undisturbed (cistPut a bs s) := by
  unfold cistPut
  split
  · exact h
  · exact foldS_undisturbed (h.same rfl) (fun w s hs => cistUeRecord_undisturbed hs)

theorem journalWrite_undisturbed (h : r.undisturbed s) : r.undisturbed (journalWrite s) := by
  unfold journalWrite
  split
  · exact h
  · refine cistPut_undisturbed (cistPut_undisturbed ?_)
    exact h.same rfl

theorem journalDrain_undisturbed (h : r.undisturbed s) {n : Nat} : r.undisturbed (journalDrain n s) := by
  induction n generalizing s with
  | zero => exact h
  | succ n ih => exact ih (journalWrite_undisturbed h)

/-! ### The completion of an operation -/

theorem holdFault_undisturbed (h : r.undisturbed s) {e code : Nat} {pc : Option Nat} :
    r.undisturbed (holdFault e code pc s) := by
  unfold holdFault
  exact h.same rfl

theorem unclean_undisturbed (h : r.undisturbed s) {e c no : Nat} : r.undisturbed (unclean e c no s) := by
  unfold unclean
  exact h.same rfl

theorem completionFault_undisturbed (h : r.undisturbed s) {o : PumpOp} : r.undisturbed (completionFault o s) := by
  unfold completionFault
  dsimp only
  split
  · exact h
  · split
    · exact unclean_undisturbed (tickFault_undisturbed (holdFault_undisturbed h))
    · exact faultRecord_undisturbed (holdFault_undisturbed h)
    · exact faultRecord_undisturbed h

theorem storePut_undisturbed (h : r.undisturbed s) {e a : Nat} {bs : List Byte} : r.undisturbed (storePut e a bs s) := by
  unfold storePut
  exact h.same rfl

theorem storeCompletion_undisturbed (h : r.undisturbed s) {o : PumpOp} : r.undisturbed (storeCompletion o s) := by
  unfold storeCompletion
  split
  · exact storePut_undisturbed h
  · exact h.same rfl
  · exact h

theorem freeXid_undisturbed (h : r.undisturbed s) {p x : Nat} : r.undisturbed (freeXid p x s) := by
  unfold freeXid
  exact h.same rfl

theorem returnXid_undisturbed (h : r.undisturbed s) {o : PumpOp} : r.undisturbed (returnXid o s) := by
  unfold returnXid
  split
  · split
    · exact h
    · exact freeXid_undisturbed h
  · exact h

theorem completeOp_undisturbed (h : r.undisturbed s) {o : PumpOp} : r.undisturbed (completeOp o s) := by
  unfold completeOp
  extract_lets s1
  have h1 : r.undisturbed s1 := by
    refine returnXid_undisturbed (storeCompletion_undisturbed ?_)
    exact h.same rfl
  refine completionFault_undisturbed ?_
  split
  · exact bump16_undisturbed h1 (by decide)
  · exact h1

theorem noteTag_undisturbed (h : r.undisturbed s) {o : PumpOp} : r.undisturbed (noteTag o s) := by
  unfold noteTag
  extract_lets m s1
  have h1 : r.undisturbed s1 := State.wrDEV_undisturbed h (by decide)
  split
  · exact h1.same rfl
  · exact h1

/-! ### The pieces of an operation -/

theorem readPiece_undisturbed (x : Access) (m : Moving) (lanes : List Int) (h : r.undisturbed m.s) :
    r.undisturbed (readPiece x m lanes).1.s := by
  unfold readPiece
  dsimp only
  split
  · exact h
  · split
    · exact h
    · split
      · exact h
      · split
        · exact h
        · exact cistReadEvents_undisturbed h

theorem writePiece_undisturbed (x : Access) (m : Moving) (lanes : List (Int × List Byte)) (h : r.undisturbed m.s) :
    r.undisturbed (writePiece x m lanes).s := by
  unfold writePiece
  split
  · exact h
  · split
    · exact h
    · dsimp only
      split
      · exact h
      · split
        · exact h
        · exact cistPut_undisturbed h

/-- A property that each step of a left fold keeps. -/
theorem foldl_keeps {α β : Type} (P : β → Prop) (f : β → α → β) (xs : List α) (b : β) (hb : P b)
    (hf : ∀ b a, P b → P (f b a)) : P (xs.foldl f b) := by
  induction xs generalizing b with
  | nil => exact hb
  | cons x xs ih => exact ih _ (hf b x hb)

theorem readLanes_undisturbed (x : Access) (d : Desc) (lanes : List (Option Int)) (m : Moving) (h : r.undisturbed m.s) :
    r.undisturbed (readLanes x d lanes m).1.s := by
  unfold readLanes
  refine foldl_keeps (fun acc : Moving × List (List Byte) => r.undisturbed acc.1.s) _ _ _ h (fun acc g hacc => ?_)
  dsimp only
  split
  · exact hacc
  · exact readPiece_undisturbed x acc.1 _ hacc

theorem writeLanes_undisturbed (x : Access) (lanes : List (Option Int × List Byte)) (m : Moving) (h : r.undisturbed m.s) :
    r.undisturbed (writeLanes x lanes m).s :=
  foldl_keeps (fun m : Moving => r.undisturbed m.s) _ _ _ h (fun m _ hm => writePiece_undisturbed x m _ hm)

/-! ### Serving a peer -/

theorem State.modPort_undisturbed (h : r.undisturbed s) {p : Nat} {f : Port → Port} : r.undisturbed (s.modPort p f) :=
  h.same rfl

theorem enqueue_undisturbed (h : r.undisturbed s) {p : Nat} {f : TxFrame} : r.undisturbed (enqueue p f s) := h.same rfl

theorem dropBlock_undisturbed (h : r.undisturbed s) {p x e : Nat} : r.undisturbed (dropBlock p x e s) := h.same rfl

theorem modBlock_undisturbed (h : r.undisturbed s) {p x e : Nat} {f : PeerBlock → PeerBlock} :
    r.undisturbed (modBlock p x e f s) := h.same rfl

theorem leaveBuffer_undisturbed (h : r.undisturbed s) {p n : Nat} : r.undisturbed (leaveBuffer p n s) := h.same rfl

theorem refuseBlock_undisturbed (h : r.undisturbed s) {p : Nat} {b : PeerBlock} : r.undisturbed (refuseBlock p b s) :=
  enqueue_undisturbed (dropBlock_undisturbed h)

theorem serveRead_undisturbed (h : r.undisturbed s) {p : Nat} {o : PumpOp} {b : PeerBlock} :
    r.undisturbed (serveRead p o b s) := by
  unfold serveRead
  exact completeOp_undisturbed (foldS_undisturbed (dropBlock_undisturbed (readLanes_undisturbed _ _ _ _ h))
    (fun _ _ hs => enqueue_undisturbed hs))

theorem serveWrite_undisturbed (h : r.undisturbed s) {p i : Nat} {b : PeerBlock} : r.undisturbed (serveWrite p i b s) := by
  unfold serveWrite
  split
  · exact h
  · extract_lets as m0 lanes m o1 s1
    have hm : r.undisturbed m.s := writeLanes_undisturbed _ lanes m0 h
    have h1 : r.undisturbed s1 := by
      refine leaveBuffer_undisturbed (modBlock_undisturbed ?_)
      exact hm.same rfl
    split
    · exact enqueue_undisturbed (dropBlock_undisturbed (completeOp_undisturbed h1))
    · exact h1

theorem startBlock_undisturbed (h : r.undisturbed s) {p k : Nat} {b : PeerBlock} : r.undisturbed (startBlock p k b s) := by
  unfold startBlock
  split
  · exact refuseBlock_undisturbed h
  · extract_lets o s1 b1
    have h1 : r.undisturbed s1 := by
      refine leaveBuffer_undisturbed (modBlock_undisturbed (noteTag_undisturbed ?_))
      exact h.same rfl
    split
    · exact serveWrite_undisturbed (modBlock_undisturbed h1)
    · exact serveRead_undisturbed h1

theorem tagStall_undisturbed (h : r.undisturbed s) : r.undisturbed (tagStall s) := by
  unfold tagStall
  exact raise_undisturbed (bump16_undisturbed h (by decide))

theorem stallBlock_undisturbed (h : r.undisturbed s) {p : Nat} {b : PeerBlock} : r.undisturbed (stallBlock p b s) := by
  unfold stallBlock
  split
  · exact h
  · exact tagStall_undisturbed (modBlock_undisturbed h)

theorem serveNext_undisturbed (h : r.undisturbed s) {granted : Bool} {p : Nat} : r.undisturbed (serveNext granted p s).1 := by
  unfold serveNext
  split
  · exact h
  split
  · exact refuseBlock_undisturbed h
  split
  · exact h
  split
  · exact stallBlock_undisturbed h
  rw [apply_ite Prod.fst]
  refine ite_undisturbed ?_ ?_
  · exact stallBlock_undisturbed h
  · exact startBlock_undisturbed (State.modPort_undisturbed h)

theorem servePort_undisturbed (h : r.undisturbed s) {n p : Nat} : r.undisturbed (servePort n p s) := by
  induction n generalizing s with
  | zero => exact h
  | succ n ih =>
    have hnext : r.undisturbed (serveNext false p s).1 := serveNext_undisturbed h
    unfold servePort
    dsimp only
    split
    · exact ih hnext
    · exact hnext

theorem servePeers_undisturbed (h : r.undisturbed s) : r.undisturbed (servePeers s) :=
  foldS_undisturbed h (fun _ _ hs => servePort_undisturbed hs)

/-! ### Restarting a block after a sleep -/

theorem setLink_undisturbed (h : r.undisturbed s) {p : Nat} {st : LinkSt} : r.undisturbed (setLink p st s) := by
  unfold setLink
  split
  · exact h
  · exact raise_undisturbed (State.modPort_undisturbed h)

theorem freezeXfers_undisturbed (h : r.undisturbed s) {p : Nat} : r.undisturbed (freezeXfers p s) := by
  unfold freezeXfers
  exact h.same rfl

theorem leaveUp_undisturbed (h : r.undisturbed s) {p reason : Nat} {paused : Bool} :
    r.undisturbed (leaveUp p reason paused s) := by
  unfold leaveUp
  exact setLink_undisturbed (State.modPort_undisturbed (freezeXfers_undisturbed h))

theorem restartBlock_undisturbed (h : r.undisturbed s) {b : SleepBlock} : r.undisturbed (restartBlock b s) := by
  unfold restartBlock
  split
  · exact h.same rfl
  · dsimp only
    split
    · exact leaveUp_undisturbed (State.modPort_undisturbed h)
    · exact State.modPort_undisturbed h
  · exact h.same rfl
  · exact h

theorem clearValid_undisturbed (h : r.undisturbed s) : r.undisturbed (clearValid s) := by
  unfold clearValid
  refine State.wrDEV_undisturbed ?_ (by decide)
  exact h.same rfl

end

end Sys2Proof.Machine

/-! ## Sleep and wake (R13, R504 to R507, R530 to R533) -/

namespace Sys2Proof.Machine

section Gates
variable {f : State → State} {s : State}

theorem whenRun_of_run (hm : s.power.mode = .run) : whenRun f s = .next (f s) := by simp [whenRun, hm]

theorem whenPowered_of_ne_off (hm : s.power.mode ≠ .off) : whenPowered f s = .next (f s) := by simp [whenPowered, hm]

end Gates

/-! ### The drain (R504) -/

/-- The pump operations, the engines and the journal. -/
def State.work (s : State) : List PumpOp × List Engine × Journal := (s.ops, s.engs, s.journal)

theorem raise_work (i : Nat) (s : State) : (raise i s).work = s.work := by
  unfold raise
  dsimp only
  split <;> rfl

theorem faultRecord_work (src unit chan flags detail detail2 : Nat) (s : State) :
    (faultRecord src unit chan flags detail detail2 s).work = s.work := by
  unfold faultRecord
  exact raise_work _ _

theorem memRecord_work (unit flags detail detail2 : Nat) (s : State) :
    (memRecord unit none flags detail detail2 s).work = s.work := faultRecord_work _ _ _ _ _ _ s

theorem cistUeRecord_work (w : Nat) (s : State) : (cistUeRecord none w s).work = s.work :=
  memRecord_work (cistBankOf (8 * w)) 0 0 (cistWordIdx (8 * w)) s

theorem cistPut_work (a : Nat) (bs : List Byte) (s : State) : (cistPut a bs s).work = s.work := by
  unfold cistPut
  split
  · rfl
  · exact foldS_keeps State.work _ cistUeRecord_work _ _

/-- Writing the journal's oldest waiting entry takes it from the queue. -/
theorem journalWrite_work (s : State) :
    (journalWrite s).work = (s.ops, s.engs, { s.journal with queue := s.journal.queue.tail }) := by
  unfold journalWrite
  split
  · next hq =>
    rw [hq, List.tail_nil, ← hq]
    rfl
  · next hq =>
    rw [cistPut_work, cistPut_work, hq]
    rfl

theorem journalDrain_work (n : Nat) (s : State) :
    (journalDrain n s).work = (s.ops, s.engs, { s.journal with queue := s.journal.queue.drop n }) := by
  induction n generalizing s with
  | zero => rfl
  | succ n ih =>
    have hw := journalWrite_work s
    simp only [State.work, Prod.mk.injEq] at hw
    obtain ⟨hops, hengs, hj⟩ := hw
    rw [journalDrain, ih, hops, hengs, hj]
    simp

theorem drain_undisturbed (s : State) : (s.pass 256).undisturbed (drain s) :=
  journalDrain_undisturbed (s.pass 256).undisturbed_refl

/-- The drain keeps the operations and the engines, and leaves no journal entry waiting. -/
theorem drain_work (s : State) (hq : s.journal.queue.length ≤ 64) :
    (drain s).ops = s.ops ∧ (drain s).engs = s.engs ∧ (drain s).journal.queue = [] := by
  have hw : (drain s).work = (s.ops, s.engs, { s.journal with queue := s.journal.queue.drop 64 }) :=
    journalDrain_work 64 (s.pass 256)
  simp only [State.work, Prod.mk.injEq] at hw
  obtain ⟨hops, hengs, hj⟩ := hw
  refine ⟨hops, hengs, ?_⟩
  rw [hj]
  exact List.drop_eq_nil_of_le hq

/-- The drain leaves the binding slots. -/
theorem drain_slots (s : State) : (drain s).sec.slots = s.sec.slots := by
  have h := drain_steady s
  simp only [State.steady, Prod.mk.injEq] at h
  exact h.2.2.1

/-! ### Hush (R504) -/

theorem nth_map {α β : Type} (f : α → β) (xs : List α) (i : Nat) (d : α) : nth (xs.map f) i (f d) = f (nth xs i d) := by
  simp [nth, List.getD_eq_getElem?_getD, List.getElem?_map]

/-- A channel after an update of every channel that a channel at reset does not show. -/
theorem State.mapChans_chan (s : State) (f : Channel → Channel) (hf : ∀ c, f (Channel.reset s.part c) = Channel.reset s.part c)
    (c : Nat) : (s.mapChans f).chan c = f (s.chan c) := by
  have h := nth_map f s.chans c (Channel.reset s.part c)
  rw [hf] at h
  exact h

theorem exec_hushGate_asleep (s : State) (hs : s.sound) (hm : s.power.mode = .run) (hc : s.power.committed = some 1)
    (hw : s.power.wake = none) :
    ∃ t, exec .hushGate s = .next t ∧ t.power.mode = .hush ∧ t.now = s.now + 258 ∧ t.journal.queue = [] ∧
      (∀ c, (t.chan c).holdEnd = none ∧ (t.chan c).btRec = 0) ∧ t.ops = s.ops ∧ t.engs = s.engs ∧ t.tb = s.tb := by
  have hd := drain_undisturbed s
  obtain ⟨hops, hengs, hq⟩ := drain_work s hs.journal
  rw [show exec .hushGate s = .next (hushGate s) from whenRun_of_run hm, hushGate, if_neg (fun h => h hc)]
  generalize drain s = d at *
  have hwd : d.power.wake = none := by rw [hd.power]; exact hw
  dsimp only
  split
  · next h => exact absurd (hwd.symm.trans h) (by simp)
  · refine ⟨_, rfl, rfl, ?_, hq, fun c => ?_, hops, hengs, hd.tb⟩
    · exact congrArg (· + 2) hd.now
    · constructor
      · exact congrArg Channel.holdEnd (State.mapChans_chan (d.pass 2) _ (fun _ => rfl) c)
      · exact congrArg Channel.btRec (State.mapChans_chan (d.pass 2) _ (fun _ => rfl) c)

/-! ### Rebuilding the device (R13, R532) -/

theorem assoc_filter {α : Type} (q : Nat → Bool) (xs : List (Nat × α)) (k : Nat) :
    assoc (xs.filter (fun x => q x.1)) k = if q k then assoc xs k else none := by
  induction xs with
  | nil => simp [assoc]
  | cons x xs ih =>
    obtain ⟨j, v⟩ := x
    rw [List.filter_cons]
    by_cases hj : k = j
    · subst hj
      cases hq : q k <;> simp [assoc, ih, hq]
    · cases hq : q j <;> simp [assoc, ih, hj]

/-- The CRY registers stay over a rebuild, and every other register is at its reset value. -/
theorem rebuild_rd (p : Power) (s : State) (t r : Nat) (hr : r < 256) :
    (rebuild p s).rd t r = if t = CRY then s.rd CRY r else resetWord s.part s.straps (key t r) := by
  have hkey : key t r / 256 = t := by simp only [key]; omega
  have hregs := assoc_filter (fun k => k / 256 == CRY) s.regs (key t r)
  have hrd : (rebuild p s).rd t r = (if key t r / 256 == CRY then assoc s.regs (key t r) else none).getD
      (resetWord s.part s.straps (key t r)) := by
    rw [← hregs]
    rfl
  rw [hrd, hkey]
  by_cases ht : t = CRY
  · subst ht; simp [State.rd]
  · simp [ht]

theorem exec_dormantEntry_rebuilds (s : State) (hm : s.power.mode = .run) (hc : s.power.committed = some 2) :
    ∃ t, exec .dormantEntry s = .next t ∧ t.power.mode = .dormant ∧ t.power.wake = s.power.wake ∧ t.tb = s.tb ∧
      t.tbase = s.tbase ∧ t.sec.slots = s.sec.slots ∧ t.cist = [] ∧ t.ops = [] ∧
      (∀ r, r < 256 → t.rd CRY r = s.rd CRY r) := by
  have hd := drain_undisturbed s
  rw [show exec .dormantEntry s = .next (dormantEntry s) from whenRun_of_run hm, dormantEntry, if_neg (fun h => h hc)]
  have hslots := drain_slots s
  generalize drain s = d at *
  refine ⟨_, rfl, rfl, rfl, hd.tb, hd.tbase, hslots, rfl, rfl, fun r hr => ?_⟩
  calc _ = d.rd CRY r := by rw [rebuild_rd _ _ _ _ hr, if_pos rfl]
    _ = s.rd CRY r := hd.regs CRY r hr (.inr rfl)

/-! ### The wake from Hush (R506) -/

theorem powerEvent_rd_other (i : Nat) (s : State) (t r : Nat) (hev : key t r ≠ key DEV 0x05) (hst : key t r ≠ key PWR 0x04) :
    (powerEvent i s).rd t r = s.rd t r :=
  calc _ = (raise evPwr (s.setB PWR 0x04 i)).rd t r := State.rd_regs _ _ _ _ rfl rfl rfl
    _ = (s.setB PWR 0x04 i).rd t r := raise_rd_other _ _ _ _ hev
    _ = s.rd t r := State.rd_wr_other _ _ _ _ _ _ hst

theorem powerEvent_bit (i : Nat) (s : State) (hs : s.sound) (hi : i < 16) : (powerEvent i s).bit PWR 0x04 i = true := by
  have hrd : (powerEvent i s).rd PWR 0x04 = setBit (s.rd PWR 0x04) i :=
    calc _ = (raise evPwr (s.setB PWR 0x04 i)).rd PWR 0x04 := State.rd_regs _ _ _ _ rfl rfl rfl
      _ = (s.setB PWR 0x04 i).rd PWR 0x04 := raise_rd_other _ _ _ _ (by decide)
      _ = setBit (s.rd PWR 0x04) i := State.rd_wr_same _ _ _ _ hs.regs.1
  simp [State.bit, hrd, hi]

theorem powerEvent_power (i : Nat) (s : State) : (powerEvent i s).power = s.power := by
  unfold powerEvent raise
  dsimp only
  split <;> rfl

theorem powerEvent_now (i : Nat) (s : State) : (powerEvent i s).now = s.now := by
  unfold powerEvent raise
  dsimp only
  split <;> rfl

theorem endRequest_of_no_pend (s : State) (hp : s.power.pend = none) :
    endRequest s = s.modPower (fun p => { p with prog := none, change := none, entry := none, committed := none }) := by
  simp [endRequest, startPending, State.modPower, hp]

/-- Clearing the two low bits of a word clears its two-bit field. -/
theorem wfld_putFld_zero (w : Word) : wfld (putFld w 0 2 0) 0 2 = 0 := by
  have hand : (w.toNat &&& 65532) % 2 ^ 2 = 0 := by rw [Nat.and_mod_two_pow, Nat.and_zero]
  simpa [wfld, putFld, fld, word] using hand

/-- The blocks restart, the epochs' VALID is cleared and the pace monitor waits for a window: the state a wake from Hush
makes before it records the source. -/
def restarted (s : State) : State :=
  let s1 := (s.pass 256).modPower (fun p => { p with mode := .run, wake := none, pulses := p.pulses + 1 })
  clearValid { foldS restartBlock ((queryOrder s).reverse) s1 with pace := { overs := 0, full := true } }

/-- A wake from Hush records its source and address, requests Run and sets MODE_DONE. -/
def wakeRecorded (src addr : Nat) (s : State) : State :=
  let s1 := (s.setB CRY 0x01 14).wr CRY 0x02 (word (addr * 256 + src))
  powerEvent 1 (s1.wr PWR 0x01 (putFld (s1.rd PWR 0x01) 0 2 0))

theorem hushExit_eq (src addr : Nat) (s : State) :
    hushExit src addr s =
      servePeers (endRequest ((wakeRecorded src addr (restarted s)).modSup (fun u => { u with wfi := false }))) := rfl

theorem restarted_undisturbed (s : State) :
    ((s.pass 256).modPower (fun p => { p with mode := .run, wake := none, pulses := p.pulses + 1 })).undisturbed
      (restarted s) := by
  unfold restarted
  refine clearValid_undisturbed ?_
  exact (foldS_undisturbed (State.undisturbed_refl _) (fun _ _ hs => restartBlock_undisturbed hs)).same rfl

theorem restarted_sound (s : State) (hs : s.sound) : (restarted s).sound := by
  have hf : (foldS restartBlock ((queryOrder s).reverse)
      ((s.pass 256).modPower (fun p => { p with mode := .run, wake := none, pulses := p.pulses + 1 }))).sound :=
    foldS_sound _ _ _ ⟨hs.regs, hs.cist, hs.stores, hs.sram, hs.slots, hs.walks, hs.faults, hs.journal, hs.log, hs.bells⟩
      restartBlock_sound
  unfold restarted
  exact clearValid_sound _
    ⟨hf.regs, hf.cist, hf.stores, hf.sram, hf.slots, hf.walks, hf.faults, hf.journal, hf.log, hf.bells⟩

section
variable (src addr : Nat) (s : State)

theorem wakeRecorded_power : (wakeRecorded src addr s).power = s.power := powerEvent_power _ _

theorem wakeRecorded_now : (wakeRecorded src addr s).now = s.now := powerEvent_now _ _

theorem wakeRecorded_bit (hs : s.sound) : (wakeRecorded src addr s).bit PWR 0x04 1 = true := by
  exact powerEvent_bit _ _ (State_wr_sound _ _ _ _ (State_wr_sound _ _ _ _ (State_setB_sound _ _ _ _ hs))) (by decide)

theorem wakeRecorded_target (hs : s.sound) : (wakeRecorded src addr s).fld PWR 0x01 0 2 = 0 := by
  unfold wakeRecorded State.fld
  dsimp only
  rw [powerEvent_rd_other _ _ _ _ (by decide) (by decide), 
    State.rd_wr_same _ _ _ _ (State_wr_sound _ _ _ _ (State_setB_sound _ _ _ _ hs)).regs.1, wfld_putFld_zero]

theorem wakeRecorded_source (hs : s.sound) : (wakeRecorded src addr s).rd CRY 0x02 = word (addr * 256 + src) := by
  unfold wakeRecorded
  dsimp only
  rw [powerEvent_rd_other _ _ _ _ (by decide) (by decide), State.rd_wr_other _ _ _ _ _ _ (by decide),
    State.rd_wr_same _ _ _ _ (State_setB_sound _ _ _ _ hs).regs.1]

theorem wakeRecorded_valid (hs : s.sound) : (wakeRecorded src addr s).bit CRY 0x01 14 = true := by
  unfold wakeRecorded State.bit
  dsimp only
  rw [powerEvent_rd_other _ _ _ _ (by decide) (by decide), State.rd_wr_other _ _ _ _ _ _ (by decide),
    State.rd_wr_other _ _ _ _ _ _ (by decide)]
  simp [State.setB, State.rd_wr_same _ _ _ _ hs.regs.1]

end

theorem exec_wakeEdge_runs (s : State) (hs : s.sound) (hm : s.power.mode = .hush) (hp : s.power.pend = none) :
    ∃ t, exec .wakeEdge s = .next t ∧ t.power.mode = .run ∧ t.rd CRY 0x02 = 1 ∧ t.bit CRY 0x01 14 = true ∧
      t.power.entry = none ∧ t.power.committed = none ∧ t.power.prog = none ∧ t.power.pulses = s.power.pulses + 1 ∧
      t.fld PWR 0x01 0 2 = 0 ∧ t.bit PWR 0x04 1 = true ∧ t.now = s.now + 256 ∧ t.sup.wfi = false := by
  have hexec : exec .wakeEdge s = .next (hushExit 1 0 s) := by
    rw [show exec .wakeEdge s = .next (wakeEdge s) from whenPowered_of_ne_off (by simp [hm])]
    simp [wakeEdge, wakeEvent, hm]
  have hr := restarted_undisturbed s
  have hsr := restarted_sound s hs
  have hpow := (wakeRecorded_power 1 0 (restarted s)).trans hr.power
  have hnow := (wakeRecorded_now 1 0 (restarted s)).trans hr.now
  have hsrc := wakeRecorded_source 1 0 _ hsr
  have hvalid := wakeRecorded_valid 1 0 _ hsr
  have htarget := wakeRecorded_target 1 0 _ hsr
  have hdone := wakeRecorded_bit 1 0 _ hsr
  rw [hushExit_eq] at hexec
  generalize wakeRecorded 1 0 (restarted s) = w at *
  have hpend : w.power.pend = none := (congrArg Power.pend hpow).trans hp
  rw [endRequest_of_no_pend (w.modSup (fun u => { u with wfi := false })) hpend] at hexec
  have ht := servePeers_undisturbed (State.undisturbed_refl ((w.modSup (fun u => { u with wfi := false })).modPower
    (fun p => { p with prog := none, change := none, entry := none, committed := none })))
  refine ⟨_, hexec, ?_⟩
  generalize servePeers _ = t at *
  have hrd : ∀ a x, x < 256 → a = PWR ∨ a = CRY → t.rd a x = w.rd a x := ht.regs
  have hpower := ht.power
  refine ⟨?_, ?_, ?_, ?_, ?_, ?_, ?_, ?_, ?_, ?_, ?_⟩
  · rw [hpower]
    exact congrArg Power.mode hpow
  · rw [hrd _ _ (by decide) (.inr rfl), hsrc]
    rfl
  · rw [State.bit, hrd _ _ (by decide) (.inr rfl)]
    exact hvalid
  · rw [hpower]
    rfl
  · rw [hpower]
    rfl
  · rw [hpower]
    rfl
  · rw [hpower]
    exact congrArg Power.pulses hpow
  · rw [State.fld, hrd _ _ (by decide) (.inl rfl)]
    exact htarget
  · rw [State.bit, hrd _ _ (by decide) (.inl rfl)]
    exact hdone
  · exact ht.now.trans hnow
  · exact Bool.eq_false_iff.mpr (fun hw => absurd (ht.wfi hw) (by simp [State.modPower, State.modSup]))

/-! ### Wakes latched in Dormant, and the wake from it (R531 to R533) -/

theorem latchWake_of_none (src addr : Nat) (s : State) (hw : s.power.wake = none) :
    latchWake src addr s = { s with power := { s.power with wake := some (src, addr) } } := by
  simp [latchWake, State.modPower, hw]

theorem exec_wakeEdge_latched (s : State) (hm : s.power.mode = .dormant) (hw : s.power.wake = none) :
    exec .wakeEdge s = .next { s with power := { s.power with wake := some (1, 0) } } := by
  rw [show exec .wakeEdge s = .next (wakeEdge s) from whenPowered_of_ne_off (by simp [hm])]
  simp only [wakeEdge, wakeEvent, hm, latchWake_of_none 1 0 s hw]

theorem exec_listenerMatch_dormant (s : State) (a : BitVec 7) (hm : s.power.mode = .dormant) :
    exec (.listenerMatch a) s = .next (if listenerMatches s a = true then latchWake 2 a.toNat s else s) := by
  rw [show exec (.listenerMatch a) s = .next (listenerMatch a s) from whenPowered_of_ne_off (by simp [hm])]
  simp only [listenerMatch, hm, true_and]

/-- The boot ROM writes SUP_STATUS alone. -/
theorem bootRom_rd_other (s : State) (t r : Nat) (h : key t r ≠ key SUP 0x02) : (bootRom s).rd t r = s.rd t r := by
  have hstatus : (s.wr SUP 0x02 (putFld 0 14 2 s.straps.boot.toNat)).rd t r = s.rd t r := State.rd_wr_other _ _ _ _ _ _ h
  unfold bootRom
  dsimp only
  split
  · exact (State.rd_wr_other _ _ _ _ _ _ h).trans ((State.rd_regs _ _ _ _ rfl rfl rfl).trans hstatus)
  · exact (State.rd_regs _ _ _ _ rfl rfl rfl).trans hstatus

theorem bootRom_power (s : State) : (bootRom s).power = s.power := by
  unfold bootRom
  dsimp only
  split <;> rfl

theorem bootRom_tb (s : State) : (bootRom s).tb = s.tb := by
  unfold bootRom
  dsimp only
  split <;> rfl

theorem bootRom_mode (s : State) : (bootRom s).sup.mode = if 2 ≤ s.straps.boot.toNat then .halted else .boot := by
  unfold bootRom
  dsimp only
  split <;> rfl

/-- The power state of a device that a Dormant wake has rebuilt on FIO. -/
def rebuiltPower (s : State) : Power :=
  { Power.reset with refclkOk := s.power.refclkOk, rimLock := false, rimPll := false, switchDue := true,
                     pulses := s.power.pulses }

/-- The rebuilt device with the wake's source in the crypt. -/
def wakeRebuilt (src addr : Nat) (s : State) : State :=
  ((sampleStraps (rebuild (rebuiltPower s) s)).setB CRY 0x01 15).wr CRY 0x02 (word (0x8000 + addr * 256 + src))

theorem dormantWake_eq (s : State) (src addr : Nat) (hm : s.power.mode = .dormant) (hw : s.power.wake = some (src, addr)) :
    dormantWake s = bootRom (readyPulse (wakeRebuilt src addr s)) := by
  unfold dormantWake
  rw [hm, hw]
  rfl

section
variable (src addr : Nat) (s : State)

theorem wakeRebuilt_source (hs : s.sound) :
    (wakeRebuilt src addr s).rd CRY 0x02 = word (0x8000 + addr * 256 + src) :=
  State.rd_wr_same _ _ _ _ (State_setB_sound _ _ _ _ (State_wr_sound _ _ _ _ (rebuild_sound _ _ hs))).regs.1

theorem wakeRebuilt_valid (hs : s.sound) : (wakeRebuilt src addr s).bit CRY 0x01 15 = true := by
  unfold wakeRebuilt State.bit
  rw [State.rd_wr_other _ _ _ _ _ _ (by decide), State.setB,
    State.rd_wr_same _ _ _ _ (sampleStraps_sound _ (rebuild_sound _ _ hs)).regs.1]
  simp

theorem wakeRebuilt_rd_reset (t r : Nat) (ht : t ≠ CRY) (hr : r < 256) :
    (wakeRebuilt src addr s).rd t r = resetWord s.part s.straps (key t r) := by
  have hkey : ∀ x, x < 256 → key t r ≠ key CRY x := by
    intro x hx
    simp only [key, CRY] at ht ⊢
    omega
  unfold wakeRebuilt sampleStraps State.setB
  rw [State.rd_wr_other _ _ _ _ _ _ (hkey _ (by decide)), State.rd_wr_other _ _ _ _ _ _ (hkey _ (by decide)),
    State.rd_wr_other _ _ _ _ _ _ (hkey _ (by decide)), rebuild_rd _ _ _ _ hr, if_neg ht]

end

theorem exec_dormantWake_rebuilds (s : State) (hs : s.sound) (src addr : Nat) (hm : s.power.mode = .dormant)
    (hw : s.power.wake = some (src, addr)) :
    ∃ t, exec .dormantWake s = .next t ∧ t.power.mode = .run ∧ t.power.rimPll = false ∧ t.power.wake = none ∧
      t.rd CRY 0x02 = word (0x8000 + addr * 256 + src) ∧ t.bit CRY 0x01 15 = true ∧ t.tb = s.tb ∧
      t.power.pulses = s.power.pulses + 1 ∧ t.sup.mode = (if 2 ≤ s.straps.boot.toNat then .halted else .boot) ∧
      (∀ t' r', t' < 256 → r' < 256 → t' ≠ CRY → key t' r' ≠ key SUP 0x02 →
        t.rd t' r' = resetWord s.part s.straps (key t' r')) := by
  rw [show exec .dormantWake s = .next (dormantWake s) from whenPowered_of_ne_off (by simp [hm]),
    dormantWake_eq s src addr hm hw]
  have hpower := bootRom_power (readyPulse (wakeRebuilt src addr s))
  have hrd : ∀ t r, key t r ≠ key SUP 0x02 →
      (bootRom (readyPulse (wakeRebuilt src addr s))).rd t r = (wakeRebuilt src addr s).rd t r :=
    fun t r h => (bootRom_rd_other _ t r h).trans (State.rd_regs _ _ _ _ rfl rfl rfl)
  refine ⟨_, rfl, ?_, ?_, ?_, ?_, ?_, bootRom_tb _, ?_, bootRom_mode _, fun t' r' _ hr ht hk => ?_⟩
  · rw [hpower]
    rfl
  · rw [hpower]
    rfl
  · rw [hpower]
    rfl
  · rw [hrd _ _ (by decide)]
    exact wakeRebuilt_source src addr s hs
  · rw [State.bit, hrd _ _ (by decide)]
    exact wakeRebuilt_valid src addr s hs
  · rw [hpower]
    rfl
  · rw [hrd _ _ hk]
    exact wakeRebuilt_rd_reset src addr s t' r' ht hr

/-- Settles O44, one command after another: the drain and the peers' service leave the power state and the crypt alone. -/
theorem sleepAndWake : Obligations.SleepAndWake := by
  unfold Obligations.SleepAndWake
  intro s hs
  refine ⟨exec_hushGate_asleep s hs, exec_dormantEntry_rebuilds s, exec_wakeEdge_runs s hs, fun hm hw => ⟨?_, ?_, ?_⟩,
    fun src addr hm hw _ _ => exec_dormantWake_rebuilds s hs src addr hm hw⟩
  · exact ⟨_, exec_wakeEdge_latched s hm hw, rfl⟩
  · intro a ha
    refine ⟨_, exec_listenerMatch_dormant s a hm, ?_⟩
    rw [if_pos ha, latchWake_of_none 2 a.toNat s hw]
  · intro a ha
    rw [exec_listenerMatch_dormant s a hm, if_neg (by simp [ha])]

end Sys2Proof.Machine

/-! ## Register words (R9 to R12, R96 to R104, R123) -/

namespace Sys2Proof.Machine

/-! ### The CRC of a frame (R89) -/

theorem crc8Bit_lt {c : Nat} (hc : c < 256) : crc8Bit c < 256 := by
  unfold crc8Bit
  split
  · exact Nat.xor_lt_two_pow (n := 8) (by omega) (by decide)
  · omega

theorem crc8From_lt (bs : List Byte) {c : Nat} (hc : c < 256) : crc8From c bs < 256 := by
  induction bs generalizing c with
  | nil => exact hc
  | cons b bs ih =>
    have hx : c ^^^ b.toNat < 256 := Nat.xor_lt_two_pow (n := 8) hc b.isLt
    unfold crc8From
    refine ih ?_
    iterate 8 refine crc8Bit_lt ?_
    exact hx

theorem byte_crc8 (bs : List Byte) : (byte (crc8 bs)).toNat = crc8 bs := by
  simp only [byte, BitVec.toNat_ofNat]
  exact Nat.mod_eq_of_lt (crc8From_lt bs (by decide))

/-! ### A write frame of one word (R87, R90, R97) -/

theorem word_of_wireBytes (v : Word) : word ((byte (wfld v 8 8)).toNat * 256 + (byte (wfld v 0 8)).toNat) = v := by
  refine BitVec.eq_of_toNat_eq ?_
  have hv := v.isLt
  simp only [word, byte, wfld, fld, BitVec.toNat_ofNat, Nat.shiftRight_eq_div_pow]
  omega

/-- The outcome of a frame's words: REJECTED when a word was refused (R96). -/
def wordOutcome (bad : Bool) : Nat := if bad then ocRejected else ocOk

/-- One word of a frame takes effect as a write of its target, whatever its place among the frame's words (R104). -/
theorem frameWords_one (t r : Nat) (v : Word) (s : State) :
    frameWords t r [(0, v)] s = targetWrite false (locked s) t r v s := by
  have hoff : wordOffset t r 0 = r := by simp [wordOffset]
  have hput : frameWordPut (locked s) t r (0, v) (s, false) = targetWrite false (locked s) t r v s := by
    simp [frameWordPut, hoff]
  unfold frameWords
  cases hclear : clearsBits s t (wordOffset t r 0) with
  | true => simpa [hclear, foldS] using hput
  | false =>
    cases hlate : lateWord s t (wordOffset t r 0) <;> simpa [hclear, hlate, foldS, rimWordPut] using hput

section
variable (s : State) (t r : Nat) (v : Word)

theorem wordsFrame_addressed :
    addressed s (wordsFrame s t r [v]) = true ∧ frameByte (wordsFrame s t r [v]) 0 % 2 = 0 := by
  have haddr := s.straps.addr.isLt
  have hchip : 2 * chipAddress s < 256 := by
    unfold chipAddress
    omega
  constructor
  · simp [wordsFrame, addressed, frameByte, nth, byte, Nat.mod_eq_of_lt hchip]
  · simp [wordsFrame, frameByte, nth, byte, Nat.mod_eq_of_lt hchip]

theorem wordsFrame_head (ht : t < 256) (hr : r < 256) :
    frameByte (wordsFrame s t r [v]) 1 = t ∧ frameByte (wordsFrame s t r [v]) 2 = r ∧
      frameByte (wordsFrame s t r [v]) 3 = 1 := by
  refine ⟨?_, ?_, ?_⟩ <;> simp [wordsFrame, frameByte, nth, byte, ht, hr]

theorem wordsFrame_word : frameWord (wordsFrame s t r [v]) 0 = v := by
  simpa [wordsFrame, wireBytes, frameWord, frameByte, nth] using word_of_wireBytes v

theorem wordsFrame_length : (wordsFrame s t r [v]).length = 7 := by simp [wordsFrame, wireBytes]

theorem wordsFrame_crc : crc8 ((wordsFrame s t r [v]).take 6) = frameByte (wordsFrame s t r [v]) 6 := by
  simp [wordsFrame, wireBytes, frameByte, nth, byte_crc8]

/-- The checks of R97 pass. -/
theorem writeCheck_wordsFrame (ht : t < 256) (hr : r < 256) (hmem : groupMembers s t ≠ none) :
    writeCheck s (wordsFrame s t r [v]) = ocOk := by
  obtain ⟨h1, h2, h3⟩ := wordsFrame_head s t r v ht hr
  have hlimit : limitBroken t r 1 = false := by
    simp [limitBroken, outside]
    omega
  have hsome : (groupMembers s t).isNone = false := Option.isNone_eq_false_iff.mpr (Option.isSome_iff_ne_none.mpr hmem)
  simp [writeCheck, h1, h2, h3, wordsFrame_length, wordsFrame_crc, hlimit, hsome]

/-- A write frame of one word writes the word through its target and records the outcome. -/
theorem exec_writeFrame_one (hm : s.power.mode = .run) (ht : t < 256) (hr : r < 256) (hmem : groupMembers s t ≠ none) :
    exec (.writeFrame (wordsFrame s t r [v])) s =
      .next (recordWrite (wordOutcome (targetWrite false (locked s) t r v s).2) (targetWrite false (locked s) t r v s).1) := by
  obtain ⟨haddr, heven⟩ := wordsFrame_addressed s t r v
  obtain ⟨h1, h2, h3⟩ := wordsFrame_head s t r v ht hr
  have hrun : writeFrame (wordsFrame s t r [v]) s = writeRun (wordsFrame s t r [v]) s := by
    simp [writeFrame, haddr, heven, hm]
  have hwords : (List.range 1).map (fun k => (k, frameWord (wordsFrame s t r [v]) k)) = [(0, v)] := by
    simp [wordsFrame_word]
  rw [show exec (.writeFrame (wordsFrame s t r [v])) s = .next (writeFrame (wordsFrame s t r [v]) s) from rfl, hrun]
  simp only [writeRun, writeCheck_wordsFrame s t r v ht hr hmem, h1, h2, h3, hwords, frameWords_one, ne_eq,
    not_true_eq_false, if_false, wordOutcome]

end

/-! ### One word to a single target (R9 to R12, R123) -/

/-- A word that is refused by nothing is stored with its effect. -/
theorem wordWrite_regPut {sup lk : Bool} {t r : Nat} {v : Word} {s : State} {i : RegInfo}
    (hi : regInfo s.part s.straps t r = some i) (hw : isWindow t r = false) (hres : reservedWord s.part t r v = false)
    (hlk : (lk && changesLocked s t r i v) = false) (hc : breaksConstraint s t r v = false) :
    wordWrite sup lk t r v s = (regPut sup t r i v s, false) := by
  simp only [wordWrite, hi, hw, hres, hlk, hc, Bool.false_eq_true, if_false]

/-- A target that is no group takes the word itself. -/
theorem targetWrite_single {sup lk : Bool} {t r : Nat} {v : Word} {s : State} (h : groupMembers s t = some [t]) :
    targetWrite sup lk t r v s = wordWrite sup lk t r v s := by
  simp [targetWrite, h, foldS]

theorem and_ones (v : Word) : v &&& 65535#16 = v := BitVec.and_allOnes

/-- A register of 16 RW bits holds the word written. -/
theorem storedWord_rw (i : RegInfo) (old v : Word) (hrw : i.rw ||| i.rwl = 0xFFFF) (hw1c : i.w1c = 0) :
    storedWord i old v = v := by
  simp [storedWord, hrw, hw1c, word, and_ones]

/-- A register of 16 W1C bits keeps the bits that are not written as 1 (R11). -/
theorem storedWord_w1c (i : RegInfo) (old v : Word) (hrw : i.rw ||| i.rwl = 0) (hw1c : i.w1c = 0xFFFF) :
    storedWord i old v = old &&& ~~~ v := by
  simp [storedWord, hrw, hw1c, word, and_ones]

theorem changesLocked_of_no_rwl {t r : Nat} {s : State} {i : RegInfo} {v : Word} (ht : t ≠ CLO) (hi : i.rwl = 0) :
    changesLocked s t r i v = false := by
  simp [changesLocked, ht, hi, word]

/-- The registers of 16 RW bits with no other effect. -/
def plainRegisters : List (Nat × Nat) :=
  [(DEV, 0x06), (DEV, 0x10), (DEV, 0x13), (DEV, 0x14), (DEV, 0x17), (SUP, 0x08), (SUP, 0x0B)]

section
variable {t r : Nat} (h : (t, r) ∈ plainRegisters)
include h

theorem plain_cases {P : Nat → Nat → Prop} (h06 : P DEV 0x06) (h10 : P DEV 0x10) (h13 : P DEV 0x13) (h14 : P DEV 0x14)
    (h17 : P DEV 0x17) (hmb0 : P SUP 0x08) (hmb3 : P SUP 0x0B) : P t r := by
  simp only [plainRegisters, List.mem_cons, List.not_mem_nil, or_false, Prod.mk.injEq] at h
  rcases h with ⟨rfl, rfl⟩ | ⟨rfl, rfl⟩ | ⟨rfl, rfl⟩ | ⟨rfl, rfl⟩ | ⟨rfl, rfl⟩ | ⟨rfl, rfl⟩ | ⟨rfl, rfl⟩ <;> assumption

theorem plain_bytes : t < 256 ∧ r < 256 :=
  plain_cases h (P := fun t r => t < 256 ∧ r < 256) (by decide) (by decide) (by decide) (by decide) (by decide) (by decide)
    (by decide)

theorem plain_regInfo (p : Part) (st : Straps) :
    ∃ i, regInfo p st t r = some i ∧ i.rw ||| i.rwl = 0xFFFF ∧ i.rwl = 0 ∧ i.w1c = 0 :=
  plain_cases h (P := fun t r => ∃ i, regInfo p st t r = some i ∧ i.rw ||| i.rwl = 0xFFFF ∧ i.rwl = 0 ∧ i.w1c = 0)
    ⟨_, rfl, rfl, rfl, rfl⟩ ⟨_, rfl, rfl, rfl, rfl⟩ ⟨_, rfl, rfl, rfl, rfl⟩ ⟨_, rfl, rfl, rfl, rfl⟩ ⟨_, rfl, rfl, rfl, rfl⟩
    ⟨_, rfl, rfl, rfl, rfl⟩ ⟨_, rfl, rfl, rfl, rfl⟩

theorem plain_not_window : isWindow t r = false :=
  plain_cases h (P := fun t r => isWindow t r = false) rfl rfl rfl rfl rfl rfl rfl

theorem plain_not_reserved (p : Part) (v : Word) : reservedWord p t r v = false :=
  plain_cases h (P := fun t r => reservedWord p t r v = false) rfl rfl rfl rfl rfl rfl rfl

theorem plain_not_breaking (s : State) (v : Word) : breaksConstraint s t r v = false :=
  plain_cases h (P := fun t r => breaksConstraint s t r v = false) rfl rfl rfl rfl rfl rfl rfl

theorem plain_not_CLO : t ≠ CLO :=
  plain_cases h (P := fun t _ => t ≠ CLO) (by decide) (by decide) (by decide) (by decide) (by decide) (by decide) (by decide)

theorem plain_members (s : State) : groupMembers s t = some [t] :=
  plain_cases h (P := fun t _ => groupMembers s t = some [t]) rfl rfl rfl rfl rfl rfl rfl

theorem plain_regPut (sup : Bool) (i : RegInfo) (v : Word) (s : State) :
    regPut sup t r i v s = s.wr t r (storedWord i (s.rd t r) v) := by
  refine plain_cases h (P := fun t r => regPut sup t r i v s = s.wr t r (storedWord i (s.rd t r) v))
    rfl rfl rfl rfl rfl ?_ ?_ <;> cases sup <;> rfl

/-- A plain register takes the word, from any writer, whatever LOCK is. -/
theorem wordWrite_plain (sup lk : Bool) (v : Word) (s : State) : wordWrite sup lk t r v s = (s.wr t r v, false) := by
  obtain ⟨i, hi, hrw, hrwl, hw1c⟩ := plain_regInfo h s.part s.straps
  have hlk : (lk && changesLocked s t r i v) = false := by
    rw [changesLocked_of_no_rwl (plain_not_CLO h) hrwl, Bool.and_false]
  rw [wordWrite_regPut hi (plain_not_window h) (plain_not_reserved h _ _) hlk (plain_not_breaking h _ _), plain_regPut h,
    storedWord_rw i _ v hrw hw1c]

theorem targetWrite_plain (sup lk : Bool) (v : Word) (s : State) : targetWrite sup lk t r v s = (s.wr t r v, false) := by
  rw [targetWrite_single (plain_members h s), wordWrite_plain h]

end

/-! ### The thresholds of a channel (R123) -/

theorem CH_ne {t c : Nat} (ht : t < 0x10) : CH c ≠ t := by
  simp only [CH]
  omega

theorem CH_not_below {t n c : Nat} (ht : n ≤ 0x10) : ¬ (t ≤ CH c ∧ CH c < n) := by
  simp only [CH]
  omega

theorem CH_mem {c : Nat} (hc : c < 16) : 0x10 ≤ CH c ∧ CH c < 0x20 := by
  simp only [CH]
  omega

theorem CH_not_window (c r : Nat) : isWindow (CH c) r = false := by
  have hdev : CH c ≠ DEV := CH_ne (by decide)
  have hsec : CH c ≠ SEC := CH_ne (by decide)
  have hcry : CH c ≠ CRY := CH_ne (by decide)
  simp only [isWindow, hdev, hsec, hcry, decide_false, Bool.false_and, Bool.or_false]

theorem CH_not_breaking (c r : Nat) (s : State) (v : Word) : breaksConstraint s (CH c) r v = false := by
  unfold breaksConstraint
  dsimp only
  rw [if_neg (fun h => CH_ne (by decide) h.1), if_neg (CH_not_below (by decide))]

theorem changesLocked_CH (c r : Nat) (s : State) (i : RegInfo) (v : Word) (hi : i.rwl = 0xFFFF) :
    changesLocked s (CH c) r i v = decide (v ≠ s.rd (CH c) r) := by
  unfold changesLocked
  rw [if_neg (fun h => CH_ne (by decide) h.1), hi]
  simp [word, and_ones, BitVec.xor_eq_zero_iff]

section
variable {c r : Nat} (hc : c < 16) (hlo : 8 ≤ r) (hhi : r ≤ 15)
include hc

theorem target_CH (p : Part) (st : Straps) : target p st (CH c) = .single (chRegs p c) := by
  have hlinks : 0x08 + p.links ≤ 0x10 := by cases p <;> decide
  unfold target
  iterate 6 rw [if_neg (CH_ne (by decide))]
  rw [if_neg (CH_not_below hlinks), if_neg (CH_ne (by decide)), if_pos (CH_mem hc), Nat.add_sub_cancel_left]

theorem groupMembers_CH (s : State) : groupMembers s (CH c) = some [CH c] := by
  simp only [groupMembers, target_CH hc]

include hlo hhi

theorem regInfo_threshold (p : Part) (st : Straps) :
    regInfo p st (CH c) r = some { rwl := 0xFFFF, reset := 0xFFFF } := by
  simp only [regInfo, target_CH hc]
  interval_cases r <;> rfl

theorem threshold_not_reserved (p : Part) (v : Word) : reservedWord p (CH c) r v = false := by
  unfold reservedWord
  iterate 4 rw [if_neg (CH_ne (by decide))]
  rw [if_neg (CH_not_below (by decide)), if_pos (CH_mem hc)]
  interval_cases r <;> rfl

theorem regPut_threshold (sup : Bool) (i : RegInfo) (v : Word) (s : State) :
    regPut sup (CH c) r i v s = s.wr (CH c) r (storedWord i (s.rd (CH c) r) v) := by
  unfold regPut
  dsimp only
  iterate 7 rw [if_neg (CH_ne (by decide))]
  rw [if_neg (CH_not_below (by decide)), if_pos (CH_mem hc), chPut, if_neg (by omega), if_neg (by omega)]

/-- A threshold word that changes the threshold while `lk` is refused; any other is stored. -/
theorem wordWrite_threshold (sup lk : Bool) (v : Word) (s : State) :
    wordWrite sup lk (CH c) r v s =
      if lk = true ∧ v ≠ s.rd (CH c) r then (s, true) else (s.wr (CH c) r v, false) := by
  have hput := regPut_threshold hc hlo hhi sup { rwl := 0xFFFF, reset := 0xFFFF } v s
  rw [storedWord_rw _ _ _ rfl rfl] at hput
  have hlk := changesLocked_CH c r s { rwl := 0xFFFF, reset := 0xFFFF } v rfl
  simp only [wordWrite, regInfo_threshold hc hlo hhi, CH_not_window, threshold_not_reserved hc hlo hhi,
    hlk, CH_not_breaking, hput, Bool.false_eq_true, if_false, Bool.and_eq_true, decide_eq_true_eq]

end

/-! ### A threshold word to every channel (R102) -/

/-- Register `r` of channels `cs` takes the word, one channel after another. -/
def writeChans (cs : List Nat) (r : Nat) (v : Word) (s : State) : State := foldS (fun c s => s.wr (CH c) r v) cs s

theorem writeChans_rises (cs : List Nat) (r : Nat) (v : Word) (s : State) (h : s.regs.Pairwise (fun x y => x.1 < y.1)) :
    (writeChans cs r v s).regs.Pairwise (fun x y => x.1 < y.1) :=
  foldS_inv (fun s => s.regs.Pairwise (fun x y => x.1 < y.1)) _ (fun _ s hs => State.wr_rises s _ _ _ hs) cs s h

theorem writeChans_rd_other (cs : List Nat) (r : Nat) (v : Word) (s : State) (t x : Nat)
    (h : ∀ c ∈ cs, key t x ≠ key (CH c) r) : (writeChans cs r v s).rd t x = s.rd t x := by
  induction cs generalizing s with
  | nil => rfl
  | cons c cs ih =>
    calc _ = (s.wr (CH c) r v).rd t x := ih _ (fun d hd => h d (List.mem_cons_of_mem _ hd))
      _ = s.rd t x := State.rd_wr_other _ _ _ _ _ _ (h c List.mem_cons_self)

theorem writeChans_rd_mem (cs : List Nat) (r : Nat) (v : Word) (s : State) (c : Nat) (hc : c ∈ cs)
    (h : s.regs.Pairwise (fun x y => x.1 < y.1)) : (writeChans cs r v s).rd (CH c) r = v := by
  induction cs generalizing s with
  | nil => exact absurd hc List.not_mem_nil
  | cons d cs ih =>
    by_cases hmem : c ∈ cs
    · exact ih _ hmem (State.wr_rises s _ _ _ h)
    · obtain rfl : c = d := (List.mem_cons.mp hc).resolve_right hmem
      have hother : ∀ e ∈ cs, key (CH c) r ≠ key (CH e) r := by
        intro e he hk
        simp only [key, CH] at hk
        exact hmem ((show c = e by omega) ▸ he)
      calc _ = (s.wr (CH c) r v).rd (CH c) r := writeChans_rd_other cs r v _ _ _ hother
        _ = v := State.rd_wr_same _ _ _ _ h

/-- The members of a group take a threshold word one after another; while `lk` is clear none refuses it. -/
theorem foldS_wordWrite_thresholds (sup : Bool) (r : Nat) (hlo : 8 ≤ r) (hhi : r ≤ 15) (v : Word) (cs : List Nat)
    (hcs : ∀ c ∈ cs, c < 16) (s : State) :
    foldS (fun m (x : State × Bool) =>
      let (s1, bad) := wordWrite sup false m r v x.1
      (s1, x.2 || bad)) (cs.map CH) (s, false) = (writeChans cs r v s, false) := by
  induction cs generalizing s with
  | nil => rfl
  | cons c cs ih =>
    have hput : wordWrite sup false (CH c) r v s = (s.wr (CH c) r v, false) := by
      rw [wordWrite_threshold (hcs c List.mem_cons_self) hlo hhi, if_neg (by simp)]
    simp only [List.map_cons, foldS, hput, Bool.or_false]
    exact ih (fun d hd => hcs d (List.mem_cons_of_mem _ hd)) _

theorem groupMembers_CALL (s : State) : groupMembers s 0x37 = some ((List.range 16).map CH) := by
  have htarget : target s.part s.straps 0x37 = .chGroup none := by cases s.part <;> rfl
  simp only [groupMembers, htarget]

theorem targetWrite_CALL_threshold (sup : Bool) (r : Nat) (hlo : 8 ≤ r) (hhi : r ≤ 15) (v : Word) (s : State) :
    targetWrite sup false 0x37 r v s = (writeChans (List.range 16) r v s, false) := by
  unfold targetWrite
  rw [groupMembers_CALL]
  exact foldS_wordWrite_thresholds sup r hlo hhi v _ (fun c hc => List.mem_range.mp hc) s

/-! ### Event bits (R11) -/

/-- A word written to DEV_EVENT clears the bits that it holds. -/
theorem targetWrite_event (sup lk : Bool) (v : Word) (s : State) :
    targetWrite sup lk DEV 0x05 v s = (s.wr DEV 0x05 (s.rd DEV 0x05 &&& ~~~ v), false) := by
  have hi : regInfo s.part s.straps DEV 0x05 = some { w1c := 0xFFFF } := rfl
  have hlk : (lk && changesLocked s DEV 0x05 { w1c := 0xFFFF } v) = false := by
    rw [changesLocked_of_no_rwl (by decide) rfl, Bool.and_false]
  have hput : regPut sup DEV 0x05 { w1c := 0xFFFF } v s =
      s.wr DEV 0x05 (storedWord { w1c := 0xFFFF } (s.rd DEV 0x05) v) := rfl
  rw [targetWrite_single rfl, wordWrite_regPut hi rfl rfl hlk rfl, hput, storedWord_w1c _ _ _ rfl rfl]

/-! ### The record of a frame (R99) -/

theorem frameError_rd_other (s : State) (t r : Nat) (hev : key t r ≠ key DEV 0x05) (hst : key t r ≠ key DEV 0x04) :
    (frameError s).rd t r = s.rd t r :=
  (raise_rd_other _ _ _ _ hev).trans (State.rd_wr_other _ _ _ _ _ _ hst)

theorem frameError_bits (s : State) (hs : s.sound) :
    (frameError s).bit DEV 0x04 15 = true ∧ (frameError s).bit DEV 0x05 evFrame = true := by
  constructor
  · have hrd : (frameError s).rd DEV 0x04 = setBit (s.rd DEV 0x04) 15 :=
      (raise_rd_other _ _ _ _ (by decide)).trans (State.rd_wr_same _ _ _ _ hs.regs.1)
    simp [State.bit, hrd]
  · exact raise_bit_event _ _ (State_setB_sound _ _ _ _ hs).regs.1 (by decide)

theorem frameError_ctl (s : State) : (frameError s).ctl = s.ctl ∧ (frameError s).chans = s.chans := by
  unfold frameError raise
  dsimp only
  split <;> exact ⟨rfl, rfl⟩

/-- The record of an executed frame with no refused word. -/
theorem recordWrite_ok (s : State) :
    recordWrite ocOk s = { s with ctl := { s.ctl with wlast := 0, seq := (s.ctl.seq + 1) % 16, answer := none } } := rfl

/-- The record of an executed frame with a refused word. -/
theorem recordWrite_rejected (s : State) :
    recordWrite ocRejected s =
      frameError { s with ctl := { s.ctl with wlast := 5, seq := (s.ctl.seq + 1) % 16, answer := none } } := rfl

/-! ### The obligation -/

theorem exec_writeFrame_plain (s : State) (t r : Nat) (v : Word) (hs : s.sound) (hm : s.power.mode = .run)
    (h : (t, r) ∈ plainRegisters) :
    ∃ u, exec (.writeFrame (wordsFrame s t r [v])) s = .next u ∧ u.rd t r = v ∧
      (∀ t' r', key t' r' ≠ key t r → u.rd t' r' = s.rd t' r') ∧
      u = { s with regs := u.regs, ctl := { s.ctl with wlast := 0, seq := (s.ctl.seq + 1) % 16, answer := none } } := by
  obtain ⟨ht, hr⟩ := plain_bytes h
  have hexec := exec_writeFrame_one s t r v hm ht hr (by simp [plain_members h s])
  rw [targetWrite_plain h] at hexec
  exact ⟨_, hexec, State.rd_wr_same _ _ _ _ hs.regs.1, fun _ _ hk => State.rd_wr_other _ _ _ _ _ _ hk, rfl⟩

/-- A plain register takes a register write from any source; the supervisor's bus or the TAP notes its end. -/
theorem registerWrite_plain (s : State) (t r : Nat) (v : Word) (hm : s.power.mode = .run) (h : (t, r) ∈ plainRegisters)
    (src : Source) : ∃ sup tap, registerWrite src t r v s = { s.wr t r v with sup := sup, tap := tap } := by
  have hmem := plain_members h s
  cases src with
  | host => exact ⟨s.sup, s.tap, by simp [registerWrite, targetWrite_plain h, hmem, State.wr]⟩
  | supervisor =>
    exact ⟨_, s.tap, by simp only [registerWrite, regStore, targetWrite_plain h, hmem, Option.isNone_some,
      Bool.false_eq_true, if_false]; rfl⟩
  | jtag =>
    obtain ⟨regs, hsingle⟩ : ∃ regs, target s.part s.straps t = .single regs :=
      plain_cases h (P := fun t _ => ∃ regs, target s.part s.straps t = .single regs) ⟨_, rfl⟩ ⟨_, rfl⟩ ⟨_, rfl⟩ ⟨_, rfl⟩
        ⟨_, rfl⟩ ⟨_, rfl⟩ ⟨_, rfl⟩
    obtain ⟨i, hi, _, hrwl, _⟩ := plain_regInfo h s.part s.straps
    have hlk : changesLocked s t r i v = false := changesLocked_of_no_rwl (plain_not_CLO h) hrwl
    have hput : regaccAccess true t r v s = tapDone false (t * 256 + r) v (s.wr t r v) := by
      simp [regaccAccess, hm, hsingle, hi, plain_not_window h, hlk, wordWrite_plain h]
    exact ⟨s.sup, _, hput⟩

theorem exec_registerWrite_plain (s : State) (t r : Nat) (v : Word) (hs : s.sound) (hm : s.power.mode = .run)
    (h : (t, r) ∈ plainRegisters) (src : Source) :
    ∃ u, exec (.registerWrite src (BitVec.ofNat 8 t) (BitVec.ofNat 8 r) v) s = .next u ∧ u.rd t r = v ∧
      (∀ t' r', key t' r' ≠ key t r → u.rd t' r' = s.rd t' r') ∧ u.chans = s.chans ∧ u.engs = s.engs ∧
      u.cist = s.cist ∧ u.power = s.power := by
  obtain ⟨ht, hr⟩ := plain_bytes h
  have hexec : exec (.registerWrite src (BitVec.ofNat 8 t) (BitVec.ofNat 8 r) v) s = .next (registerWrite src t r v s) := by
    rw [show exec (.registerWrite src (BitVec.ofNat 8 t) (BitVec.ofNat 8 r) v) s =
      whenRun (registerWrite src (BitVec.ofNat 8 t).toNat (BitVec.ofNat 8 r).toNat v) s from rfl,
      whenRun_of_run hm, BitVec.toNat_ofNat, BitVec.toNat_ofNat, Nat.mod_eq_of_lt ht, Nat.mod_eq_of_lt hr]
  obtain ⟨sup, tap, hput⟩ := registerWrite_plain s t r v hm h src
  rw [hexec, hput]
  refine ⟨_, rfl, ?_, fun t' r' hk => ?_, rfl, rfl, rfl, rfl⟩
  · exact (State.rd_regs _ _ _ _ rfl rfl rfl).trans (State.rd_wr_same s _ _ _ hs.regs.1)
  · exact (State.rd_regs _ _ _ _ rfl rfl rfl).trans (State.rd_wr_other s _ _ _ _ _ hk)

theorem exec_writeFrame_CALL (s : State) (r : Nat) (v : Word) (hs : s.sound) (hm : s.power.mode = .run)
    (hlk : locked s = false) (hlo : 8 ≤ r) (hhi : r ≤ 15) :
    ∃ u, exec (.writeFrame (wordsFrame s 0x37 r [v])) s = .next u ∧ u.ctl.wlast = 0 ∧
      (∀ c, c < 16 → u.rd (CH c) r = v) ∧
      (∀ t' r', (∀ c, c < 16 → key t' r' ≠ key (CH c) r) → u.rd t' r' = s.rd t' r') := by
  have hmem : groupMembers s 0x37 ≠ none := by rw [groupMembers_CALL]; simp
  have hexec := exec_writeFrame_one s 0x37 r v hm (by decide) (by omega) hmem
  rw [hlk, targetWrite_CALL_threshold false r hlo hhi] at hexec
  have hsame : ∀ c, c < 16 → (writeChans (List.range 16) r v s).rd (CH c) r = v :=
    fun c hc => writeChans_rd_mem _ r v s c (List.mem_range.mpr hc) hs.regs.1
  have hother : ∀ t' r', (∀ c, c < 16 → key t' r' ≠ key (CH c) r) →
      (writeChans (List.range 16) r v s).rd t' r' = s.rd t' r' :=
    fun t' r' hk => writeChans_rd_other _ r v s t' r' (fun c hc => hk c (List.mem_range.mp hc))
  generalize writeChans (List.range 16) r v s = w at *
  exact ⟨_, hexec, rfl, hsame, hother⟩

section
variable (s : State) (c r : Nat) (v : Word) (hm : s.power.mode = .run) (hc : c < 16) (hlo : 8 ≤ r) (hhi : r ≤ 15)
include hm hc hlo hhi

theorem exec_writeFrame_threshold :
    exec (.writeFrame (wordsFrame s (CH c) r [v])) s =
      .next (if locked s = true ∧ v ≠ s.rd (CH c) r then recordWrite ocRejected s
        else recordWrite ocOk (s.wr (CH c) r v)) := by
  have hbyte : CH c < 256 := Nat.lt_trans (CH_mem hc).2 (by decide)
  rw [exec_writeFrame_one s (CH c) r v hm hbyte (by omega) (by simp [groupMembers_CH hc]),
    targetWrite_single (groupMembers_CH hc s), wordWrite_threshold hc hlo hhi]
  split <;> rfl

variable (hs : s.sound)
include hs

theorem exec_writeFrame_locked (hlk : locked s = true) (hv : v ≠ s.rd (CH c) r) :
    ∃ u, exec (.writeFrame (wordsFrame s (CH c) r [v])) s = .next u ∧ u.rd (CH c) r = s.rd (CH c) r ∧
      u.ctl.wlast = 5 ∧ u.ctl.seq = (s.ctl.seq + 1) % 16 ∧ u.bit DEV 0x04 15 = true ∧
      u.bit DEV 0x05 evFrame = true ∧ u.chans = s.chans := by
  have hchan : ∀ x, x < 256 → key (CH c) r ≠ key DEV x := by
    intro x hx
    simp only [key, CH, DEV]
    omega
  rw [exec_writeFrame_threshold s c r v hm hc hlo hhi, if_pos ⟨hlk, hv⟩, recordWrite_rejected]
  generalize hs1 : ({ s with ctl := { s.ctl with wlast := 5, seq := (s.ctl.seq + 1) % 16, answer := none } } : State) = s1
  have hsound : s1.sound := by
    rw [← hs1]
    exact ⟨hs.regs, hs.cist, hs.stores, hs.sram, hs.slots, hs.walks, hs.faults, hs.journal, hs.log, hs.bells⟩
  obtain ⟨herr, hev⟩ := frameError_bits s1 hsound
  obtain ⟨hctl, hchans⟩ := frameError_ctl s1
  refine ⟨_, rfl, ?_, ?_, ?_, herr, hev, ?_⟩
  · rw [frameError_rd_other _ _ _ (hchan _ (by decide)) (hchan _ (by decide)), ← hs1]
    rfl
  · rw [hctl, ← hs1]
  · rw [hctl, ← hs1]
  · rw [hchans, ← hs1]

theorem exec_writeFrame_stored (h : locked s = false ∨ v = s.rd (CH c) r) :
    ∃ u, exec (.writeFrame (wordsFrame s (CH c) r [v])) s = .next u ∧ u.rd (CH c) r = v ∧ u.ctl.wlast = 0 ∧
      u.rd DEV 0x04 = s.rd DEV 0x04 ∧ u.chans = s.chans := by
  have hfree : ¬ (locked s = true ∧ v ≠ s.rd (CH c) r) := by
    rintro ⟨hlk, hv⟩
    rcases h with h | h
    · exact absurd hlk (by simp [h])
    · exact hv h
  rw [exec_writeFrame_threshold s c r v hm hc hlo hhi, if_neg hfree, recordWrite_ok]
  refine ⟨_, rfl, State.rd_wr_same s _ _ _ hs.regs.1, rfl, State.rd_wr_other s _ _ _ _ _ ?_, rfl⟩
  simp only [key, CH, DEV]
  omega

end

theorem exec_registerWrite_event (s : State) (v : Word) (j : Nat) (hs : s.sound) (hm : s.power.mode = .run) (hj : j < 16) :
    ∃ u, exec (.registerWrite .host 0x00 0x05 v) s = .next u ∧
      u.bit DEV 0x05 j = (s.bit DEV 0x05 j && !wbit v j) ∧ u.ctl = s.ctl := by
  have hmem : groupMembers s DEV = some [DEV] := rfl
  have hput : registerWrite .host DEV 0x05 v s = s.wr DEV 0x05 (s.rd DEV 0x05 &&& ~~~ v) := by
    simp [registerWrite, targetWrite_event, hmem]
  rw [show exec (.registerWrite .host 0x00 0x05 v) s = .next (registerWrite .host DEV 0x05 v s) from whenRun_of_run hm, hput]
  refine ⟨_, rfl, ?_, rfl⟩
  simp [State.bit, State.rd_wr_same s _ _ _ hs.regs.1, wbit, hj]

/-- Settles O12, one kind of write after another: a frame of one word is a write of its target and a record, and a plain
register, a threshold and an event register each have one equation for their write. -/
theorem registerWordsAreWritten : Obligations.RegisterWordsAreWritten := by
  unfold Obligations.RegisterWordsAreWritten
  refine ⟨fun s t r v hs hm h => ⟨exec_writeFrame_plain s t r v hs hm h,
      fun src _ => exec_registerWrite_plain s t r v hs hm h src⟩,
    exec_writeFrame_CALL, fun s c r v hs hm hc hlo hhi => ⟨exec_writeFrame_locked s c r v hm hc hlo hhi hs,
      exec_writeFrame_stored s c r v hm hc hlo hhi hs⟩, exec_registerWrite_event⟩

end Sys2Proof.Machine

/-! ## The verdict port, the TRIP_N hold and the pace window (R42 to R44, R344, R351) -/

namespace Sys2Proof.Machine

/-! ### Bits and fields of a word -/

theorem testBit_wfld (w : Word) (lo n j : Nat) : (wfld w lo n).testBit j = (decide (j < n) && wbit w (lo + j)) := by
  simp [wfld, fld, wbit, BitVec.getLsbD, Nat.testBit_mod_two_pow, Nat.testBit_shiftRight]

theorem wbit_putFld (w : Word) (lo n v j : Nat) (hj : j < 16) :
    wbit (putFld w lo n v) j = if lo ≤ j ∧ j < lo + n then v.testBit (j - lo) else wbit w j := by
  simp only [wbit, putFld, word, BitVec.getLsbD_or, BitVec.getLsbD_and, BitVec.getLsbD_not, BitVec.getLsbD_ofNat,
    Nat.testBit_mul_two_pow, Nat.testBit_mod_two_pow, Nat.testBit_two_pow_sub_one, hj, decide_true, Bool.true_and]
  by_cases hlo : lo ≤ j
  · by_cases hhi : j < lo + n
    · simp [hlo, hhi, show j - lo < n by omega]
    · simp [hhi, show ¬ j - lo < n by omega]
  · simp [hlo]

/-- A field reads the value that was put into it. -/
theorem wfld_putFld_same (w : Word) (lo n v : Nat) (hn : lo + n ≤ 16) (hv : v < 2 ^ n) : wfld (putFld w lo n v) lo n = v := by
  refine Nat.eq_of_testBit_eq fun j => ?_
  rw [testBit_wfld]
  by_cases hj : j < n
  · rw [wbit_putFld _ _ _ _ _ (by omega), if_pos (by omega)]
    simp [hj]
  · rw [Nat.testBit_lt_two_pow (Nat.lt_of_lt_of_le hv (Nat.pow_le_pow_right (by decide) (by omega)))]
    simp [hj]

/-- Two words with the same bits in a field have the same field. -/
theorem wfld_congr {v w : Word} {lo n : Nat} (h : ∀ j, j < n → wbit v (lo + j) = wbit w (lo + j)) :
    wfld v lo n = wfld w lo n := by
  refine Nat.eq_of_testBit_eq fun j => ?_
  rw [testBit_wfld, testBit_wfld]
  by_cases hj : j < n
  · rw [h j hj]
  · simp [hj]

/-! ### VD_REPORT (R344) and TRIP_HOLD_END (R351) -/

theorem exec_vdReport_drives (s : State) (cls c : Nat) (q : List (Nat × Nat)) (hm : s.power.mode = .run)
    (hq : s.tick.vdQueue = (cls, c) :: q) (hcls : cls < 16) (hc : c < 16) :
    ∃ t, exec .vdReport s = .next t ∧ t.tick.vdClass.toNat = cls ∧ t.tick.vd.toNat = c ∧
      t.tick.vdPulses = s.tick.vdPulses + 2 ∧ t.tick.vdStb = false ∧ t.tick.vdQueue = q ∧
      t = { s with tick := { s.tick with vd := t.tick.vd, vdClass := t.tick.vdClass, vdPulses := t.tick.vdPulses,
                                         vdStb := t.tick.vdStb, vdQueue := t.tick.vdQueue } } := by
  rw [show exec .vdReport s = .next (vdDrive s) from whenRun_of_run hm, vdDrive, hq]
  exact ⟨_, rfl, Nat.mod_eq_of_lt hcls, Nat.mod_eq_of_lt hc, rfl, rfl, rfl, rfl⟩

theorem State.chan_modChan_same (s : State) (c : Nat) (f : Channel → Channel) (hc : c < s.chans.length) :
    (s.modChan c f).chan c = f (s.chan c) := nth_modAt_same _ _ _ _ hc

theorem State.chan_modChan_other (s : State) (c x : Nat) (f : Channel → Channel) (hx : c ≠ x) :
    (s.modChan c f).chan x = s.chan x := nth_modAt_other _ _ _ _ _ hx

theorem exec_tripHoldEnd_ends (s : State) (c u : Nat) (hm : s.power.mode = .run) (hu : (s.chan c).holdEnd = some u)
    (hc : c < s.chans.length) :
    ∃ t, exec (.tripHoldEnd c) s = .next t ∧ t.now = max s.now u ∧ tripping t c = false ∧
      (∀ x, x ≠ c → t.chan x = s.chan x) ∧ t.regs = s.regs ∧ t.engs = s.engs ∧ t.tick = s.tick := by
  rw [show exec (.tripHoldEnd c) s = .next (tripHoldEnd c s) from whenRun_of_run hm, tripHoldEnd, hu]
  refine ⟨_, rfl, rfl, ?_, fun x hx => State.chan_modChan_other _ _ _ _ (Ne.symm hx), rfl, rfl, rfl⟩
  rw [tripping, State.chan_modChan_same (s.reach u) c _ hc]
  rfl

/-! ### PACE_WINDOW_END (R42 to R44) -/

/-- The device after a window of `n` rings under R43's conditions, before OVER and its event: GOV, VALID and PERIOD are
published, and the windows in a row above the guarantee are counted. -/
def pacePublished (n : Nat) (gov : Bool) (s : State) : State :=
  { (s.putB DEV 0x24 14 gov).wr DEV 0x24
      (putFld (setBit ((s.putB DEV 0x24 14 gov).rd DEV 0x24) 15) 0 12 (pacePeriod n)) with
    pace := { overs := if guarantee (levelNow s) < pacePeriod n then s.pace.overs + 1 else 0, full := true } }

theorem pacePeriod_of_pos {n : Nat} (hn : 0 < n) : pacePeriod n = min 4095 ((5120000 + n - 1) / n) := by
  rw [pacePeriod, if_neg (by omega), cdiv]

theorem pacePeriod_lt (n : Nat) : pacePeriod n < 2 ^ 12 := by
  unfold pacePeriod
  split <;> omega

section
variable (n : Nat) (gov : Bool) (s : State)

/-- A window under R43's conditions publishes its period; OVER sets with the second slow window in a row. -/
theorem paceWindowEnd_holds (hh : paceHolds s = true) (hf : s.pace.full = true) :
    paceWindowEnd n gov s =
      if guarantee (levelNow s) < pacePeriod n ∧ 1 ≤ s.pace.overs then
        raise evPaceOver ((pacePublished n gov s).setB DEV 0x24 13)
      else pacePublished n gov s := by
  simp only [paceWindowEnd, hh, hf, pacePublished, Bool.true_eq_false, if_false, decide_eq_true_eq]
  by_cases hslow : guarantee (levelNow s) < pacePeriod n
  · simp [hslow, Nat.succ_le_iff]
  · simp [hslow]

theorem paceWindowEnd_broken (hh : paceHolds s = false) : paceWindowEnd n gov s = paceBroken (s.putB DEV 0x24 14 gov) := by
  simp [paceWindowEnd, hh]

theorem pacePublished_rd_event : (pacePublished n gov s).rd DEV 0x05 = s.rd DEV 0x05 :=
  calc _ = (s.putB DEV 0x24 14 gov).rd DEV 0x05 := State.rd_wr_other _ _ _ _ _ _ (by decide)
    _ = s.rd DEV 0x05 := State.rd_wr_other _ _ _ _ _ _ (by decide)

variable (hs : s.sound)
include hs

theorem pacePublished_rises : (pacePublished n gov s).regs.Pairwise (fun x y => x.1 < y.1) :=
  State.wr_rises _ _ _ _ (State.wr_rises _ _ _ _ hs.regs.1)

theorem pacePublished_rd :
    (pacePublished n gov s).rd DEV 0x24 = putFld (setBit (putBit (s.rd DEV 0x24) 14 gov) 15) 0 12 (pacePeriod n) := by
  rw [show (pacePublished n gov s).rd DEV 0x24 = _ from State.rd_wr_same _ _ _ _ (State.wr_rises _ _ _ _ hs.regs.1),
    State.putB, State.rd_wr_same _ _ _ _ hs.regs.1]

theorem pacePublished_period : wfld ((pacePublished n gov s).rd DEV 0x24) 0 12 = pacePeriod n := by
  rw [pacePublished_rd n gov s hs, wfld_putFld_same _ _ _ _ (by decide) (pacePeriod_lt n)]

theorem pacePublished_bit (j : Nat) (hlo : 12 ≤ j) (hhi : j < 16) :
    (pacePublished n gov s).bit DEV 0x24 j = if j = 15 then true else if j = 14 then gov else s.bit DEV 0x24 j := by
  rw [State.bit, pacePublished_rd n gov s hs, wbit_putFld _ _ _ _ _ hhi, if_neg (by omega), wbit_setBit _ _ _ hhi,
    wbit_putBit _ _ _ _ hhi]
  by_cases h15 : j = 15
  · simp [h15]
  · by_cases h14 : j = 14
    · simp [h14]
    · simp [h15, h14, Ne.symm h15, Ne.symm h14, State.bit]

/-- OVER and its event leave the other bits of PACE. -/
theorem paceOver_rd :
    (raise evPaceOver ((pacePublished n gov s).setB DEV 0x24 13)).rd DEV 0x24 =
      setBit ((pacePublished n gov s).rd DEV 0x24) 13 := by
  rw [raise_rd_other _ _ _ _ (by decide), State.setB, State.rd_wr_same _ _ _ _ (pacePublished_rises n gov s hs)]

theorem paceOver_event : (raise evPaceOver ((pacePublished n gov s).setB DEV 0x24 13)).bit DEV 0x05 evPaceOver = true :=
  raise_bit_event _ _ (State.wr_rises _ _ _ _ (pacePublished_rises n gov s hs)) (by decide)

end

theorem raise_tick (i : Nat) (s : State) : (raise i s).tick = s.tick := by
  unfold raise
  dsimp only
  split <;> rfl

theorem wfld_setBit_above (w : Word) {i n : Nat} (hn : n ≤ i) (hi : i < 16) : wfld (setBit w i) 0 n = wfld w 0 n := by
  refine wfld_congr fun j hj => ?_
  rw [wbit_setBit _ _ _ (by omega)]
  simp [show i ≠ j by omega]

/-- What a window publishes under R43's conditions (R42, R44). -/
theorem exec_paceWindowEnd_publishes (n : Nat) (gov : Bool) (s : State) (hs : s.sound) (hm : s.power.mode = .run)
    (hn : 0 < n) (hpll : s.power.rimPll = true) (hch : s.power.change = none) (hf : s.pace.full = true) :
    ∃ t, exec (.paceWindowEnd n gov) s = .next t ∧
      wfld (t.rd DEV 0x24) 0 12 = min 4095 ((5120000 + n - 1) / n) ∧ t.bit DEV 0x24 15 = true ∧
      t.bit DEV 0x24 14 = gov ∧ t.tick = s.tick ∧
      (guarantee (levelNow s) < min 4095 ((5120000 + n - 1) / n) → 1 ≤ s.pace.overs →
        t.bit DEV 0x24 13 = true ∧ t.bit DEV 0x05 evPaceOver = true) ∧
      (guarantee (levelNow s) ≥ min 4095 ((5120000 + n - 1) / n) ∨ s.pace.overs = 0 →
        t.bit DEV 0x24 13 = s.bit DEV 0x24 13 ∧ t.rd DEV 0x05 = s.rd DEV 0x05) := by
  rw [show exec (.paceWindowEnd n gov) s = .next (paceWindowEnd n gov s) from whenRun_of_run hm, ← pacePeriod_of_pos hn,
    paceWindowEnd_holds n gov s (by simp [paceHolds, hpll, hch]) hf]
  have hperiod := pacePublished_period n gov s hs
  have hbit := pacePublished_bit n gov s hs
  refine ⟨_, rfl, ?_⟩
  split
  · next hover =>
    have hrd := paceOver_rd n gov s hs
    have hover_bit : ∀ j, 12 ≤ j → j < 16 →
        (raise evPaceOver ((pacePublished n gov s).setB DEV 0x24 13)).bit DEV 0x24 j =
          ((pacePublished n gov s).bit DEV 0x24 j || decide (13 = j)) := by
      intro j _ hj
      rw [State.bit, hrd, wbit_setBit _ _ _ hj, State.bit]
    refine ⟨?_, ?_, ?_, ?_, fun _ _ => ⟨?_, paceOver_event n gov s hs⟩, fun hno => ?_⟩
    · rw [hrd, wfld_setBit_above _ (by decide) (by decide), hperiod]
    · simp [hover_bit, hbit]
    · simp [hover_bit, hbit]
    · exact raise_tick _ _
    · simp [hover_bit]
    · omega
  · next hnot =>
    refine ⟨hperiod, ?_, ?_, rfl, fun hslow hprev => absurd ⟨hslow, hprev⟩ hnot, fun _ => ⟨?_, ?_⟩⟩
    · simp [hbit]
    · simp [hbit]
    · simp [hbit]
    · exact pacePublished_rd_event n gov s

/-- A window that breaks R43's conditions clears VALID and holds PERIOD. -/
theorem exec_paceWindowEnd_invalid (n : Nat) (gov : Bool) (s : State) (hs : s.sound) (hm : s.power.mode = .run)
    (hbad : s.power.rimPll = false ∨ s.power.change.isSome = true) :
    ∃ t, exec (.paceWindowEnd n gov) s = .next t ∧ t.bit DEV 0x24 15 = false ∧
      wfld (t.rd DEV 0x24) 0 12 = wfld (s.rd DEV 0x24) 0 12 ∧ t.tick = s.tick := by
  have hh : paceHolds s = false := by
    rcases hbad with h | h
    · simp [paceHolds, h]
    · simp [paceHolds, h]
  rw [show exec (.paceWindowEnd n gov) s = .next (paceWindowEnd n gov s) from whenRun_of_run hm,
    paceWindowEnd_broken n gov s hh]
  have hrd : (paceBroken (s.putB DEV 0x24 14 gov)).rd DEV 0x24 = clrBit (putBit (s.rd DEV 0x24) 14 gov) 15 := by
    rw [show (paceBroken (s.putB DEV 0x24 14 gov)).rd DEV 0x24 = clrBit ((s.putB DEV 0x24 14 gov).rd DEV 0x24) 15 from
      State.rd_wr_same _ _ _ _ (State.wr_rises _ _ _ _ hs.regs.1), State.putB, State.rd_wr_same _ _ _ _ hs.regs.1]
  refine ⟨_, rfl, ?_, ?_, rfl⟩
  · simp [State.bit, hrd]
  · rw [hrd]
    refine wfld_congr fun j hj => ?_
    rw [wbit_clrBit _ _ _ (by omega), wbit_putBit _ _ _ _ (by omega)]
    simp [show 14 ≠ j by omega, show 15 ≠ j by omega]

/-- Settles O10, one row after another: the report and the hold are each one update, a pace window one word of PACE. -/
theorem reportsHoldsAndPaceWindows : Obligations.ReportsHoldsAndPaceWindows := by
  unfold Obligations.ReportsHoldsAndPaceWindows
  exact ⟨exec_vdReport_drives, exec_tripHoldEnd_ends, fun n gov s hs hm hn =>
    ⟨exec_paceWindowEnd_publishes n gov s hs hm hn, exec_paceWindowEnd_invalid n gov s hs hm⟩⟩

end Sys2Proof.Machine

/-! ## The start of a delayed tick program (R74) -/

namespace Sys2Proof.Machine

/-! ### One engine of a state -/

/-- What an update keeps of every element, it keeps of each element of the list. -/
theorem nth_modAt_keeps {α β : Type} (g : α → β) (xs : List α) (i j : Nat) (f : α → α) (d : α) (h : ∀ x, g (f x) = g x) :
    g (nth (modAt xs i f) j d) = g (nth xs j d) := by
  simp only [nth, List.getD, modAt_getElem?]
  split
  · cases xs[j]? <;> simp [h]
  · rfl

theorem State.eng_modEng_same (s : State) (e : Nat) (f : Engine → Engine) (he : e < s.engs.length) :
    (s.modEng e f).eng e = f (s.eng e) := nth_modAt_same _ _ _ _ he

theorem State.eng_modEng_other (s : State) (e x : Nat) (f : Engine → Engine) (hx : x ≠ e) :
    (s.modEng e f).eng x = s.eng x := nth_modAt_other _ _ _ _ _ (Ne.symm hx)

/-! ### A read of the store (R200, R478) -/

/-- An engine but for its count of corrected errors, which reads of its store add to. -/
def Engine.uncounted (g : Engine) : Engine := { g with corrected := 0 }

theorem queueTest_engs (i : BankId) (column : Nat) (s : State) : (queueTest i column s).engs = s.engs := by
  cases i <;> rfl

theorem fixBank_engs (r : Run) (s : State) : (fixBank r s).engs = s.engs := by
  unfold fixBank
  split <;> rfl

theorem State.eng_of_engs {s t : State} (h : t.engs = s.engs) (x : Nat) : t.eng x = s.eng x := congrArg (nth · x Engine.reset) h

/-- A read of store bytes without an uncorrectable error leaves every engine but for its count. -/
theorem storeReadEvents_uncounted (e a n : Nat) (c : Option Nat) (s : State) (h : storeBad s e a n = false) (x : Nat) :
    ((storeReadEvents e a n c s).eng x).uncounted = (s.eng x).uncounted := by
  have hue : hitWords (s.eng e).ue 4 a n = [] := by simpa [storeBad] using h
  unfold storeReadEvents
  rw [hue]
  refine foldS_keeps (fun s : State => (s.eng x).uncounted) _ (fun w s => ?_) _ s
  rw [State.eng_of_engs (queueTest_engs _ _ _)]
  exact nth_modAt_keeps Engine.uncounted _ _ _ _ _ (fun _ => rfl)

theorem storeReadEvents_engs_length (e a n : Nat) (c : Option Nat) (s : State) :
    (storeReadEvents e a n c s).engs.length = s.engs.length := congrArg (·.2.1.engs) (storeReadEvents_frame e a n c s)

/-! ### The launch of a program (R205) -/

section
variable {e : Nat} {r : Run} {s : State} (he : e < s.engs.length)
  (hbad : storeBad s e (dirBase + 16 * r.kind.slot) 16 = false)
  (hok : (dirEntry s e r.kind.slot).runnable r.kind.isTick = true)
include he hbad hok

/-- A sound runnable entry starts its program at instruction 0, and no other engine moves. -/
theorem launch_starts :
    (∃ q, ((launch e r s).eng e).run = some q ∧ q.kind = r.kind ∧ q.pc = 0 ∧
      q.entry = (dirEntry s e r.kind.slot).entry ∧ q.len = (dirEntry s e r.kind.slot).len) ∧
    ((launch e r s).eng e).due = (s.eng e).due ∧ ((launch e r s).eng e).store = (s.eng e).store ∧
    ((launch e r s).eng e).overhang = (s.eng e).overhang ∧
    (∀ x, x ≠ e → ((launch e r s).eng x).uncounted = (s.eng x).uncounted) := by
  unfold launch
  extract_lets k d chan active s0
  have hfix : ∀ x, (fixBank r s).eng x = s.eng x := State.eng_of_engs (fixBank_engs r s)
  have hread : ∀ x, (s0.eng x).uncounted = (s.eng x).uncounted := fun x => by
    rw [← hfix x]
    exact storeReadEvents_uncounted _ _ _ _ _ (by rw [storeBad, hfix]; exact hbad) x
  have hlen : e < s0.engs.length := by
    rw [storeReadEvents_engs_length, fixBank_engs]
    exact he
  rw [if_neg (by simp [k, hbad]), if_neg (by simp [k, d, hok])]
  rw [State.eng_modEng_same _ _ _ hlen]
  refine ⟨⟨_, rfl, rfl, rfl, rfl, rfl⟩, ?_, ?_, ?_, fun x hx => ?_⟩
  · exact (congrArg Engine.due (hread e) :)
  · exact (congrArg Engine.store (hread e) :)
  · exact (congrArg Engine.overhang (hread e) :)
  · rw [State.eng_modEng_other _ _ _ _ hx]
    exact hread x

end

/-! ### Starting what is due (R62) -/

theorem canStartDue_of_due_nil {s : State} {x : Nat} (h : (s.eng x).due = []) : canStartDue s x = false := by
  simp [canStartDue, h]

theorem canStartDue_of_running {s : State} {x : Nat} {q : Run} (h : (s.eng x).run = some q) : canStartDue s x = false := by
  simp [canStartDue, h]

theorem startDue_of_none (n : Nat) (s : State) (h : ∀ x, canStartDue s x = false) : startDue n s = s := by
  cases n with
  | zero => rfl
  | succ n =>
    have hf : (List.range s.part.engines).find? (fun e => canStartDue s e) = none := by simp [h]
    rw [startDue, hf]

/-- The only engine that can start a program starts it. -/
theorem startDue_of_only (n e : Nat) (s : State) (he : e < s.part.engines) (hcan : canStartDue s e = true)
    (honly : ∀ x, x ≠ e → canStartDue s x = false) : startDue (n + 1) s = startDue n (startNext e s) := by
  have hf : (List.range s.part.engines).find? (fun e => canStartDue s e) = some e := by
    cases hx : (List.range s.part.engines).find? (fun e => canStartDue s e) with
    | none => exact absurd hcan (List.find?_eq_none.mp hx e (List.mem_range.mpr he))
    | some x =>
      have hcx : canStartDue s x = true := List.find?_some hx
      by_cases hxe : x = e
      · rw [hxe]
      · rw [honly x hxe] at hcx
        cases hcx
  rw [startDue, hf]

/-- DELAYED_PROGRAM_START, when no other engine has a program due. -/
theorem exec_delayedProgramStart_starts (e : Nat) (s : State) (r : Run) (rest : List Run) (hm : s.power.mode = .run)
    (hpart : e < s.part.engines) (he : e < s.engs.length) (hover : (s.eng e).overhang = true)
    (hbg : bgInFlight s e = false) (hidle : (s.eng e).run = none) (hdue : (s.eng e).due = r :: rest)
    (honly : ∀ x, x ≠ e → (s.eng x).due = []) (hbad : storeBad s e (dirBase + 16 * r.kind.slot) 16 = false)
    (hok : (dirEntry s e r.kind.slot).runnable r.kind.isTick = true) :
    ∃ t q, exec (.delayedProgramStart e) s = .next t ∧ (t.eng e).overhang = false ∧ (t.eng e).run = some q ∧
      q.kind = r.kind ∧ q.pc = 0 ∧ q.entry = (dirEntry s e r.kind.slot).entry ∧
      q.len = (dirEntry s e r.kind.slot).len ∧ (t.eng e).due = rest ∧ (t.eng e).store = (s.eng e).store := by
  rw [show exec (.delayedProgramStart e) s = .next (delayedStart e s) from whenRun_of_run hm, delayedStart,
    if_pos ⟨hover, hbg⟩]
  generalize hs1 : s.modEng e (fun g => { g with overhang := false }) = s1
  have he1 : s1.eng e = { s.eng e with overhang := false } := by rw [← hs1, State.eng_modEng_same _ _ _ he]
  have hx1 : ∀ x, x ≠ e → s1.eng x = s.eng x := fun x hx => by rw [← hs1, State.eng_modEng_other _ _ _ _ hx]
  have hlen1 : e < s1.engs.length := by simpa [← hs1] using he
  have hcan : canStartDue s1 e = true := by simp [canStartDue, he1, hidle, hdue]
  have hwait : ∀ x, x ≠ e → canStartDue s1 x = false := fun x hx =>
    canStartDue_of_due_nil (by rw [hx1 x hx, honly x hx])
  have hnext : startNext e s1 = launch e r (s1.modEng e (fun g => { g with due := rest })) := by
    simp [startNext, he1, hdue]
  generalize hs2 : s1.modEng e (fun g => { g with due := rest }) = s2 at hnext
  have he2 : s2.eng e = { s.eng e with overhang := false, due := rest } := by
    rw [← hs2, State.eng_modEng_same _ _ _ hlen1, he1]
  have hx2 : ∀ x, x ≠ e → s2.eng x = s.eng x := fun x hx => by
    rw [← hs2, State.eng_modEng_other _ _ _ _ hx, hx1 x hx]
  have hlen2 : e < s2.engs.length := by simpa [← hs2] using hlen1
  have hdir : dirEntry s2 e r.kind.slot = dirEntry s e r.kind.slot := by simp [dirEntry, storeGet, he2]
  have hbad2 : storeBad s2 e (dirBase + 16 * r.kind.slot) 16 = false := by simpa [storeBad, he2] using hbad
  obtain ⟨⟨q, hrun, hkind, hpc, hentry, hqlen⟩, hdue3, hstore3, hover3, hother3⟩ :=
    launch_starts hlen2 hbad2 (hdir ▸ hok)
  have hall : startAllDue s1 = launch e r s2 := by
    rw [startAllDue, startDue_of_only 511 e s1 (by simpa [← hs1] using hpart) hcan hwait, hnext]
    refine startDue_of_none _ _ fun x => ?_
    by_cases hx : x = e
    · rw [hx]
      exact canStartDue_of_running hrun
    · refine canStartDue_of_due_nil ((congrArg Engine.due (hother3 x hx)).trans ?_)
      rw [Engine.uncounted, hx2 x hx, honly x hx]
  refine ⟨_, q, rfl, ?_⟩
  rw [hall]
  refine ⟨?_, hrun, hkind, hpc, ?_, ?_, ?_, ?_⟩
  · rw [hover3, he2]
  · rw [hentry, hdir]
  · rw [hqlen, hdir]
  · rw [hdue3, he2]
  · rw [hstore3, he2]

end Sys2Proof.Machine

/-! ## What a stillness fault leaves alone (R50, R76)

A fault that STILL or PROMISE_BROKEN has recorded stays recorded while the unit's work is ended and the next programs start,
no operation is added to those in flight, and whether the tick waits for verdicts stays as it is. -/

namespace Sys2Proof.Machine

/-- From `r` to `s` the events of a stillness fault stay recorded, no operation is added, and the tick's verdicts and
report stand as they did. -/
structure State.keepsMarks (r s : State) : Prop where
  rises : s.regs.Pairwise (fun x y => x.1 < y.1)
  still : r.bit DEV 0x05 evStill = true → s.bit DEV 0x05 evStill = true
  broken : r.bit DEV 0x26 14 = true → s.bit DEV 0x26 14 = true
  ops : s.ops ⊆ r.ops
  done : tickDone s = tickDone r

theorem State.sound.keepsMarks_refl {s : State} (hs : s.sound) : s.keepsMarks s :=
  ⟨hs.regs.1, id, id, List.Subset.refl _, rfl⟩

section
variable {r s t : State}

theorem State.keepsMarks.here (h : r.keepsMarks s) : s.keepsMarks s := ⟨h.rises, id, id, List.Subset.refl _, rfl⟩

/-- An update that leaves the registers, adds no operation and leaves the tick's verdicts and report. -/
theorem State.keepsMarks.fewer (h : r.keepsMarks s) (hregs : (t.regs, t.part, t.straps) = (s.regs, s.part, s.straps))
    (hops : t.ops ⊆ s.ops) (hdone : tickDone t = tickDone s := by rfl) : r.keepsMarks t := by
  simp only [Prod.mk.injEq] at hregs
  obtain ⟨hregs, hpart, hstraps⟩ := hregs
  have hrd : ∀ a x, t.rd a x = s.rd a x := fun a x => State.rd_regs s t a x hregs hpart hstraps
  exact ⟨hregs ▸ h.rises, fun hb => by rw [State.bit, hrd]; exact h.still hb,
    fun hb => by rw [State.bit, hrd]; exact h.broken hb, List.Subset.trans hops h.ops, hdone.trans h.done⟩

/-- An update that leaves the operations too. -/
theorem State.keepsMarks.same (h : r.keepsMarks s)
    (hsame : (t.regs, t.part, t.straps, t.ops) = (s.regs, s.part, s.straps, s.ops))
    (hdone : tickDone t = tickDone s := by rfl) : r.keepsMarks t := by
  simp only [Prod.mk.injEq] at hsame
  obtain ⟨hregs, hpart, hstraps, hops⟩ := hsame
  exact h.fewer (by rw [hregs, hpart, hstraps]) (by rw [hops]; exact List.Subset.refl _) hdone

theorem foldS_keepsMarks {α : Type} {f : α → State → State} {xs : List α} (h : r.keepsMarks s)
    (hf : ∀ a s, r.keepsMarks s → r.keepsMarks (f a s)) : r.keepsMarks (foldS f xs s) :=
  foldS_inv r.keepsMarks f hf xs s h

/-! ### Registers -/

theorem State.wr_keepsMarks (h : r.keepsMarks s) {a x : Nat} {v : Word} (hk : 256 ≤ key a x) :
    r.keepsMarks (s.wr a x v) := by
  have hrd : ∀ y, y < 256 → (s.wr a x v).rd DEV y = s.rd DEV y := fun y hy =>
    State.rd_wr_other _ _ _ _ _ _ (by simp only [key, DEV] at hk ⊢; omega)
  exact ⟨State.wr_rises _ _ _ _ h.rises, fun hb => by rw [State.bit, hrd _ (by decide)]; exact h.still hb,
    fun hb => by rw [State.bit, hrd _ (by decide)]; exact h.broken hb, h.ops, h.done⟩

theorem State.setEvent_keepsMarks (h : r.keepsMarks s) {i : Nat} : r.keepsMarks (s.setB DEV 0x05 i) where
  rises := State.wr_rises _ _ _ _ h.rises
  still hb := by
    have hs : wbit (s.rd DEV 0x05) evStill = true := h.still hb
    simp [State.bit, State.setB, State.rd_wr_same _ _ _ _ h.rises, hs]
  broken hb := by
    rw [State.bit, State.setB, State.rd_wr_other _ _ _ _ _ _ (by decide)]
    exact h.broken hb
  ops := h.ops
  done := h.done

/-- A write of PROMISE_BROKEN that keeps FAULT. -/
theorem State.wrPromise_keepsMarks (h : r.keepsMarks s) {v : Word}
    (hv : wbit (s.rd DEV 0x26) 14 = true → wbit v 14 = true) : r.keepsMarks (s.wr DEV 0x26 v) where
  rises := State.wr_rises _ _ _ _ h.rises
  still hb := by
    rw [State.bit, State.rd_wr_other _ _ _ _ _ _ (by decide)]
    exact h.still hb
  broken hb := by
    rw [State.bit, State.rd_wr_same _ _ _ _ h.rises]
    exact hv (h.broken hb)
  ops := h.ops
  done := h.done

/-! ### Events, records and channels -/

theorem raise_keepsMarks (h : r.keepsMarks s) {i : Nat} : r.keepsMarks (raise i s) := by
  have hset : r.keepsMarks (s.setB DEV 0x05 i) := State.setEvent_keepsMarks h
  unfold raise
  dsimp only
  split
  · exact hset
  · exact hset.same rfl

theorem tickDone_modChan (s : State) (c : Nat) (f : Channel → Channel)
    (hf : ∀ ch, (!(f ch).served || (f ch).latched) = (!ch.served || ch.latched)) :
    tickDone (s.modChan c f) = tickDone s := by
  have hchan : ∀ x, (!((s.modChan c f).chan x).served || ((s.modChan c f).chan x).latched) =
      (!(s.chan x).served || (s.chan x).latched) := fun x =>
    nth_modAt_keeps (fun ch : Channel => !ch.served || ch.latched) _ _ _ _ _ hf
  simp only [tickDone, allLatched, hchan]
  rfl

/-- A channel's update that leaves what it is served and what it has latched. -/
theorem State.modChan_keepsMarks (h : r.keepsMarks s) {c : Nat} {f : Channel → Channel}
    (hf : ∀ ch, (!(f ch).served || (f ch).latched) = (!ch.served || ch.latched) := by exact fun _ => rfl) :
    r.keepsMarks (s.modChan c f) := h.same rfl (tickDone_modChan s c f hf)

theorem faultRecord_keepsMarks (h : r.keepsMarks s) {src unit chan flags detail detail2 : Nat} :
    r.keepsMarks (faultRecord src unit chan flags detail detail2 s) := by
  unfold faultRecord
  refine raise_keepsMarks ?_
  exact h.same rfl

theorem chargeChannel_keepsMarks (h : r.keepsMarks s) {c : Nat} : r.keepsMarks (chargeChannel c s) := by
  unfold chargeChannel
  refine State.modChan_keepsMarks h fun ch => ?_
  split <;> rfl

/-- Besides the bit of its cause, PROMISE_BROKEN only counts and flags. -/
theorem promiseBroken_keepsMarks_set {stall : Bool} {no : Nat} {cs : List Nat}
    (h : r.keepsMarks (s.setB DEV 0x26 (if stall then 15 else 14))) : r.keepsMarks (promiseBroken stall no cs s) := by
  unfold promiseBroken
  extract_lets s1 w tick s2
  have h2 : r.keepsMarks s2 := by
    unfold s2
    split
    · exact h
    · refine raise_keepsMarks (State.wrPromise_keepsMarks ?_ fun hb => ?_)
      · exact h.same rfl
      · rw [wbit_putFld _ _ _ _ _ (by decide), if_neg (by decide)]
        exact hb
  split
  · exact foldS_keepsMarks h2 fun c s hs => State.modChan_keepsMarks hs
  · exact h2

theorem promiseBroken_keepsMarks (h : r.keepsMarks s) {stall : Bool} {no : Nat} {cs : List Nat} :
    r.keepsMarks (promiseBroken stall no cs s) :=
  promiseBroken_keepsMarks_set (State.wrPromise_keepsMarks h fun hb => by simp [hb])

theorem tickFault_keepsMarks (h : r.keepsMarks s) {src unit c no flags detail detail2 : Nat} :
    r.keepsMarks (tickFault src unit c no flags detail detail2 s) :=
  promiseBroken_keepsMarks (chargeChannel_keepsMarks (faultRecord_keepsMarks h))

theorem memRecord_keepsMarks (h : r.keepsMarks s) {unit : Nat} {c : Option Nat} {flags detail detail2 : Nat} :
    r.keepsMarks (memRecord unit c flags detail detail2 s) := by
  unfold memRecord
  split
  · exact chargeChannel_keepsMarks (faultRecord_keepsMarks h)
  · exact faultRecord_keepsMarks h

theorem State.modEng_keepsMarks (h : r.keepsMarks s) {e : Nat} {f : Engine → Engine} : r.keepsMarks (s.modEng e f) :=
  h.same rfl

theorem holdFault_keepsMarks (h : r.keepsMarks s) {e code : Nat} {pc : Option Nat} :
    r.keepsMarks (holdFault e code pc s) := State.modEng_keepsMarks h

theorem engineRecord_keepsMarks (h : r.keepsMarks s) {e code pc : Nat} {stops : Bool} {k : ProgKind} {no : Nat} :
    r.keepsMarks (engineRecord e code pc stops k no s) := by
  unfold engineRecord
  dsimp only
  split
  · exact tickFault_keepsMarks (holdFault_keepsMarks h)
  · exact faultRecord_keepsMarks (holdFault_keepsMarks h)

/-! ### Leaving a program -/

theorem settleDrift_keepsMarks (h : r.keepsMarks s) {c : Nat} : r.keepsMarks (settleDrift c s) := by
  unfold settleDrift
  extract_lets d s1 w
  have h1 : r.keepsMarks s1 := State.modChan_keepsMarks h
  split
  · exact State.wr_keepsMarks h1 (by simp only [key, CH]; omega)
  · exact h1

theorem tickPartEnded_keepsMarks (h : r.keepsMarks s) {c e : Nat} : r.keepsMarks (tickPartEnded c e s) := by
  unfold tickPartEnded
  extract_lets ch ps s1
  have h1 : r.keepsMarks s1 := State.modChan_keepsMarks h
  split
  · exact settleDrift_keepsMarks (State.modChan_keepsMarks h1)
  · exact h1

theorem liftAfter_keepsMarks (h : r.keepsMarks s) {e no : Nat} : r.keepsMarks (liftAfter e no s) :=
  State.modEng_keepsMarks h

theorem clearRun_keepsMarks (h : r.keepsMarks s) {e : Nat} : r.keepsMarks (clearRun e s) := State.modEng_keepsMarks h

theorem dropWaiter_keepsMarks (h : r.keepsMarks s) {e : Nat} {tick : Bool} : r.keepsMarks (dropWaiter e tick s) :=
  h.same rfl

theorem dropDue_keepsMarks (h : r.keepsMarks s) {x c : Nat} : r.keepsMarks (dropDue x c s) := by
  unfold dropDue
  split
  · exact liftAfter_keepsMarks (tickPartEnded_keepsMarks (State.modEng_keepsMarks (State.modChan_keepsMarks h)))
  · exact h

theorem endPart_keepsMarks (h : r.keepsMarks s) {x c : Nat} : r.keepsMarks (endPart x c s) := by
  unfold endPart
  split
  · exact liftAfter_keepsMarks (tickPartEnded_keepsMarks (dropWaiter_keepsMarks (clearRun_keepsMarks h)))
  · exact h

theorem stopOtherParts_keepsMarks (h : r.keepsMarks s) {c e : Nat} : r.keepsMarks (stopOtherParts c e s) := by
  refine foldS_keepsMarks h fun x s hs => ?_
  split
  · exact hs
  split
  · split
    · exact dropDue_keepsMarks hs
    split
    · exact State.modEng_keepsMarks hs
    · exact endPart_keepsMarks hs
  · exact dropDue_keepsMarks hs

theorem sweepTrapped_keepsMarks (h : r.keepsMarks s) {c : Nat} : r.keepsMarks (sweepTrapped c s) := by
  have hlearn : r.keepsMarks (s.modLearn c (fun l => { l with parts := [], sweepBad := true })) := State.modChan_keepsMarks h
  exact hlearn.same rfl

theorem trapped_keepsMarks (h : r.keepsMarks s) {e code pc : Nat} {k : ProgKind} {no : Nat} :
    r.keepsMarks (trapped e code pc k no s) := by
  unfold trapped
  extract_lets s1
  have h1 : r.keepsMarks s1 := engineRecord_keepsMarks h
  split
  · exact liftAfter_keepsMarks (tickPartEnded_keepsMarks (stopOtherParts_keepsMarks (State.modChan_keepsMarks h1)))
  · exact sweepTrapped_keepsMarks h1
  · exact h1

/-! ### Starting what is due -/

theorem queueTest_keepsMarks (h : r.keepsMarks s) {i : BankId} {column : Nat} : r.keepsMarks (queueTest i column s) := by
  cases i <;> exact h.same rfl

theorem storeReadEvents_keepsMarks (h : r.keepsMarks s) {e a n : Nat} {c : Option Nat} :
    r.keepsMarks (storeReadEvents e a n c s) :=
  foldS_keepsMarks (foldS_keepsMarks h fun _ _ hs => queueTest_keepsMarks (memRecord_keepsMarks hs))
    fun _ _ hs => queueTest_keepsMarks (State.modEng_keepsMarks hs)

theorem fixBank_keepsMarks (h : r.keepsMarks s) {q : Run} : r.keepsMarks (fixBank q s) := by
  unfold fixBank
  split
  · exact State.modChan_keepsMarks h
  · exact h

theorem launch_keepsMarks (h : r.keepsMarks s) {e : Nat} {q : Run} : r.keepsMarks (launch e q s) := by
  unfold launch
  extract_lets k d chan active s0
  have h0 : r.keepsMarks s0 := storeReadEvents_keepsMarks (fixBank_keepsMarks h)
  split
  · exact trapped_keepsMarks h0
  split
  · exact trapped_keepsMarks h0
  · exact State.modEng_keepsMarks h0

theorem startNext_keepsMarks (h : r.keepsMarks s) {e : Nat} : r.keepsMarks (startNext e s) := by
  unfold startNext
  split
  · exact h
  · exact launch_keepsMarks (State.modEng_keepsMarks h)

theorem startDue_keepsMarks (h : r.keepsMarks s) {n : Nat} : r.keepsMarks (startDue n s) := by
  induction n generalizing s with
  | zero => exact h
  | succ n ih =>
    unfold startDue
    split
    · exact h
    · exact ih (startNext_keepsMarks h)

theorem startAllDue_keepsMarks (h : r.keepsMarks s) : r.keepsMarks (startAllDue s) := startDue_keepsMarks h

/-! ### The completion of an operation -/

theorem completionFault_keepsMarks (h : r.keepsMarks s) {o : PumpOp} : r.keepsMarks (completionFault o s) := by
  unfold completionFault
  dsimp only
  split
  · exact h
  split
  · exact State.modEng_keepsMarks (tickFault_keepsMarks (holdFault_keepsMarks h))
  · exact faultRecord_keepsMarks (holdFault_keepsMarks h)
  · exact faultRecord_keepsMarks h

theorem storeCompletion_keepsMarks (h : r.keepsMarks s) {o : PumpOp} : r.keepsMarks (storeCompletion o s) := by
  unfold storeCompletion
  split
  · exact State.modEng_keepsMarks h
  · exact h.same rfl
  · exact h

theorem returnXid_keepsMarks (h : r.keepsMarks s) {o : PumpOp} : r.keepsMarks (returnXid o s) := by
  unfold returnXid
  split
  · split
    · exact h
    · exact h.same rfl
  · exact h

/-- Besides the records, a completion only takes the operation from those in flight. -/
theorem completeOp_keepsMarks_removed {o : PumpOp}
    (h : r.keepsMarks { s with ops := s.ops.filter (fun x => x.id ≠ o.id) }) : r.keepsMarks (completeOp o s) := by
  unfold completeOp
  extract_lets s1
  have h1 : r.keepsMarks s1 := returnXid_keepsMarks (storeCompletion_keepsMarks h)
  refine completionFault_keepsMarks ?_
  split
  · exact State.wr_keepsMarks h1 (by decide)
  · exact h1

theorem State.keepsMarks.removed (h : r.keepsMarks s) (i : Nat) :
    r.keepsMarks { s with ops := s.ops.filter (fun x => x.id ≠ i) } := h.fewer rfl (List.filter_subset_self _)

theorem forgetBlock_keepsMarks (h : r.keepsMarks s) {o : PumpOp} : r.keepsMarks (forgetBlock o s) := by
  unfold forgetBlock
  split
  · exact h.same rfl
  · exact h

/-- The operation of the number of `x`, if it is still in flight, completes with STILL. -/
def completeOneStill (x : PumpOp) (s : State) : State :=
  match s.op? x.id with
  | some o => forgetBlock o (completeOp { o with fail := stStill } s)
  | none => s

theorem completeStill_eq (mine : PumpOp → Bool) (s : State) :
    completeStill mine s = foldS completeOneStill (s.ops.filter mine) s := rfl

theorem completeOneStill_keepsMarks (h : r.keepsMarks s) {x : PumpOp} : r.keepsMarks (completeOneStill x s) := by
  unfold completeOneStill
  split
  · exact forgetBlock_keepsMarks (completeOp_keepsMarks_removed (h.removed _))
  · exact h

theorem foldS_completeOneStill_keepsMarks (h : r.keepsMarks s) {xs : List PumpOp} :
    r.keepsMarks (foldS completeOneStill xs s) := foldS_keepsMarks h fun _ _ hs => completeOneStill_keepsMarks hs

theorem completeStill_keepsMarks (h : r.keepsMarks s) {mine : PumpOp → Bool} : r.keepsMarks (completeStill mine s) :=
  foldS_completeOneStill_keepsMarks h

theorem completeOneStill_gone (h : r.keepsMarks s) (x : PumpOp) : ∀ o ∈ (completeOneStill x s).ops, o.id ≠ x.id := by
  unfold completeOneStill
  intro y hy
  split at hy
  · next o ho =>
    have hid : o.id = x.id := by simpa using List.find?_some ho
    have hleft := (forgetBlock_keepsMarks (completeOp_keepsMarks_removed (o := { o with fail := stStill })
      (h.here.removed o.id).here) (o := o)).ops hy
    rw [← hid]
    simpa using (List.mem_filter.mp hleft).2
  · next hnone => simpa using List.find?_eq_none.mp hnone y hy

theorem foldS_completeOneStill_gone (xs : List PumpOp) (h : r.keepsMarks s) :
    ∀ o ∈ (foldS completeOneStill xs s).ops, ∀ x ∈ xs, o.id ≠ x.id := by
  induction xs generalizing s with
  | nil => simp
  | cons y ys ih =>
    intro o ho x hx
    have hy := completeOneStill_keepsMarks h (x := y)
    rw [foldS_cons] at ho
    rcases List.mem_cons.mp hx with rfl | hx
    · exact completeOneStill_gone h x o ((foldS_completeOneStill_keepsMarks hy.here).ops ho)
    · exact ih hy o ho x hx

/-- No operation that completes with STILL stays in flight. -/
theorem completeStill_gone (h : r.keepsMarks s) (mine : PumpOp → Bool) : ∀ o ∈ (completeStill mine s).ops, mine o = false := by
  intro o ho
  have hmem : o ∈ s.ops := (completeStill_keepsMarks h.here).ops ho
  rw [completeStill_eq] at ho
  refine Bool.eq_false_iff.mpr fun hmine => ?_
  exact foldS_completeOneStill_gone _ h o ho o (List.mem_filter.mpr ⟨hmem, hmine⟩) rfl

/-! ### The steps of a stillness fault -/

theorem stillTick_keepsMarks (h : r.keepsMarks s) : r.keepsMarks (stillTick s) := by
  unfold stillTick
  split
  · exact h
  · exact promiseBroken_keepsMarks h

theorem stillRun_keepsMarks (h : r.keepsMarks s) {q : Run} : r.keepsMarks (stillRun q s) := by
  unfold stillRun
  split
  · exact promiseBroken_keepsMarks h
  · exact h

theorem stopStill_keepsMarks (h : r.keepsMarks s) {e : Nat} {q : Run} : r.keepsMarks (stopStill e q s) := by
  unfold stopStill
  extract_lets s1
  have h1 : r.keepsMarks s1 := dropWaiter_keepsMarks (clearRun_keepsMarks (holdFault_keepsMarks h))
  split
  · refine liftAfter_keepsMarks (tickPartEnded_keepsMarks (stopOtherParts_keepsMarks ?_))
    exact State.modChan_keepsMarks (chargeChannel_keepsMarks h1)
  · exact sweepTrapped_keepsMarks h1
  · exact h1

theorem releaseWaiter_keepsMarks (h : r.keepsMarks s) {w : Nat × Bool} : r.keepsMarks (releaseWaiter w s) :=
  State.modEng_keepsMarks h

theorem endWaits_keepsMarks (h : r.keepsMarks s) {b : Nat} : r.keepsMarks (endWaits b s) :=
  foldS_keepsMarks (h.same rfl) fun _ _ hs => releaseWaiter_keepsMarks hs

end

end Sys2Proof.Machine

/-! ## Stillness faults (R48, R50, R51) -/

namespace Sys2Proof.Machine

/-! ### The record, the event and the tick -/

theorem faultRecord_still (src unit chan flags detail detail2 : Nat) (s : State) (hs : s.sound) (h3 : 3 ≤ src) (h7 : src ≤ 7) :
    (faultRecord src unit chan flags detail detail2 s).bit DEV 0x05 evStill = true := by
  unfold faultRecord
  rw [if_pos ⟨h3, h7⟩]
  exact raise_bit_event _ _ hs.regs.1 (by decide)

/-- A tick with work left is marked for the fault. -/
theorem stillTick_broken {r s : State} (h : r.keepsMarks s) (hd : tickDone s = false) :
    (stillTick s).bit DEV 0x26 14 = true := by
  have hset : (s.setB DEV 0x26 14).bit DEV 0x26 14 = true := by
    simp [State.bit, State.setB, State.rd_wr_same _ _ _ _ h.rises]
  have hk : (s.setB DEV 0x26 14).keepsMarks (s.setB DEV 0x26 14) :=
    (State.wrPromise_keepsMarks h fun hb => by simp [hb]).here
  unfold stillTick
  rw [if_neg (by simp [hd])]
  exact (promiseBroken_keepsMarks_set (stall := false) hk).broken hset

/-- A fault that is recorded, then marks the tick, then ends the unit's work leaves both marks. -/
theorem stillMarked_of {s x t : State} (hrec : s.keepsMarks x) (hstill : x.bit DEV 0x05 evStill = true)
    (hend : (stillTick x).keepsMarks t) : stillMarked s t :=
  ⟨hend.still ((stillTick_keepsMarks hrec.here).still hstill),
    fun hd => hend.broken (stillTick_broken hrec (hrec.done.trans hd))⟩

/-! ### What a record and a mark leave -/

/-- The operations, engines, bells, cistern and banks. -/
def State.plant (s : State) : List PumpOp × List Engine × List Bell × Mem × List Bank :=
  (s.ops, s.engs, s.bells, s.cist, s.banks)

theorem raise_plant (i : Nat) (s : State) : (raise i s).plant = s.plant := by
  unfold raise
  dsimp only
  split <;> rfl

theorem faultRecord_plant (src unit chan flags detail detail2 : Nat) (s : State) :
    (faultRecord src unit chan flags detail detail2 s).plant = s.plant := raise_plant _ _

theorem promiseBroken_plant (stall : Bool) (no : Nat) (cs : List Nat) (s : State) :
    (promiseBroken stall no cs s).plant = s.plant := by
  unfold promiseBroken
  extract_lets s1 w tick s2
  have h2 : s2.plant = s.plant := by
    unfold s2
    split
    · rfl
    · exact raise_plant _ _
  split
  · refine (foldS_keeps State.plant _ ?_ _ _).trans h2
    exact fun _ _ => rfl
  · exact h2

theorem stillTick_plant (s : State) : (stillTick s).plant = s.plant := by
  unfold stillTick
  split
  · rfl
  · exact promiseBroken_plant _ _ _ _

theorem stillRun_plant (q : Run) (s : State) : (stillRun q s).plant = s.plant := by
  unfold stillRun
  split
  · exact promiseBroken_plant _ _ _ _
  · rfl

/-! ### The units -/

/-- The fault record of an engine that is still while it runs `q`. -/
def engineStillRecord (e : Nat) (q : Run) (s : State) : State :=
  match q.kind.tickChan with
  | some c => faultRecord 3 e c (tickFlags s c) 0 0 s
  | none => faultRecord 3 e 0xFF 0 0 0 s

theorem stillEngine_works (e : Nat) (s : State) (r : Run) (hr : (s.eng e).run = some r) (hw : declaredWait s e r = false)
    (hl : s.fld (ENG e) 0x04 0 12 ≠ 0) :
    stillEngine e s = startAllDue (completeStill (fun o => o.byEngine e)
      (stillTick (stillRun r (stopStill e r (engineStillRecord e r s))))) := by
  rw [stillEngine, hr]
  dsimp only
  rw [if_neg (by simp [hw, hl])]
  rfl

theorem engineStillRecord_marks (e : Nat) (q : Run) (s : State) (hs : s.sound) :
    s.keepsMarks (engineStillRecord e q s) ∧ (engineStillRecord e q s).bit DEV 0x05 evStill = true := by
  unfold engineStillRecord
  split <;>
    exact ⟨faultRecord_keepsMarks hs.keepsMarks_refl, faultRecord_still _ _ _ _ _ _ s hs (by decide) (by decide)⟩

/-- A fault record, the mark of the tick, and the end of the operations `mine`. -/
theorem completeStill_marked (s : State) (hs : s.sound) (mine : PumpOp → Bool) (src unit : Nat) (h3 : 3 ≤ src) (h7 : src ≤ 7) :
    (∀ o ∈ (completeStill mine (stillTick (faultRecord src unit 0xFF 0 0 0 s))).ops, mine o = false) ∧
      stillMarked s (completeStill mine (stillTick (faultRecord src unit 0xFF 0 0 0 s))) := by
  have hrec : s.keepsMarks (faultRecord src unit 0xFF 0 0 0 s) := faultRecord_keepsMarks hs.keepsMarks_refl
  have htick := stillTick_keepsMarks hrec
  exact ⟨completeStill_gone htick mine,
    stillMarked_of hrec (faultRecord_still _ _ _ _ _ _ s hs h3 h7) (completeStill_keepsMarks htick.here)⟩

section
variable (s : State) (hm : s.power.mode = .run)
include hm

theorem exec_stillnessFault (u : StillUnit) : exec (.stillnessFault u) s = .next (stillnessFault u s) := whenRun_of_run hm

/-- An engine without a program, in a declared wait or with LIMIT = 0 is not still (R48). -/
theorem exec_stillEngine_idle (e : Nat)
    (h : ∀ r, (s.eng e).run = some r → declaredWait s e r = true ∨ s.fld (ENG e) 0x04 0 12 = 0) :
    exec (.stillnessFault (.engine e)) s = .next s := by
  rw [exec_stillnessFault s hm, stillnessFault, stillEngine]
  split
  · rfl
  · next r hr => rw [if_pos (h r hr)]

theorem exec_stillPump_idle (p : Nat) (h : pumpWorks s p = false) : exec (.stillnessFault (.pump p)) s = .next s := by
  rw [exec_stillnessFault s hm, stillnessFault, stillPump, if_pos h]

variable (hs : s.sound)
include hs

theorem exec_stillEngine_completes (e : Nat) (r : Run) (hr : (s.eng e).run = some r) (hw : declaredWait s e r = false)
    (hl : s.fld (ENG e) 0x04 0 12 ≠ 0) :
    ∃ t, exec (.stillnessFault (.engine e)) s = .next t ∧ (∀ o ∈ t.ops, o.byEngine e = false) ∧ stillMarked s t := by
  rw [exec_stillnessFault s hm, stillnessFault, stillEngine_works e s r hr hw hl]
  obtain ⟨hkeep, hstill⟩ := engineStillRecord_marks e r s hs
  have hstop := stillRun_keepsMarks (stopStill_keepsMarks hkeep.here (e := e) (q := r)) (q := r)
  have hx : s.keepsMarks (stillRun r (stopStill e r (engineStillRecord e r s))) :=
    stillRun_keepsMarks (stopStill_keepsMarks hkeep)
  have htick := stillTick_keepsMarks hx
  have hdone := completeStill_keepsMarks htick.here (mine := fun o => o.byEngine e)
  refine ⟨_, rfl, fun o ho => ?_, stillMarked_of hx (hstop.still hstill) (startAllDue_keepsMarks hdone)⟩
  exact completeStill_gone htick (fun o => o.byEngine e) o ((startAllDue_keepsMarks hdone.here).ops ho)

theorem exec_stillPump_completes (p : Nat) (h : pumpWorks s p = true) :
    ∃ t, exec (.stillnessFault (.pump p)) s = .next t ∧ pumpBusy t p = false ∧ stillMarked s t := by
  obtain ⟨hgone, hmark⟩ := completeStill_marked s hs (fun o => o.pump == p) 4 p (by decide) (by decide)
  rw [exec_stillnessFault s hm, stillnessFault, stillPump, if_neg (by simp [h])]
  exact ⟨_, rfl, List.any_eq_false.mpr fun o ho => Bool.eq_false_iff.mp (hgone o ho), hmark⟩

theorem exec_stillPool_completes (h : s.ops ≠ []) :
    ∃ t, exec (.stillnessFault .tagPool) s = .next t ∧ t.ops = [] ∧ freeTags t = 256 ∧ stillMarked s t := by
  obtain ⟨hgone, hmark⟩ := completeStill_marked s hs (fun _ => true) 6 0 (by decide) (by decide)
  rw [exec_stillnessFault s hm, stillnessFault, stillPool, if_neg h]
  have hnil := List.eq_nil_iff_forall_not_mem.mpr fun o ho => absurd (hgone o ho) (by decide)
  exact ⟨_, rfl, hnil, by rw [freeTags, hnil]; rfl, hmark⟩

theorem exec_stillBank_fences (b : Nat) (hb : b < 16) (hlen : b < s.banks.length) (hopen : (s.bank b).fenced = false) :
    ∃ t, exec (.stillnessFault (.bank b)) s = .next t ∧ (t.bank b).fenced = true ∧ t.ops = s.ops ∧ t.cist = s.cist ∧
      stillMarked s t := by
  have hrec : s.keepsMarks (faultRecord 5 b 0xFF 0 0 0 s) := faultRecord_keepsMarks hs.keepsMarks_refl
  have hmark : ∀ t, (stillTick (faultRecord 5 b 0xFF 0 0 0 s)).keepsMarks t → stillMarked s t := fun _ =>
    stillMarked_of hrec (faultRecord_still _ _ _ _ _ _ s hs (by decide) (by decide))
  have hplant := (stillTick_plant (faultRecord 5 b 0xFF 0 0 0 s)).trans (faultRecord_plant 5 b 0xFF 0 0 0 s)
  have hhere := (stillTick_keepsMarks hrec).here
  rw [exec_stillnessFault s hm, stillnessFault, stillBank, if_neg (by simp [hopen, hb])]
  generalize stillTick (faultRecord 5 b 0xFF 0 0 0 s) = x at *
  simp only [State.plant, Prod.mk.injEq] at hplant
  obtain ⟨hops, -, -, hcist, hbanks⟩ := hplant
  refine ⟨_, rfl, ?_, hops, hcist, hmark _ (hhere.same rfl)⟩
  rw [State.bank, State.modBank, nth_modAt_same _ _ _ _ (by rw [hbanks]; exact hlen)]

end

/-! ### The waits at the bells (R247) -/

theorem State.bell_of_bells {s t : State} (h : t.bells = s.bells) (k : Nat) : t.bell k = s.bell k :=
  congrArg (nth · k Bell.reset) h

theorem State.bell_of_le {s : State} {k : Nat} (h : s.bells.length ≤ k) : s.bell k = Bell.reset := by
  rw [State.bell, nth, List.getD_eq_default _ _ h]

theorem State.lt_engs_of_run {s : State} {e : Nat} {g : Run} (h : (s.eng e).run = some g) : e < s.engs.length := by
  refine Nat.lt_of_not_le fun hle => ?_
  rw [State.eng, nth, List.getD_eq_default _ _ hle] at h
  cases h

/-- What becomes of the program `g` of engine `e` when the waiters `ws` are released. -/
def releasedBy (ws : List (Nat × Bool)) (e : Nat) (g : Run) : Run :=
  if (e, g.kind.isTick) ∈ ws then releaseRun g g.kind.isTick else g

theorem releaseRun_kind (g : Run) (tick : Bool) : (releaseRun g tick).kind = g.kind := by
  unfold releaseRun
  split <;> rfl

theorem releaseRun_waiting {g : Run} (hw : g.waitBell.isSome = true) :
    releaseRun g g.kind.isTick = { g.advance with waitBell := none } := by simp [releaseRun, hw]

/-- A released program waits no more, so a second release leaves it. -/
theorem releaseRun_released (g : Run) (tick : Bool) : releaseRun (releaseRun g tick) tick = releaseRun g tick := by
  by_cases h : g.kind.isTick = tick ∧ g.waitBell.isSome = true
  · rw [releaseRun, if_neg]
    simp [releaseRun, h]
  · simp [releaseRun, h]

theorem releasedBy_append (vs ws : List (Nat × Bool)) (e : Nat) (g : Run) :
    releasedBy (vs ++ ws) e g = releasedBy ws e (releasedBy vs e g) := by
  by_cases hv : (e, g.kind.isTick) ∈ vs
  · by_cases hw : (e, g.kind.isTick) ∈ ws
    · simp [releasedBy, hv, hw, releaseRun_kind, releaseRun_released]
    · simp [releasedBy, hv, hw, releaseRun_kind]
  · simp [releasedBy, hv]

theorem releaseWaiter_run (w : Nat × Bool) {s : State} {e : Nat} {g : Run} (h : (s.eng e).run = some g) :
    ((releaseWaiter w s).eng e).run = some (releasedBy [w] e g) := by
  obtain ⟨x, tick⟩ := w
  by_cases hx : e = x
  · subst hx
    rw [releaseWaiter, State.eng_modEng_same _ _ _ (State.lt_engs_of_run h), h]
    by_cases ht : g.kind.isTick = tick
    · simp [releasedBy, ht]
    · simp [releasedBy, releaseRun, ht]
  · rw [releaseWaiter, State.eng_modEng_other _ _ _ _ hx, h]
    simp [releasedBy, hx]

theorem foldS_releaseWaiter_run (ws : List (Nat × Bool)) {s : State} {e : Nat} {g : Run} (h : (s.eng e).run = some g) :
    ((foldS releaseWaiter ws s).eng e).run = some (releasedBy ws e g) := by
  induction ws generalizing s g with
  | nil => simpa [releasedBy, foldS_nil] using h
  | cons w ws ih =>
    rw [foldS_cons, ih (releaseWaiter_run w h), ← releasedBy_append]
    rfl

theorem foldS_releaseWaiter_bells (ws : List (Nat × Bool)) (s : State) : (foldS releaseWaiter ws s).bells = s.bells :=
  foldS_keeps State.bells releaseWaiter (fun _ _ => rfl) _ _

theorem endWaits_ops (b : Nat) (s : State) : (endWaits b s).ops = s.ops :=
  foldS_keeps State.ops releaseWaiter (fun _ _ => rfl) _ _

theorem endWaits_run (b : Nat) {s : State} {e : Nat} {g : Run} (h : (s.eng e).run = some g) :
    ((endWaits b s).eng e).run = some (releasedBy (s.bell b).waiters e g) := foldS_releaseWaiter_run _ h

theorem endWaits_bell (b : Nat) (s : State) (k : Nat) :
    (endWaits b s).bell k = if k = b then { s.bell k with waiters := [] } else s.bell k := by
  rw [endWaits, State.bell_of_bells (foldS_releaseWaiter_bells _ _)]
  split
  · next hk =>
    subst hk
    by_cases hlen : k < s.bells.length
    · exact nth_modAt_same _ _ _ _ hlen
    · rw [State.bell_of_le (by simpa using hlen), State.bell_of_le (by simpa using hlen)]
      rfl
  · next hk => exact nth_modAt_other _ _ _ _ _ (Ne.symm hk)

theorem foldS_endWaits_bell (bs : List Nat) (s : State) (k : Nat) :
    (foldS endWaits bs s).bell k = if k ∈ bs then { s.bell k with waiters := [] } else s.bell k := by
  induction bs generalizing s with
  | nil => simp [foldS_nil]
  | cons b bs ih =>
    rw [foldS_cons, ih, endWaits_bell]
    by_cases hb : k = b <;> simp [hb]

/-- The waits at the bells `bs` end, each for the waiters its bell has. -/
theorem foldS_endWaits_run (bs : List Nat) (hbs : bs.Nodup) {s : State} {e : Nat} {g : Run} (h : (s.eng e).run = some g) :
    ((foldS endWaits bs s).eng e).run = some (releasedBy (bs.flatMap (fun b => (s.bell b).waiters)) e g) := by
  induction bs generalizing s g with
  | nil => simpa [releasedBy, foldS_nil] using h
  | cons b bs ih =>
    obtain ⟨hb, hbs⟩ := List.nodup_cons.mp hbs
    have hrest : bs.flatMap (fun k => ((endWaits b s).bell k).waiters) = bs.flatMap (fun k => (s.bell k).waiters) :=
      List.flatMap_congr fun k hk => by
        have hkb : k ≠ b := fun h => hb (h ▸ hk)
        rw [endWaits_bell, if_neg hkb]
    rw [foldS_cons, ih hbs (endWaits_run b h), hrest, List.flatMap_cons, releasedBy_append]

theorem not_all_idle_of_waiter {s : State} {b : Nat} (hb : b < s.bells.length) (hw : (s.bell b).waiters ≠ []) :
    ¬ s.bells.all (fun l => l.waiters.isEmpty) = true := fun hall => by
  have hbell : s.bell b = s.bells[b] := by simp [State.bell, nth, hb]
  exact hw (hbell ▸ List.isEmpty_iff.mp (List.all_eq_true.mp hall _ (List.getElem_mem hb)))

/-- A still bell unit ends the waits at all its bells, without a decrement (R50). -/
theorem exec_stillBells_ends (s : State) (hm : s.power.mode = .run) (hs : s.sound) (b : Nat) (hb : b < 64)
    (hw : (s.bell b).waiters ≠ []) (hlen : s.bells.length = 64) :
    ∃ t, exec (.stillnessFault .bells) s = .next t ∧ t.ops = s.ops ∧
      (∀ k, t.bell k = { s.bell k with waiters := [] }) ∧
      (∀ e g, (s.eng e).run = some g → (e, g.kind.isTick) ∈ (s.bell b).waiters → g.waitBell.isSome = true →
        (t.eng e).run = some { g.advance with waitBell := none }) ∧ stillMarked s t := by
  have hrec : s.keepsMarks (faultRecord 7 0 0xFF 0 0 0 s) := faultRecord_keepsMarks hs.keepsMarks_refl
  have hmark : ∀ t, (stillTick (faultRecord 7 0 0xFF 0 0 0 s)).keepsMarks t → stillMarked s t := fun _ =>
    stillMarked_of hrec (faultRecord_still _ _ _ _ _ _ s hs (by decide) (by decide))
  have hplant := (stillTick_plant (faultRecord 7 0 0xFF 0 0 0 s)).trans (faultRecord_plant 7 0 0xFF 0 0 0 s)
  have hhere := (stillTick_keepsMarks hrec).here
  rw [exec_stillnessFault s hm, stillnessFault, stillBells, if_neg (not_all_idle_of_waiter (by omega) hw)]
  dsimp only
  generalize stillTick (faultRecord 7 0 0xFF 0 0 0 s) = y at *
  generalize (s.engs.filterMap (fun g => g.run)).filter (fun r => r.waitBell.isSome) = struck
  have hkeep : y.keepsMarks (foldS stillRun struck y) := foldS_keepsMarks hhere fun _ _ hx => stillRun_keepsMarks hx
  replace hplant := (foldS_keeps State.plant stillRun stillRun_plant struck y).trans hplant
  generalize foldS stillRun struck y = x at *
  simp only [State.plant, Prod.mk.injEq] at hplant
  obtain ⟨hops, hengs, hbells, -, -⟩ := hplant
  refine ⟨_, rfl, (foldS_keeps State.ops _ endWaits_ops _ _).trans hops, fun k => ?_, fun e g hg hmem hwait => ?_,
    hmark _ (foldS_keepsMarks hkeep fun _ _ hx => endWaits_keepsMarks hx)⟩
  · rw [foldS_endWaits_bell, State.bell_of_bells hbells]
    split
    · rfl
    · next hk =>
      rw [State.bell_of_le (by simpa [hlen] using hk)]
      rfl
  · have hrun : (x.eng e).run = some g := by rw [State.eng_of_engs hengs, hg]
    have hin : (e, g.kind.isTick) ∈ (List.range 64).flatMap (fun k => (x.bell k).waiters) :=
      List.mem_flatMap.mpr ⟨b, List.mem_range.mpr hb, by rw [State.bell_of_bells hbells]; exact hmem⟩
    rw [foldS_endWaits_run _ List.nodup_range hrun, releasedBy, if_pos hin, releaseRun_waiting hwait]

/-- Settles O11: a delayed start launches one program and no other, and each kind of still unit is fenced or ends its work
under the marks that the fault has made (`State.keepsMarks`). -/
theorem delayedStartAndStillness : Obligations.DelayedStartAndStillness := by
  unfold Obligations.DelayedStartAndStillness
  refine ⟨exec_delayedProgramStart_starts, fun s hs hm => ?_⟩
  exact ⟨fun e r _ => exec_stillEngine_completes s hm hs e r, exec_stillPump_completes s hm hs,
    exec_stillBank_fences s hm hs, exec_stillPool_completes s hm hs, exec_stillBells_ends s hm hs,
    exec_stillEngine_idle s hm, exec_stillPump_idle s hm⟩

end Sys2Proof.Machine

/-! ## The pin TICK (R54 to R57, R83, R530) -/

namespace Sys2Proof.Machine

/-! ### Run requests -/

/-- The tick unit, the channels, the engines and the wells. -/
def State.tickPath (s : State) : TickUnit × List Channel × List Engine × List Well := (s.tick, s.chans, s.engs, s.wells)

theorem raise_tickPath (i : Nat) (s : State) : (raise i s).tickPath = s.tickPath := by
  unfold raise
  dsimp only
  split <;> rfl

theorem powerEvent_tickPath (i : Nat) (s : State) : (powerEvent i s).tickPath = s.tickPath :=
  raise_tickPath evPwr (s.setB PWR 0x04 i)

theorem powerEvent_withPower (i : Nat) (p : Power) (s : State) :
    powerEvent i { s with power := p } = { powerEvent i s with power := p } := by
  have hbit : (({ s with power := p } : State).setB PWR 0x04 i).bit DEV 0x05 evPwr = (s.setB PWR 0x04 i).bit DEV 0x05 evPwr :=
    rfl
  unfold powerEvent raise
  dsimp only
  rw [hbit]
  split <;> rfl

/-- A Run request changes the power state, after a power event where it drops a pending request (R500). -/
theorem runRequest_cases (src addr : Nat) (s : State) :
    ∃ p, runRequest src addr s = { s with power := p } ∨ runRequest src addr s = { powerEvent 5 s with power := p } := by
  unfold runRequest State.modPower
  dsimp only
  split
  · rw [powerEvent_withPower]
    split
    · exact ⟨_, .inr rfl⟩
    · exact ⟨_, .inr rfl⟩
  · split
    · exact ⟨_, .inl rfl⟩
    · exact ⟨_, .inl rfl⟩

theorem raise_bit (i j : Nat) (s : State) (h : s.regs.Pairwise (fun x y => x.1 < y.1)) (hj : j < 16) :
    (raise i s).bit DEV 0x05 j = (s.bit DEV 0x05 j || decide (i = j)) := by
  rw [State.bit, raise_rd_event i s h, wbit_setBit _ _ _ hj, State.bit]

theorem tickWake_of_run (s : State) (hm : s.power.mode = .run) :
    tickWake s = if s.bit CRY 0x04 8 then runRequest 4 0 s else s := by
  simp only [tickWake, wakeEvent, hm]

section
variable (s : State) (hm : s.power.mode = .run)
include hm

theorem tickWake_cases : ∃ p, tickWake s = { s with power := p } ∨ tickWake s = { powerEvent 5 s with power := p } := by
  rw [tickWake_of_run s hm]
  split
  · exact runRequest_cases 4 0 s
  · exact ⟨s.power, .inl rfl⟩

/-- In Run a TICK edge as a wake event leaves the tick, the channels, the engines and the wells alone. -/
theorem tickWake_tickPath : (tickWake s).tickPath = s.tickPath := by
  obtain ⟨p, h | h⟩ := tickWake_cases s hm
  · rw [h]; rfl
  · rw [h]; exact powerEvent_tickPath 5 s

theorem tickWake_rd_DEV (r : Nat) (hr : r < 256) (h5 : r ≠ 5) : (tickWake s).rd DEV r = s.rd DEV r := by
  have hevent : (powerEvent 5 s).rd DEV r = s.rd DEV r :=
    powerEvent_rd_other 5 s DEV r (by simp only [key, DEV]; omega) (by simp only [key, DEV, PWR]; omega)
  obtain ⟨p, h | h⟩ := tickWake_cases s hm
  · rw [h]; rfl
  · rw [h]; exact hevent

theorem tickWake_keeps_event (hs : s.regs.Pairwise (fun x y => x.1 < y.1)) (j : Nat) (hj : j < 16)
    (hb : s.bit DEV 0x05 j = true) : (tickWake s).bit DEV 0x05 j = true := by
  have hevent : (powerEvent 5 s).bit DEV 0x05 j = true := by
    have hset : (s.setB PWR 0x04 5).bit DEV 0x05 j = true := by
      rw [State.bit, State.setB, State.rd_wr_other _ _ _ _ _ _ (by decide)]
      exact hb
    have hraise := raise_bit evPwr j (s.setB PWR 0x04 5) (State.wr_rises _ _ _ _ hs) hj
    rw [hset, Bool.true_or] at hraise
    exact hraise
  obtain ⟨p, h | h⟩ := tickWake_cases s hm
  · rw [h]; exact hb
  · rw [h]; exact hevent

end

/-! ### An edge in Run -/

theorem exec_tickEdge_of_run (dt : Nat) (s : State) (hm : s.power.mode = .run) :
    exec (.tickEdge dt) s =
      .next (if s.power.committed.isSome then tickWake (withEdge (tickEdge dt) s) else withEdge (tickEdge dt) s) := by
  change Host.Outcome.next (tickPin dt s) = _
  rw [tickPin, if_pos hm]

/-- An event that takes no snapshot edge lets no waiting command act. -/
theorem withEdge_of_same_number (f : State → State) (s : State) (h : (f s).tick.number = s.tick.number) :
    withEdge f s = f s := if_pos h

/-- An early edge is a runt (R56). -/
theorem tickEdge_early (dt e : Nat) (s : State) (he : s.tick.lastEdge = some e) (hlt : s.now + dt < e + 3000) :
    tickEdge dt s = raise evTickRunt ((s.pass dt).setB DEV 0x20 11) := by
  simp [tickEdge, he, hlt]

/-- The interval that an accepted edge ends is measured (R57). -/
def edgeMeasured (s : State) : State :=
  match s.tick.lastEdge with
  | some e => measure (s.now - e) s
  | none => s

/-- An accepted edge is measured and entered as the last one. -/
def edgeEntered (s : State) : State :=
  { edgeMeasured s with tick := { (edgeMeasured s).tick with
      lastEdge := some (edgeMeasured s).now, lost := false, lossRef := some (edgeMeasured s).now } }

/-- An accepted edge is entered, and with SRC = 0 in force takes its snapshot (R55, R57). -/
theorem tickEdge_accepted (dt : Nat) (s : State) (h : ∀ e, s.tick.lastEdge = some e → e + 3000 ≤ s.now + dt) :
    tickEdge dt s =
      if (edgeEntered (s.pass dt)).tick.src then edgeEntered (s.pass dt)
      else snapshot ((edgeEntered (s.pass dt)).now + 2) ((edgeEntered (s.pass dt)).pass 2) := by
  unfold tickEdge
  extract_lets s0 early s1 s2
  have hlate : early = false := by
    unfold early
    split
    · next e he => exact decide_eq_false (Nat.not_lt.mpr (h e he))
    · rfl
  rw [if_neg (by simp [hlate])]
  rfl

/-- Settles O6: an early edge writes RUNT and its event, and a wake event that it is too leaves them. -/
theorem earlyTickEdgeIsRunt : Obligations.EarlyTickEdgeIsRunt := by
  unfold Obligations.EarlyTickEdgeIsRunt
  intro dt e s hs hm he hlt
  have hedge : withEdge (tickEdge dt) s = raise evTickRunt ((s.pass dt).setB DEV 0x20 11) := by
    rw [withEdge_of_same_number, tickEdge_early dt e s he hlt]
    rw [tickEdge_early dt e s he hlt, raise_tick]
    rfl
  rw [exec_tickEdge_of_run dt s hm, hedge]
  have hrises : ((s.pass dt).setB DEV 0x20 11).regs.Pairwise (fun x y => x.1 < y.1) := State.wr_rises _ _ _ _ hs.regs.1
  have hpath : (raise evTickRunt ((s.pass dt).setB DEV 0x20 11)).tickPath = s.tickPath := raise_tickPath _ _
  have hperiod : (raise evTickRunt ((s.pass dt).setB DEV 0x20 11)).rd DEV 0x21 = s.rd DEV 0x21 := by
    rw [raise_rd_other _ _ _ _ (by decide), State.setB, State.rd_wr_other _ _ _ _ _ _ (by decide)]
    rfl
  have hrunt : (raise evTickRunt ((s.pass dt).setB DEV 0x20 11)).bit DEV 0x20 11 = true := by
    rw [State.bit, raise_rd_other _ _ _ _ (by decide), State.setB, State.rd_wr_same (s.pass dt) _ _ _ hs.regs.1]
    simp
  have hevent := raise_bit_event evTickRunt _ hrises (by decide)
  have hmode : (raise evTickRunt ((s.pass dt).setB DEV 0x20 11)).power.mode = .run :=
    (congrArg (·.1) (raise_steady evTickRunt ((s.pass dt).setB DEV 0x20 11)) :).trans hm
  have hkept := raise_rises evTickRunt _ hrises
  generalize raise evTickRunt ((s.pass dt).setB DEV 0x20 11) = u at *
  refine ⟨_, rfl, ?_⟩
  split
  · have hwake := (tickWake_tickPath u hmode).trans hpath
    simp only [State.tickPath, Prod.mk.injEq] at hwake
    obtain ⟨htick, hchans, hengs, hwells⟩ := hwake
    refine ⟨htick, ?_, ?_, tickWake_keeps_event u hmode hkept _ (by decide) hevent, hchans, hengs, hwells⟩
    · rw [tickWake_rd_DEV u hmode _ (by decide) (by decide), hperiod]
    · rw [State.bit, tickWake_rd_DEV u hmode _ (by decide) (by decide)]
      exact hrunt
  · simp only [State.tickPath, Prod.mk.injEq] at hpath
    obtain ⟨htick, hchans, hengs, hwells⟩ := hpath
    exact ⟨htick, hperiod, hrunt, hevent, hchans, hengs, hwells⟩

end Sys2Proof.Machine

/-! ## No tick while disabled or asleep (R54, R83) -/

namespace Sys2Proof.Machine

/-! ### What an accepted edge enters (R57) -/

theorem measure_enters (d : Nat) (s : State) :
    ∃ regs xs n, measure d s = { s with regs := regs, tick := { s.tick with intervals := xs, entered := n } } := by
  unfold measure
  split
  · exact ⟨_, _, _, rfl⟩
  · dsimp only
    split
    · exact ⟨_, _, _, rfl⟩
    · exact ⟨_, _, _, rfl⟩

theorem edgeEntered_enters (s : State) :
    ∃ regs xs n, edgeEntered s = { s with
      regs := regs
      tick := { s.tick with intervals := xs, entered := n, lastEdge := some s.now, lost := false, lossRef := some s.now } } := by
  unfold edgeEntered edgeMeasured
  split
  · next e he =>
    obtain ⟨regs, xs, n, h⟩ := measure_enters (s.now - e) s
    rw [h]
    exact ⟨_, _, _, rfl⟩
  · exact ⟨_, _, _, rfl⟩

/-! ### ENABLE = 0 in force (R54) -/

/-- While no source starts ticks an edge takes no snapshot. -/
theorem snapshot_of_disabled (rim : Nat) (s : State) (hp : s.tick.pend = false) (he : s.tick.en = false) :
    snapshot rim s = s := by
  unfold snapshot
  extract_lets s0
  have h0 : s0 = s := if_neg (by simp [hp])
  rw [if_pos (.inl (h0 ▸ he)), h0]

/-- The tick's number, whether it waits for verdicts, and the engines and channels that serve it. -/
def State.tickSign (s : State) : Nat × Bool × List Engine × List Channel := (s.tick.number, s.tick.open_, s.engs, s.chans)

theorem State.tickSign_of_tickPath {s t : State} (h : t.tickPath = s.tickPath) : t.tickSign = s.tickSign :=
  congrArg (fun x : TickUnit × List Channel × List Engine × List Well => (x.1.number, x.1.open_, x.2.2.1, x.2.1)) h

section
variable (s : State) (hp : s.tick.pend = false) (he : s.tick.en = false)
include hp he

theorem tickEdge_disabled (dt : Nat) : (tickEdge dt s).tickSign = s.tickSign ∧ (tickEdge dt s).power.mode = s.power.mode := by
  by_cases hearly : ∃ e, s.tick.lastEdge = some e ∧ s.now + dt < e + 3000
  · obtain ⟨e, hlast, hlt⟩ := hearly
    rw [tickEdge_early dt e s hlast hlt]
    exact ⟨State.tickSign_of_tickPath (raise_tickPath _ _), (congrArg (·.1) (raise_steady _ _) :)⟩
  · have hlate : ∀ e, s.tick.lastEdge = some e → e + 3000 ≤ s.now + dt := fun e hlast =>
      Nat.le_of_not_lt fun hlt => hearly ⟨e, hlast, hlt⟩
    obtain ⟨regs, xs, n, hin⟩ := edgeEntered_enters (s.pass dt)
    rw [tickEdge_accepted dt s hlate, hin]
    split
    · exact ⟨rfl, rfl⟩
    · rw [snapshot_of_disabled]
      · exact ⟨rfl, rfl⟩
      · exact hp
      · exact he

theorem freeRunExpiry_disabled : (freeRunExpiry s).tickSign = s.tickSign := by
  unfold freeRunExpiry
  split
  · rfl
  · dsimp only
    rw [snapshot_of_disabled]
    · rfl
    · exact hp
    · exact he

variable (hm : s.power.mode = .run)
include hm

theorem exec_tickEdge_disabled (dt : Nat) :
    ∃ t, exec (.tickEdge dt) s = .next t ∧ t.tick.number = s.tick.number ∧ t.tick.open_ = s.tick.open_ ∧
      t.engs = s.engs ∧ t.chans = s.chans := by
  obtain ⟨hsign, hmode⟩ := tickEdge_disabled s hp he dt
  rw [exec_tickEdge_of_run dt s hm, withEdge_of_same_number _ _ (congrArg (·.1) hsign)]
  have hend : (if s.power.committed.isSome then tickWake (tickEdge dt s) else tickEdge dt s).tickSign = s.tickSign := by
    split
    · exact (State.tickSign_of_tickPath (tickWake_tickPath _ (hmode.trans hm))).trans hsign
    · exact hsign
  simp only [State.tickSign, Prod.mk.injEq] at hend
  exact ⟨_, rfl, hend⟩

theorem exec_freeRunExpiry_disabled :
    ∃ t, exec .freeRunExpiry s = .next t ∧ t.tick.number = s.tick.number ∧ t.tick.open_ = s.tick.open_ ∧
      t.engs = s.engs ∧ t.chans = s.chans := by
  have hsign := freeRunExpiry_disabled s hp he
  have hexec : exec .freeRunExpiry s = .next (withEdge freeRunExpiry s) := whenRun_of_run hm
  rw [hexec, withEdge_of_same_number _ _ (congrArg (·.1) hsign)]
  simp only [State.tickSign, Prod.mk.injEq] at hsign
  exact ⟨_, rfl, hsign⟩

end

/-! ### The peers' service leaves the clock of the tick unit alone -/

@[simp] theorem cistReadEvents_clock (a n : Nat) (c : Option Nat) (s : State) : (cistReadEvents a n c s).clock = s.clock := by
  unfold cistReadEvents
  split
  · rfl
  · exact (foldS_clock _ _ _ fun w s => by simp).trans (foldS_clock _ _ _ (cistUeRecord_clock c))

@[simp] theorem noteTag_clock (o : PumpOp) (s : State) : (noteTag o s).clock = s.clock := by
  unfold noteTag
  dsimp only
  split
  · rfl
  · rfl

@[simp] theorem tagStall_clock (s : State) : (tagStall s).clock = s.clock := by
  unfold tagStall
  simp

theorem readPiece_clock (x : Access) (m : Moving) (lanes : List Int) : (readPiece x m lanes).1.s.clock = m.s.clock := by
  unfold readPiece
  dsimp only
  repeat' split
  all_goals simp

theorem writePiece_clock (x : Access) (m : Moving) (lanes : List (Int × List Byte)) :
    (writePiece x m lanes).s.clock = m.s.clock := by
  unfold writePiece
  dsimp only
  repeat' split
  all_goals simp

theorem readLanes_clock (x : Access) (d : Desc) (lanes : List (Option Int)) (m : Moving) :
    (readLanes x d lanes m).1.s.clock = m.s.clock := by
  unfold readLanes
  refine foldl_clockM1 _ _ _ fun m g => ?_
  dsimp only
  split
  · rfl
  · exact readPiece_clock x m.1 _

theorem writeLanes_clock (x : Access) (lanes : List (Option Int × List Byte)) (m : Moving) :
    (writeLanes x lanes m).s.clock = m.s.clock :=
  foldl_clockM _ _ _ fun m _ => writePiece_clock x m _

theorem enqueue_clock (p : Nat) (f : TxFrame) (s : State) : (enqueue p f s).clock = s.clock := rfl

theorem dropBlock_clock (p x e : Nat) (s : State) : (dropBlock p x e s).clock = s.clock := rfl

theorem serveRead_clock (p : Nat) (o : PumpOp) (b : PeerBlock) (s : State) : (serveRead p o b s).clock = s.clock := by
  unfold serveRead
  dsimp only
  rw [completeOp_clock, foldS_clock _ _ _ fun x s => enqueue_clock p _ s, dropBlock_clock, readLanes_clock]

theorem serveWrite_clock (p i : Nat) (b : PeerBlock) (s : State) : (serveWrite p i b s).clock = s.clock := by
  unfold serveWrite
  split
  · rfl
  · extract_lets as m0 lanes m o1 s1
    have h1 : s1.clock = s.clock := writeLanes_clock _ lanes m0
    split
    · rw [enqueue_clock, dropBlock_clock, completeOp_clock, h1]
    · exact h1

theorem startBlock_clock (p k : Nat) (b : PeerBlock) (s : State) : (startBlock p k b s).clock = s.clock := by
  unfold startBlock
  split
  · rfl
  · extract_lets o s1 b1
    have h1 : s1.clock = s.clock := noteTag_clock o { s with ops := s.ops ++ [o], nextOp := s.nextOp + 1 }
    split
    · rw [serveWrite_clock]
      exact h1
    · rw [serveRead_clock, h1]

theorem stallBlock_clock (p : Nat) (b : PeerBlock) (s : State) : (stallBlock p b s).clock = s.clock := by
  unfold stallBlock
  split
  · rfl
  · exact tagStall_clock _

theorem serveNext_clock (granted : Bool) (p : Nat) (s : State) : (serveNext granted p s).1.clock = s.clock := by
  unfold serveNext
  split
  · rfl
  split
  · rfl
  split
  · rfl
  split
  · exact stallBlock_clock _ _ _
  rw [apply_ite Prod.fst, clock_ite, stallBlock_clock, startBlock_clock]
  exact ite_self _

theorem servePort_clock (n p : Nat) (s : State) : (servePort n p s).clock = s.clock := by
  induction n generalizing s with
  | zero => rfl
  | succ n ih =>
    unfold servePort
    dsimp only
    split
    · rw [ih, serveNext_clock]
    · exact serveNext_clock false p s

theorem servePeers_clock (s : State) : (servePeers s).clock = s.clock :=
  foldS_clock _ _ _ fun p s => servePort_clock _ p s

/-! ### A wake from Hush starts no tick (R83, R506) -/

/-- The number of the tick and the last accepted edge. -/
def State.tickCount (s : State) : Nat × Option Nat := (s.tick.number, s.tick.lastEdge)

theorem State.tickCount_of_clock {s t : State} (h : t.clock = s.clock) : t.tickCount = s.tickCount :=
  congrArg (fun x : Nat × TickUnit => (x.2.number, x.2.lastEdge)) h

theorem leaveUp_clock (p reason : Nat) (paused : Bool) (s : State) : (leaveUp p reason paused s).clock = s.clock := by
  unfold leaveUp
  simp

theorem restartBlock_tickCount (b : SleepBlock) (s : State) : (restartBlock b s).tickCount = s.tickCount := by
  unfold restartBlock
  split
  · rfl
  · dsimp only
    split
    · exact State.tickCount_of_clock (leaveUp_clock _ _ _ _)
    · rfl
  · rfl
  · rfl

theorem powerEvent_tick (i : Nat) (s : State) : (powerEvent i s).tick = s.tick := congrArg (·.1) (powerEvent_tickPath i s)

theorem startRequest_tickCount (r : PowerReq) (s : State) : (startRequest r s).tickCount = s.tickCount := by
  unfold startRequest
  split
  · split
    · rw [State.tickCount, powerEvent_tick, State.tickCount]
    · unfold beginChange
      dsimp only
      split <;> rfl
  · rfl

theorem endRequest_tickCount (s : State) : (endRequest s).tickCount = s.tickCount := by
  unfold endRequest startPending
  split
  · rfl
  · exact startRequest_tickCount _ _

theorem restarted_tickCount (s : State) : (restarted s).tickCount = s.tickCount :=
  foldS_keeps State.tickCount restartBlock restartBlock_tickCount _ _

theorem hushExit_tickCount (src addr : Nat) (s : State) : (hushExit src addr s).tickCount = s.tickCount := by
  have hrecord : (wakeRecorded src addr (restarted s)).tickCount = (restarted s).tickCount :=
    congrArg (fun t : TickUnit => (t.number, t.lastEdge)) (powerEvent_tick _ _)
  rw [hushExit_eq, State.tickCount_of_clock (servePeers_clock _), endRequest_tickCount, ← restarted_tickCount s, ← hrecord]
  rfl

theorem tickWake_asleep (s : State) (hm : s.power.mode = .hush ∨ s.power.mode = .dormant ∨ s.power.mode = .off) :
    (tickWake s).tickCount = s.tickCount := by
  unfold tickWake wakeEvent
  split
  · rcases hm with hm | hm | hm
    · rw [hm]
      exact hushExit_tickCount 4 0 s
    · rw [hm]
      rfl
    · rw [hm]
  · rfl

theorem exec_tickEdge_asleep (dt : Nat) (s : State)
    (hm : s.power.mode = .hush ∨ s.power.mode = .dormant ∨ s.power.mode = .off) :
    ∃ t, exec (.tickEdge dt) s = .next t ∧ t.tick.number = s.tick.number ∧ t.tick.lastEdge = s.tick.lastEdge := by
  have hrun : s.power.mode ≠ .run := by rcases hm with hm | hm | hm <;> simp [hm]
  have hexec : exec (.tickEdge dt) s = .next (tickWake s) := by
    change Host.Outcome.next (tickPin dt s) = _
    rw [tickPin, if_neg hrun]
  have hcount := tickWake_asleep s hm
  simp only [State.tickCount, Prod.mk.injEq] at hcount
  exact ⟨_, hexec, hcount⟩

/-- Settles O8: an edge is only a wake event while the device sleeps, and takes no snapshot while ENABLE = 0 is in force. -/
theorem noTickWhileDisabledOrAsleep : Obligations.NoTickWhileDisabledOrAsleep := by
  unfold Obligations.NoTickWhileDisabledOrAsleep
  exact ⟨exec_tickEdge_asleep, fun dt s hm he hp =>
    ⟨exec_tickEdge_disabled s hp he hm dt, exec_freeRunExpiry_disabled s hp he hm⟩⟩

end Sys2Proof.Machine

/-! ## The guard edge (R69 to R73) -/

namespace Sys2Proof.Machine

/-! ### A buttress verdict (R70, R342) -/

/-- A channel on duty, served and without a verdict (R70). -/
def isLate (s : State) (c : Nat) : Bool := (s.chan c).st.onDuty && (s.chan c).served && !(s.chan c).latched

/-- What a channel shows of its verdict: its state, CH_SCORE and CH_VERDICT. -/
def State.verdict (s : State) (c : Nat) : Channel × Word × Word := (s.chan c, s.rd (CH c) 0x10, s.rd (CH c) 0x11)

/-- The channels, the register file and the engines. -/
def State.plates (s : State) : List Channel × RegFile × Part × Straps × List Engine :=
  (s.chans, s.regs, s.part, s.straps, s.engs)

theorem State.rd_of_plates {s t : State} (h : t.plates = s.plates) (a r : Nat) : t.rd a r = s.rd a r := by
  simp only [State.plates, Prod.mk.injEq] at h
  obtain ⟨-, hregs, hpart, hstraps, -⟩ := h
  exact State.rd_regs s t a r hregs hpart hstraps

theorem State.chan_of_plates {s t : State} (h : t.plates = s.plates) (c : Nat) : t.chan c = s.chan c := by
  simp only [State.plates, Prod.mk.injEq] at h
  obtain ⟨hchans, -, hpart, -, -⟩ := h
  rw [State.chan, State.chan, hchans, hpart]

theorem formReport_plates (s : State) : (formReport s).plates = s.plates := by
  unfold formReport
  split
  · rfl
  · split <;> rfl

theorem journal_plates (typ chan cls flags score aux rim tb : Nat) (payload : List Byte) (s : State) :
    (journal typ chan cls flags score aux rim tb payload s).plates = s.plates := by
  unfold journal numberEntry
  dsimp only
  split
  · split <;> rfl
  · rfl

/-- Journalling a verdict remembers its class in the channel, and leaves the rest of the plates. -/
theorem journalVerdict_plates (c cls kind flags score : Nat) (payload : List Byte) (s : State) :
    (journalVerdict c cls kind flags score payload s).plates =
      (s.modChan c (fun ch => { ch with prevRep := some cls })).plates := by
  unfold journalVerdict
  extract_lets ch s1
  have h1 : s1.plates = s.plates := by
    unfold s1
    split
    · exact journal_plates _ _ _ _ _ _ _ _ _ _
    · rfl
  simp only [State.plates, Prod.mk.injEq] at h1
  obtain ⟨hchans, hregs, hpart, hstraps, hengs⟩ := h1
  simp only [State.plates, State.modChan, hchans, hregs, hpart, hstraps, hengs]

/-- The score of a buttress verdict: 0xFFFF for class 7, or where a comparator has tripped (R70, R342). -/
def buttressScore (s : State) (c cls : Nat) : Nat := if cls = 7 ∨ (s.chan c).btRec ≠ 0 then 0xFFFF else 0

/-- A buttress verdict latches in the channel and its two registers, and nowhere else on the plates. -/
theorem latchButtress_plates (c cls : Nat) (s : State) :
    (latchButtress c cls s).plates =
      ((latchRegs c (buttressScore s c cls) 0 cls true (s.modChan c (fun ch =>
        { ch with latched := true, repClass := cls, lateLast := decide (cls = 7) }))).modChan c
          (fun ch => { ch with prevRep := some cls })).plates := by
  unfold latchButtress
  dsimp only
  rw [formReport_plates, journalVerdict_plates]
  rfl

section
variable (c cls : Nat) (s : State)

theorem latchButtress_rd_other (a r : Nat) (h10 : key a r ≠ key (CH c) 0x10) (h11 : key a r ≠ key (CH c) 0x11) :
    (latchButtress c cls s).rd a r = s.rd a r := by
  rw [State.rd_of_plates (latchButtress_plates c cls s)]
  exact (State.rd_wr_other _ _ _ _ _ _ h11).trans (State.rd_wr_other _ _ _ _ _ _ h10)

theorem latchButtress_chan_other (x : Nat) (hx : c ≠ x) : (latchButtress c cls s).chan x = s.chan x := by
  rw [State.chan_of_plates (latchButtress_plates c cls s), State.chan_modChan_other _ _ _ _ hx]
  exact State.chan_modChan_other s _ _ _ hx

theorem latchButtress_chan (hc : c < s.chans.length) :
    (latchButtress c cls s).chan c =
      { s.chan c with latched := true, repClass := cls, lateLast := decide (cls = 7), prevRep := some cls } := by
  rw [State.chan_of_plates (latchButtress_plates c cls s), State.chan_modChan_same _ _ _ (by simpa [latchRegs] using hc)]
  have hin := State.chan_modChan_same s c
    (fun ch => { ch with latched := true, repClass := cls, lateLast := decide (cls = 7) }) hc
  exact congrArg (fun ch : Channel => { ch with prevRep := some cls }) hin

variable (hs : s.regs.Pairwise (fun x y => x.1 < y.1))
include hs

theorem latchButtress_rises : (latchButtress c cls s).regs.Pairwise (fun x y => x.1 < y.1) := by
  have h := congrArg (·.2.1) (latchButtress_plates c cls s)
  exact (show (latchButtress c cls s).regs = _ from h) ▸ State.wr_rises _ _ _ _ (State.wr_rises _ _ _ _ hs)

theorem latchButtress_score : (latchButtress c cls s).rd (CH c) 0x10 = word (buttressScore s c cls) := by
  rw [State.rd_of_plates (latchButtress_plates c cls s)]
  exact (State.rd_wr_other _ _ _ _ _ _ (by simp only [key]; omega)).trans (State.rd_wr_same _ _ _ _ hs)

theorem latchButtress_class (hcls : cls < 16) : wfld ((latchButtress c cls s).rd (CH c) 0x11) 0 4 = cls := by
  rw [State.rd_of_plates (latchButtress_plates c cls s)]
  have hrd : ∀ x : State, x.regs.Pairwise (fun x y => x.1 < y.1) →
      wfld ((latchRegs c (buttressScore s c cls) 0 cls true x).rd (CH c) 0x11) 0 4 = cls := by
    intro x hx
    unfold latchRegs
    dsimp only
    rw [State.rd_wr_same _ _ _ _ (State.wr_rises _ _ _ _ hx)]
    simp only [wfld, fld, verdictWord, word, BitVec.toNat_ofNat, Nat.shiftRight_zero]
    omega
  exact hrd _ hs

end

/-! ### The guard edge for one channel (R70, R72) -/

theorem guardChannel_eq (c : Nat) (s : State) :
    guardChannel c s = if isLate s c then raise evLate (bump16 DEV 0x25 1 (latchButtress c 7 s)) else s := by
  simp only [guardChannel, isLate, Bool.and_eq_true, Bool.not_eq_true', and_assoc]

theorem guardChannel_of_not_late {c : Nat} {s : State} (h : isLate s c = false) : guardChannel c s = s := by
  rw [guardChannel_eq, if_neg (by simp [h])]

theorem isLate_of_chan {s t : State} {c : Nat} (h : t.chan c = s.chan c) : isLate t c = isLate s c := by
  simp only [isLate, h]

theorem raise_chan (i x : Nat) (s : State) : (raise i s).chan x = s.chan x := by
  unfold raise
  dsimp only
  split <;> rfl

theorem bump16_rd_other (t r d a x : Nat) (s : State) (h : key a x ≠ key t r) : (bump16 t r d s).rd a x = s.rd a x :=
  State.rd_wr_other _ _ _ _ _ _ h

theorem isLate_lt {s : State} {c : Nat} (h : isLate s c = true) : c < s.chans.length := by
  refine Nat.lt_of_not_le fun hle => ?_
  rw [isLate, State.chan, nth, List.getD_eq_default _ _ hle] at h
  cases h

section
variable {c : Nat} {s : State}

/-- A late channel latches class 7, is counted and raises LATE (R70, R72). -/
theorem guardChannel_of_late (h : isLate s c = true) :
    guardChannel c s = raise evLate (bump16 DEV 0x25 1 (latchButtress c 7 s)) := by
  rw [guardChannel_eq, if_pos h]

theorem guardChannel_chan_of_late (h : isLate s c = true) (x : Nat) :
    (guardChannel c s).chan x = (latchButtress c 7 s).chan x := by
  rw [guardChannel_of_late h, raise_chan]
  rfl

theorem guardChannel_rd_of_late (h : isLate s c = true) (x r : Nat) (hr : r < 256) :
    (guardChannel c s).rd (CH x) r = (latchButtress c 7 s).rd (CH x) r := by
  rw [guardChannel_of_late h, raise_rd_other _ _ _ _ (by simp only [key, CH, DEV]; omega),
    bump16_rd_other _ _ _ _ _ _ (by simp only [key, CH, DEV]; omega)]

/-- A channel's late verdict leaves the verdicts of the others. -/
theorem guardChannel_verdict_other (x : Nat) (hx : c ≠ x) : (guardChannel c s).verdict x = s.verdict x := by
  cases h : isLate s c with
  | false => rw [guardChannel_of_not_late h]
  | true =>
    have hkey : ∀ r, r < 256 → ∀ k, k < 256 → key (CH x) r ≠ key (CH c) k := by
      intro r hr k hk
      simp only [key, CH]
      omega
    have hrd : ∀ r, r < 256 → (guardChannel c s).rd (CH x) r = s.rd (CH x) r := fun r hr => by
      rw [guardChannel_rd_of_late h x r hr,
        latchButtress_rd_other _ _ _ _ _ (hkey r hr _ (by decide)) (hkey r hr _ (by decide))]
    rw [State.verdict, State.verdict, guardChannel_chan_of_late h, latchButtress_chan_other _ _ _ _ hx,
      hrd _ (by decide), hrd _ (by decide)]

/-- A channel that is not late keeps its verdict while the others latch theirs. -/
theorem guardChannel_verdict_of_not_late (x : Nat) (hx : isLate s x = false) :
    (guardChannel c s).verdict x = s.verdict x := by
  by_cases hcx : c = x
  · subst hcx
    rw [guardChannel_of_not_late hx]
  · exact guardChannel_verdict_other x hcx

theorem isLate_of_verdict {t : State} (h : t.verdict c = s.verdict c) : isLate t c = isLate s c :=
  isLate_of_chan (congrArg (·.1) h)

theorem guardChannel_chans_length : (guardChannel c s).chans.length = s.chans.length :=
  congrArg (·.2.1.chans) (guardChannel_frame c s)

variable (hs : s.regs.Pairwise (fun x y => x.1 < y.1))
include hs

theorem guardChannel_rises : (guardChannel c s).regs.Pairwise (fun x y => x.1 < y.1) := by
  rw [guardChannel_eq]
  split
  · exact raise_rises _ _ (State.wr_rises _ _ _ _ (latchButtress_rises c 7 s hs))
  · exact hs

/-- LATE_COUNT takes one for a late channel, up to 0xFFFF (R72). -/
theorem guardChannel_count :
    ((guardChannel c s).rd DEV 0x25).toNat = min 0xFFFF ((s.rd DEV 0x25).toNat + b2n (isLate s c)) := by
  cases h : isLate s c with
  | false =>
    have hlt := (s.rd DEV 0x25).isLt
    rw [guardChannel_of_not_late h, b2n, if_neg (by decide)]
    omega
  | true =>
    have hbefore : (latchButtress c 7 s).rd DEV 0x25 = s.rd DEV 0x25 :=
      latchButtress_rd_other _ _ _ _ _ (by simp only [key, CH, DEV]; omega) (by simp only [key, CH, DEV]; omega)
    have hbump : (bump16 DEV 0x25 1 (latchButtress c 7 s)).rd DEV 0x25 = satAdd16 (s.rd DEV 0x25) 1 :=
      (State.rd_wr_same _ _ _ _ (latchButtress_rises c 7 s hs)).trans (by rw [hbefore])
    rw [guardChannel_of_late h, raise_rd_other _ _ _ _ (by decide), hbump]
    simp only [satAdd16, word, BitVec.toNat_ofNat, b2n, if_true]
    omega

end

/-! ### The guard edge for all channels -/

/-- Channel `c` has latched the verdict of a late channel: class 7, score 0xFFFF, and LATE is raised (R70). -/
structure State.lateLatched (s : State) (c : Nat) : Prop where
  latched : (s.chan c).latched = true
  reported : (s.chan c).repClass = 7
  score : s.rd (CH c) 0x10 = 0xFFFF
  cls : wfld (s.rd (CH c) 0x11) 0 4 = 7
  event : s.bit DEV 0x05 evLate = true

theorem State.lateLatched.not_late {s : State} {c : Nat} (h : s.lateLatched c) : isLate s c = false := by
  simp [isLate, h.latched]

section
variable {s : State} (hs : s.regs.Pairwise (fun x y => x.1 < y.1))
include hs

theorem guardChannel_latches {c : Nat} (h : isLate s c = true) : (guardChannel c s).lateLatched c where
  latched := by rw [guardChannel_chan_of_late h, latchButtress_chan _ _ _ (isLate_lt h)]
  reported := by rw [guardChannel_chan_of_late h, latchButtress_chan _ _ _ (isLate_lt h)]
  score := by
    rw [guardChannel_rd_of_late h _ _ (by decide), latchButtress_score _ _ _ hs, buttressScore, if_pos (.inl rfl)]
    rfl
  cls := by rw [guardChannel_rd_of_late h _ _ (by decide), latchButtress_class _ _ _ hs (by decide)]
  event := by
    rw [guardChannel_of_late h]
    exact raise_bit_event _ _ (State.wr_rises _ _ _ _ (latchButtress_rises c 7 s hs)) (by decide)

/-- LATE stays raised. -/
theorem guardChannel_keeps_event {c : Nat} (h : s.bit DEV 0x05 evLate = true) :
    (guardChannel c s).bit DEV 0x05 evLate = true := by
  rw [guardChannel_eq]
  split
  · exact raise_bit_event _ _ (State.wr_rises _ _ _ _ (latchButtress_rises c 7 s hs)) (by decide)
  · exact h

theorem State.lateLatched.guardChannel {c x : Nat} (h : s.lateLatched x) : (guardChannel c s).lateLatched x := by
  have hv := guardChannel_verdict_of_not_late (c := c) x h.not_late
  have hevent := guardChannel_keeps_event hs (c := c) h.event
  simp only [State.verdict, Prod.mk.injEq] at hv
  obtain ⟨hchan, hscore, hverdict⟩ := hv
  exact ⟨hchan ▸ h.latched, hchan ▸ h.reported, hscore ▸ h.score, hverdict ▸ h.cls, hevent⟩

end

theorem foldS_guard_verdict (cs : List Nat) (s : State) (x : Nat) (hx : isLate s x = false) :
    (foldS guardChannel cs s).verdict x = s.verdict x := by
  induction cs generalizing s with
  | nil => rfl
  | cons c cs ih =>
    have hv := guardChannel_verdict_of_not_late (c := c) x hx
    rw [foldS_cons, ih _ ((isLate_of_verdict hv).trans hx), hv]

theorem foldS_guard_lateLatched (cs : List Nat) (s : State) (hs : s.regs.Pairwise (fun x y => x.1 < y.1)) (x : Nat)
    (h : s.lateLatched x) : (foldS guardChannel cs s).lateLatched x := by
  induction cs generalizing s with
  | nil => exact h
  | cons c cs ih => exact ih _ (guardChannel_rises hs) (h.guardChannel hs)

/-- A late channel among `cs` latches once its turn comes. -/
theorem foldS_guard_latches (cs : List Nat) (s : State) (hs : s.regs.Pairwise (fun x y => x.1 < y.1)) (x : Nat)
    (hx : x ∈ cs) (h : isLate s x = true) : (foldS guardChannel cs s).lateLatched x := by
  induction cs generalizing s with
  | nil => cases hx
  | cons c cs ih =>
    by_cases hcx : c = x
    · subst hcx
      exact foldS_guard_lateLatched cs _ (guardChannel_rises hs) c (guardChannel_latches hs h)
    · have hmem : x ∈ cs := (List.mem_cons.mp hx).resolve_left (Ne.symm hcx)
      exact ih _ (guardChannel_rises hs) hmem ((isLate_of_verdict (guardChannel_verdict_other x hcx)).trans h)

/-- LATE_COUNT takes one for each late channel (R72). -/
theorem foldS_guard_count (cs : List Nat) (hcs : cs.Nodup) (s : State) (hs : s.regs.Pairwise (fun x y => x.1 < y.1)) :
    ((foldS guardChannel cs s).rd DEV 0x25).toNat =
      min 0xFFFF ((s.rd DEV 0x25).toNat + (cs.filter (isLate s)).length) := by
  induction cs generalizing s with
  | nil =>
    have hlt := (s.rd DEV 0x25).isLt
    simp only [foldS_nil, List.filter_nil, List.length_nil]
    omega
  | cons c cs ih =>
    obtain ⟨hc, hcs⟩ := List.nodup_cons.mp hcs
    have hlate : cs.filter (isLate (guardChannel c s)) = cs.filter (isLate s) :=
      List.filter_congr fun x hx => isLate_of_verdict (guardChannel_verdict_other x fun h => hc (h ▸ hx))
    have hlen : ((c :: cs).filter (isLate s)).length = b2n (isLate s c) + (cs.filter (isLate s)).length := by
      cases h : isLate s c <;> simp [h, b2n, Nat.add_comm]
    rw [foldS_cons, ih hcs _ (guardChannel_rises hs), hlate, guardChannel_count hs, hlen]
    omega

/-! ### The fence (R73) -/

theorem suspendBg_fenced (e x : Nat) (s : State) : ((suspendBg e s).eng x).fenced = (s.eng x).fenced := by
  refine nth_modAt_keeps Engine.fenced _ _ _ _ _ fun g => ?_
  split
  · split <;> rfl
  · rfl

/-- One engine is fenced. -/
def fenceAt (e : Nat) (s : State) : State := suspendBg e (s.modEng e (fun g => { g with fenced := some s.tick.number }))

theorem fenceAll_eq (s : State) : fenceAll s = foldS fenceAt (List.range s.part.engines) s := rfl

/-- The fence touches nothing but the engines. -/
theorem fenceAll_eq_engs (s : State) : fenceAll s = { s with engs := (fenceAll s).engs } := by
  have h : ∀ t : State, t = { s with engs := t.engs } → ∀ es, foldS fenceAt es t = { s with engs := (foldS fenceAt es t).engs } :=
    fun t ht es => foldS_inv (fun t : State => t = { s with engs := t.engs }) fenceAt (fun e t ht => by rw [ht]; rfl) es t ht
  exact h s rfl _

theorem fenceAt_fenced (e x : Nat) (s : State) (hx : x < s.engs.length) :
    ((fenceAt e s).eng x).fenced = if x = e then some s.tick.number else (s.eng x).fenced := by
  rw [fenceAt, suspendBg_fenced]
  split
  · next h =>
    subst h
    rw [State.eng_modEng_same _ _ _ hx]
  · next h => rw [State.eng_modEng_other _ _ _ _ h]

theorem foldS_fenceAt_fenced (es : List Nat) (s : State) (x : Nat) (hx : x < s.engs.length) :
    ((foldS fenceAt es s).eng x).fenced = if x ∈ es then some s.tick.number else (s.eng x).fenced := by
  induction es generalizing s with
  | nil => simp [foldS_nil]
  | cons e es ih =>
    have hlen : (fenceAt e s).engs.length = s.engs.length := by simp [fenceAt, suspendBg, State.modEng]
    have hnumber : (fenceAt e s).tick.number = s.tick.number := rfl
    rw [foldS_cons, ih _ (hlen ▸ hx), fenceAt_fenced e x s hx, hnumber]
    by_cases he : x = e <;> simp [he]

/-! ### GUARD_EDGE -/

theorem guardChannel_clock (c : Nat) (s : State) : (guardChannel c s).clock = s.clock := by
  rw [guardChannel_eq]
  split
  · rw [raise_clock, bump16_clock, latchButtress_clock]
  · rfl

theorem foldS_guard_clock (cs : List Nat) (s : State) : (foldS guardChannel cs s).clock = s.clock :=
  foldS_clock _ _ _ guardChannel_clock

theorem foldS_guard_frame (cs : List Nat) (s : State) : (foldS guardChannel cs s).frame = s.frame :=
  foldS_keeps State.frame guardChannel guardChannel_frame cs s

/-- The wait for verdicts ends. -/
def State.shut (s : State) : State := { s with tick := { s.tick with open_ := false } }

theorem closeTick_of_open (s : State) (h : s.tick.open_ = true) : closeTick s = (foldS guardChannel allChans s).shut :=
  if_pos h

theorem guardEdge_of_open (s : State) (h : s.tick.open_ = true) :
    guardEdge s = fenceAll (foldS guardChannel allChans (s.reach (s.tick.snapAt + s.tick.guard))).shut := by
  rw [guardEdge, if_pos h, closeTick_of_open (s.reach _) h]

theorem fenceAll_fenced (s : State) (e : Nat) (hlen : e < s.engs.length) (he : e < s.part.engines) :
    ((fenceAll s).eng e).fenced = some s.tick.number := by
  rw [fenceAll_eq, foldS_fenceAt_fenced _ _ _ hlen, if_pos (List.mem_range.mpr he)]

/-- Settles O9: the guard edge is one fold over the channels, in which each late channel latches once, and one over the
engines. -/
theorem guardEdgeLatchesLate : Obligations.GuardEdgeLatchesLate := by
  unfold Obligations.GuardEdgeLatchesLate
  rintro p s ⟨hpart, hshape⟩ hs hm hopen
  rw [show exec .guardEdge s = .next (guardEdge s) from whenRun_of_run hm, guardEdge_of_open s hopen]
  generalize hr : s.reach (s.tick.snapAt + s.tick.guard) = r
  have hrises : r.regs.Pairwise (fun x y => x.1 < y.1) := by rw [← hr]; exact hs.regs.1
  have hlate : isLate r = isLate s := by rw [← hr]; rfl
  have hverdict : ∀ x, r.verdict x = s.verdict x := fun x => by rw [← hr]; rfl
  have hbefore : (r.rd DEV 0x25).toNat = (s.rd DEV 0x25).toNat := by rw [← hr]; rfl
  have hnow := (congrArg (·.1) (foldS_guard_clock allChans r) :).trans (congrArg State.now hr).symm
  have hnumber := (congrArg (·.2.number) (foldS_guard_clock allChans r) :).trans (congrArg (·.tick.number) hr).symm
  have hframe := (foldS_guard_frame allChans r).trans (congrArg State.frame hr).symm
  have hlatch := foldS_guard_latches allChans r hrises
  have hkeep := foldS_guard_verdict allChans r
  have hcount := foldS_guard_count allChans List.nodup_range r hrises
  rw [hlate] at hlatch hcount
  generalize foldS guardChannel allChans r = f at *
  have hfence := fenceAll_fenced f.shut
  rw [fenceAll_eq_engs]
  refine ⟨_, rfl, hnow, rfl, fun c hc hduty hserved hfree => ?_, fun c hc hnot => ?_, ?_, fun e he => ?_⟩
  · have hl := hlatch c (List.mem_range.mpr hc) (by simp [isLate, hduty, hserved, hfree])
    exact ⟨hl.latched, hl.reported, hl.score, hl.cls, hl.event⟩
  · have hv := (hkeep c (by rw [hlate]; rcases hnot with h | h <;> simp [isLate, h])).trans (hverdict c)
    simp only [State.verdict, Prod.mk.injEq] at hv
    obtain ⟨hchan, hscore, hclass⟩ := hv
    exact ⟨congrArg Channel.latched hchan, congrArg Channel.repClass hchan, hscore, hclass⟩
  · exact hcount.trans (by rw [hbefore]; rfl)
  · have hengs : f.engs.length = p.engines := (congrArg (·.2.1.engs) hframe).trans (congrArg Shape.engs hshape)
    have hfpart : f.part = p := (congrArg (·.1) hframe).trans hpart
    exact (hfence e (by rw [← hengs] at he; exact he) (by rw [← hfpart] at he; exact he)).trans (congrArg some hnumber)

end Sys2Proof.Machine

/-! ## The control of a channel (R156 to R163, R319, R465) -/

namespace Sys2Proof.Machine

/-! ### What an operation on one channel leaves alone -/

/-- From `s` to `t` no channel but `c` moves, nor does an engine, a well, an operation in flight or a register other than
DEV_EVENT. -/
structure State.onlyChan (c : Nat) (s t : State) : Prop where
  others : ∀ x, x ≠ c → t.chan x = s.chan x
  length : t.chans.length = s.chans.length
  engs : t.engs = s.engs
  wells : t.wells = s.wells
  ops : t.ops = s.ops
  rd : ∀ a r, key a r ≠ key DEV 0x05 → t.rd a r = s.rd a r
  rises : s.regs.Pairwise (fun x y => x.1 < y.1) → t.regs.Pairwise (fun x y => x.1 < y.1)

theorem State.onlyChan_refl (c : Nat) (s : State) : s.onlyChan c s :=
  ⟨fun _ _ => rfl, rfl, rfl, rfl, rfl, fun _ _ _ => rfl, id⟩

section
variable {c : Nat} {r s : State}

theorem State.onlyChan.modChan (h : r.onlyChan c s) (f : Channel → Channel) : r.onlyChan c (s.modChan c f) where
  others x hx := (State.chan_modChan_other s c x f (Ne.symm hx)).trans (h.others x hx)
  length := by rw [← h.length]; simp
  engs := h.engs
  wells := h.wells
  ops := h.ops
  rd := h.rd
  rises := h.rises

theorem State.onlyChan.raise (h : r.onlyChan c s) (i : Nat) : r.onlyChan c (raise i s) := by
  have hpath := raise_tickPath i s
  simp only [State.tickPath, Prod.mk.injEq] at hpath
  obtain ⟨-, hchans, hengs, hwells⟩ := hpath
  have hops : (Machine.raise i s).ops = s.ops := congrArg (·.1) (raise_plant i s)
  exact ⟨fun x hx => (raise_chan i x s).trans (h.others x hx), (congrArg List.length hchans).trans h.length,
    hengs.trans h.engs, hwells.trans h.wells, hops.trans h.ops,
    fun a y hk => (raise_rd_other i a y s hk).trans (h.rd a y hk), fun hr => raise_rises i s (h.rises hr)⟩

theorem State.onlyChan.setChState (h : r.onlyChan c s) (st : ChState) : r.onlyChan c (setChState c st s) := by
  unfold Machine.setChState
  split
  · exact h
  · exact (h.modChan _).raise _

theorem State.onlyChan.swapBanks (h : r.onlyChan c s) : r.onlyChan c (swapBanks c s) := (h.modChan _).modChan _

theorem State.onlyChan.finishShutdown (h : r.onlyChan c s) : r.onlyChan c (finishShutdown c s) := by
  unfold Machine.finishShutdown
  extract_lets s1 s2
  have h1 : r.onlyChan c s1 := h.modChan _
  have h2 : r.onlyChan c s2 := by
    unfold s2
    split
    · exact h1.swapBanks
    · exact h1
  split
  · exact h2.modChan _
  · exact (h2.modChan _).setChState _

/-- The outstanding work of a channel is told by its parts, its learning state and the operations in flight. -/
theorem outstanding_congr (hparts : (s.chan c).parts = (r.chan c).parts) (hlearn : (s.chan c).learn = (r.chan c).learn)
    (hops : s.ops = r.ops) : outstanding s c = outstanding r c := by
  simp only [outstanding, hparts, hlearn, hops]

/-! ### The state of a channel -/

theorem setChState_chan (st : ChState) (hc : c < s.chans.length) :
    (setChState c st s).chan c = { s.chan c with st := st } := by
  unfold setChState
  split
  · next h => rw [← h]
  · rw [raise_chan, State.chan_modChan_same _ _ _ hc]

/-- A change of state raises CHAN (R156). -/
theorem setChState_event (st : ChState) (hs : s.regs.Pairwise (fun x y => x.1 < y.1)) (h : (s.chan c).st ≠ st) :
    (setChState c st s).bit DEV 0x05 evChan = true := by
  rw [setChState, if_neg h]
  exact raise_bit_event _ _ hs (by decide)

/-- A channel whose fields `f` changes enters the state `st`. -/
theorem setChState_modChan_chan (f : Channel → Channel) (st : ChState) (hc : c < s.chans.length) :
    (setChState c st (s.modChan c f)).chan c = { f (s.chan c) with st := st } := by
  rw [setChState_chan _ (by simpa using hc), State.chan_modChan_same _ _ _ hc]

theorem setChState_modChan_event (f : Channel → Channel) (st : ChState) (hc : c < s.chans.length)
    (hs : s.regs.Pairwise (fun x y => x.1 < y.1)) (h : (f (s.chan c)).st ≠ st) :
    (setChState c st (s.modChan c f)).bit DEV 0x05 evChan = true :=
  setChState_event _ hs (by rwa [State.chan_modChan_same _ _ _ hc])

end

/-! ### ENABLE = 1 (R156, R158, R161) -/

section
variable {c : Nat} {s : State} (hc : c < s.chans.length)

section
variable (hw : wantsEnable s c = true)
include hw

theorem enableEdge_enters (hst : (s.chan c).st = .off) (hmark : (s.chan c).retMark = false) :
    enableEdge c s = enterActive c s := by
  simp [enableEdge, hw, hst, enterEnabled, hmark]

theorem enableEdge_rearms (hst : (s.chan c).st = .stopping) (hdone : (s.chan c).done = false) :
    enableEdge c s = s.modChan c (fun ch => { ch with rearmed := true }) := by
  simp [enableEdge, hw, hst, hdone]

include hc

/-- A retired mark sends a channel that is enabled to Retired (R157). -/
theorem enableEdge_retires (hst : (s.chan c).st = .off) (hmark : (s.chan c).retMark = true) :
    ((enableEdge c s).chan c).st = .retired ∧ ((enableEdge c s).chan c).enabled = true ∧ s.onlyChan c (enableEdge c s) := by
  have heq : enableEdge c s = setChState c .retired (s.modChan c (fun ch =>
      { ch with enabled := true, rearmed := false, done := false,
                learn := { ch.learn with hold := false, clear := true } })) := by
    simp [enableEdge, hw, hst, enterEnabled, hmark]
  rw [heq, setChState_modChan_chan _ _ hc]
  exact ⟨rfl, rfl, ((State.onlyChan_refl c s).modChan _).setChState _⟩

end

theorem enterActive_onlyChan : s.onlyChan c (enterActive c s) := ((State.onlyChan_refl c s).modChan _).setChState _

include hc

/-- What a channel holds as it enters Active (R158, R313, R320, R339, R366, R370). -/
theorem enterActive_chan :
    (enterActive c s).chan c = { s.chan c with
      st := .active, enabled := true, rearmed := false, done := false, dep := false, prevRep := none, prevEng := none,
      stepped := true,
      learn := { (s.chan c).learn with pos := 0, exp := s.fld (CH c) 0x04 0 5, tainted := false, hold := false,
                                       clear := true, swaps := 0 },
      drift := { (s.chan c).drift with counter := 0, refresh := true } } := setChState_modChan_chan _ _ hc

theorem enterActive_event (hs : s.regs.Pairwise (fun x y => x.1 < y.1)) (hst : (s.chan c).st ≠ .active) :
    (enterActive c s).bit DEV 0x05 evChan = true := setChState_modChan_event _ _ hc hs hst

/-! ### Shut-down and ENABLE = 0 (R159 to R162) -/

theorem swapBanks_chan :
    ∃ l d, (swapBanks c s).chan c = { s.chan c with learn := l, drift := d } ∧ l.clear = true := by
  unfold swapBanks
  rw [State.modDrift, State.modLearn, State.chan_modChan_same _ _ _ (by simpa using hc), State.chan_modChan_same _ _ _ hc]
  exact ⟨_, _, rfl, rfl⟩

/-- The end of a shut-down clears the traces; the channel reads Off, or waits in Stopping when it is re-armed. -/
theorem finishShutdown_chan (hst : (s.chan c).st = .stopping) :
    ∃ l d, (finishShutdown c s).chan c =
      { s.chan c with learn := l, drift := d, done := (s.chan c).rearmed,
                      st := if (s.chan c).rearmed then .stopping else .off } ∧ l.clear = true := by
  unfold finishShutdown
  extract_lets s1 s2
  have hc1 : c < s1.chans.length := by simpa [s1, State.modLearn] using hc
  have hc2 : c < s2.chans.length := by
    unfold s2
    split
    · simpa [swapBanks, State.modDrift, State.modLearn] using hc1
    · exact hc1
  have h1 : s1.chan c = { s.chan c with learn := { (s.chan c).learn with clear := true } } := State.chan_modChan_same _ _ _ hc
  have h2 : ∃ l d, s2.chan c = { s.chan c with learn := l, drift := d } ∧ l.clear = true := by
    unfold s2
    split
    · obtain ⟨l, d, h, hl⟩ := swapBanks_chan hc1
      rw [h1] at h
      exact ⟨l, d, h, hl⟩
    · exact ⟨_, _, h1, rfl⟩
  obtain ⟨l, d, h2, hl⟩ := h2
  refine ⟨l, d, ?_, hl⟩
  split
  · next hre => rw [State.chan_modChan_same _ _ _ hc2, h2, hre, ← hst]
  · next hre => rw [setChState_modChan_chan _ _ hc2, h2, Bool.eq_false_iff.mpr hre]

end

/-- No engine runs a tick program or has one due. -/
theorem due_nil_of_idle {s : State} (h : s.engs.any Engine.tickWork = false) (x : Nat) : (s.eng x).due = [] := by
  by_cases hx : x < s.engs.length
  · have hmem : s.eng x ∈ s.engs := by simp [State.eng, nth, hx]
    have hw := List.any_eq_false.mp h _ hmem
    simp only [Engine.tickWork, Bool.or_eq_true, Bool.not_eq_true', not_or, Bool.not_eq_false] at hw
    exact List.isEmpty_iff.mp hw.1
  · rw [State.eng, nth, List.getD_eq_default _ _ (Nat.le_of_not_lt hx)]
    rfl

/-- Between ticks no start is left to stop. -/
theorem stopStarts_of_idle (c : Nat) {s : State} (h : s.engs.any Engine.tickWork = false) : stopStarts c s = s := by
  unfold stopStarts
  split
  · rfl
  · have hdrop : ∀ x, dropDue x c s = s := fun x => by simp [dropDue, due_nil_of_idle h x]
    exact foldS_inv (fun t => t = s) _ (fun x t ht => by rw [ht, hdrop]) _ s rfl

/-- The channel enters Stopping as its ENABLE = 0 comes into force, before its shut-down is judged. -/
def intoStopping (c : Nat) (s : State) : State :=
  setChState c .stopping (s.modChan c (fun ch => { ch with enabled := false, rearmed := false, done := false }))

section
variable {c : Nat} {s : State} (hw : wantsEnable s c = false)
include hw

theorem disableEdge_disarms (hst : (s.chan c).st = .stopping) (hdone : (s.chan c).done = false) :
    disableEdge c s = s.modChan c (fun ch => { ch with rearmed := false }) := by
  simp [disableEdge, hw, hst, hdone]

omit hw in
theorem intoStopping_onlyChan : s.onlyChan c (intoStopping c s) := ((State.onlyChan_refl c s).modChan _).setChState _

/-- Between ticks a channel that counts enters Stopping, and its shut-down ends at once when it has no work. -/
theorem disableEdge_stops (hst : (s.chan c).st.counting = true) (hidle : s.engs.any Engine.tickWork = false) :
    disableEdge c s =
      if outstanding (intoStopping c s) c then intoStopping c s else finishShutdown c (intoStopping c s) := by
  have hoff : (s.chan c).st ≠ .off := fun h => by rw [h] at hst; cases hst
  have hstop : (s.chan c).st ≠ .stopping := fun h => by rw [h] at hst; cases hst
  have hstarts : stopStarts c (intoStopping c s) = intoStopping c s :=
    stopStarts_of_idle c (by rw [intoStopping_onlyChan.engs]; exact hidle)
  unfold disableEdge
  dsimp only
  rw [if_neg (by simp [hw]), if_neg hoff, if_neg hstop]
  change (if outstanding (stopStarts c (intoStopping c s)) c then stopStarts c (intoStopping c s)
    else finishShutdown c (stopStarts c (intoStopping c s))) = _
  rw [hstarts]

omit hw in
theorem intoStopping_chan (hc : c < s.chans.length) :
    (intoStopping c s).chan c = { s.chan c with st := .stopping, enabled := false, rearmed := false, done := false } :=
  setChState_modChan_chan _ _ hc

omit hw in
theorem intoStopping_event (hc : c < s.chans.length) (hs : s.regs.Pairwise (fun x y => x.1 < y.1))
    (hst : (s.chan c).st.counting = true) : (intoStopping c s).bit DEV 0x05 evChan = true := by
  refine setChState_modChan_event _ _ hc hs fun h => ?_
  rw [show (s.chan c).st = .stopping from h] at hst
  cases hst

end

/-! ### The rows CH_ENABLE, CH_DISABLE, CH_LEARN and SHUTDOWN_COMPLETE -/

theorem State.bit_setB {s : State} (hs : s.regs.Pairwise (fun x y => x.1 < y.1)) (t r i j : Nat) (hj : j < 16) :
    (s.setB t r i).bit t r j = (s.bit t r j || decide (i = j)) := by
  rw [State.bit, State.setB, State.rd_wr_same _ _ _ _ hs, wbit_setBit _ _ _ hj, State.bit]

theorem State.bit_clrB {s : State} (hs : s.regs.Pairwise (fun x y => x.1 < y.1)) (t r i j : Nat) (hj : j < 16) :
    (s.clrB t r i).bit t r j = (s.bit t r j && !decide (i = j)) := by
  rw [State.bit, State.clrB, State.rd_wr_same _ _ _ _ hs, wbit_clrBit _ _ _ hj, State.bit]

theorem CH_key_ne_event (c r : Nat) (hr : r < 256) : key (CH c) r ≠ key DEV 0x05 := by
  simp only [key, CH, DEV]
  omega

section
variable {s : State} {c : Nat} (hs : s.sound) (hm : s.power.mode = .run) (hc : c < 16)

section
include hm hc

theorem exec_chEnable : exec (.chEnable c) s = .next (onEdge (fun s => s.setB (CH c) 0x00 15) (enableEdge c) s) := by
  rw [show exec (.chEnable c) s = .next (forChan c _ s) from whenRun_of_run hm, forChan, if_pos hc]

theorem exec_chDisable : exec (.chDisable c) s = .next (onEdge (fun s => s.clrB (CH c) 0x00 15) (disableEdge c) s) := by
  rw [show exec (.chDisable c) s = .next (forChan c _ s) from whenRun_of_run hm, forChan, if_pos hc]

theorem exec_chLearn : exec (.chLearn c) s = .next (onEdge id (learnEdge c) s) := by
  rw [show exec (.chLearn c) s = .next (forChan c _ s) from whenRun_of_run hm, forChan, if_pos hc]

theorem exec_shutdownComplete : exec (.shutdownComplete c) s = .next (shutdown c s) := by
  rw [show exec (.shutdownComplete c) s = .next (forChan c _ s) from whenRun_of_run hm, forChan, if_pos hc]

/-- During a tick CH_LEARN leaves its field for the next snapshot edge (R78). -/
theorem exec_chLearn_midTick (hmid : midTick s = true) : exec (.chLearn c) s = .next s := by
  rw [exec_chLearn hm hc, onEdge, if_pos hmid]
  rfl

theorem exec_chEnable_between (hmid : midTick s = false) :
    exec (.chEnable c) s = .next (enableEdge c (s.setB (CH c) 0x00 15)) := by
  rw [exec_chEnable hm hc, onEdge, if_neg (by simp [hmid])]

theorem exec_chDisable_between (hmid : midTick s = false) :
    exec (.chDisable c) s = .next (disableEdge c (s.clrB (CH c) 0x00 15)) := by
  rw [exec_chDisable hm hc, onEdge, if_neg (by simp [hmid])]

include hs

theorem exec_chEnable_midTick (hmid : midTick s = true) :
    ∃ t, exec (.chEnable c) s = .next t ∧ t = { s with regs := t.regs } ∧ t.bit (CH c) 0x00 15 = true ∧
      t.bit (CH c) 0x00 14 = s.bit (CH c) 0x00 14 ∧
      (∀ t' r', key t' r' ≠ key (CH c) 0x00 → t.rd t' r' = s.rd t' r') := by
  rw [exec_chEnable hm hc, onEdge, if_pos hmid]
  refine ⟨_, rfl, rfl, ?_, ?_, fun t' r' hk => State.rd_wr_other _ _ _ _ _ _ hk⟩
  · simp [State.bit_setB hs.regs.1]
  · simp [State.bit_setB hs.regs.1]

theorem exec_chDisable_midTick (hmid : midTick s = true) :
    ∃ t, exec (.chDisable c) s = .next t ∧ t = { s with regs := t.regs } ∧ t.bit (CH c) 0x00 15 = false ∧
      t.bit (CH c) 0x00 14 = s.bit (CH c) 0x00 14 ∧
      (∀ t' r', key t' r' ≠ key (CH c) 0x00 → t.rd t' r' = s.rd t' r') := by
  rw [exec_chDisable hm hc, onEdge, if_pos hmid]
  refine ⟨_, rfl, rfl, ?_, ?_, fun t' r' hk => State.rd_wr_other _ _ _ _ _ _ hk⟩
  · simp [State.bit_clrB hs.regs.1]
  · simp [State.bit_clrB hs.regs.1]

end

section
include hs

theorem enable_written : (s.setB (CH c) 0x00 15).bit (CH c) 0x00 15 = true := by simp [State.bit_setB hs.regs.1]

theorem disable_written : (s.clrB (CH c) 0x00 15).bit (CH c) 0x00 15 = false := by simp [State.bit_clrB hs.regs.1]

end

variable (hlen : c < s.chans.length)
include hm hc hlen

theorem exec_chLearn_between (hmid : midTick s = false) :
    ∃ t, exec (.chLearn c) s = .next t ∧ t.chan c = { s.chan c with learnOn := s.bit (CH c) 0x00 14 } ∧
      (∀ x, x ≠ c → t.chan x = s.chan x) ∧ t.regs = s.regs := by
  rw [exec_chLearn hm hc, onEdge, if_neg (by simp [hmid])]
  exact ⟨_, rfl, State.chan_modChan_same _ _ _ hlen,
    ((State.onlyChan_refl c s).modChan _).others, rfl⟩

theorem exec_shutdownComplete_ends (hst : (s.chan c).st = .stopping) (hdone : (s.chan c).done = false)
    (hout : outstanding s c = false) :
    ∃ t, exec (.shutdownComplete c) s = .next t ∧ (t.chan c).learn.clear = true ∧
      (t.chan c).st = (if (s.chan c).rearmed then .stopping else .off) ∧ (t.chan c).done = (s.chan c).rearmed ∧
      (∀ x, x ≠ c → t.chan x = s.chan x) ∧ t.engs = s.engs := by
  rw [exec_shutdownComplete hm hc, shutdown, if_pos ⟨hst, hdone, hout⟩]
  have honly := (State.onlyChan_refl c s).finishShutdown
  obtain ⟨l, d, hchan, hl⟩ := finishShutdown_chan hlen hst
  exact ⟨_, rfl, by rw [hchan]; exact hl, by rw [hchan], by rw [hchan], honly.others, honly.engs⟩

variable (hmid : midTick s = false)
include hs hmid

theorem exec_chEnable_enters (hst : (s.chan c).st = .off) (hmark : (s.chan c).retMark = false) :
    ∃ t, exec (.chEnable c) s = .next t ∧ (t.chan c).st = .active ∧ (t.chan c).enabled = true ∧
      (t.chan c).learn.pos = 0 ∧ (t.chan c).learn.exp = s.fld (CH c) 0x04 0 5 ∧ (t.chan c).learn.clear = true ∧
      (t.chan c).learn.hold = false ∧ (t.chan c).drift.refresh = true ∧ (t.chan c).drift.counter = 0 ∧
      (t.chan c).dep = false ∧ t.bit (CH c) 0x00 15 = true ∧ t.bit DEV 0x05 evChan = true ∧
      (∀ x, x ≠ c → t.chan x = s.chan x) ∧ t.engs = s.engs ∧ t.wells = s.wells := by
  have hw := enable_written hs (c := c)
  have hrises : (s.setB (CH c) 0x00 15).regs.Pairwise (fun x y => x.1 < y.1) := State.wr_rises _ _ _ _ hs.regs.1
  have hexp : (s.setB (CH c) 0x00 15).fld (CH c) 0x04 0 5 = s.fld (CH c) 0x04 0 5 :=
    congrArg (wfld · 0 5) (State.rd_wr_other _ _ _ _ _ _ (by simp only [key]; omega))
  have hlen' : c < (s.setB (CH c) 0x00 15).chans.length := hlen
  rw [exec_chEnable_between hm hc hmid, enableEdge_enters hw hst hmark, ← hexp]
  have honly : (s.setB (CH c) 0x00 15).onlyChan c (enterActive c (s.setB (CH c) 0x00 15)) := enterActive_onlyChan
  have hevent := enterActive_event hlen' hrises (by rw [show ((s.setB (CH c) 0x00 15).chan c).st = .off from hst]; decide)
  have hchan := enterActive_chan hlen'
  have hbit : (enterActive c (s.setB (CH c) 0x00 15)).bit (CH c) 0x00 15 = true := by
    rw [State.bit, honly.rd _ _ (CH_key_ne_event c _ (by decide))]
    exact hw
  refine ⟨_, rfl, ?_⟩
  rw [hchan]
  exact ⟨rfl, rfl, rfl, rfl, rfl, rfl, rfl, rfl, rfl, hbit, hevent, honly.others, honly.engs, honly.wells⟩

theorem exec_chEnable_retires (hst : (s.chan c).st = .off) (hmark : (s.chan c).retMark = true) :
    ∃ t, exec (.chEnable c) s = .next t ∧ (t.chan c).st = .retired ∧ (t.chan c).enabled = true ∧
      (∀ x, x ≠ c → t.chan x = s.chan x) := by
  rw [exec_chEnable_between hm hc hmid]
  obtain ⟨hretired, hen, honly⟩ := enableEdge_retires (s := s.setB (CH c) 0x00 15) hlen
    (enable_written hs) hst hmark
  exact ⟨_, rfl, hretired, hen, honly.others⟩

theorem exec_chEnable_rearms (hst : (s.chan c).st = .stopping) (hdone : (s.chan c).done = false) :
    ∃ t, exec (.chEnable c) s = .next t ∧ t.chan c = { s.chan c with rearmed := true } ∧
      (∀ x, x ≠ c → t.chan x = s.chan x) := by
  rw [exec_chEnable_between hm hc hmid, enableEdge_rearms (enable_written hs) hst hdone]
  exact ⟨_, rfl, State.chan_modChan_same _ _ _ hlen,
    ((State.onlyChan_refl c _).modChan _).others⟩

theorem exec_chDisable_disarms (hst : (s.chan c).st = .stopping) (hdone : (s.chan c).done = false) :
    ∃ t, exec (.chDisable c) s = .next t ∧ t.chan c = { s.chan c with rearmed := false } ∧
      (∀ x, x ≠ c → t.chan x = s.chan x) := by
  rw [exec_chDisable_between hm hc hmid, disableEdge_disarms (disable_written hs) hst hdone]
  exact ⟨_, rfl, State.chan_modChan_same _ _ _ hlen,
    ((State.onlyChan_refl c _).modChan _).others⟩

theorem exec_chDisable_stops (hst : (s.chan c).st.counting = true) :
    ∃ u, (s.clrB (CH c) 0x00 15).onlyChan c u ∧
      u.chan c = { s.chan c with st := .stopping, enabled := false, rearmed := false, done := false } ∧
      u.bit DEV 0x05 evChan = true ∧
      exec (.chDisable c) s = .next (if outstanding s c then u else finishShutdown c u) := by
  have hlen' : c < (s.clrB (CH c) 0x00 15).chans.length := hlen
  have hidle : s.engs.any Engine.tickWork = false := (Bool.or_eq_false_iff.mp hmid).2
  have hchan := intoStopping_chan hlen'
  have honly := intoStopping_onlyChan (c := c) (s := s.clrB (CH c) 0x00 15)
  have hout : outstanding (intoStopping c (s.clrB (CH c) 0x00 15)) c = outstanding s c :=
    outstanding_congr (by rw [hchan]; rfl) (by rw [hchan]; rfl) honly.ops
  refine ⟨_, honly, hchan, intoStopping_event hlen' (State.wr_rises _ _ _ _ hs.regs.1) hst, ?_⟩
  rw [exec_chDisable_between hm hc hmid, disableEdge_stops (disable_written hs) hst hidle, hout]

theorem exec_chDisable_waits (hst : (s.chan c).st.counting = true) (hout : outstanding s c = true) :
    ∃ t, exec (.chDisable c) s = .next t ∧ (t.chan c).st = .stopping ∧ (t.chan c).enabled = false ∧
      t.bit (CH c) 0x00 15 = false ∧ t.bit DEV 0x05 evChan = true ∧ (∀ x, x ≠ c → t.chan x = s.chan x) := by
  obtain ⟨u, honly, hchan, hevent, hexec⟩ := exec_chDisable_stops hs hm hc hlen hmid hst
  rw [if_pos hout] at hexec
  refine ⟨u, hexec, by rw [hchan], by rw [hchan], ?_, hevent, honly.others⟩
  rw [State.bit, honly.rd _ _ (CH_key_ne_event c _ (by decide))]
  exact disable_written hs

theorem exec_chDisable_ends (hst : (s.chan c).st.counting = true) (hout : outstanding s c = false) :
    ∃ t, exec (.chDisable c) s = .next t ∧ (t.chan c).st = .off ∧ (t.chan c).enabled = false ∧
      (t.chan c).learn.clear = true ∧ (∀ x, x ≠ c → t.chan x = s.chan x) := by
  obtain ⟨u, honly, hchan, -, hexec⟩ := exec_chDisable_stops hs hm hc hlen hmid hst
  rw [if_neg (by simp [hout])] at hexec
  have hlen' : c < u.chans.length := by rw [honly.length]; exact hlen
  obtain ⟨l, d, hend, hl⟩ := finishShutdown_chan hlen' (by rw [hchan])
  rw [hchan] at hend
  exact ⟨_, hexec, by rw [hend]; rfl, by rw [hend], by rw [hend]; exact hl, honly.finishShutdown.others⟩

end

/-! ### The fault window (R465) -/

/-- Writing 0 to IN_WIN keeps TOTAL. -/
theorem inWin_cleared (w : Word) : wfld (w &&& 0xFF00) 0 8 = 0 ∧ wfld (w &&& 0xFF00) 8 8 = wfld w 8 8 := by
  have hbit : ∀ j, j < 16 → wbit (w &&& 0xFF00) j = (wbit w j && decide (8 ≤ j)) := by
    intro j hj
    have hmask : wbit 0xFF00 j = decide (8 ≤ j) := by
      interval_cases j <;> rfl
    rw [← hmask]
    exact BitVec.getLsbD_and
  constructor
  · refine Nat.eq_of_testBit_eq fun j => ?_
    rw [testBit_wfld, Nat.zero_testBit]
    by_cases hj : j < 8
    · rw [Nat.zero_add, hbit j (by omega), decide_eq_false (show ¬ 8 ≤ j by omega), Bool.and_false, Bool.and_false]
    · rw [decide_eq_false hj, Bool.false_and]
  · refine wfld_congr fun j hj => ?_
    rw [hbit _ (by omega), decide_eq_true (by omega), Bool.and_true]

section
variable {c : Nat} (hc : c < 16)
include hc

theorem regInfo_faultCount (p : Part) (st : Straps) : regInfo p st (CH c) 0x12 = some { rw := 0xFFFF } := by
  simp only [regInfo, target_CH hc]
  rfl

theorem faultCount_not_reserved (p : Part) (v : Word) : reservedWord p (CH c) 0x12 v = false := by
  unfold reservedWord
  iterate 4 rw [if_neg (CH_ne (by decide))]
  rw [if_neg (CH_not_below (by decide)), if_pos (CH_mem hc)]
  rfl

theorem regPut_faultCount (sup : Bool) (i : RegInfo) (v : Word) (s : State) :
    regPut sup (CH c) 0x12 i v s = faultCount c v s := by
  unfold regPut
  dsimp only
  iterate 7 rw [if_neg (CH_ne (by decide))]
  rw [if_neg (CH_not_below (by decide)), if_pos (CH_mem hc), chPut, if_neg (by decide), if_pos rfl, Nat.add_sub_cancel_left]

/-- A host word to CH_FAULT_COUNT loads it. -/
theorem hostWord_faultCount (v : Word) (s : State) : hostWord (CH c) 0x12 v s = faultCount c v s := by
  have hput := wordWrite_regPut (sup := false) (lk := locked s) (s := s) (v := v) (regInfo_faultCount hc _ _)
    (CH_not_window c 0x12) (faultCount_not_reserved hc _ _)
    (by rw [changesLocked_of_no_rwl (CH_ne (by decide)) rfl, Bool.and_false]) (CH_not_breaking _ _ _ _)
  rw [hostWord, hput, regPut_faultCount hc]
  rfl

end

section
variable {s : State} {c : Nat} (hs : s.sound) (hm : s.power.mode = .run) (hc : c < 16) (hlen : c < s.chans.length)
include hs hm hc hlen

theorem exec_inWinClear_ends :
    ∃ t, exec (.inWinClear c) s = .next t ∧ t.chan c = { s.chan c with winLeft := none } ∧
      wfld (t.rd (CH c) 0x12) 0 8 = 0 ∧ wfld (t.rd (CH c) 0x12) 8 8 = wfld (s.rd (CH c) 0x12) 8 8 ∧
      (∀ x, x ≠ c → t.chan x = s.chan x) := by
  obtain ⟨hzero, htotal⟩ := inWin_cleared (s.rd (CH c) 0x12)
  have hexec : exec (.inWinClear c) s = .next (((s.wr (CH c) 0x12 (s.rd (CH c) 0x12 &&& 0xFF00))).modChan c
      (fun ch => { ch with winLeft := none })) := by
    rw [show exec (.inWinClear c) s = .next (forChan c _ s) from whenRun_of_run hm, forChan, if_pos hc,
      hostWord_faultCount hc, faultCount, if_pos hzero]
  have hrd : (s.wr (CH c) 0x12 (s.rd (CH c) 0x12 &&& 0xFF00)).rd (CH c) 0x12 = s.rd (CH c) 0x12 &&& 0xFF00 :=
    State.rd_wr_same _ _ _ _ hs.regs.1
  refine ⟨_, hexec, State.chan_modChan_same _ _ _ hlen, ?_, ?_,
    fun x hx => State.chan_modChan_other (s.wr _ _ _) _ _ _ (Ne.symm hx)⟩
  · exact (congrArg (wfld · 0 8) hrd).trans hzero
  · exact (congrArg (wfld · 8 8) hrd).trans htotal

end

/-- The fault window of channel `c` is closed, before a Watch channel is judged. -/
def windowClosed (c : Nat) (s : State) : State :=
  (s.modChan c (fun ch => { ch with winLeft := none })).wr (CH c) 0x12 (putFld (s.rd (CH c) 0x12) 0 8 0)

theorem endWindow_eq (c : Nat) (s : State) :
    endWindow c s =
      if (s.chan c).st = .watch ∧ (s.chan c).faultTick = false then watchEnds c (windowClosed c s) else windowClosed c s :=
  rfl

theorem windowClosed_inWin {s : State} (c : Nat) (hs : s.regs.Pairwise (fun x y => x.1 < y.1)) :
    wfld ((windowClosed c s).rd (CH c) 0x12) 0 8 = 0 ∧
      wfld ((windowClosed c s).rd (CH c) 0x12) 8 8 = wfld (s.rd (CH c) 0x12) 8 8 := by
  have hrd : (windowClosed c s).rd (CH c) 0x12 = putFld (s.rd (CH c) 0x12) 0 8 0 :=
    State.rd_wr_same (s.modChan c (fun ch => { ch with winLeft := none })) _ _ _ hs
  constructor
  · rw [hrd, wfld_putFld_same _ _ _ _ (by decide) (by decide)]
  · rw [hrd]
    refine wfld_congr fun j hj => ?_
    rw [wbit_putFld _ _ _ _ _ (by omega), if_neg (by omega)]

/-- The window's end clears IN_WIN and keeps TOTAL; a Watch channel without a fault tick to be counted leaves Watch. -/
theorem exec_faultWindowEnd_ends {s : State} {c : Nat} (hs : s.sound) (hm : s.power.mode = .run) (hc : c < 16)
    (hlen : c < s.chans.length) (hwin : (s.chan c).winLeft.isSome = true) :
    ∃ t, exec (.faultWindowEnd c) s = .next t ∧ (t.chan c).winLeft = none ∧ wfld (t.rd (CH c) 0x12) 0 8 = 0 ∧
      wfld (t.rd (CH c) 0x12) 8 8 = wfld (s.rd (CH c) 0x12) 8 8 ∧
      (t.chan c).st = (if (s.chan c).st = .watch ∧ (s.chan c).faultTick = false then .active else (s.chan c).st) ∧
      (∀ x, x ≠ c → t.chan x = s.chan x) := by
  have hexec : exec (.faultWindowEnd c) s = .next (endWindow c s) := by
    rw [show exec (.faultWindowEnd c) s = .next (forChan c _ s) from whenRun_of_run hm, forChan, if_pos hc,
      windowExpires, if_pos hwin]
  have hchan : (windowClosed c s).chan c = { s.chan c with winLeft := none } := State.chan_modChan_same s _ _ hlen
  have hothers : ∀ x, x ≠ c → (windowClosed c s).chan x = s.chan x := fun x hx =>
    State.chan_modChan_other s _ _ _ (Ne.symm hx)
  have hlen1 : c < (windowClosed c s).chans.length := by simpa [windowClosed] using hlen
  obtain ⟨hzero, htotal⟩ := windowClosed_inWin c hs.regs.1
  rw [hexec, endWindow_eq]
  generalize windowClosed c s = u at *
  refine ⟨_, rfl, ?_⟩
  split
  · have honly : u.onlyChan c (watchEnds c u) := ((State.onlyChan_refl c u).modChan _).setChState _
    have hend : (watchEnds c u).chan c = { u.chan c with st := .active, dep := false } := setChState_modChan_chan _ _ hlen1
    have hcount := honly.rd (CH c) 0x12 (CH_key_ne_event c _ (by decide))
    rw [hend, hchan, hcount]
    exact ⟨rfl, hzero, htotal, rfl, fun x hx => (honly.others x hx).trans (hothers x hx)⟩
  · rw [hchan]
    exact ⟨rfl, hzero, htotal, rfl, hothers⟩

theorem State.ofPart.chan_lt {p : Part} {s : State} {c : Nat} (h : s.ofPart p) (hc : c < 16) : c < s.chans.length :=
  Nat.lt_of_lt_of_eq hc (congrArg Shape.chans h.2).symm

/-- Settles O20, one row after another: each is one operation on the channel (`State.onlyChan`), and between ticks a
disabled channel has no start left to stop. -/
theorem channelControl : Obligations.ChannelControl := by
  unfold Obligations.ChannelControl
  refine ⟨fun p s c hp hs hm hc hmid => ?_, fun p s c hp hs hm hc hmid => ?_, fun p s c hp hs hm hc hmid => ?_,
    fun p s c hp hs hm hc => ?_⟩
  · exact ⟨exec_chEnable_midTick hs hm hc hmid, exec_chDisable_midTick hs hm hc hmid, exec_chLearn_midTick hm hc hmid⟩
  · exact ⟨exec_chEnable_enters hs hm hc (hp.chan_lt hc) hmid, exec_chEnable_retires hs hm hc (hp.chan_lt hc) hmid,
      exec_chEnable_rearms hs hm hc (hp.chan_lt hc) hmid⟩
  · exact ⟨exec_chDisable_waits hs hm hc (hp.chan_lt hc) hmid, exec_chDisable_ends hs hm hc (hp.chan_lt hc) hmid,
      exec_chDisable_disarms hs hm hc (hp.chan_lt hc) hmid, exec_chLearn_between hm hc (hp.chan_lt hc) hmid⟩
  · exact ⟨exec_shutdownComplete_ends hm hc (hp.chan_lt hc), exec_inWinClear_ends hs hm hc (hp.chan_lt hc),
      exec_faultWindowEnd_ends hs hm hc (hp.chan_lt hc)⟩

end Sys2Proof.Machine

/-! ## ADMIT (R80, R82, R145 to R147) -/

namespace Sys2Proof.Machine

/-! ### Serving a request (R143, R145) -/

theorem exec_admitReq {s : State} (hm : s.power.mode = .run) : exec .admitReq s = .next (mboxAdmit s) := whenRun_of_run hm

/-- A request that the firmware is not ready to serve waits. -/
theorem serveRequest_shut {s : State} (h : mboxOpen s = false) (code : Nat) (f : State → State × Nat × Nat × Nat × Nat) :
    serveRequest code f s = s := by simp [serveRequest, h]

/-- A request is served on the state in which it has been read, and the reply follows. -/
theorem serveRequest_open {s t : State} {code result low w6 w7 : Nat} {f : State → State × Nat × Nat × Nat × Nat}
    (h : mboxOpen s = true) (hcode : mboxCode s = code) (hf : f (takeRequest s) = (t, result, low, w6, w7)) :
    serveRequest code f s = mboxReply (mbox s 0) result low w6 w7 t := by simp [serveRequest, h, hcode, hf]

/-- The reply's words, before its event. -/
def replyWords (m0 : Word) (result low w6 w7 : Nat) (s : State) : State :=
  (((s.wr SUP 0x0C m0).wr SUP 0x0D (word (result * 256 + low))).wr SUP 0x0E (word w6)).wr SUP 0x0F (word w7)

theorem mboxReply_eq (m0 : Word) (result low w6 w7 : Nat) (s : State) :
    mboxReply m0 result low w6 w7 s = raise evMbox ((replyWords m0 result low w6 w7 s).setB SUP 0x01 11) := rfl

section
variable (m0 : Word) (result low w6 w7 : Nat) (s : State)

/-- The reply writes SUP's reply words and REPLY, and raises its event; no other register moves. -/
theorem mboxReply_rd_other (a r : Nat) (hsup : ∀ k, 1 ≤ k → k < 16 → key a r ≠ key SUP k) (hev : key a r ≠ key DEV 0x05) :
    (mboxReply m0 result low w6 w7 s).rd a r = s.rd a r := by
  rw [mboxReply_eq, raise_rd_other _ _ _ _ hev, State.setB, State.rd_wr_other _ _ _ _ _ _ (hsup 1 (by decide) (by decide)),
    replyWords, State.rd_wr_other _ _ _ _ _ _ (hsup 0x0F (by decide) (by decide)),
    State.rd_wr_other _ _ _ _ _ _ (hsup 0x0E (by decide) (by decide)),
    State.rd_wr_other _ _ _ _ _ _ (hsup 0x0D (by decide) (by decide)),
    State.rd_wr_other _ _ _ _ _ _ (hsup 0x0C (by decide) (by decide))]

theorem mboxReply_rd_DEV (r : Nat) (hr : r < 256) (h5 : r ≠ 5) : (mboxReply m0 result low w6 w7 s).rd DEV r = s.rd DEV r :=
  mboxReply_rd_other _ _ _ _ _ _ _ _ (fun k _ _ => by simp only [key, DEV, SUP]; omega) (by simp only [key, DEV]; omega)

theorem raise_hostReq (i : Nat) (s : State) : (raise i s).sup.hostReq = s.sup.hostReq := by
  unfold raise
  dsimp only
  split <;> rfl

theorem raise_cist (i : Nat) (s : State) : (raise i s).cist = s.cist := congrArg (·.2.2.2.1) (raise_plant i s)

theorem mboxReply_tickPath : (mboxReply m0 result low w6 w7 s).tickPath = s.tickPath := raise_tickPath _ _

theorem mboxReply_cist : (mboxReply m0 result low w6 w7 s).cist = s.cist := raise_cist _ _

theorem replyWords_rises (hs : s.regs.Pairwise (fun x y => x.1 < y.1)) :
    (replyWords m0 result low w6 w7 s).regs.Pairwise (fun x y => x.1 < y.1) := by
  unfold replyWords
  iterate 4 refine State.wr_rises _ _ _ _ ?_
  exact hs

/-- The four words of a reply read back. -/
theorem replyWords_rd (hs : s.regs.Pairwise (fun x y => x.1 < y.1)) :
    (replyWords m0 result low w6 w7 s).rd SUP 0x0C = m0 ∧
      (replyWords m0 result low w6 w7 s).rd SUP 0x0D = word (result * 256 + low) ∧
      (replyWords m0 result low w6 w7 s).rd SUP 0x0E = word w6 ∧ (replyWords m0 result low w6 w7 s).rd SUP 0x0F = word w7 := by
  have h1 := State.wr_rises s SUP 0x0C m0 hs
  have h2 := State.wr_rises _ SUP 0x0D (word (result * 256 + low)) h1
  have h3 := State.wr_rises _ SUP 0x0E (word w6) h2
  unfold replyWords
  refine ⟨?_, ?_, ?_, State.rd_wr_same _ _ _ _ h3⟩
  · iterate 3 rw [State.rd_wr_other _ _ _ _ _ _ (by decide)]
    exact State.rd_wr_same _ _ _ _ hs
  · iterate 2 rw [State.rd_wr_other _ _ _ _ _ _ (by decide)]
    exact State.rd_wr_same _ _ _ _ h1
  · rw [State.rd_wr_other _ _ _ _ _ _ (by decide)]
    exact State.rd_wr_same _ _ _ _ h2

/-- A reply made on a state that still holds the request answers it. -/
theorem mboxReply_answered (r : State) (hs : s.regs.Pairwise (fun x y => x.1 < y.1)) (hreq : s.sup.hostReq = false) :
    answered r (mboxReply (r.rd SUP 0x08) result low w6 w7 s) result low w6 w7 := by
  obtain ⟨hc, hd, he, hf⟩ := replyWords_rd (r.rd SUP 0x08) result low w6 w7 s hs
  have hrises := replyWords_rises (r.rd SUP 0x08) result low w6 w7 s hs
  have hhost : (mboxReply (r.rd SUP 0x08) result low w6 w7 s).sup.hostReq = false := (raise_hostReq _ _).trans hreq
  have hrd : ∀ k, 2 ≤ k → k < 256 → (mboxReply (r.rd SUP 0x08) result low w6 w7 s).rd SUP k =
      (replyWords (r.rd SUP 0x08) result low w6 w7 s).rd SUP k := by
    intro k hk hlt
    rw [mboxReply_eq, raise_rd_other _ _ _ _ (by simp only [key, SUP, DEV]; omega), State.setB,
      State.rd_wr_other _ _ _ _ _ _ (by simp only [key, SUP]; omega)]
  refine ⟨hhost, ?_, ?_, ?_, ?_, ?_, ?_⟩
  · rw [hrd _ (by decide) (by decide), hc]
  · rw [hrd _ (by decide) (by decide), hd]
  · rw [hrd _ (by decide) (by decide), he]
  · rw [hrd _ (by decide) (by decide), hf]
  · rw [mboxReply_eq, State.bit, raise_rd_other _ _ _ _ (by decide)]
    exact (State.bit_setB hrises _ _ _ _ (by decide)).trans (by simp)
  · rw [mboxReply_eq]
    exact raise_bit_event _ _ (State.wr_rises _ _ _ _ hrises) (by decide)

end

/-! ### The outcomes of ADMIT -/

/-- ADMIT is no code that another request of the firmware serves. -/
theorem mboxAdmit_admits {s t : State} {result low w6 w7 : Nat} (h : mboxOpen s = true) (hcode : mboxCode s = 1)
    (hf : admitServe (takeRequest s) = (t, result, low, w6, w7)) :
    mboxAdmit s = mboxReply (s.rd SUP 0x08) result low w6 w7 t := by
  have hserve : (fun s => if mboxCode s = 1 then admitServe s else (s, 4, 0xFF, 0, 0)) (takeRequest s) =
      (t, result, low, w6, w7) := (if_pos hcode).trans hf
  rw [mboxAdmit, if_neg (by rw [hcode]; decide)]
  exact serveRequest_open h rfl hserve

/-- An unknown code is answered BAD_ARGS (R145). -/
theorem mboxAdmit_unknown {s : State} (h : mboxOpen s = true) (hother : otherCode (mboxCode s) = false)
    (hcode : mboxCode s ≠ 1) : mboxAdmit s = mboxReply (s.rd SUP 0x08) 4 0xFF 0 0 (takeRequest s) := by
  have hserve : (fun s => if mboxCode s = 1 then admitServe s else (s, 4, 0xFF, 0, 0)) (takeRequest s) =
      (takeRequest s, 4, 0xFF, 0, 0) := if_neg hcode
  rw [mboxAdmit, if_neg (by simp [hother])]
  exact serveRequest_open h rfl hserve

/-- What an answer that changes nothing leaves: the channels, the engines, the cistern and the device's registers. -/
theorem exec_admitReq_refused {s : State} (hs : s.sound) (hm : s.power.mode = .run) {result low w6 w7 : Nat}
    (h : mboxAdmit s = mboxReply (s.rd SUP 0x08) result low w6 w7 (takeRequest s)) :
    ∃ t, exec .admitReq s = .next t ∧ answered s t result low w6 w7 ∧ t.chans = s.chans ∧ t.engs = s.engs ∧
      t.rd DEV 0x28 = s.rd DEV 0x28 ∧ t.rd DEV 0x22 = s.rd DEV 0x22 := by
  have hpath := mboxReply_tickPath (s.rd SUP 0x08) result low w6 w7 (takeRequest s)
  simp only [State.tickPath, Prod.mk.injEq] at hpath
  obtain ⟨-, hchans, hengs, -⟩ := hpath
  rw [exec_admitReq hm, h]
  exact ⟨_, rfl, mboxReply_answered _ _ _ _ _ s hs.regs.1 rfl, hchans, hengs,
    mboxReply_rd_DEV _ _ _ _ _ _ _ (by decide) (by decide), mboxReply_rd_DEV _ _ _ _ _ _ _ (by decide) (by decide)⟩

theorem admitServe_bad {s : State}
    (h : wfld (mbox s 1) 11 5 = 0 ∨ 1 < b2n (wbit (mbox s 1) 14) + b2n (wbit (mbox s 1) 12) + b2n (wbit (mbox s 1) 11)) :
    admitServe s = (s, 4, 0xFF, 0, 0) := by
  unfold admitServe
  dsimp only
  rw [if_pos]
  rcases h with h | h <;> simp [admitBad, h]

/-! ### A request for a new guard point -/

section
variable {s : State} (hf : wfld (mbox s 1) 11 5 = 1)
include hf

/-- The request names a guard point and nothing else. -/
theorem guardRequest_bits :
    wbit (mbox s 1) 11 = true ∧ wbit (mbox s 1) 12 = false ∧ wbit (mbox s 1) 13 = false ∧ wbit (mbox s 1) 14 = false ∧
      wbit (mbox s 1) 15 = false := by
  have hbit : ∀ j, j < 5 → wbit (mbox s 1) (11 + j) = Nat.testBit 1 j := by
    intro j hj
    have h := testBit_wfld (mbox s 1) 11 5 j
    rw [hf, decide_eq_true hj, Bool.true_and] at h
    exact h.symm
  exact ⟨hbit 0 (by decide), hbit 1 (by decide), hbit 2 (by decide), hbit 3 (by decide), hbit 4 (by decide)⟩

variable (hres : reservedWord s.part DEV 0x28 (mbox s 3) = false)
  (hshare : sharesEngine (allChans.map (mapAfter s none)) (admitAfter s 0 none none) = false)
include hres hshare

theorem guardRequest_not_bad (mask : Nat) :
    admitBad s (mbox s 1) mask (mbox s 3) (allChans.map (mapAfter s none)) (admitAfter s 0 none none) = false := by
  obtain ⟨h11, h12, h13, h14, h15⟩ := guardRequest_bits hf
  simp [admitBad, admitValueBad, hf, h11, h12, h14, hres, hshare, b2n]

/-- What the tests of a request for a guard point say of the configuration that stands. -/
def guardRefusal (s : State) : Option (Nat × Nat) :=
  refusal s (admitAfter s 0 none none) (guarantee (levelNow s)) (admitTimes s (mbox s 3) (s.rd DEV 0x22)).1
    (admitTimes s (mbox s 3) (s.rd DEV 0x22)).2

/-- A request for a guard point: BUSY, NOT_VALID, the test's refusal, or the new guard point with its margin. -/
theorem admitServe_guard :
    admitServe s =
      if levelBusy s then (s, 5, 0xFF, 0, 0)
      else if unmeasured s then (s, 3, 0xFF, 0, 0)
      else match guardRefusal s with
        | some (why, e) => (s, why, e, 0, 0)
        | none => (supWrite DEV 0x28 (mbox s 3) s, 0, 0xFF,
            smallestMargin s (admitAfter s 0 none none) (guarantee (levelNow s))
              (admitTimes s (mbox s 3) (s.rd DEV 0x22)).1, 0) := by
  obtain ⟨h11, h12, h13, h14, h15⟩ := guardRequest_bits hf
  have hbad := guardRequest_not_bad hf hres hshare
  unfold admitServe
  simp only [h11, h12, h13, h14, h15, Bool.false_eq_true, if_false, if_true, hbad, admitGrant, Option.none_or]
  rfl

end

/-- The firmware's word for GUARD_POINT is stored when it is no reserved encoding. -/
theorem supWrite_guardPoint {s : State} {v : Word} (hres : reservedWord s.part DEV 0x28 v = false) :
    supWrite DEV 0x28 v s = s.wr DEV 0x28 v := by
  have hinfo : regInfo s.part s.straps DEV 0x28 = some { rw := 0xFFFF, reset := 0x005A } := rfl
  have hput := wordWrite_regPut (sup := true) (lk := locked s) hinfo rfl hres
    (by rw [changesLocked_of_no_rwl (by decide) rfl, Bool.and_false]) rfl
  have heffect : regPut true DEV 0x28 { rw := 0xFFFF, reset := 0x005A } v s =
      s.wr DEV 0x28 (storedWord { rw := 0xFFFF, reset := 0x005A } (s.rd DEV 0x28) v) := rfl
  rw [supWrite, hput, heffect, storedWord_rw _ _ _ rfl rfl]

section
variable {s : State} (hs : s.sound) (hm : s.power.mode = .run) (hopen : mboxOpen s = true)
include hs hm hopen

theorem exec_admitReq_unknown (hother : otherCode (mboxCode s) = false) (hcode : mboxCode s ≠ 1) :
    ∃ t, exec .admitReq s = .next t ∧ answered s t 4 0xFF 0 0 := by
  obtain ⟨t, hexec, hans, -⟩ := exec_admitReq_refused hs hm (mboxAdmit_unknown hopen hother hcode)
  exact ⟨t, hexec, hans⟩

variable (hcode : mboxCode s = 1)
include hcode

theorem exec_admitReq_bad (h : wfld (s.rd SUP 0x09) 11 5 = 0 ∨
      1 < b2n (wbit (s.rd SUP 0x09) 14) + b2n (wbit (s.rd SUP 0x09) 12) + b2n (wbit (s.rd SUP 0x09) 11)) :
    ∃ t, exec .admitReq s = .next t ∧ answered s t 4 0xFF 0 0 ∧ t.chans = s.chans ∧ t.engs = s.engs ∧
      t.rd DEV 0x28 = s.rd DEV 0x28 ∧ t.rd DEV 0x22 = s.rd DEV 0x22 :=
  exec_admitReq_refused hs hm (mboxAdmit_admits hopen hcode (admitServe_bad (s := takeRequest s) h))

variable (hf : wfld (s.rd SUP 0x09) 11 5 = 1) (hres : reservedWord s.part DEV 0x28 (s.rd SUP 0x0B) = false)
  (hshare : sharesEngine (allChans.map (mapAfter s none)) (admitAfter s 0 none none) = false)
include hf hres hshare

theorem exec_admitReq_busy (hbusy : levelBusy s = true) :
    ∃ t, exec .admitReq s = .next t ∧ answered s t 5 0xFF 0 0 ∧ t.rd DEV 0x28 = s.rd DEV 0x28 := by
  have hserve := admitServe_guard (s := takeRequest s) hf hres hshare
  rw [if_pos (show levelBusy (takeRequest s) = true from hbusy)] at hserve
  obtain ⟨t, hexec, hans, -, -, hgp, -⟩ := exec_admitReq_refused hs hm (mboxAdmit_admits hopen hcode hserve)
  exact ⟨t, hexec, hans, hgp⟩

variable (hbusy : levelBusy s = false) (hmeas : unmeasured s = false)
include hbusy hmeas

/-- A test that the configuration fails answers with its code and the engine, and GUARD_POINT stands. -/
theorem exec_admitReq_fails (why e : Nat) (hr : guardRefusal s = some (why, e)) :
    ∃ t, exec .admitReq s = .next t ∧ answered s t why e 0 0 ∧ t.rd DEV 0x28 = s.rd DEV 0x28 := by
  have hserve := admitServe_guard (s := takeRequest s) hf hres hshare
  rw [if_neg (by rw [show levelBusy (takeRequest s) = false from hbusy]; decide),
    if_neg (by rw [show unmeasured (takeRequest s) = false from hmeas]; decide),
    show guardRefusal (takeRequest s) = some (why, e) from hr] at hserve
  obtain ⟨t, hexec, hans, -, -, hgp, -⟩ := exec_admitReq_refused hs hm (mboxAdmit_admits hopen hcode hserve)
  exact ⟨t, hexec, hans, hgp⟩

/-- A configuration that passes takes the guard point, and the answer names its margin. -/
theorem exec_admitReq_grants (hr : guardRefusal s = none) :
    ∃ t, exec .admitReq s = .next t ∧
      answered s t 0 0xFF (smallestMargin s (admitAfter s 0 none none) (guarantee (levelNow s))
        (admitTimes s (s.rd SUP 0x0B) (s.rd DEV 0x22)).1) 0 ∧
      t.rd DEV 0x28 = s.rd SUP 0x0B ∧ t.chans = s.chans ∧ t.engs = s.engs ∧ t.cist = s.cist := by
  have hserve := admitServe_guard (s := takeRequest s) hf hres hshare
  rw [if_neg (by rw [show levelBusy (takeRequest s) = false from hbusy]; decide),
    if_neg (by rw [show unmeasured (takeRequest s) = false from hmeas]; decide),
    show guardRefusal (takeRequest s) = none from hr] at hserve
  dsimp only at hserve
  rw [supWrite_guardPoint (s := takeRequest s) (v := mbox (takeRequest s) 3) hres] at hserve
  have hrises : ((takeRequest s).wr DEV 0x28 (s.rd SUP 0x0B)).regs.Pairwise (fun x y => x.1 < y.1) :=
    State.wr_rises _ _ _ _ hs.regs.1
  have hgp : ((takeRequest s).wr DEV 0x28 (s.rd SUP 0x0B)).rd DEV 0x28 = s.rd SUP 0x0B := State.rd_wr_same _ _ _ _ hs.regs.1
  rw [exec_admitReq hm, mboxAdmit_admits hopen hcode hserve]
  refine ⟨_, rfl, mboxReply_answered _ _ _ _ _ s hrises rfl, ?_, ?_, ?_, mboxReply_cist _ _ _ _ _ _⟩
  · exact (mboxReply_rd_DEV _ _ _ _ _ _ _ (by decide) (by decide)).trans hgp
  · exact congrArg (·.2.1) (mboxReply_tickPath _ _ _ _ _ _)
  · exact congrArg (·.2.2.1) (mboxReply_tickPath _ _ _ _ _ _)

end

/-- Settles O35, one outcome after another: each is one reply (`mboxReply_answered`) to what the checks of ADMIT find. -/
theorem admitAnswers : Obligations.AdmitAnswers := by
  unfold Obligations.AdmitAnswers
  intro s hs hm
  refine ⟨fun hshut => ?_, fun hopen => ⟨exec_admitReq_unknown hs hm hopen, exec_admitReq_bad hs hm hopen,
    fun hcode hf hres hshare => ⟨exec_admitReq_busy hs hm hopen hcode hf hres hshare, fun hbusy hmeas =>
      ⟨exec_admitReq_fails hs hm hopen hcode hf hres hshare hbusy hmeas,
        exec_admitReq_grants hs hm hopen hcode hf hres hshare hbusy hmeas⟩⟩⟩⟩
  rw [exec_admitReq hm, mboxAdmit, serveRequest_shut hshut, ite_self]

end Sys2Proof.Machine

/-! ## What a snapshot edge leaves of the cloister (R61, R395)

Of the cloister a snapshot edge moves the two snap pulses alone: no unit that acts on the edge touches it. -/

namespace Sys2Proof.Machine

@[simp] theorem clo_ite (p : Prop) [Decidable p] (s t : State) :
    (if p then s else t).clo = if p then s.clo else t.clo := apply_ite State.clo p s t

@[simp] theorem foldS_clo {α : Type} (f : α → State → State) (xs : List α) (s : State)
    (h : ∀ a s, (f a s).clo = s.clo) : (foldS f xs s).clo = s.clo := foldS_keeps State.clo f h xs s

@[simp] theorem State.modPump_clo (s : State) (p : Nat) (f : Pump → Pump) : (s.modPump p f).clo = s.clo := rfl

@[simp] theorem State.setB_clo (s : State) (t r i : Nat) : (s.setB t r i).clo = s.clo := rfl

@[simp] theorem State.clrB_clo (s : State) (t r i : Nat) : (s.clrB t r i).clo = s.clo := rfl

@[simp] theorem State.putB_clo (s : State) (t r i : Nat) (b : Bool) : (s.putB t r i b).clo = s.clo := by
  cases b <;> rfl

@[simp] theorem State.modLearn_clo (s : State) (c : Nat) (f : Learn → Learn) : (s.modLearn c f).clo = s.clo := rfl

@[simp] theorem State.modDrift_clo (s : State) (c : Nat) (f : Drift → Drift) : (s.modDrift c f).clo = s.clo := rfl

/-! ### Events, records and the journal -/

@[simp] theorem raise_clo (i : Nat) (s : State) : (raise i s).clo = s.clo := by
  unfold raise
  dsimp only
  split <;> rfl

@[simp] theorem bump16_clo (t r d : Nat) (s : State) : (bump16 t r d s).clo = s.clo := rfl

@[simp] theorem setChState_clo (c : Nat) (st : ChState) (s : State) : (setChState c st s).clo = s.clo := by
  unfold setChState
  split <;> simp

@[simp] theorem promiseBroken_clo (stall : Bool) (no : Nat) (cs : List Nat) (s : State) :
    (promiseBroken stall no cs s).clo = s.clo := by
  unfold promiseBroken
  extract_lets s1 w tick s2
  have h2 : s2.clo = s.clo := by
    unfold s2 s1
    split <;> simp
  split
  · exact (foldS_clo _ _ _ fun c s => State.modChan_clo s c _).trans h2
  · exact h2

@[simp] theorem faultRecord_clo (src unit chan flags detail detail2 : Nat) (s : State) :
    (faultRecord src unit chan flags detail detail2 s).clo = s.clo := raise_clo _ _

@[simp] theorem tickFault_clo (src unit c no flags detail detail2 : Nat) (s : State) :
    (tickFault src unit c no flags detail detail2 s).clo = s.clo :=
  (promiseBroken_clo _ _ _ _).trans (faultRecord_clo src unit c _ detail detail2 s)

@[simp] theorem memRecord_clo (unit : Nat) (c : Option Nat) (flags detail detail2 : Nat) (s : State) :
    (memRecord unit c flags detail detail2 s).clo = s.clo := by
  unfold memRecord
  split <;> exact faultRecord_clo _ _ _ _ _ _ _

@[simp] theorem numberEntry_clo (bs : List Byte) (s : State) : (numberEntry bs s).clo = s.clo := by
  unfold numberEntry
  dsimp only
  split <;> rfl

@[simp] theorem journal_clo (typ chan cls flags score aux rim tb : Nat) (payload : List Byte) (s : State) :
    (journal typ chan cls flags score aux rim tb payload s).clo = s.clo := by
  unfold journal
  dsimp only
  split
  · exact numberEntry_clo _ _
  · rfl

@[simp] theorem settleEntries_clo (s : State) : (settleEntries s).clo = s.clo := by
  unfold settleEntries
  simp

/-! ### Verdicts -/

@[simp] theorem formReport_clo (s : State) : (formReport s).clo = s.clo := by
  unfold formReport
  split
  · rfl
  · split <;> rfl

@[simp] theorem latchRegs_clo (c score kind cls : Nat) (srcB : Bool) (s : State) :
    (latchRegs c score kind cls srcB s).clo = s.clo := rfl

@[simp] theorem latchButtress_clo (c cls : Nat) (s : State) : (latchButtress c cls s).clo = s.clo := by
  unfold latchButtress journalVerdict
  simp

@[simp] theorem guardChannel_clo (c : Nat) (s : State) : (guardChannel c s).clo = s.clo := by
  rw [guardChannel_eq]
  split <;> simp

@[simp] theorem closeTick_clo (s : State) : (closeTick s).clo = s.clo := by
  unfold closeTick
  split <;> simp

@[simp] theorem collectEntries_clo (s : State) : (collectEntries s).clo = s.clo := rfl

@[simp] theorem class8_clo (s : State) : (class8 s).clo = s.clo := by
  unfold class8
  simp

@[simp] theorem buttressEntry_clo (rim tb c : Nat) (s : State) : (buttressEntry rim tb c s).clo = s.clo := by
  unfold buttressEntry
  simp

/-! ### Programs that start, end and trap -/

@[simp] theorem queueTest_clo (i : BankId) (column : Nat) (s : State) : (queueTest i column s).clo = s.clo := by
  cases i <;> rfl

@[simp] theorem storeReadEvents_clo (e a n : Nat) (c : Option Nat) (s : State) :
    (storeReadEvents e a n c s).clo = s.clo := by
  unfold storeReadEvents
  simp

@[simp] theorem holdFault_clo (e code : Nat) (pc : Option Nat) (s : State) : (holdFault e code pc s).clo = s.clo := rfl

@[simp] theorem engineRecord_clo (e code pc : Nat) (stops : Bool) (k : ProgKind) (no : Nat) (s : State) :
    (engineRecord e code pc stops k no s).clo = s.clo := by
  unfold engineRecord
  dsimp only
  split <;> simp

@[simp] theorem settleDrift_clo (c : Nat) (s : State) : (settleDrift c s).clo = s.clo := by
  unfold settleDrift
  dsimp only
  split <;> rfl

@[simp] theorem tickPartEnded_clo (c e : Nat) (s : State) : (tickPartEnded c e s).clo = s.clo := by
  unfold tickPartEnded
  simp

@[simp] theorem liftAfter_clo (e no : Nat) (s : State) : (liftAfter e no s).clo = s.clo := rfl

@[simp] theorem clearRun_clo (e : Nat) (s : State) : (clearRun e s).clo = s.clo := rfl

@[simp] theorem dropWaiter_clo (e : Nat) (tick : Bool) (s : State) : (dropWaiter e tick s).clo = s.clo := rfl

@[simp] theorem dropDue_clo (x c : Nat) (s : State) : (dropDue x c s).clo = s.clo := by
  unfold dropDue
  split <;> simp

@[simp] theorem endPart_clo (x c : Nat) (s : State) : (endPart x c s).clo = s.clo := by
  unfold endPart
  split <;> simp

@[simp] theorem stopOtherParts_clo (c e : Nat) (s : State) : (stopOtherParts c e s).clo = s.clo := by
  refine foldS_clo _ _ _ fun x s => ?_
  split
  · rfl
  · split <;> simp

@[simp] theorem sweepTrapped_clo (c : Nat) (s : State) : (sweepTrapped c s).clo = s.clo := rfl

@[simp] theorem trapped_clo (e code pc : Nat) (k : ProgKind) (no : Nat) (s : State) :
    (trapped e code pc k no s).clo = s.clo := by
  unfold trapped
  split <;> simp

@[simp] theorem fixBank_clo (r : Run) (s : State) : (fixBank r s).clo = s.clo := by
  unfold fixBank
  split <;> rfl

@[simp] theorem launch_clo (e : Nat) (r : Run) (s : State) : (launch e r s).clo = s.clo := by
  unfold launch
  simp

@[simp] theorem startNext_clo (e : Nat) (s : State) : (startNext e s).clo = s.clo := by
  unfold startNext
  split <;> simp

@[simp] theorem startDue_clo (n : Nat) (s : State) : (startDue n s).clo = s.clo := by
  induction n generalizing s with
  | zero => rfl
  | succ n ih =>
    unfold startDue
    split
    · rfl
    · rw [ih, startNext_clo]

@[simp] theorem scheduleChan_clo (c : Nat) (s : State) : (scheduleChan c s).clo = s.clo := by
  unfold scheduleChan
  exact foldS_clo _ _ _ fun e s => State.modEng_clo s e _

@[simp] theorem overhangAt_clo (e : Nat) (s : State) : (overhangAt e s).clo = s.clo := by
  unfold overhangAt
  split
  · rfl
  · split <;> simp

@[simp] theorem suspendBg_clo (e : Nat) (s : State) : (suspendBg e s).clo = s.clo := rfl

@[simp] theorem ingressAt_clo (starts : Nat → Bool) (e : Nat) (s : State) : (ingressAt starts e s).clo = s.clo := by
  unfold ingressAt
  simp

@[simp] theorem ingress_clo (s : State) : (ingress s).clo = s.clo := by
  unfold ingress startAllDue
  simp

/-! ### A channel on the edge -/

@[simp] theorem enterEnabled_clo (c : Nat) (s : State) : (enterEnabled c s).clo = s.clo := by
  unfold enterEnabled enterActive
  split <;> simp

@[simp] theorem swapBanks_clo (c : Nat) (s : State) : (swapBanks c s).clo = s.clo := rfl

@[simp] theorem finishShutdown_clo (c : Nat) (s : State) : (finishShutdown c s).clo = s.clo := by
  unfold finishShutdown
  simp

@[simp] theorem shutdown_clo (c : Nat) (s : State) : (shutdown c s).clo = s.clo := by
  unfold shutdown
  simp

@[simp] theorem enableEdge_clo (c : Nat) (s : State) : (enableEdge c s).clo = s.clo := by
  unfold enableEdge
  simp

@[simp] theorem stopStarts_clo (c : Nat) (s : State) : (stopStarts c s).clo = s.clo := by
  unfold stopStarts
  simp

@[simp] theorem disableEdge_clo (c : Nat) (s : State) : (disableEdge c s).clo = s.clo := by
  unfold disableEdge
  simp

@[simp] theorem edgeSwap_clo (c : Nat) (s : State) : (edgeSwap c s).clo = s.clo := by
  unfold edgeSwap
  simp

@[simp] theorem settleSweep_clo (c : Nat) (s : State) : (settleSweep c s).clo = s.clo := by
  unfold settleSweep
  simp

@[simp] theorem startSweep_clo (c : Nat) (s : State) : (startSweep c s).clo = s.clo := by
  unfold startSweep
  exact foldS_clo _ _ _ fun e s => State.modEng_clo s e _

@[simp] theorem endEpoch_clo (c : Nat) (held : Bool) (rim tb : Nat) (s : State) :
    (endEpoch c held rim tb s).clo = s.clo := by
  unfold endEpoch
  simp

@[simp] theorem dropPending_clo (c : Nat) (s : State) : (dropPending c s).clo = s.clo := rfl

@[simp] theorem enterRetired_clo (c cause : Nat) (s : State) : (enterRetired c cause s).clo = s.clo := by
  unfold enterRetired
  simp

@[simp] theorem retireChannel_clo (c cause : Nat) (s : State) : (retireChannel c cause s).clo = s.clo := by
  unfold retireChannel
  simp

@[simp] theorem readmitChannel_clo (c : Nat) (s : State) : (readmitChannel c s).clo = s.clo := by
  unfold readmitChannel shadowFail
  simp

@[simp] theorem commandEdge_clo (c : Nat) (s : State) : (commandEdge c s).clo = s.clo := by
  unfold commandEdge
  dsimp only
  split <;> simp

@[simp] theorem watchEnds_clo (c : Nat) (s : State) : (watchEnds c s).clo = s.clo := setChState_clo _ _ _

@[simp] theorem endWindow_clo (c : Nat) (s : State) : (endWindow c s).clo = s.clo := by
  unfold endWindow
  simp

@[simp] theorem windowEdge_clo (c : Nat) (s : State) : (windowEdge c s).clo = s.clo := by
  unfold windowEdge
  split <;> simp

@[simp] theorem countFault_clo (c : Nat) (s : State) : (countFault c s).clo = s.clo := by
  unfold countFault
  simp

@[simp] theorem shadowTick_clo (c : Nat) (s : State) : (shadowTick c s).clo = s.clo := by
  unfold shadowTick
  simp

@[simp] theorem shadowBoundary_clo (c : Nat) (s : State) : (shadowBoundary c s).clo = s.clo := by
  unfold shadowBoundary shadowFail
  simp

@[simp] theorem epochAdvance_clo (c : Nat) (s : State) : (epochAdvance c s).clo = s.clo := by
  unfold epochAdvance
  simp

@[simp] theorem epochBoundary_clo (c : Nat) (held : Bool) (rim tb : Nat) (s : State) :
    (epochBoundary c held rim tb s).clo = s.clo := by
  unfold epochBoundary
  simp

@[simp] theorem leaveButtress_clo (c : Nat) (s : State) : (leaveButtress c s).clo = s.clo := by
  unfold leaveButtress
  simp

@[simp] theorem retiredMap_clo (c : Nat) (s : State) : (retiredMap c s).clo = s.clo := by
  unfold retiredMap
  simp

@[simp] theorem mapsEdge_clo (c : Nat) (s : State) : (mapsEdge c s).clo = s.clo := rfl

@[simp] theorem driftEdge_clo (c : Nat) (s : State) : (driftEdge c s).clo = s.clo := rfl

@[simp] theorem learnEdge_clo (c : Nat) (s : State) : (learnEdge c s).clo = s.clo := rfl

@[simp] theorem channelEdge_clo (rim tb : Nat) (leaving : Bool) (c : Nat) (s : State) :
    (channelEdge rim tb leaving c s).clo = s.clo := by
  unfold channelEdge
  simp

@[simp] theorem beginTick_clo (c : Nat) (s : State) : (beginTick c s).clo = s.clo := rfl

/-! ### An engine and a well on the edge -/

@[simp] theorem dropAllDue_clo (e : Nat) (s : State) : (dropAllDue e s).clo = s.clo := by
  unfold dropAllDue
  refine foldS_clo _ _ _ fun r s => ?_
  split <;> simp

@[simp] theorem engEnableEdge_clo (e : Nat) (s : State) : (engEnableEdge e s).clo = s.clo := by
  unfold engEnableEdge
  simp

@[simp] theorem engDisableEdge_clo (e : Nat) (s : State) : (engDisableEdge e s).clo = s.clo := by
  unfold engDisableEdge
  simp

@[simp] theorem retireEngine_clo (e cause : Nat) (s : State) : (retireEngine e cause s).clo = s.clo := by
  unfold retireEngine
  simp

@[simp] theorem readmitEngine_clo (e : Nat) (s : State) : (readmitEngine e s).clo = s.clo := by
  unfold readmitEngine
  simp

@[simp] theorem engineEdge_clo (e : Nat) (s : State) : (engineEdge e s).clo = s.clo := by
  unfold engineEdge
  split <;> simp

@[simp] theorem cistUeRecord_clo (c : Option Nat) (w : Nat) (s : State) : (cistUeRecord c w s).clo = s.clo := by
  unfold cistUeRecord
  simp

@[simp] theorem cistPut_clo (a : Nat) (bs : List Byte) (s : State) : (cistPut a bs s).clo = s.clo := by
  unfold cistPut
  simp

@[simp] theorem wellEdge_clo (rim tb w : Nat) (s : State) : (wellEdge rim tb w s).clo = s.clo := by
  unfold wellEdge
  simp

@[simp] theorem wellsEdge_clo (rim tb : Nat) (s : State) : (wellsEdge rim tb s).clo = s.clo :=
  foldS_clo _ _ _ (wellEdge_clo rim tb)

/-! ### The units' commands that come into force between ticks -/

@[simp] theorem setLink_clo (p : Nat) (st : LinkSt) (s : State) : (setLink p st s).clo = s.clo := by
  unfold setLink
  simp

@[simp] theorem storePut_clo (e a : Nat) (bs : List Byte) (s : State) : (storePut e a bs s).clo = s.clo := rfl

@[simp] theorem storeCompletion_clo (o : PumpOp) (s : State) : (storeCompletion o s).clo = s.clo := by
  unfold storeCompletion
  split <;> simp

@[simp] theorem freeXid_clo (p x : Nat) (s : State) : (freeXid p x s).clo = s.clo := rfl

@[simp] theorem returnXid_clo (o : PumpOp) (s : State) : (returnXid o s).clo = s.clo := by
  unfold returnXid
  split <;> simp

@[simp] theorem unclean_clo (e c no : Nat) (s : State) : (unclean e c no s).clo = s.clo := rfl

@[simp] theorem completionFault_clo (o : PumpOp) (s : State) : (completionFault o s).clo = s.clo := by
  unfold completionFault
  dsimp only
  split
  · rfl
  · split <;> simp

@[simp] theorem completeOp_clo (o : PumpOp) (s : State) : (completeOp o s).clo = s.clo := by
  unfold completeOp
  simp

@[simp] theorem loseTransfers_clo (p : Nat) (s : State) : (loseTransfers p s).clo = s.clo := by
  unfold loseTransfers
  simp

@[simp] theorem endPeerService_clo (p : Nat) (s : State) : (endPeerService p s).clo = s.clo := by
  unfold endPeerService
  simp

@[simp] theorem freezeXfers_clo (p : Nat) (s : State) : (freezeXfers p s).clo = s.clo := rfl

@[simp] theorem clearSequence_clo (p : Nat) (s : State) : (clearSequence p s).clo = s.clo := rfl

@[simp] theorem killPort_clo (p : Nat) (st : LinkSt) (s : State) : (killPort p st s).clo = s.clo := by
  unfold killPort
  simp

@[simp] theorem linkControl_clo (p : Nat) (s : State) : (linkControl p s).clo = s.clo := by
  unfold linkControl
  simp

@[simp] theorem retireBank_clo (b cause : Nat) (s : State) : (retireBank b cause s).clo = s.clo := by
  unfold retireBank
  simp

@[simp] theorem assignSpare_clo (i : BankId) (column cause : Nat) (s : State) :
    (assignSpare i column cause s).clo = s.clo := by
  unfold assignSpare exhausted
  split
  · cases i <;> rfl
  · cases i <;> simp

@[simp] theorem repairEdge_clo (c : BankId × Nat) (s : State) : (repairEdge c s).clo = s.clo := by
  unfold repairEdge
  simp

@[simp] theorem pumpEdge_clo (p : Nat) (s : State) : (pumpEdge p s).clo = s.clo := by
  unfold pumpEdge
  split <;> simp

@[simp] theorem portEdge_clo (c : Nat × Bool) (s : State) : (portEdge c s).clo = s.clo := by
  unfold portEdge
  simp

theorem unitCommands_clo (s : State) : (unitCommands s).clo = s.clo := by
  unfold unitCommands
  simp

end Sys2Proof.Machine

/-! ## The sources that start ticks, and the loss of TICK (R55, R58, R59, R67, R395) -/

namespace Sys2Proof.Machine

/-! ### A snapshot edge that starts a tick -/

/-- The TICK_CTRL that a snapshot edge acts under: a written one comes into force on it (R54). -/
def ctrlInForce (s : State) : State := if s.tick.pend then applyTickCtrl s else s

/-- A tick that is still open closes on the next snapshot edge (R69). -/
theorem closeTick_clock (s : State) : (closeTick s).clock = (s.now, { s.clock.2 with open_ := false }) := by
  cases h : s.tick.open_ with
  | true =>
    have hguard := foldS_guard_clock allChans s
    rw [closeTick_of_open s h]
    generalize foldS guardChannel allChans s = g at *
    exact congrArg (fun x : Nat × TickUnit => (x.1, { x.2 with open_ := false })) hguard
  | false =>
    have hclosed : closeTick s = s := if_neg (by simp [h])
    rw [hclosed, State.clock, ← h]

/-- A snapshot edge under ENABLE = 1 starts a tick: the number goes up by one and the guard counter runs from the edge
(R55, R67). -/
theorem snapshot_clock_of_enabled (rim : Nat) (s : State) (hen : (ctrlInForce s).tick.en = true)
    (hstop : (ctrlInForce s).tick.stopped = false) :
    ∃ bo lean guard, (snapshot rim s).clock =
      ((ctrlInForce s).now,
        { (ctrlInForce s).clock.2 with
          number := (ctrlInForce s).tick.number + 1, snapAt := rim, snapTb := (ctrlInForce s).tb, open_ := true
          buttressOnly := bo, lean := lean, guard := guard }) := by
  unfold snapshot
  extract_lets s0 tb s1 bo leaving level still tick1 s2 s3 s4 tick4 s5 s6 s7 tick7 s8
  have h0 : ctrlInForce s = s0 := rfl
  rw [h0] at hen hstop ⊢
  rw [if_neg (by simp [hen, hstop])]
  have h1 : s1.clock = (s0.now, { s0.clock.2 with open_ := false }) := by
    have hcollect := collectEntries_clock s0
    unfold s1
    rw [closeTick_clock, hcollect]
    rfl
  have h4 : s4.clock = (s1.clock.1, { s1.clock.2 with number := s1.clock.2.number + 1, snapAt := rim, snapTb := tb }) := by
    unfold s4 s3 s2
    rw [foldS_clock _ _ _ (channelEdge_clock _ _ _), foldS_clock _ _ _ engineEdge_clock, snapPulse_clock]
    rfl
  have h7 : s7.clock = s5.clock := by
    unfold s7 s6
    rw [wellsEdge_clock, foldS_clock _ _ _ beginTick_clock, settleEntries_clock,
      foldS_clock _ _ _ (buttressEntry_clock _ _)]
  have h8 : s8.clock = s7.clock := by
    unfold s8
    rw [class8_clock, ingress_clock]
    rfl
  refine ⟨s5.tick.buttressOnly, s5.tick.lean, s5.tick.guard, ?_⟩
  rw [formReport_clock, h8, h7]
  have h5 : s5.clock = (s4.clock.1, { s4.clock.2 with
      buttressOnly := s5.tick.buttressOnly, open_ := true, lean := s5.tick.lean, guard := s5.tick.guard }) := rfl
  rw [h5, h4, h1]
  rfl

/-- Of the cloister a snapshot edge that starts a tick moves the snap pulses alone (R395). -/
theorem snapshot_clo_of_enabled (rim : Nat) (s : State) (hen : (ctrlInForce s).tick.en = true)
    (hstop : (ctrlInForce s).tick.stopped = false) : (snapshot rim s).clo = (snapPulse s).clo := by
  unfold snapshot
  extract_lets s0 tb s1 bo leaving level still tick1 s2 s3 s4 tick4 s5 s6 s7 tick7 s8
  have h0 : ctrlInForce s = s0 := rfl
  rw [h0] at hen hstop
  rw [if_neg (by simp [hen, hstop])]
  have h1 : s1.clo = s.clo := by
    unfold s1 s0
    rw [closeTick_clo, collectEntries_clo, clo_ite]
    exact ite_self _
  have h2 : s2.clo = (snapPulse s).clo := by
    unfold s2 snapPulse
    rw [h1]
    split <;> simp
  have h4 : s4.clo = s2.clo := by
    unfold s4 s3
    rw [foldS_clo _ _ _ (channelEdge_clo _ _ _), foldS_clo _ _ _ engineEdge_clo]
  have h7 : s7.clo = s5.clo := by
    unfold s7 s6
    rw [wellsEdge_clo, foldS_clo _ _ _ beginTick_clo, settleEntries_clo, foldS_clo _ _ _ (buttressEntry_clo _ _)]
  have h8 : s8.clo = s7.clo := by
    unfold s8
    rw [class8_clo, ingress_clo]
  rw [formReport_clo, h8, h7, ← h2, ← h4]

section
variable (s : State)

@[simp] theorem ctrlInForce_en : (ctrlInForce s).tick.en = if s.tick.pend then s.bit DEV 0x20 15 else s.tick.en := by
  unfold ctrlInForce
  split <;> rfl

@[simp] theorem ctrlInForce_now : (ctrlInForce s).now = s.now := by
  unfold ctrlInForce
  split <;> rfl

@[simp] theorem ctrlInForce_stopped : (ctrlInForce s).tick.stopped = s.tick.stopped := by
  unfold ctrlInForce
  split <;> rfl

@[simp] theorem ctrlInForce_number : (ctrlInForce s).tick.number = s.tick.number := by
  unfold ctrlInForce
  split <;> rfl

@[simp] theorem ctrlInForce_lastEdge : (ctrlInForce s).tick.lastEdge = s.tick.lastEdge := by
  unfold ctrlInForce
  split <;> rfl

/-- No written TICK_CTRL makes a TICK that is there a lost one. -/
theorem ctrlInForce_lost (h : s.tick.lost = false) : (ctrlInForce s).tick.lost = false := by
  unfold ctrlInForce
  split
  · simp [applyTickCtrl, h]
  · exact h

theorem ctrlInForce_of_unwritten (h : s.tick.pend = false) : ctrlInForce s = s := if_neg (by simp [h])

end

/-- An event that takes a snapshot edge lets the waiting commands act. -/
theorem withEdge_of_next_number (f : State → State) (s : State) (h : (f s).tick.number = s.tick.number + 1) :
    withEdge f s = unitCommands (f s) := if_neg (by omega)

/-- `t` has started a tick on the snapshot edge of RIM count `rim`, from the state `s` at which the edge was taken. -/
structure State.startedFrom (t s : State) (rim : Nat) : Prop where
  now : t.now = s.now
  number : t.tick.number = s.tick.number + 1
  snapAt : t.tick.snapAt = rim
  opened : t.tick.open_ = true
  lastEdge : t.tick.lastEdge = s.tick.lastEdge
  lost : t.tick.lost = (ctrlInForce s).tick.lost
  freeDue : t.tick.freeDue = (ctrlInForce s).tick.freeDue
  clo : t.clo = (snapPulse s).clo

theorem snapshot_startedFrom (rim : Nat) (s : State) (hen : (ctrlInForce s).tick.en = true) (hstop : s.tick.stopped = false) :
    (snapshot rim s).startedFrom s rim := by
  have hstop' : (ctrlInForce s).tick.stopped = false := by rw [ctrlInForce_stopped, hstop]
  obtain ⟨bo, lean, guard, h⟩ := snapshot_clock_of_enabled rim s hen hstop'
  have hclo := snapshot_clo_of_enabled rim s hen hstop'
  generalize snapshot rim s = t at *
  exact
    { now := (congrArg (·.1) h :).trans (ctrlInForce_now s)
      number := (congrArg (·.2.number) h :).trans (by rw [ctrlInForce_number])
      snapAt := (congrArg (·.2.snapAt) h :)
      opened := (congrArg (·.2.open_) h :)
      lastEdge := (congrArg (·.2.lastEdge) h :).trans (ctrlInForce_lastEdge s)
      lost := (congrArg (·.2.lost) h :)
      freeDue := (congrArg (·.2.freeDue) h :)
      clo := hclo }

/-- The commands that act on the edge leave the started tick alone. -/
theorem State.startedFrom.unitCommands {t s : State} {rim : Nat} (h : t.startedFrom s rim) :
    (unitCommands t).startedFrom s rim := by
  have hclock := unitCommands_clock t
  have hclo := unitCommands_clo t
  generalize Machine.unitCommands t = u at *
  exact
    { now := (congrArg (·.1) hclock :).trans h.now
      number := (congrArg (·.2.number) hclock :).trans h.number
      snapAt := (congrArg (·.2.snapAt) hclock :).trans h.snapAt
      opened := (congrArg (·.2.open_) hclock :).trans h.opened
      lastEdge := (congrArg (·.2.lastEdge) hclock :).trans h.lastEdge
      lost := (congrArg (·.2.lost) hclock :).trans h.lost
      freeDue := (congrArg (·.2.freeDue) hclock :).trans h.freeDue
      clo := hclo.trans h.clo }

/-- A source that takes its snapshot at `u` under ENABLE = 1 starts a tick. -/
theorem withEdge_startedFrom (f : State → State) (s u : State) (rim : Nat) (hf : f s = snapshot rim u)
    (hnumber : u.tick.number = s.tick.number) (hen : (ctrlInForce u).tick.en = true) (hstop : u.tick.stopped = false) :
    (withEdge f s).startedFrom u rim := by
  have hstart := snapshot_startedFrom rim u hen hstop
  rw [← hf] at hstart
  rw [withEdge_of_next_number f s (hnumber ▸ hstart.number)]
  exact hstart.unitCommands

/-! ### An accepted TICK edge (R55, R57) -/

/-- Measuring an interval writes VALID and no other field of TICK_CTRL. -/
theorem measure_bit_enable (d : Nat) (s : State) (hs : s.regs.Pairwise (fun x y => x.1 < y.1)) :
    (measure d s).bit DEV 0x20 15 = s.bit DEV 0x20 15 := by
  unfold measure
  split
  · exact (State.bit_clrB hs _ _ _ _ (by decide)).trans (Bool.and_true _)
  · dsimp only
    have hperiod : ∀ (u : State) (v : Word), (u.wr DEV 0x21 v).bit DEV 0x20 15 = u.bit DEV 0x20 15 := fun u v =>
      congrArg (wbit · 15) (State.rd_wr_other u _ _ _ _ _ (by decide))
    split
    · exact (State.bit_setB (State.wr_rises _ _ _ _ hs) _ _ _ _ (by decide)).trans ((Bool.or_false _).trans (hperiod _ _))
    · exact hperiod _ _

theorem edgeEntered_bit_enable (s : State) (hs : s.regs.Pairwise (fun x y => x.1 < y.1)) :
    (edgeEntered s).bit DEV 0x20 15 = s.bit DEV 0x20 15 := by
  unfold edgeEntered edgeMeasured
  split
  · exact measure_bit_enable _ _ hs
  · rfl

theorem snapPulse_clo_of_global {s : State} (h : s.clo.global ≠ []) :
    (snapPulse s).clo = { s.clo with snap0 := s.clo.snap0 ++ [3], snap1 := s.clo.snap1 ++ [3] } := by
  rw [snapPulse, if_neg (by simp [h])]

theorem exec_tickEdge_starts (dt : Nat) (s : State) (hs : s.sound) (hm : s.power.mode = .run)
    (hawake : s.power.committed = none) (hsrc : s.tick.src = false) (hstop : s.tick.stopped = false)
    (hen : (if s.tick.pend then s.bit DEV 0x20 15 else s.tick.en) = true)
    (hlate : ∀ e, s.tick.lastEdge = some e → e + 3000 ≤ s.now + dt) :
    ∃ t, exec (.tickEdge dt) s = .next t ∧ t.now = s.now + dt + 2 ∧ t.tick.lastEdge = some (s.now + dt) ∧
      t.tick.number = s.tick.number + 1 ∧ t.tick.snapAt = s.now + dt + 2 ∧ t.tick.open_ = true ∧ t.tick.lost = false ∧
      (s.clo.global ≠ [] → t.clo = { s.clo with snap0 := s.clo.snap0 ++ [3], snap1 := s.clo.snap1 ++ [3] }) := by
  have hbit : (edgeEntered (s.pass dt)).bit DEV 0x20 15 = s.bit DEV 0x20 15 :=
    edgeEntered_bit_enable (s.pass dt) hs.regs.1
  have haccepted := tickEdge_accepted dt s hlate
  obtain ⟨regs, xs, n, hin⟩ := edgeEntered_enters (s.pass dt)
  generalize edgeEntered (s.pass dt) = r at *
  have hr : r.tick = { s.tick with
      intervals := xs, entered := n, lastEdge := some (s.now + dt), lost := false, lossRef := some (s.now + dt) } :=
    (congrArg State.tick hin :)
  have hnow : r.now = s.now + dt := (congrArg State.now hin :)
  have hclo : r.clo = s.clo := (congrArg State.clo hin :)
  have hsnap : tickEdge dt s = snapshot (s.now + dt + 2) (r.pass 2) := by
    rw [haccepted, if_neg (by simp [hr, hsrc]), hnow]
  have henabled : (ctrlInForce (r.pass 2)).tick.en = true := by
    have hwritten : (r.pass 2).bit DEV 0x20 15 = s.bit DEV 0x20 15 := hbit
    rw [ctrlInForce_en, hwritten, State.pass_tick, hr]
    exact hen
  have hstart := withEdge_startedFrom (tickEdge dt) s (r.pass 2) (s.now + dt + 2) hsnap (by simp [hr]) henabled
    (by simp [hr, hstop])
  have hexec : exec (.tickEdge dt) s = .next (withEdge (tickEdge dt) s) := by
    rw [exec_tickEdge_of_run dt s hm, hawake]
    rfl
  refine ⟨_, hexec, ?_⟩
  generalize withEdge (tickEdge dt) s = t at *
  refine ⟨?_, ?_, ?_, hstart.snapAt, hstart.opened, ?_, fun hglobal => ?_⟩
  · rw [hstart.now, ← hnow]
    rfl
  · rw [hstart.lastEdge, State.pass_tick, hr]
  · rw [hstart.number, State.pass_tick, hr]
  · rw [hstart.lost, ctrlInForce_lost]
    rw [State.pass_tick, hr]
  · have hpulse := snapPulse_clo_of_global (s := r.pass 2) (by rwa [State.pass_clo, hclo])
    rw [hstart.clo, hpulse, State.pass_clo, hclo]

/-! ### The free-run timer (R59) -/

theorem exec_freeRunExpiry_starts (s : State) (d : Nat) (hm : s.power.mode = .run) (hen : s.tick.en = true)
    (hpend : s.tick.pend = false) (hstop : s.tick.stopped = false) (hdue : s.tick.freeDue = some d) :
    ∃ t, exec .freeRunExpiry s = .next t ∧ t.now = max s.now d + 3 ∧ t.tick.number = s.tick.number + 1 ∧
      t.tick.snapAt = max s.now d + 3 ∧ t.tick.open_ = true ∧ t.tick.freeDue = some (d + (s.rd DEV 0x22).toNat) := by
  have hsnap : ∃ u : State, freeRunExpiry s = snapshot (max s.now d + 3) u ∧ u.now = max s.now d + 3 ∧
      u.tick = { s.tick with freeDue := some (d + (s.rd DEV 0x22).toNat) } := by
    unfold freeRunExpiry
    rw [hdue]
    exact ⟨_, rfl, rfl, rfl⟩
  obtain ⟨u, hf, hnow, htick⟩ := hsnap
  have hforce : ctrlInForce u = u := ctrlInForce_of_unwritten u (by rw [htick]; exact hpend)
  have hstart := withEdge_startedFrom freeRunExpiry s u _ hf (by rw [htick]) (by rw [hforce, htick]; exact hen)
    (by rw [htick]; exact hstop)
  have hexec : exec .freeRunExpiry s = .next (withEdge freeRunExpiry s) := whenRun_of_run hm
  refine ⟨_, hexec, hstart.now.trans hnow, ?_, hstart.snapAt, hstart.opened, ?_⟩
  · rw [hstart.number, htick]
  · rw [hstart.freeDue, hforce, htick]

/-! ### The loss of TICK (R58) -/

/-- The loss is seen at RIM count `r + lossLimit s`: LOST sets, and its event is raised. -/
def lossSeen (r : Nat) (s : State) : State :=
  let seen := raise evTickLost ((s.reach (r + lossLimit s)).setB DEV 0x20 12)
  { seen with tick := { seen.tick with lost := true } }

/-- The timer takes over, and expires on the detecting edge. -/
def fellBack (s : State) : State :=
  { s with tick := { s.tick with src := true, freeDue := some s.now } }.setB DEV 0x20 14

theorem lossSeen_tick (r : Nat) (s : State) : (lossSeen r s).tick = { s.tick with lost := true } :=
  congrArg (fun t : TickUnit => { t with lost := true })
    (raise_tick evTickLost ((s.reach (r + lossLimit s)).setB DEV 0x20 12))

/-- With FALLBACK = 1 and SRC = 0 in force the timer takes over. -/
def handedOver (s : State) : State := if s.tick.fallback = true ∧ s.tick.src = false then fellBack s else s

theorem tickLost_of_ref (s : State) (r : Nat) (href : s.tick.lossRef = some r) :
    tickLost s = if s.tick.src = true ∨ s.tick.lost = true then s else handedOver (ctrlInForce (lossSeen r s)) := by
  simp only [tickLost, href]
  rfl

theorem tickLost_eq (s : State) (r : Nat) (hsrc : s.tick.src = false) (hlost : s.tick.lost = false)
    (hpend : s.tick.pend = false) (href : s.tick.lossRef = some r) :
    tickLost s = if s.tick.fallback then fellBack (lossSeen r s) else lossSeen r s := by
  have htick := lossSeen_tick r s
  have hforce : ctrlInForce (lossSeen r s) = lossSeen r s := ctrlInForce_of_unwritten _ (by rw [htick]; exact hpend)
  rw [tickLost_of_ref s r href, if_neg (by simp [hsrc, hlost]), hforce, handedOver]
  simp only [htick, hsrc, and_true]

section
variable (r : Nat) {s : State} (hs : s.regs.Pairwise (fun x y => x.1 < y.1))

theorem lossSeen_now : (lossSeen r s).now = max s.now (r + lossLimit s) :=
  (congrArg (·.1) (raise_clock evTickLost ((s.reach (r + lossLimit s)).setB DEV 0x20 12)) :)

include hs

theorem lossSeen_rises : (lossSeen r s).regs.Pairwise (fun x y => x.1 < y.1) :=
  raise_rises _ _ (State.wr_rises _ _ _ _ hs)

theorem lossSeen_event : (lossSeen r s).bit DEV 0x05 evTickLost = true :=
  raise_bit_event _ _ (State.wr_rises _ _ _ _ hs) (by decide)

/-- Of TICK_CTRL the loss sets LOST alone. -/
theorem lossSeen_bit (j : Nat) (hj : j < 16) : (lossSeen r s).bit DEV 0x20 j = (s.bit DEV 0x20 j || decide (12 = j)) := by
  have hkept : (lossSeen r s).bit DEV 0x20 j = ((s.reach (r + lossLimit s)).setB DEV 0x20 12).bit DEV 0x20 j :=
    congrArg (wbit · j) (raise_rd_other _ _ _ _ (by decide))
  exact hkept.trans (State.bit_setB hs _ _ _ _ hj)

end

theorem fellBack_bit (s : State) (hs : s.regs.Pairwise (fun x y => x.1 < y.1)) (j : Nat) (hj : j < 16) :
    (fellBack s).bit DEV 0x20 j = (s.bit DEV 0x20 j || decide (14 = j)) := State.bit_setB hs _ _ _ _ hj

theorem fellBack_events (s : State) (i : Nat) : (fellBack s).bit DEV 0x05 i = s.bit DEV 0x05 i :=
  congrArg (wbit · i) (State.rd_wr_other _ _ _ _ _ _ (by decide))

theorem exec_tickLost_detects (s : State) (r : Nat) (hs : s.sound) (hm : s.power.mode = .run) (hsrc : s.tick.src = false)
    (hlost : s.tick.lost = false) (hpend : s.tick.pend = false) (href : s.tick.lossRef = some r) :
    ∃ t, exec .tickLost s = .next t ∧
      t.now = max s.now (r + (if s.bit DEV 0x20 10 then 2 * (s.rd DEV 0x21).toNat else 100000)) ∧
      t.bit DEV 0x20 12 = true ∧ t.bit DEV 0x05 evTickLost = true ∧ t.tick.number = s.tick.number ∧
      (s.tick.fallback = true → t.tick.src = true ∧ t.bit DEV 0x20 14 = true ∧ t.tick.freeDue = some t.now) ∧
      (s.tick.fallback = false → t.tick.src = false ∧ t.bit DEV 0x20 14 = s.bit DEV 0x20 14) := by
  have hrises := lossSeen_rises r hs.regs.1
  have hseenNumber : (lossSeen r s).tick.number = s.tick.number := (congrArg TickUnit.number (lossSeen_tick r s) :)
  have hseenSrc : (lossSeen r s).tick.src = s.tick.src := (congrArg TickUnit.src (lossSeen_tick r s) :)
  have hexec : exec .tickLost s = .next (withEdge tickLost s) := whenRun_of_run hm
  have hdetect := tickLost_eq s r hsrc hlost hpend href
  have hnumber : (tickLost s).tick.number = s.tick.number := by
    rw [hdetect]
    split <;> exact hseenNumber
  rw [hexec, withEdge_of_same_number _ _ hnumber, hdetect]
  refine ⟨_, rfl, ?_⟩
  cases hback : s.tick.fallback with
  | true =>
    rw [if_pos rfl]
    refine ⟨lossSeen_now r, ?_, ?_, hseenNumber, fun _ => ⟨rfl, ?_, rfl⟩, fun h => (by cases h)⟩
    · simp [fellBack_bit _ hrises, lossSeen_bit r hs.regs.1]
    · exact (fellBack_events _ _).trans (lossSeen_event r hs.regs.1)
    · simp [fellBack_bit _ hrises]
  | false =>
    rw [if_neg Bool.false_ne_true]
    refine ⟨lossSeen_now r, ?_, lossSeen_event r hs.regs.1, hseenNumber, fun h => (by cases h),
      fun _ => ⟨hseenSrc.trans hsrc, ?_⟩⟩
    · simp [lossSeen_bit r hs.regs.1]
    · simp [lossSeen_bit r hs.regs.1]

/-- Settles O7: both sources take the snapshot edge that starts a tick; the loss only hands TICK_CTRL to the timer. -/
theorem sourcesStartTicksAndLossFallsBack : Obligations.SourcesStartTicksAndLossFallsBack := by
  unfold Obligations.SourcesStartTicksAndLossFallsBack
  exact ⟨exec_tickEdge_starts, exec_freeRunExpiry_starts, exec_tickLost_detects⟩

end Sys2Proof.Machine

/-! ## Frames that fail their checks, and the answers to reads (R87, R90, R92, R97, R105) -/

namespace Sys2Proof.Machine

/-! ### A write frame that fails its checks (R90, R96, R97) -/

/-- A frame error changes registers and the supervisor's interrupt cause only. -/
theorem frameError_leaves (s : State) :
    frameError s = { s with regs := (frameError s).regs, sup := (frameError s).sup } := by
  unfold frameError raise
  dsimp only
  split <;> rfl

/-- The record of a frame with outcome LENGTH or CRC: it does not count in SEQ. -/
theorem recordWrite_broken {oc : Nat} (h : oc = ocLength ∨ oc = ocCrc) (s : State) :
    recordWrite oc s = frameError { s with ctl := { s.ctl with wlast := oc, answer := none } } := by
  rcases h with rfl | rfl <;> rfl

section
variable {s : State} {bs : List Byte}

/-- LENGTH comes before every other outcome (R97). -/
theorem writeCheck_length (h : bs.length < 4 ∨ limitBroken (frameByte bs 1) (frameByte bs 2) (frameByte bs 3) = true ∨
    bs.length < 5 + 2 * frameByte bs 3) : writeCheck s bs = ocLength := if_pos h

/-- CRC is the outcome of a frame of sound length whose CRC does not match (R97). -/
theorem writeCheck_crc (h4 : 4 ≤ bs.length)
    (hlimit : limitBroken (frameByte bs 1) (frameByte bs 2) (frameByte bs 3) = false)
    (hlen : 5 + 2 * frameByte bs 3 ≤ bs.length)
    (hcrc : crc8 (bs.take (4 + 2 * frameByte bs 3)) ≠ frameByte bs (4 + 2 * frameByte bs 3)) :
    writeCheck s bs = ocCrc := by
  have hwhole : ¬ (bs.length < 4 ∨ limitBroken (frameByte bs 1) (frameByte bs 2) (frameByte bs 3) = true ∨
      bs.length < 5 + 2 * frameByte bs 3) := by
    simp only [hlimit, Bool.false_eq_true, false_or]
    omega
  exact (if_neg hwhole).trans (if_pos hcrc)

/-- A frame with outcome LENGTH or CRC leaves its outcome and a frame error, and nothing else (R90, R99). -/
theorem exec_writeFrame_broken {oc : Nat} (hs : s.sound) (hm : s.power.mode = .run) (haddr : addressed s bs = true)
    (heven : frameByte bs 0 % 2 = 0) (hcheck : writeCheck s bs = oc) (hoc : oc = ocLength ∨ oc = ocCrc) :
    ∃ u, exec (.writeFrame bs) s = .next u ∧ u.ctl.wlast = oc ∧ u.ctl.seq = s.ctl.seq ∧ u.bit DEV 0x04 15 = true ∧
      (∀ t' r', key t' r' ≠ key DEV 0x04 → key t' r' ≠ key DEV 0x05 → u.rd t' r' = s.rd t' r') ∧
      u.chans = s.chans ∧ u.engs = s.engs ∧ u.cist = s.cist ∧ u.power = s.power := by
  have hne : oc ≠ ocOk := by rcases hoc with rfl | rfl <;> decide
  have hrun : writeFrame bs s = recordWrite oc s := by
    simp [writeFrame, haddr, heven, hm, writeRun, hcheck, hne]
  rw [show exec (.writeFrame bs) s = .next (writeFrame bs s) from rfl, hrun, recordWrite_broken hoc]
  have hsound : ({ s with ctl := { s.ctl with wlast := oc, answer := none } } : State).sound :=
    ⟨hs.regs, hs.cist, hs.stores, hs.sram, hs.slots, hs.walks, hs.faults, hs.journal, hs.log, hs.bells⟩
  have hbit := (frameError_bits _ hsound).1
  have hrd := frameError_rd_other { s with ctl := { s.ctl with wlast := oc, answer := none } }
  have hleaves := frameError_leaves { s with ctl := { s.ctl with wlast := oc, answer := none } }
  generalize frameError _ = u at *
  refine ⟨u, rfl, ?_, ?_, hbit, fun t r hst hev => hrd t r hev hst, ?_⟩
  · rw [hleaves]
  · rw [hleaves]
  · rw [hleaves]
    exact ⟨rfl, rfl, rfl, rfl⟩

end

/-! ### The words of a read from a target without windows (R92, R93, R105) -/

/-- What register `r` of single target `t` answers: an offset the target does not implement reads 0 (R93). -/
def offsetWord (s : State) (t r : Nat) : Word := if (regInfo s.part s.straps t r).isSome then regRead s t r else 0

theorem wordRead_of_not_window {t r : Nat} (h : isWindow t r = false) (s : State) :
    wordRead t r s = (offsetWord s t r, s) := by
  unfold wordRead offsetWord
  cases regInfo s.part s.straps t r <;> simp [h]

/-- The word that is issued into the core is a window's. -/
theorem lateWord_of_not_window {t r : Nat} (h : isWindow t r = false) (s : State) : lateWord s t r = false := by
  have hdata : (decide (t = DEV) && decide (r = 0x0B)) = false := by
    simp only [isWindow, Bool.or_eq_false_iff] at h
    exact h.1.1
  simp only [lateWord, hdata, Bool.false_and]

theorem assoc_map_of_mem {α : Type} (f : Nat → α) {ks : List Nat} {k : Nat} (hk : k ∈ ks) :
    assoc (ks.map (fun j => (j, f j))) k = some (f k) := by
  induction ks with
  | nil => exact absurd hk List.not_mem_nil
  | cons j ks ih =>
    rw [List.map_cons, assoc]
    split
    · next hj => rw [hj]
    · next hj => exact ih ((List.mem_cons.mp hk).resolve_left hj)

section
variable {t r : Nat} {ks : List Nat} (h : ∀ k ∈ ks, isWindow t (r + k) = false) (s : State)
include h

theorem readEach_of_no_window : readEach t r ks s = (ks.map (fun k => (k, offsetWord s t (r + k))), s) := by
  induction ks with
  | nil => rfl
  | cons k ks ih =>
    simp only [readEach, wordRead_of_not_window (h k List.mem_cons_self),
      ih (fun j hj => h j (List.mem_cons_of_mem _ hj)), List.map_cons]

/-- The rim's words are all the words, each as it reads on the one edge, and the read changes nothing. -/
theorem readWords_of_no_window : readWords t r ks s = (ks.map (fun k => offsetWord s t (r + k)), s) := by
  have hlate : ∀ k ∈ ks, lateWord s t (r + k) = false := fun k hk => lateWord_of_not_window (h k hk) s
  have hrim : ks.filter (fun k => !lateWord s t (r + k)) = ks :=
    List.filter_eq_self.mpr (fun k hk => by simp [hlate k hk])
  have hcore : ks.filter (fun k => lateWord s t (r + k)) = [] :=
    List.filter_eq_nil_iff.mpr (fun k hk => by simp [hlate k hk])
  have hwords : ks.map (fun k => (assoc (ks.map (fun j => (j, offsetWord s t (r + j))) ++ []) k).getD 0) =
      ks.map (fun k => offsetWord s t (r + k)) := List.map_congr_left (fun k hk => by
    rw [List.append_nil, assoc_map_of_mem (fun j => offsetWord s t (r + j)) hk, Option.getD_some])
  simp only [readWords, hrim, hcore, readEach_of_no_window h, readEach, hwords]

end

/-! ### The read frame of a command (R86, R87, R90) -/

section
variable (s : State) {t r n : Nat}

theorem readCommand_address : frameByte (readCommand s t r n) 0 = 2 * chipAddress s + 1 := by
  have haddr := s.straps.addr.isLt
  have hchip : 2 * chipAddress s + 1 < 256 := by
    unfold chipAddress
    omega
  simp [readCommand, frameByte, nth, byte, Nat.mod_eq_of_lt hchip]

theorem readCommand_addressed : addressed s (readCommand s t r n) = true := by
  have hhalf : frameByte (readCommand s t r n) 0 / 2 = chipAddress s := by
    rw [readCommand_address]
    omega
  have hsome : (readCommand s t r n).isEmpty = false := rfl
  simp only [addressed, hsome, hhalf, decide_true, Bool.not_false, Bool.true_or, Bool.and_true]

theorem readCommand_head (ht : t < 256) (hr : r < 256) (hn : n < 256) :
    frameByte (readCommand s t r n) 1 = t ∧ frameByte (readCommand s t r n) 2 = r ∧
      frameByte (readCommand s t r n) 3 = n := by
  refine ⟨?_, ?_, ?_⟩ <;> simp [readCommand, frameByte, nth, byte, ht, hr, hn]

theorem readCommand_heard : readHeard (readCommand s t r n) = true := by
  simp [readHeard, readCommand, frameByte, nth, byte_crc8]

end

/-- The words of a sound read of a single target, and the state after it: of one window, or of offsets one after another
(R92). -/
def singleRead (t r n : Nat) (s : State) : List Word × State :=
  if isWindow t r then windowRegRead t r n s else readWords t r (List.range n) s

/-- A sound read frame of a single target is answered with its words (R87, R98). -/
theorem readFrame_single {s : State} {t r n : Nat} {regs : List (Nat × RegInfo)} (hm : s.power.mode = .run) (ht : t < 256)
    (hr : r < 256) (hn : n < 256) (hlimit : limitBroken t r n = false) (hsingle : target s.part s.straps t = .single regs) :
    readFrame (readCommand s t r n) s = drive ocOk (singleRead t r n s).1 (singleRead t r n s).2 := by
  obtain ⟨h1, h2, h3⟩ := readCommand_head s ht hr hn
  have h0 := readCommand_address s (t := t) (r := r) (n := n)
  have hodd : ¬ (2 * chipAddress s + 1) % 2 = 0 := by omega
  have hown : ¬ (2 * chipAddress s + 1) / 2 = 0x47 := by
    unfold chipAddress
    omega
  have hmem : (groupMembers s t).isNone = false := by simp [groupMembers, hsingle]
  have hdata : readData t r n s = ((singleRead t r n s).1, ocOk, (singleRead t r n s).2) := by
    simp only [readData, hsingle, singleRead]
  have hchecked : readFrame (readCommand s t r n) s = readChecked (readCommand s t r n) s := by
    simp only [readFrame, readCommand_addressed, h0, hodd, hm, readCommand_heard, Bool.true_eq_false, or_self, if_false,
      if_true]
  rw [hchecked]
  simp [readChecked, h0, h1, h2, h3, hlimit, hown, hmem, hm, hdata]

/-! ### The obligation -/

/-- The targets whose reads the obligation speaks of. -/
def readTargets : List Nat := [DEV, SUP, PWR, CLO, CH 0, CH 15, ENG 0, ENG 7]

theorem readTargets_single {t : Nat} (h : t ∈ readTargets) (p : Part) (st : Straps) :
    t < 256 ∧ ∃ regs, target p st t = .single regs := by
  simp only [readTargets, List.mem_cons, List.not_mem_nil, or_false] at h
  rcases h with rfl | rfl | rfl | rfl | rfl | rfl | rfl | rfl
  all_goals exact ⟨by decide, by cases p <;> exact ⟨_, rfl⟩⟩

theorem exec_readFrame_registers (s : State) (t r n : Nat) (hm : s.power.mode = .run) (ht : t ∈ readTargets) (h1 : 1 ≤ n)
    (hn : n ≤ 128) (hend : r + n ≤ 256) (hwin : ∀ k, k < n → isWindow t (r + k) = false) :
    ∃ u, exec (.readFrame (readCommand s t r n)) s = .next u ∧
      (let body := wireBytes (statusWord s 0) ++ (List.range n).flatMap (fun k => wireBytes (offsetWord s t (r + k)))
       u.ctl.answer = some (body ++ [byte (crc8 body)])) ∧
      u = { s with ctl := u.ctl } ∧ u.ctl.wlast = s.ctl.wlast ∧ u.ctl.seq = s.ctl.seq := by
  obtain ⟨hbyte, regs, hsingle⟩ := readTargets_single ht s.part s.straps
  have hfirst : isWindow t r = false := hwin 0 h1
  have hlimit : limitBroken t r n = false := by
    simp [limitBroken, outside, hfirst]
    omega
  have hwords : singleRead t r n s = ((List.range n).map (fun k => offsetWord s t (r + k)), s) := by
    rw [singleRead, hfirst, if_neg Bool.false_ne_true,
      readWords_of_no_window (fun k hk => hwin k (List.mem_range.mp hk)) s]
  rw [show exec (.readFrame (readCommand s t r n)) s = .next (readFrame (readCommand s t r n) s) from rfl,
    readFrame_single hm hbyte (by omega) (by omega) hlimit hsingle, hwords]
  refine ⟨_, rfl, ?_, rfl, rfl, rfl⟩
  simp only [drive, State.modCtl, List.flatMap_map]

/-- Settles O13: the outcome of the checks decides what a write frame records, and a read without windows takes each
register's word on one edge. -/
theorem framesAreCheckedAndAnswered : Obligations.FramesAreCheckedAndAnswered := by
  unfold Obligations.FramesAreCheckedAndAnswered
  refine ⟨fun s bs hs hm haddr heven => ⟨fun h => ?_, fun h4 hlimit hlen hcrc => ?_⟩, exec_readFrame_registers⟩
  · exact exec_writeFrame_broken hs hm haddr heven (writeCheck_length h) (.inl rfl)
  · exact exec_writeFrame_broken hs hm haddr heven (writeCheck_crc h4 hlimit hlen hcrc) (.inr rfl)

end Sys2Proof.Machine

/-! ## The table window (R94, R126, R128, R129, R133) -/

namespace Sys2Proof.Machine

/-! ### The window's pointer (R126) -/

theorem tblPtr_of_regs {s t : State} (hregs : t.regs = s.regs) (hpart : t.part = s.part) (hstraps : t.straps = s.straps) :
    tblPtr t = tblPtr s := by
  simp only [tblPtr, State.rd_regs s t _ _ hregs hpart hstraps]

theorem tblPtr_lt (s : State) : tblPtr s < 2 ^ 32 := by
  have hlow := (s.rd DEV 0x09).isLt
  have hhigh := (s.rd DEV 0x0A).isLt
  unfold tblPtr
  omega

/-- The pointer after it moves on by `n`. -/
theorem tblPtr_tblAdvance (n : Nat) (s : State) (h : s.regs.Pairwise (fun x y => x.1 < y.1)) :
    tblPtr (tblAdvance n s) = (tblPtr s + n) % 2 ^ 32 := by
  have hhigh : (tblAdvance n s).rd DEV 0x0A = word ((tblPtr s + n) % 2 ^ 32 / 65536) :=
    State.rd_wr_same _ _ _ _ (State.wr_rises _ _ _ _ h)
  have hlow : (tblAdvance n s).rd DEV 0x09 = word ((tblPtr s + n) % 2 ^ 32 % 65536) :=
    (State.rd_wr_other _ _ _ _ _ _ (by decide)).trans (State.rd_wr_same _ _ _ _ h)
  rw [tblPtr, hhigh, hlow]
  simp only [word, BitVec.toNat_ofNat]
  omega

theorem tblPtr_tblFlag (b : Nat) (s : State) : tblPtr (tblFlag b s) = tblPtr s := by
  unfold tblPtr tblFlag State.setB
  rw [State.rd_wr_other _ _ _ _ _ _ (by decide), State.rd_wr_other _ _ _ _ _ _ (by decide)]

/-- The flag stays set while the pointer moves on. -/
theorem tblAdvance_tblFlag_bit (n b : Nat) (s : State) (h : s.regs.Pairwise (fun x y => x.1 < y.1)) (hb : b < 16) :
    (tblAdvance n (tblFlag b s)).bit DEV 0x0C b = true := by
  have hrd : (tblAdvance n (tblFlag b s)).rd DEV 0x0C = setBit (s.rd DEV 0x0C) b := by
    unfold tblAdvance tblFlag State.setB
    dsimp only
    rw [State.rd_wr_other _ _ _ _ _ _ (by decide), State.rd_wr_other _ _ _ _ _ _ (by decide), State.rd_wr_same _ _ _ _ h]
  simp [State.bit, hrd, hb]

/-! ### A word written into an engine's store (R128 to R130) -/

theorem wordBytes_eq (v : Word) : wordBytes v = [byte (v.toNat % 256), byte (v.toNat / 256)] := by
  have hv := v.isLt
  have hhigh : v.toNat / 256 % 256 = v.toNat / 256 := Nat.mod_eq_of_lt (by omega)
  simp [wordBytes, wfld, fld, Nat.shiftRight_eq_div_pow, hhigh]

/-- A word written to a memory reads back as its two bytes, and every other byte reads as before. -/
theorem memRead_memWriteL_wordBytes (m : Mem) (a : Nat) (v : Word) (h : Memory.wf m = true) :
    memRead (memWriteL m a (wordBytes v)) a = byte (v.toNat % 256) ∧
      memRead (memWriteL m a (wordBytes v)) (a + 1) = byte (v.toNat / 256) ∧
      (∀ x, x ≠ a → x ≠ a + 1 → memRead (memWriteL m a (wordBytes v)) x = memRead m x) := by
  rw [wordBytes_eq]
  refine ⟨memRead_memWriteL_inside m a 0 _ h (by simp), memRead_memWriteL_inside m a 1 _ h (by simp), fun x h0 h1 => ?_⟩
  refine memRead_memWriteL_outside m a x _ h ?_
  simp only [List.length_cons, List.length_nil]
  omega

/-- A read of store bytes without an uncorrectable error changes the engines' counts and the store banks' jobs only. -/
theorem storeReadEvents_leaves (e a n : Nat) (c : Option Nat) (s : State) (h : storeBad s e a n = false) :
    ∃ engs banks, storeReadEvents e a n c s = { s with engs := engs, storeBanks := banks } := by
  have hue : hitWords (s.eng e).ue 4 a n = [] := by simpa [storeBad] using h
  unfold storeReadEvents
  rw [hue]
  refine foldS_inv (fun t : State => ∃ engs banks, t = { s with engs := engs, storeBanks := banks }) _ ?_ _ s ⟨_, _, rfl⟩
  rintro w _ ⟨engs, banks, rfl⟩
  exact ⟨_, _, rfl⟩

theorem storeReadEvents_store (e a n : Nat) (c : Option Nat) (s : State) (h : storeBad s e a n = false) (x : Nat) :
    ((storeReadEvents e a n c s).eng x).store = (s.eng x).store :=
  (congrArg Engine.store (storeReadEvents_uncounted e a n c s h x) :)

/-- A word written into a store without an uncorrectable error: its two bytes change in that store, and no register. -/
theorem storeWordPut_writes {e a : Nat} (v : Word) {s : State} (he : e < s.engs.length) (h : storeBad s e a 2 = false) :
    ∃ u, storeWordPut e a v s = (u, true) ∧ (u.eng e).store = memWriteL (s.eng e).store a (wordBytes v) ∧
      (∀ x, x ≠ e → (u.eng x).store = (s.eng x).store) ∧ u.cist = s.cist ∧ u.regs = s.regs ∧ u.part = s.part ∧
      u.straps = s.straps := by
  obtain ⟨engs, banks, hleaves⟩ := storeReadEvents_leaves e a 2 none s h
  have hstore := storeReadEvents_store e a 2 none s h
  have hlen : e < (storeReadEvents e a 2 none s).engs.length := by rwa [storeReadEvents_engs_length]
  refine ⟨_, by simp only [storeWordPut, h, Bool.false_eq_true, if_false]; rfl, ?_, fun x hx => ?_, ?_⟩
  · rw [State.eng_modEng_same _ _ _ hlen, hstore]
  · rw [State.eng_modEng_other _ _ _ _ hx, hstore]
  · rw [hleaves]
    exact ⟨rfl, rfl, rfl, rfl⟩

/-- A word written to the store of an engine of the part can only be out of range (R133). -/
theorem tblError_store {s : State} {i : Nat} (hi : i < s.part.engines) (p : Nat) :
    tblError s 2 i p true = if 0xC0000 ≤ p then some tbRange else none := by
  simp [tblError, tblInstance, tblExtent, tblDenied, hi]

section
variable (s : State) (v : Word) (hs : s.sound) (hm : s.power.mode = .run) (ht : tblTable s = 2)
  (hi : tblIndex s < s.part.engines)
include hm ht hi

theorem exec_windowWrite_store :
    exec (.windowWrite v) s = .next (tblAdvance 1 (if 0xC0000 ≤ tblPtr s then tblFlag tbRange s
      else eccFlag (storeWordPut (tblIndex s) (2 * tblPtr s) v (updateWaits s)))) := by
  rw [show exec (.windowWrite v) s = .next (windowWrite v s) from whenRun_of_run hm]
  simp only [windowWrite, ht, tblError_store hi]
  by_cases hp : 0xC0000 ≤ tblPtr s
  · rw [if_pos hp, if_pos hp]
  · rw [if_neg hp, if_neg hp]
    rfl

include hs

theorem exec_windowWrite_inside (hlen : s.engs.length = s.part.engines) (hp : tblPtr s < 0xC0000)
    (hbad : storeBad s (tblIndex s) (2 * tblPtr s) 2 = false) :
    ∃ u, exec (.windowWrite v) s = .next u ∧ tblPtr u = tblPtr s + 1 ∧
      memRead (u.eng (tblIndex s)).store (2 * tblPtr s) = byte (v.toNat % 256) ∧
      memRead (u.eng (tblIndex s)).store (2 * tblPtr s + 1) = byte (v.toNat / 256) ∧
      (∀ a, a ≠ 2 * tblPtr s → a ≠ 2 * tblPtr s + 1 →
        memRead (u.eng (tblIndex s)).store a = memRead (s.eng (tblIndex s)).store a) ∧
      (∀ e, e ≠ tblIndex s → (u.eng e).store = (s.eng e).store) ∧ u.cist = s.cist := by
  have he : tblIndex s < (updateWaits s).engs.length := hlen ▸ hi
  obtain ⟨x, hput, hstore, hothers, hcist, hregs, hpart, hstraps⟩ :=
    storeWordPut_writes v he (show storeBad (updateWaits s) _ (2 * tblPtr s) 2 = false from hbad)
  have hptr : tblPtr (tblAdvance 1 x) = tblPtr s + 1 := by
    rw [tblPtr_tblAdvance 1 x (hregs ▸ hs.regs.1), tblPtr_of_regs (s := s) hregs hpart hstraps]
    exact Nat.mod_eq_of_lt (by omega)
  have hwritten : ((tblAdvance 1 x).eng (tblIndex s)).store =
      memWriteL (s.eng (tblIndex s)).store (2 * tblPtr s) (wordBytes v) := hstore
  obtain ⟨hlow, hhigh, hrest⟩ := memRead_memWriteL_wordBytes _ (2 * tblPtr s) v (nth_store_wf s (tblIndex s) hs.stores)
  rw [exec_windowWrite_store s v hm ht hi, if_neg (by omega), hput]
  refine ⟨tblAdvance 1 x, rfl, hptr, ?_, ?_, ?_, hothers, hcist⟩
  all_goals rw [hwritten]
  · exact hlow
  · exact hhigh
  · exact hrest

theorem exec_windowWrite_past (hp : 0xC0000 ≤ tblPtr s) :
    ∃ u, exec (.windowWrite v) s = .next u ∧ tblPtr u = (tblPtr s + 1) % 2 ^ 32 ∧ u.bit DEV 0x0C 13 = true ∧
      u.engs = s.engs ∧ u.cist = s.cist := by
  rw [exec_windowWrite_store s v hm ht hi, if_pos hp]
  refine ⟨_, rfl, ?_, tblAdvance_tblFlag_bit _ _ _ hs.regs.1 (by decide), rfl, rfl⟩
  rw [tblPtr_tblAdvance 1 (tblFlag tbRange s) (State.wr_rises _ _ _ _ hs.regs.1), tblPtr_tblFlag]

end

/-! ### Words read from table EXPORT (R94, R126) -/

theorem windowWordAt_export {p : Nat} (hp : p < 0x80) (s : State) :
    windowWordAt 5 0 p s = ((assoc s.tables.exportTbl p).getD 0, s) := by
  have hok : tblError s 5 0 p false = none := by
    simp [tblError, tblInstance, tblExtent, tblDenied]
    omega
  rw [windowWordAt, hok]
  rfl

theorem windowWords_export (n p : Nat) (hp : p + n ≤ 0x80) (s : State) :
    windowWords 5 0 p n s = ((List.range n).map (fun k => (assoc s.tables.exportTbl (p + k)).getD 0), s) := by
  induction n generalizing p with
  | zero => rfl
  | succ n ih =>
    have hnext : (p + 1) % 2 ^ 32 = p + 1 := Nat.mod_eq_of_lt (by omega)
    have hshift : ∀ k, p + 1 + k = p + (k + 1) := fun k => by omega
    simp only [windowWords, windowWordAt_export (show p < 0x80 by omega), hnext, ih (p + 1) (by omega), hshift,
      List.range_succ_eq_map, List.map_cons, List.map_map, Nat.add_zero]
    rfl

theorem exec_windowRead_export (s : State) (n : Nat) (hs : s.sound) (hm : s.power.mode = .run) (ht : tblTable s = 5)
    (hi : tblIndex s = 0) (h1 : 1 ≤ n) (hn : n ≤ 128) (hp : tblPtr s + n ≤ 0x80) :
    ∃ u, exec (.windowRead n) s = .next u ∧ tblPtr u = tblPtr s + n ∧ u.tables = s.tables ∧
      (∃ st : Word, let body := wireBytes st ++ (List.range n).flatMap (fun k =>
          wireBytes ((assoc s.tables.exportTbl (tblPtr s + k)).getD 0))
       u.ctl.answer = some (body ++ [byte (crc8 body)])) := by
  have hlimit : limitBroken DEV 0x0B n = false := by
    simp [limitBroken, outside, isWindow]
    omega
  have hwords : singleRead DEV 0x0B n s =
      ((List.range n).map (fun k => (assoc s.tables.exportTbl (tblPtr s + k)).getD 0), tblAdvance n s) := by
    rw [show singleRead DEV 0x0B n s = windowWords (tblTable s) (tblIndex s) (tblPtr s) n (tblAdvance n s) from rfl, ht, hi,
      windowWords_export n _ hp]
    rfl
  have hptr : tblPtr (tblAdvance n s) = tblPtr s + n := by
    rw [tblPtr_tblAdvance n s hs.regs.1]
    exact Nat.mod_eq_of_lt (by omega)
  rw [show exec (.windowRead n) s = .next (readFrame (readCommand s DEV 0x0B n) s) from whenRun_of_run hm,
    readFrame_single hm (by decide) (by decide) (by omega) hlimit rfl, hwords]
  refine ⟨_, rfl, hptr, rfl, statusWord (tblAdvance n s) ocOk, ?_⟩
  simp only [drive, State.modCtl, List.flatMap_map]

/-- Settles O14: a word written to a store takes effect or is out of range, and a read of table EXPORT is a read frame
whose window hands out one word after another. -/
theorem tableWindow : Obligations.TableWindow := by
  unfold Obligations.TableWindow
  exact ⟨fun s v hs hm ht hi hlen => ⟨exec_windowWrite_inside s v hs hm ht hi hlen, exec_windowWrite_past s v hs hm ht hi⟩,
    exec_windowRead_export⟩

end Sys2Proof.Machine

namespace Sys2Proof.Machine

/-! ## LOCK (R123, R124)

Only a write of DEV_CTRL could clear LOCK; under LOCK every path to that register refuses a word that would change bit 15,
and the commands that set buttress mode whatever LOCK holds set bit 14 alone. -/

/-- A sound state with LOCK = 1. -/
structure State.lockHeld (s : State) : Prop where
  sound : s.sound
  lock : locked s = true

section
variable {s t : State}

theorem locked_of_devCtrl (hl : locked s = true) (h : t.devCtrl = s.devCtrl) : locked t = true :=
  (congrArg (wbit · 15) h).trans hl

theorem State.lockHeld.bit_lock (h : s.lockHeld) : s.bit DEV 0x03 15 = true := h.lock

theorem locked_ite {p : Prop} [Decidable p] (hs : locked s = true) (ht : locked t = true) :
    locked (if p then s else t) = true := by
  split
  · exact hs
  · exact ht

theorem State.lockHeld.same (h : s.lockHeld) (hs : t.sound) (hd : t.devCtrl = s.devCtrl) : t.lockHeld :=
  ⟨hs, locked_of_devCtrl h.lock hd⟩

theorem foldS_lockHeld {α : Type} {f : α → State → State} (hf : ∀ a s, s.lockHeld → (f a s).lockHeld)
    (xs : List α) (h : s.lockHeld) : (foldS f xs s).lockHeld := foldS_inv State.lockHeld f hf xs s h

/-! ### A word for DEV_CTRL -/

theorem setButtress_lockHeld (h : s.lockHeld) : (setButtress s).lockHeld :=
  ⟨setButtress_sound _ h.sound, (State.bit_setB h.sound.regs.1 _ _ _ _ (by decide)).trans (by simp [h.bit_lock])⟩

/-- A word that changes no RWL field of DEV_CTRL has its bits there. -/
theorem wbit_of_rwl_kept {v old : Word} (h : (v ^^^ old) &&& 0xC000 = 0) :
    wbit v 14 = wbit old 14 ∧ wbit v 15 = wbit old 15 := by
  have h14 := congrArg (·.getLsbD 14) h
  have h15 := congrArg (·.getLsbD 15) h
  exact ⟨by simpa [wbit] using h14, by simpa [wbit] using h15⟩

/-- DEV_CTRL holds the RWL bits of a word that is written to it. -/
theorem wbit_storedWord_devCtrl (old v : Word) :
    wbit (storedWord { rwl := 0xC000 } old v) 14 = wbit v 14 ∧
      wbit (storedWord { rwl := 0xC000 } old v) 15 = wbit v 15 := by
  simp [storedWord, word, wbit]

/-- A write of any other register leaves DEV_CTRL alone. -/
theorem regPut_devCtrl_other {sup : Bool} {t r : Nat} {i : RegInfo} {v : Word} (h : key t r ≠ key DEV 0x03) (s : State) :
    (regPut sup t r i v s).devCtrl = s.devCtrl := by
  have h1 : (s.wr t r (storedWord i (s.rd t r) v)).devCtrl = s.devCtrl := s.devCtrl_wr _ _ _ h
  unfold regPut
  dsimp only
  split
  · exact (devEffect_devCtrl _ _ _).trans h1
  split
  · exact supPut_devCtrl _ _ _ _ _ h1
  split
  · exact (pwrPut_devCtrl _ _ _).trans h1
  split
  · exact cryPut_devCtrl _ _ _ _ h1
  split
  · exact secPut_devCtrl _ _ _ _ _ h1
  split
  · split
    · exact pmpCtrl_devCtrl _ _
    · exact h1
  split
  · exact cloPut_devCtrl _ _ _ _ h1
  split
  · exact lnkPut_devCtrl _ _ _ _ _ h1
  split
  · exact chPut_devCtrl _ _ _ _ _ h1
  split
  · exact engPut_devCtrl _ _ _ _ _ h1
  · exact h1

theorem regInfo_devCtrl (p : Part) (st : Straps) : regInfo p st DEV 0x03 = some { rwl := 0xC000 } := by
  cases p <;> rfl

/-- A word written under LOCK, or one that changes no locked field, leaves LOCK set. -/
theorem wordWrite_lockHeld {sup lk : Bool} {t r : Nat} {v : Word} (h : s.lockHeld)
    (hlk : lk = true ∨ ∀ i, regInfo s.part s.straps t r = some i → changesLocked s t r i v = false) :
    (wordWrite sup lk t r v s).1.lockHeld := by
  refine ⟨wordWrite_sound _ _ _ _ _ _ h.sound, ?_⟩
  unfold wordWrite
  split
  · exact h.lock
  · next i hi =>
    split
    · exact locked_of_devCtrl h.lock (windowRegWrite_devCtrl _ _ _ _)
    split
    · exact h.lock
    split
    · exact h.lock
    next hfree =>
    split
    · exact locked_of_devCtrl h.lock (cfgConflict_devCtrl _)
    by_cases hk : key t r = key DEV 0x03
    · obtain ⟨rfl, rfl⟩ : t = DEV ∧ r = 0x03 := by simp only [key, DEV] at hk ⊢; omega
      obtain rfl : i = { rwl := 0xC000 } := Option.some.inj (hi.symm.trans (regInfo_devCtrl _ _))
      have hsame : changesLocked s DEV 0x03 { rwl := 0xC000 } v = false := by
        rcases hlk with rfl | hlk
        · simpa using hfree
        · exact hlk _ hi
      have hrwl : (v ^^^ s.rd DEV 0x03) &&& 0xC000 = 0 := Decidable.of_not_not (of_decide_eq_false hsame)
      have hput : (regPut sup DEV 0x03 { rwl := 0xC000 } v s).rd DEV 0x03 =
          storedWord { rwl := 0xC000 } (s.rd DEV 0x03) v := State.rd_wr_same _ _ _ _ h.sound.regs.1
      change wbit ((regPut sup DEV 0x03 { rwl := 0xC000 } v s).rd DEV 0x03) 15 = true
      rw [hput, (wbit_storedWord_devCtrl _ _).2, (wbit_of_rwl_kept hrwl).2]
      exact h.lock
    · exact locked_of_devCtrl h.lock (regPut_devCtrl_other hk s)

theorem targetWrite_lockHeld {sup : Bool} {t r : Nat} {v : Word} (h : s.lockHeld) :
    (targetWrite sup true t r v s).1.lockHeld := by
  unfold targetWrite
  split
  · exact h
  · refine foldS_inv (fun x : State × Bool => x.1.lockHeld) _ (fun _ _ hx => ?_) _ _ h
    exact wordWrite_lockHeld hx (.inl rfl)

/-! ### Write frames -/

theorem frameError_lockHeld (h : s.lockHeld) : (frameError s).lockHeld :=
  h.same (frameError_sound _ h.sound) (frameError_devCtrl _)

/-- A rejected word sets FRAME_ERR. -/
theorem ite_frameError_lockHeld {p : Prop} [Decidable p] (h : s.lockHeld) : (if p then frameError s else s).lockHeld := by
  split
  · exact frameError_lockHeld h
  · exact h

theorem frameWordPut_lockHeld {t r : Nat} {w : Nat × Word} {x : State × Bool} (h : x.1.lockHeld) :
    (frameWordPut true t r w x).1.lockHeld := targetWrite_lockHeld h

theorem rimWordPut_lockHeld {t r : Nat} {w : Nat × Word} {x : (State × Bool) × List (Nat × Word)} (h : x.1.1.lockHeld) :
    (rimWordPut true t r w x).1.1.lockHeld := by
  unfold rimWordPut
  split
  · exact h
  · exact frameWordPut_lockHeld h

theorem frameWords_lockHeld {t r : Nat} {ws : List (Nat × Word)} (h : s.lockHeld) : (frameWords t r ws s).1.lockHeld := by
  unfold frameWords
  simp only [h.lock]
  have hput : ∀ w (x : State × Bool), x.1.lockHeld → (frameWordPut true t r w x).1.lockHeld :=
    fun _ _ hx => frameWordPut_lockHeld hx
  refine foldS_inv (fun x : State × Bool => x.1.lockHeld) _ hput _ _ ?_
  refine foldS_inv (fun x : (State × Bool) × List (Nat × Word) => x.1.1.lockHeld) _
    (fun _ _ hx => rimWordPut_lockHeld hx) _ _ ?_
  exact foldS_inv (fun x : State × Bool => x.1.lockHeld) _ hput _ _ h

theorem writeFrame_lockHeld {bs : List Byte} (h : s.lockHeld) : (writeFrame bs s).lockHeld := by
  refine ⟨writeFrame_sound _ _ h.sound, ?_⟩
  unfold writeFrame
  split
  · exact locked_of_devCtrl h.lock (noAnswer_devCtrl _)
  split
  · unfold writeRun
    dsimp only
    split
    · exact locked_of_devCtrl h.lock (recordWrite_devCtrl _ _)
    · exact locked_of_devCtrl (frameWords_lockHeld h).lock (recordWrite_devCtrl _ _)
  · exact locked_of_devCtrl h.lock (writeHush_devCtrl _ _)
  · exact locked_of_devCtrl h.lock (noAnswer_devCtrl _)

/-! ### Words of the host, the supervisor and the JTAG access path -/

theorem hostWord_lockHeld {t r : Nat} {v : Word} (h : s.lockHeld) : (hostWord t r v s).lockHeld := by
  have hw : (wordWrite false (locked s) t r v s).1.lockHeld := wordWrite_lockHeld h (.inl h.lock)
  exact ite_frameError_lockHeld hw

theorem supWrite_lockHeld {t r : Nat} {v : Word} (h : s.lockHeld) : (supWrite t r v s).lockHeld :=
  wordWrite_lockHeld h (.inl h.lock)

theorem regStore_locked {t r : Nat} {v : Word} (h : s.lockHeld) : locked (regStore t r v s) = true := by
  have hw : (targetWrite true (locked s) t r v s).1.lockHeld := by
    rw [h.lock]
    exact targetWrite_lockHeld h
  unfold regStore
  split
  · exact locked_of_devCtrl h.lock (busError_devCtrl _)
  dsimp only
  split
  · exact locked_of_devCtrl (frameError_lockHeld hw).lock (busDone_devCtrl _)
  split
  · exact locked_of_devCtrl hw.lock (busError_devCtrl _)
  · exact locked_of_devCtrl hw.lock (busDone_devCtrl _)

theorem regaccAccess_locked {wr : Bool} {t r : Nat} {v : Word} (h : s.lockHeld) :
    locked (regaccAccess wr t r v s) = true := by
  unfold regaccAccess
  extract_lets a single info
  split
  · exact locked_of_devCtrl h.lock (tapDone_devCtrl _ _ _ _)
  split
  · split
    · exact locked_of_devCtrl h.lock (tapDone_devCtrl _ _ _ _)
    · next hfree =>
      have hw : (wordWrite false false t r v s).1.lockHeld :=
        wordWrite_lockHeld h (.inr fun i hi => by simpa [info, h.lock, hi] using hfree)
      exact locked_of_devCtrl (ite_frameError_lockHeld hw).lock (tapDone_devCtrl _ _ _ _)
  · exact locked_of_devCtrl h.lock ((tapDone_devCtrl _ _ _ _).trans (wordRead_devCtrl _ _ _))

theorem regaccUpdate_locked {dr : BitVec 34} (h : s.lockHeld) : locked (regaccUpdate dr s) = true := by
  unfold regaccUpdate
  split
  · exact h.lock
  · exact regaccAccess_locked h

theorem registerWrite_locked {src : Source} {t r : Nat} {v : Word} (h : s.lockHeld) :
    locked (registerWrite src t r v s) = true := by
  unfold registerWrite
  split
  · have hw : (targetWrite false (locked s) t r v s).1.lockHeld := by
      rw [h.lock]
      exact targetWrite_lockHeld h
    exact (ite_frameError_lockHeld hw).lock
  · exact regStore_locked h
  · exact regaccAccess_locked h

/-! ### The supervisor's stores and requests -/

theorem fltButtress_locked {v : W32} (h : s.lockHeld) : locked (fltButtress v s) = true := by
  unfold fltButtress
  refine locked_of_devCtrl ?_ (busDone_devCtrl _)
  split
  · exact (setButtress_lockHeld h).lock
  · exact h.lock

theorem fltStore_locked {o : Nat} {v : W32} (h : s.lockHeld) : locked (fltStore o v s) = true := by
  unfold fltStore
  split
  · exact locked_of_devCtrl h.lock (fltPop_devCtrl _)
  split
  · exact locked_of_devCtrl h.lock (fltRetire_devCtrl _ _)
  split
  · exact locked_of_devCtrl h.lock (fltReadmit_devCtrl _ _)
  split
  · exact fltButtress_locked h
  all_goals exact locked_of_devCtrl h.lock (by (repeat' split) <;> simp)

theorem supStore_locked {a size : Nat} {v : W32} (h : s.lockHeld) : locked (supStore a size v s) = true := by
  unfold supStore
  split
  · exact locked_of_devCtrl h.lock (busError_devCtrl _)
  split
  case h_3 => exact regStore_locked h
  case h_6 => exact fltStore_locked h
  all_goals exact locked_of_devCtrl h.lock (by (repeat' split) <;> simp)

theorem stewardHandover_locked (h : s.lockHeld) : locked (stewardHandover s) = true := by
  unfold stewardHandover
  refine locked_of_devCtrl ?_ ((busDone_devCtrl _).trans (handover_devCtrl _))
  split
  · exact (supWrite_lockHeld h).lock
  · exact h.lock

/-- A request whose service keeps LOCK. -/
theorem serveRequest_locked {code : Nat} {f : State → State × Nat × Nat × Nat × Nat}
    (hf : ∀ u : State, u.lockHeld → locked (f u).1 = true) (h : s.lockHeld) :
    locked (serveRequest code f s) = true := by
  unfold serveRequest
  split
  · have htake : (takeRequest s).lockHeld := h.same (takeRequest_sound _ h.sound) (takeRequest_devCtrl _)
    exact locked_of_devCtrl (hf _ htake) (mboxReply_devCtrl _ _ _ _ _ _)
  · exact h.lock

theorem admitGrant_locked {f : Word} {c : Nat} {v : Word} (h : s.lockHeld) : locked (admitGrant f c v s) = true := by
  have hif : ∀ (b : Bool) (t r : Nat) (x : Word) (u : State), u.lockHeld → (if b then supWrite t r x u else u).lockHeld :=
    fun b t r x u hu => by
      split
      · exact supWrite_lockHeld hu
      · exact hu
  unfold admitGrant
  refine (hif _ _ _ _ _ (hif _ _ _ _ _ (hif _ _ _ _ _ ?_))).lock
  split
  · refine supWrite_lockHeld ?_
    split
    · exact h
    · exact h.same (copyPairs_sound _ _ _ h.sound) (copyPairs_devCtrl _ _ _)
  · exact h

theorem admitServe_locked (h : s.lockHeld) : locked (admitServe s).1 = true := by
  unfold admitServe
  extract_lets f mask v c mapped after now target stroke
  split
  · exact h.lock
  split
  · exact h.lock
  split
  · exact h.lock
  · split
    dsimp only
    split
    · exact h.lock
    · exact admitGrant_locked h

theorem mboxAdmit_locked (h : s.lockHeld) : locked (mboxAdmit s) = true := by
  unfold mboxAdmit
  split
  · exact h.lock
  · refine serveRequest_locked (fun u hu => ?_) h
    split
    · exact admitServe_locked hu
    · exact hu.lock

theorem retireServe_locked (h : s.lockHeld) : locked (retireServe s).1 = true := by
  unfold retireServe
  dsimp only
  split
  · exact (setButtress_lockHeld h).lock
  split
  · exact locked_of_devCtrl h.lock (retireUnit_devCtrl _ _ _)
  · exact h.lock

/-- The steward's action on a record may set buttress mode and writes no other bit of DEV_CTRL (R486). -/
theorem policyAct_lockHeld (r : FaultRec) (h : s.lockHeld) : (policyAct r s).lockHeld := by
  have hbank : (policyRetire 2 r.unit s).lockHeld := h.same (policyRetire_sound _ _ _ h.sound) (policyRetire_devCtrl _ _ _)
  refine ⟨policyAct_sound _ _ h.sound, ?_⟩
  unfold policyAct
  dsimp only
  split
  case h_3 => exact (setButtress_lockHeld hbank).lock
  case h_4 | h_5 => exact (setButtress_lockHeld h).lock
  case h_7 =>
    split
    · exact locked_of_devCtrl h.lock (State_modPolicy_devCtrl _ _)
    · exact (setButtress_lockHeld hbank).lock
  all_goals exact locked_of_devCtrl h.lock (by (repeat' split) <;> simp)

theorem stewardPop_locked (h : s.lockHeld) : locked (stewardPop s) = true := by
  have hpop : (fltPop s).lockHeld := h.same (fltPop_sound _ h.sound) (fltPop_devCtrl _)
  unfold stewardPop
  split
  · split
    · exact (policyAct_lockHeld _ hpop).lock
    · exact hpop.lock
  · exact hpop.lock

theorem keepRecord_lockHeld (r : FaultRec) (h : s.lockHeld) : (s.modSup (keepRecord r)).lockHeld := by
  refine h.same (State_modSup_sound _ _ h.sound (fun u hu => ?_) fun u hu => ?_) rfl
  all_goals unfold keepRecord; split <;> exact hu

theorem keepAll_locked (h : s.lockHeld) : locked (keepAll s) = true := by
  have hempty : { s with faults := { s.faults with queue := [] } }.lockHeld :=
    h.same { h.sound with faults := Nat.zero_le _ } rfl
  exact (foldS_lockHeld (fun r _ hx => policyAct_lockHeld r (keepRecord_lockHeld r hx)) _ hempty).lock

theorem faultsServe_locked (h : s.lockHeld) : locked (faultsServe s).1 = true := by
  unfold faultsServe
  dsimp only
  split
  · exact h.lock
  · exact locked_of_devCtrl (keepAll_locked h) (by simp)

theorem lockSet_locked (h : s.sound) : locked (s.setB DEV 0x03 15) = true :=
  (State.bit_setB h.regs.1 _ _ _ _ (by decide)).trans (by simp)

/-! ### The obligation -/

/-- The commands in which power goes or a reset acts (R124, R513, R519, R531). -/
def resetsDevice : Instr → Bool
  | .powerUp _ | .cryptBrownout | .resetNAssert | .dormantEntry | .dormantWake => true
  | _ => false

/-- Every other command keeps LOCK. -/
theorem exec_keeps_lock (c : Instr) (s : State) (h : s.lockHeld) (hc : resetsDevice c = false) :
    ∃ t, exec c s = .next t ∧ locked t = true := by
  have same : locked s = true := h.lock
  have kept : ∀ {t : State}, t.devCtrl = s.devCtrl → locked t = true := locked_of_devCtrl same
  have word : ∀ (t r : Nat) (v : Word), locked (hostWord t r v s) = true := fun _ _ _ => (hostWord_lockHeld h).lock
  cases c
  case powerUp | cryptBrownout | resetNAssert | dormantEntry | dormantWake => cases hc
  case writeFrame bs => exact always_next (writeFrame_lockHeld h).lock
  case registerWrite => exact whenRun_next same fun _ => registerWrite_locked h
  case lockSet => exact whenRun_next (f := fun s => s.setB DEV 0x03 15) same fun _ => lockSet_locked h.sound
  case buttressOnly on =>
    exact whenRun_next (f := fun s => hostWord DEV 0x03 (putBit (s.rd DEV 0x03) 14 on) s) same fun _ => word _ _ _
  case tagLowWaterReset | supHalt | cloLoad | levelRequest | tbSelWrite => exact whenRun_next same fun _ => word _ _ _
  case supRestart =>
    exact whenRun_next (f := fun s => hostWord SUP 0x00 (setBit (s.rd SUP 0x00) 14) s) same fun _ => word _ _ _
  case supGo =>
    exact whenRun_next (f := fun s => hostWord SUP 0x00 (setBit (s.rd SUP 0x00) 13) s) same fun _ => word _ _ _
  case cloAbort =>
    exact whenRun_next (f := fun s => hostWord CLO 0x00 (setBit (s.rd CLO 0x00) 14) s) same fun _ => word _ _ _
  case modeRunWrite =>
    exact whenRun_next (f := fun s => hostWord PWR 0x01 (putFld (s.rd PWR 0x01) 0 2 0) s) same fun _ => word _ _ _
  case cloSafeWrite r v =>
    exact whenRun_next (f := fun s => if 4 ≤ r.toNat ∧ r.toNat ≤ 6 then hostWord CLO r.toNat v s else s) same fun _ =>
      locked_ite (word _ _ _) same
  case inWinClear | bankSizeWrite | linkEnable | linkDisable | linkRetire | linkUnretire | injArm | injSeedWrite =>
    exact whenRun_next same fun _ => locked_ite (word _ _ _) same
  case admitReq => exact whenRun_next same fun _ => mboxAdmit_locked h
  case mboxRetire => exact whenRun_next same fun _ => serveRequest_locked (fun _ hu => retireServe_locked hu) h
  case mboxFaults => exact whenRun_next same fun _ => serveRequest_locked (fun _ hu => faultsServe_locked hu) h
  case supStore => exact whenSup_next same (supStore_locked h)
  case fltPop => exact whenSup_next same (stewardPop_locked h)
  case fltButtress => exact whenSup_next same (fltButtress_locked h)
  case handover => exact whenSup_next same (stewardHandover_locked h)
  case regaccUpdate => exact always_next (regaccUpdate_locked h)
  case tickEdge | readFrame | tbLogRead | tapReset | extest | samplePreload | idcode | clamp | highz | regacc | bypass =>
    exact always_next (kept (by simp))
  case wakeEdge | listenerMatch | startStage | refclkTimeout | resetNRelease | tbChangeover | crystalStop |
      timebaseCount =>
    exact whenPowered_next same (kept (by simp))
  case pllLockLoss | rimPllLock => exact whenUp_next same (kept (by simp))
  case supWfi | supLoad | supFence | supRing | supTry | supPeek | supPost | bankReadyMark | fltQstat | fltHeadRead |
      fltRetire | fltReadmit | fltRepair | fltScrub | shadowCfg =>
    exact whenSup_next same (kept (by simp))
  case intCauseClear v => exact whenSup_next (f := fun s => busDone (causeClear v s)) same (kept (by simp))
  all_goals exact whenRun_next same fun _ => kept (by simp)

theorem resetsDevice_cases {c : Instr} (h : resetsDevice c = true) :
    (∃ b, c = .powerUp b) ∨ c = .cryptBrownout ∨ c = .resetNAssert ∨ c = .dormantEntry ∨ c = .dormantWake := by
  cases c
  case powerUp b => exact .inl ⟨b, rfl⟩
  case cryptBrownout => exact .inr (.inl rfl)
  case resetNAssert => exact .inr (.inr (.inl rfl))
  case dormantEntry => exact .inr (.inr (.inr (.inl rfl)))
  case dormantWake => exact .inr (.inr (.inr (.inr rfl)))
  all_goals exact absurd h Bool.false_ne_true

end

/-- Settles O16: a command that is no reset and no loss of power keeps LOCK. -/
theorem lockFallsOnlyByReset : Obligations.LockFallsOnlyByReset := by
  unfold Obligations.LockFallsOnlyByReset
  intro c s t hs hl h hfall
  refine resetsDevice_cases (Bool.not_eq_false _ ▸ fun hc => ?_)
  obtain ⟨u, hu, hlock⟩ := exec_keeps_lock c s ⟨hs, hl⟩ hc
  cases hu.symm.trans h
  exact absurd (hlock.symm.trans hfall) (by decide)

end Sys2Proof.Machine

/-! ## LOCK_SET, BUTTRESS_ONLY and TAG_LOW_WATER_RESET (R123, R139, R343) -/

namespace Sys2Proof.Machine

section
variable {s : State}

theorem exec_lockSet (hs : s.sound) (hm : s.power.mode = .run) :
    ∃ u, exec .lockSet s = .next u ∧ locked u = true ∧ u = { s with regs := u.regs } ∧
      (∀ t' r', key t' r' ≠ key DEV 0x03 → u.rd t' r' = s.rd t' r') ∧
      (∀ j, j < 15 → u.bit DEV 0x03 j = s.bit DEV 0x03 j) := by
  refine ⟨s.setB DEV 0x03 15, whenRun_of_run (f := fun s => s.setB DEV 0x03 15) hm, lockSet_locked hs, rfl,
    fun t' r' hk => State.rd_wr_other _ _ _ _ _ _ hk, fun j hj => ?_⟩
  rw [State.bit_setB hs.regs.1 _ _ _ _ (by omega)]
  simp [show 15 ≠ j by omega]

/-- The word that BUTTRESS_ONLY writes. -/
abbrev buttressWord (on : Bool) (s : State) : Word := putBit (s.rd DEV 0x03) 14 on

theorem buttressWord_bit (on : Bool) (s : State) : wbit (buttressWord on s) 14 = on := by simp

theorem exec_buttressOnly (hm : s.power.mode = .run) (on : Bool) :
    exec (.buttressOnly on) s = .next (hostWord DEV 0x03 (buttressWord on s) s) :=
  whenRun_of_run (f := fun s => hostWord DEV 0x03 (buttressWord on s) s) hm

/-- A word of the host that is refused by nothing is stored with its effect. -/
theorem hostWord_regPut {t r : Nat} {v : Word} {i : RegInfo} (hi : regInfo s.part s.straps t r = some i)
    (hlk : (locked s && changesLocked s t r i v) = false) (hw : isWindow t r = false := by rfl)
    (hres : reservedWord s.part t r v = false := by rfl) (hc : breaksConstraint s t r v = false := by rfl) :
    hostWord t r v s = regPut false t r i v s := by
  simp [hostWord, wordWrite_regPut hi hw hres hlk hc]

theorem exec_buttressOnly_stores (hs : s.sound) (hm : s.power.mode = .run) (on : Bool) (hl : locked s = false) :
    ∃ u, exec (.buttressOnly on) s = .next u ∧ u.bit DEV 0x03 14 = on ∧ u = { s with regs := u.regs } ∧
      (∀ t' r', key t' r' ≠ key DEV 0x03 → u.rd t' r' = s.rd t' r') := by
  have hput : hostWord DEV 0x03 (buttressWord on s) s =
      s.wr DEV 0x03 (storedWord { rwl := 0xC000 } (s.rd DEV 0x03) (buttressWord on s)) :=
    hostWord_regPut (regInfo_devCtrl _ _) (by simp [hl])
  refine ⟨_, exec_buttressOnly hm on, ?_, ?_, fun t' r' hk => ?_⟩
  · rw [hput, State.bit, State.rd_wr_same _ _ _ _ hs.regs.1]
    exact (wbit_storedWord_devCtrl _ _).1.trans (buttressWord_bit on s)
  · rw [hput]
    rfl
  · rw [hput]
    exact State.rd_wr_other _ _ _ _ _ _ hk

theorem exec_buttressOnly_refused (hs : s.sound) (hm : s.power.mode = .run) (on : Bool) (hl : locked s = true)
    (hon : on ≠ s.bit DEV 0x03 14) :
    ∃ u, exec (.buttressOnly on) s = .next u ∧ u.rd DEV 0x03 = s.rd DEV 0x03 ∧ u.bit DEV 0x04 15 = true := by
  have hchange : changesLocked s DEV 0x03 { rwl := 0xC000 } (buttressWord on s) = true := by
    exact decide_eq_true fun hzero => hon ((buttressWord_bit on s).symm.trans (wbit_of_rwl_kept hzero).1)
  have hbad : hostWord DEV 0x03 (buttressWord on s) s = frameError s := by
    have hw : wordWrite false (locked s) DEV 0x03 (buttressWord on s) s = (s, true) := by
      simp [wordWrite, regInfo_devCtrl, isWindow, reservedWord, hl, hchange]
    simp [hostWord, hw]
  refine ⟨_, exec_buttressOnly hm on, ?_, ?_⟩
  · rw [hbad]
    exact frameError_rd_other s _ _ (by decide) (by decide)
  · rw [hbad]
    exact (frameError_bits s hs).1

/-- TAG_LOW_WATER: MARK is read-only, RESET clears itself (R139). -/
def tagLowWaterInfo : RegInfo := { wsc := 0x8000, reset := 0x0100, home := .core }

/-- RESET = 1 loads MARK with the free tags. -/
theorem hostWord_tagLowWater (s : State) : hostWord DEV 0x19 0x8000 s =
    (s.wr DEV 0x19 (storedWord tagLowWaterInfo (s.rd DEV 0x19) 0x8000)).wr DEV 0x19 (word (freeTags s)) :=
  hostWord_regPut (i := tagLowWaterInfo) (by cases s.part <;> rfl)
    (by rw [changesLocked_of_no_rwl (by decide) rfl, Bool.and_false])

theorem exec_tagLowWaterReset (hs : s.sound) (hm : s.power.mode = .run) (hops : s.ops.length ≤ 256) :
    ∃ u, exec .tagLowWaterReset s = .next u ∧ (u.rd DEV 0x19).toNat = 256 - s.ops.length ∧
      u = { s with regs := u.regs } ∧ (∀ t' r', key t' r' ≠ key DEV 0x19 → u.rd t' r' = s.rd t' r') := by
  have hexec : exec .tagLowWaterReset s = .next (hostWord DEV 0x19 0x8000 s) := whenRun_of_run hm
  refine ⟨_, hexec, ?_, ?_, fun t' r' hk => ?_⟩
  · rw [hostWord_tagLowWater, State.rd_wr_same _ _ _ _ (State.wr_rises _ _ _ _ hs.regs.1)]
    have hfree : freeTags s < 2 ^ 16 := by simp only [freeTags]; omega
    exact Nat.mod_eq_of_lt hfree
  · rw [hostWord_tagLowWater]
    rfl
  · rw [hostWord_tagLowWater]
    exact (State.rd_wr_other _ _ _ _ _ _ hk).trans (State.rd_wr_other _ _ _ _ _ _ hk)

end

/-- Settles O15: each of the three rows writes its own register, and LOCK refuses a changed BUTTRESS_ONLY. -/
theorem deviceControlRows : Obligations.DeviceControlRows := by
  unfold Obligations.DeviceControlRows
  exact fun s hs hm =>
    ⟨exec_lockSet hs hm, exec_buttressOnly_stores hs hm, exec_buttressOnly_refused hs hm, exec_tagLowWaterReset hs hm⟩

end Sys2Proof.Machine

namespace Sys2Proof.Machine

/-! ## What a completion leaves to the link ports (R447)

The operations that a port loses complete one by one; a completion writes events, counts and stores, but no link register, no
port's state, and it takes no XID. -/

/-- From `r` to `s` the ports' states and registers stay, and a port that holds no XID takes none. -/
structure State.keepsLinks (r s : State) : Prop where
  rd : ∀ n x, s.rd (LNK n) x = r.rd (LNK n) x
  st : ∀ n, (s.port n).st = (r.port n).st
  count : s.ports.length = r.ports.length
  xids : ∀ n, (r.port n).xids = [] → (s.port n).xids = []

section
variable {r s t : State}

theorem State.keepsLinks_refl (s : State) : s.keepsLinks s := ⟨fun _ _ => rfl, fun _ => rfl, rfl, fun _ => id⟩

/-- An update that leaves the registers and the ports. -/
theorem State.keepsLinks.same (h : r.keepsLinks s)
    (hsame : (t.regs, t.part, t.straps, t.ports) = (s.regs, s.part, s.straps, s.ports)) : r.keepsLinks t := by
  simp only [Prod.mk.injEq] at hsame
  obtain ⟨hregs, hpart, hstraps, hports⟩ := hsame
  have hport : ∀ n, t.port n = s.port n := fun n => congrArg (nth · n Port.reset) hports
  exact ⟨fun n x => (State.rd_regs _ _ _ _ hregs hpart hstraps).trans (h.rd n x), fun n => by rw [hport]; exact h.st n,
    (congrArg List.length hports).trans h.count, fun n hx => by rw [hport]; exact h.xids n hx⟩

theorem State.wr_keepsLinks (h : r.keepsLinks s) {a x : Nat} {v : Word} (hk : key a x < 0x800) :
    r.keepsLinks (s.wr a x v) :=
  ⟨fun n y => (State.rd_wr_other _ _ _ _ _ _ (by simp only [key, LNK] at hk ⊢; omega)).trans (h.rd n y), h.st, h.count,
    h.xids⟩

/-- A change of a port that leaves its state and takes no XID. -/
theorem State.modPort_keepsLinks (h : r.keepsLinks s) {p : Nat} {f : Port → Port} (hst : ∀ q, (f q).st = q.st)
    (hxids : ∀ q, q.xids = [] → (f q).xids = []) : r.keepsLinks (s.modPort p f) where
  rd := h.rd
  st n := (nth_modAt_keeps Port.st _ _ _ _ _ hst).trans (h.st n)
  count := (modAt_length _ _ _).trans h.count
  xids n hx := by
    have hn : (s.port n).xids = [] := h.xids n hx
    by_cases hp : p = n ∧ p < s.ports.length
    · obtain ⟨rfl, hlt⟩ := hp
      exact (congrArg Port.xids (nth_modAt_same _ _ _ _ hlt)).trans (hxids _ hn)
    · have hsame : (s.modPort p f).port n = s.port n := by
        simp only [State.port, State.modPort, nth, List.getD, modAt_getElem?]
        split
        · next hpn => rw [List.getElem?_eq_none (by omega)]; rfl
        · rfl
      rw [hsame]
      exact hn

theorem foldS_keepsLinks {α : Type} {f : α → State → State} {xs : List α} (h : r.keepsLinks s)
    (hf : ∀ a s, r.keepsLinks s → r.keepsLinks (f a s)) : r.keepsLinks (foldS f xs s) := foldS_inv r.keepsLinks f hf xs s h

theorem raise_keepsLinks (h : r.keepsLinks s) {i : Nat} : r.keepsLinks (raise i s) := by
  have hset : r.keepsLinks (s.setB DEV 0x05 i) := State.wr_keepsLinks h (by decide)
  unfold raise
  dsimp only
  split
  · exact hset
  · exact hset.same rfl

theorem faultRecord_keepsLinks (h : r.keepsLinks s) {src unit chan flags detail detail2 : Nat} :
    r.keepsLinks (faultRecord src unit chan flags detail detail2 s) := by
  unfold faultRecord
  refine raise_keepsLinks ?_
  exact h.same rfl

theorem chargeChannel_keepsLinks (h : r.keepsLinks s) {c : Nat} : r.keepsLinks (chargeChannel c s) := h.same rfl

theorem promiseBroken_keepsLinks (h : r.keepsLinks s) {stall : Bool} {no : Nat} {cs : List Nat} :
    r.keepsLinks (promiseBroken stall no cs s) := by
  unfold promiseBroken
  extract_lets s1 w tick s2
  have h1 : r.keepsLinks s1 := State.wr_keepsLinks h (by decide)
  have h2 : r.keepsLinks s2 := by
    unfold s2
    split
    · exact h1
    · refine raise_keepsLinks (State.wr_keepsLinks ?_ (by decide))
      exact h1.same rfl
  split
  · exact foldS_keepsLinks h2 fun _ _ hs => hs.same rfl
  · exact h2

theorem tickFault_keepsLinks (h : r.keepsLinks s) {src unit c no flags detail detail2 : Nat} :
    r.keepsLinks (tickFault src unit c no flags detail detail2 s) :=
  promiseBroken_keepsLinks (chargeChannel_keepsLinks (faultRecord_keepsLinks h))

theorem completionFault_keepsLinks (h : r.keepsLinks s) {o : PumpOp} : r.keepsLinks (completionFault o s) := by
  have hheld : ∀ e, r.keepsLinks (holdFault e fOperation none s) := fun _ => h.same rfl
  unfold completionFault
  dsimp only
  split
  · exact h
  split
  · exact (tickFault_keepsLinks (hheld _)).same rfl
  · exact faultRecord_keepsLinks (hheld _)
  · exact faultRecord_keepsLinks h

theorem storeCompletion_keepsLinks (h : r.keepsLinks s) {o : PumpOp} : r.keepsLinks (storeCompletion o s) := by
  unfold storeCompletion
  split <;> exact h.same rfl

theorem returnXid_keepsLinks (h : r.keepsLinks s) {o : PumpOp} : r.keepsLinks (returnXid o s) := by
  unfold returnXid
  split
  · split
    · exact h
    · exact State.modPort_keepsLinks h (fun _ => rfl) fun q hq => by simp [hq]
  · exact h

theorem completeOp_keepsLinks (h : r.keepsLinks s) {o : PumpOp} : r.keepsLinks (completeOp o s) := by
  have hgone : r.keepsLinks { s with ops := s.ops.filter (fun x => x.id ≠ o.id) } := h.same rfl
  unfold completeOp
  extract_lets s1
  have h1 : r.keepsLinks s1 := returnXid_keepsLinks (storeCompletion_keepsLinks hgone)
  refine completionFault_keepsLinks ?_
  split
  · exact State.wr_keepsLinks h1 (by decide)
  · exact h1

/-! ### Operations that a port loses -/

theorem completeOp_gone (hs : r.keepsMarks s) (o : PumpOp) : ∀ x ∈ (completeOp o s).ops, x.id ≠ o.id := fun x hx => by
  have hleft := (completeOp_keepsMarks_removed (o := o) (hs.here.removed o.id).here).ops hx
  simpa using (List.mem_filter.mp hleft).2

/-- What `loseTransfers` does with one operation. -/
def loseOp (o : PumpOp) (s : State) : State := completeOp { o with fail := stLost } s

theorem loseTransfers_eq (p : Nat) (s : State) :
    loseTransfers p s = (foldS loseOp (portOps s p) s).modPort p (fun q => { q with xids := [] }) := rfl

theorem loseOp_keepsMarks (h : r.keepsMarks s) {o : PumpOp} : r.keepsMarks (loseOp o s) :=
  completeOp_keepsMarks_removed (h.removed _)

theorem foldS_loseOp_gone (xs : List PumpOp) (h : r.keepsMarks s) :
    ∀ x ∈ (foldS loseOp xs s).ops, ∀ o ∈ xs, x.id ≠ o.id := by
  induction xs generalizing s with
  | nil => simp
  | cons y ys ih =>
    intro x hx o ho
    have hy : r.keepsMarks (loseOp y s) := loseOp_keepsMarks h
    rw [foldS_cons] at hx
    rcases List.mem_cons.mp ho with rfl | ho
    · have hsub := (foldS_keepsMarks hy.here (xs := ys) fun _ _ hz => loseOp_keepsMarks hz).ops hx
      exact completeOp_gone h { o with fail := stLost } x hsub
    · exact ih hy x hx o ho

theorem loseTransfers_keepsLinks (h : r.keepsLinks s) {p : Nat} : r.keepsLinks (loseTransfers p s) :=
  State.modPort_keepsLinks (foldS_keepsLinks h fun _ _ hx => completeOp_keepsLinks hx) (fun _ => rfl) fun _ _ => rfl

theorem endPeerService_keepsLinks (h : r.keepsLinks s) {p : Nat} : r.keepsLinks (endPeerService p s) :=
  State.modPort_keepsLinks (foldS_keepsLinks h fun _ _ hx => completeOp_keepsLinks hx) (fun _ => rfl) fun _ hq => hq

theorem endPeerService_keepsMarks (h : r.keepsMarks s) {p : Nat} : r.keepsMarks (endPeerService p s) :=
  (foldS_keepsMarks h fun _ _ hx => completeOp_keepsMarks_removed (hx.removed _)).same rfl

theorem freezeXfers_keepsLinks (h : r.keepsLinks s) {p : Nat} : r.keepsLinks (freezeXfers p s) := h.same rfl

/-- An operation whose transfer count on port `p` stops on RIM count `now`. -/
def freezeXfer (p now : Nat) (o : PumpOp) : PumpOp :=
  match o.xferFrom with
  | some t => if o.port = p then { o with xferFrom := none, xferCount := o.xferCount + (now - t) } else o
  | none => o

theorem freezeXfers_eq (p : Nat) (s : State) : freezeXfers p s = { s with ops := s.ops.map (freezeXfer p s.now) } := rfl

theorem freezeXfer_keeps (p now : Nat) (o : PumpOp) :
    let x := freezeXfer p now o
    (x.id, x.desc, x.port, x.moved) = (o.id, o.desc, o.port, o.moved) := by
  dsimp only
  unfold freezeXfer
  split
  · split <;> rfl
  · rfl

/-- The operations that travel on a port keep their numbers while their transfer counts stop. -/
theorem freezeXfers_portOps {p : Nat} {o : PumpOp} (ho : o ∈ portOps s p) :
    ∃ x ∈ portOps (freezeXfers p s) p, x.id = o.id := by
  obtain ⟨hmem, hon⟩ := List.mem_filter.mp ho
  have hkeep := freezeXfer_keeps p s.now o
  simp only [Prod.mk.injEq] at hkeep
  obtain ⟨hid, hdesc, hport, hmoved⟩ := hkeep
  refine ⟨freezeXfer p s.now o, List.mem_filter.mpr ⟨List.mem_map_of_mem hmem, ?_⟩, hid⟩
  simpa only [hdesc, hport, hmoved] using hon

/-! ### A port's state -/

theorem State.port_modPort_same {p : Nat} (hp : p < s.ports.length) (f : Port → Port) : (s.modPort p f).port p = f (s.port p) :=
  nth_modAt_same _ _ _ _ hp

theorem State.port_modPort_other {p n : Nat} (hn : n ≠ p) (f : Port → Port) : (s.modPort p f).port n = s.port n :=
  nth_modAt_other _ _ _ _ _ (Ne.symm hn)

theorem raise_ports (i : Nat) (s : State) : (raise i s).ports = s.ports := by
  unfold raise
  dsimp only
  split <;> rfl

theorem raise_ops (i : Nat) (s : State) : (raise i s).ops = s.ops := congrArg (·.1) (raise_plant i s)

theorem setLink_of_ne {p : Nat} {st : LinkSt} (h : (s.port p).st ≠ st) :
    setLink p st s = raise evLink (s.modPort p (fun q => { q with st := st })) := if_neg h

theorem setLink_port_same {p : Nat} {st : LinkSt} (h : (s.port p).st ≠ st) (hp : p < s.ports.length) :
    (setLink p st s).port p = { s.port p with st := st } := by
  rw [setLink_of_ne h, State.port, raise_ports]
  exact State.port_modPort_same hp _

theorem setLink_port_other {p n : Nat} {st : LinkSt} (hn : n ≠ p) : (setLink p st s).port n = s.port n := by
  unfold setLink
  split
  · rfl
  · rw [State.port, raise_ports]
    exact State.port_modPort_other hn _

theorem setLink_event {p : Nat} {st : LinkSt} (h : (s.port p).st ≠ st) (hs : s.sound) :
    (setLink p st s).bit DEV 0x05 evLink = true := by
  rw [setLink_of_ne h]
  exact raise_bit_event _ _ hs.regs.1 (by decide)

theorem setLink_rd_LNK {p n x : Nat} {st : LinkSt} : (setLink p st s).rd (LNK n) x = s.rd (LNK n) x := by
  unfold setLink
  split
  · rfl
  · exact raise_rd_other _ _ _ _ (by simp only [key, LNK, DEV]; omega)

/-! ### A port enters Down, Lost or Retired (R447) -/

/-- Port `p` with its transfers lost and the operations it served completed. -/
@[irreducible] def portEmptied (p : Nat) (s : State) : State := endPeerService p (loseTransfers p (freezeXfers p s))

/-- A port whose sequence state starts afresh. -/
def Port.noSequence (q : Port) : Port :=
  { q with txNext := 0, expect := 0, replay := [], held := [], nak := none, firings := 0, queue := [], late := none }

/-- A port that holds no state of a partner and no lock. -/
def Port.unpaired (q : Port) : Port :=
  { q with hasState := false, paused := false, seen := false, quiet := false, wasUp := false, rx0 := LaneRx.reset,
           rx1 := LaneRx.reset }

/-- Port `p` with its traffic lost, before its state changes. -/
def portCleared (p : Nat) (s : State) : State :=
  (((portEmptied p s).modPort p Port.noSequence).modPort p Port.unpaired).clrB (LNK p) 0x04 15

theorem killPort_eq (p : Nat) (st : LinkSt) (s : State) : killPort p st s = setLink p st (portCleared p s) := by
  unfold portCleared portEmptied
  rfl

section
variable {p : Nat}

theorem portEmptied_keepsLinks : s.keepsLinks (portEmptied p s) := by
  unfold portEmptied
  exact endPeerService_keepsLinks (loseTransfers_keepsLinks (freezeXfers_keepsLinks s.keepsLinks_refl))

theorem portEmptied_count : (portEmptied p s).ports.length = s.ports.length := portEmptied_keepsLinks.count

theorem portEmptied_sound (hs : s.sound) : (portEmptied p s).sound := by
  unfold portEmptied
  exact endPeerService_sound _ _ (loseTransfers_sound _ _ (freezeXfers_sound _ _ hs))

theorem portEmptied_gone (hs : s.sound) : ∀ o ∈ portOps s p, ∀ x ∈ (portEmptied p s).ops, x.id ≠ o.id := by
  unfold portEmptied
  intro o ho x hx
  obtain ⟨y, hy, hid⟩ := freezeXfers_portOps ho
  have hfreeze : (freezeXfers p s).sound := freezeXfers_sound p s hs
  have hlose : (loseTransfers p (freezeXfers p s)).sound := loseTransfers_sound _ _ hfreeze
  have hx := (endPeerService_keepsMarks hlose.keepsMarks_refl).ops hx
  rw [← hid]
  exact foldS_loseOp_gone _ hfreeze.keepsMarks_refl x hx y hy

section
variable (hp : p < s.ports.length)
include hp

theorem portEmptied_peers : ((portEmptied p s).port p).peers = [] := by
  have hlose : s.keepsLinks (loseTransfers p (freezeXfers p s)) :=
    loseTransfers_keepsLinks (freezeXfers_keepsLinks s.keepsLinks_refl)
  have hserve := foldS_keepsLinks hlose (f := completeOp)
    (xs := (loseTransfers p (freezeXfers p s)).ops.filter (fun o => match o.issuer with | .peer n _ => n == p | _ => false))
    fun _ _ hx => completeOp_keepsLinks hx
  unfold portEmptied
  exact congrArg Port.peers (State.port_modPort_same (Nat.lt_of_lt_of_eq hp hserve.count.symm) _)

theorem portEmptied_xids : ((portEmptied p s).port p).xids = [] := by
  have hlost := foldS_keepsLinks (freezeXfers_keepsLinks s.keepsLinks_refl (p := p)) (f := loseOp)
    (xs := portOps (freezeXfers p s) p) fun _ _ hx => completeOp_keepsLinks hx
  have hnone : ((loseTransfers p (freezeXfers p s)).port p).xids = [] :=
    congrArg Port.xids (State.port_modPort_same (Nat.lt_of_lt_of_eq hp hlost.count.symm) _)
  unfold portEmptied
  exact (endPeerService_keepsLinks (State.keepsLinks_refl _)).xids p hnone

theorem portCleared_port : (portCleared p s).port p = ((portEmptied p s).port p).noSequence.unpaired := by
  have hlt : p < (portEmptied p s).ports.length := Nat.lt_of_lt_of_eq hp portEmptied_count.symm
  have hlt' : p < ((portEmptied p s).modPort p Port.noSequence).ports.length := Nat.lt_of_lt_of_eq hlt (modAt_length _ _ _).symm
  exact (State.port_modPort_same hlt' Port.unpaired).trans (congrArg Port.unpaired (State.port_modPort_same hlt Port.noSequence))

end

theorem portCleared_st (n : Nat) : ((portCleared p s).port n).st = (s.port n).st := by
  have h1 : (((portEmptied p s).modPort p Port.noSequence).port n).st = ((portEmptied p s).port n).st :=
    nth_modAt_keeps Port.st _ _ _ _ _ fun _ => rfl
  have h2 : ((portCleared p s).port n).st = (((portEmptied p s).modPort p Port.noSequence).port n).st :=
    nth_modAt_keeps Port.st _ _ _ Port.unpaired _ fun _ => rfl
  exact (h2.trans h1).trans (portEmptied_keepsLinks.st n)

theorem portCleared_count : (portCleared p s).ports.length = s.ports.length :=
  ((modAt_length _ _ _).trans (modAt_length _ _ _)).trans portEmptied_keepsLinks.count

theorem portCleared_sound (hs : s.sound) : (portCleared p s).sound :=
  State_clrB_sound _ _ _ _ (State_modPort_sound _ _ _ (State_modPort_sound _ _ _ (portEmptied_sound hs)))

variable {st : LinkSt} (hs : s.sound) (hst : (s.port p).st ≠ st)
include hst

theorem portCleared_st_ne : ((portCleared p s).port p).st ≠ st := fun h => hst ((portCleared_st p).symm.trans h)

include hs

theorem killPort_event : (killPort p st s).bit DEV 0x05 evLink = true := by
  rw [killPort_eq]
  exact setLink_event (portCleared_st_ne hst) (portCleared_sound hs)

omit hs hst in
theorem killPort_rd_LNK {n x : Nat} (hk : key (LNK n) x ≠ key (LNK p) 0x04) :
    (killPort p st s).rd (LNK n) x = s.rd (LNK n) x := by
  rw [killPort_eq, setLink_rd_LNK]
  exact (State.rd_wr_other _ _ _ _ _ _ hk).trans (portEmptied_keepsLinks.rd n x)

omit hs hst in
theorem killPort_ctrl (j : Nat) : (killPort p st s).bit (LNK p) 0x00 j = s.bit (LNK p) 0x00 j := by
  rw [State.bit, killPort_rd_LNK (by simp only [key, LNK]; omega), State.bit]

omit hst in
theorem killPort_partner : (killPort p st s).bit (LNK p) 0x04 15 = false := by
  rw [killPort_eq, State.bit, setLink_rd_LNK]
  exact (State.bit_clrB (portEmptied_sound hs).regs.1 (LNK p) 0x04 15 15 (by decide)).trans (by simp)

theorem killPort_gone : ∀ o ∈ portOps s p, (killPort p st s).op? o.id = none := by
  intro o ho
  have hops : (killPort p st s).ops = (portEmptied p s).ops := by
    rw [killPort_eq, setLink_of_ne (portCleared_st_ne hst), raise_ops]
    rfl
  refine List.find?_eq_none.mpr fun x hx => ?_
  simpa using portEmptied_gone hs o ho x (hops ▸ hx)

variable (hp : p < s.ports.length)
include hp

omit hs in
theorem killPort_port : (killPort p st s).port p = { ((portEmptied p s).port p).noSequence.unpaired with st := st } := by
  rw [killPort_eq, setLink_port_same (portCleared_st_ne hst) (Nat.lt_of_lt_of_eq hp portCleared_count.symm), portCleared_port hp]

/-- A port that enters Down, Lost or Retired holds nothing of its traffic. -/
theorem killPort_linkEmptied : linkEmptied s (killPort p st s) p := by
  have hport := killPort_port hst hp
  refine ⟨killPort_gone hs hst, ?_, ?_, ?_, ?_, ?_, ?_, ?_, fun n hn => ?_⟩
  case refine_4 => rw [hport]; exact portEmptied_peers hp
  case refine_5 => rw [hport]; exact portEmptied_xids hp
  case refine_8 => rw [killPort_eq, setLink_port_other hn, portCleared_st]
  all_goals rw [hport]; rfl

end

end

/-! ### A word for LNK_CTRL (R138, R441) -/

section
variable {p : Nat} {s : State}

theorem LNK_ne {t : Nat} (hp : p < 4) (ht : t < 8 ∨ 12 ≤ t) : LNK p ≠ t := by
  simp only [LNK]
  omega

theorem LNK_mem (hp : p < 4) : 0x08 ≤ LNK p ∧ LNK p < 0x0C := by
  simp only [LNK]
  omega

theorem links_le (p : Part) : p.links ≤ 4 := by cases p <;> decide

/-- LNK_CTRL: bits 15 to 6 are RW. -/
abbrev lnkCtrlInfo : RegInfo := { rw := 0xFFC0 }

theorem regInfo_lnkCtrl {q : Part} (hp : p < q.links) (st : Straps) : regInfo q st (LNK p) 0x00 = some lnkCtrlInfo := by
  have hp4 : p < 4 := Nat.lt_of_lt_of_le hp (links_le q)
  have hlink : 0x08 ≤ LNK p ∧ LNK p < 0x08 + q.links := by
    simp only [LNK]
    omega
  unfold regInfo target
  iterate 6 rw [if_neg (LNK_ne hp4 (by decide))]
  rw [if_pos hlink]
  rfl

theorem LNK_not_window (hp : p < 4) (r : Nat) : isWindow (LNK p) r = false := by
  simp [isWindow, LNK_ne hp (t := SEC) (by decide), LNK_ne hp (t := CRY) (by decide)]

/-- Only the fields in bits 9:6 of LNK_CTRL have reserved codes. -/
theorem lnkCtrl_reserved (hp : p < 4) (q : Part) {v w : Word} (h : ∀ j, 6 ≤ j → j < 10 → wbit v j = wbit w j) :
    reservedWord q (LNK p) 0x00 v = reservedWord q (LNK p) 0x00 w := by
  unfold reservedWord
  iterate 4 rw [if_neg (LNK_ne hp (by decide)), if_neg (LNK_ne hp (by decide))]
  rw [if_pos (LNK_mem hp), if_pos (LNK_mem hp)]
  simp only [lnkReserved]
  rw [wfld_congr (v := v) (w := w) fun j hj => h _ (by omega) (by omega),
    wfld_congr (v := v) (w := w) (lo := 6) fun j hj => h _ (by omega) (by omega)]

theorem lnkCtrl_keeps_constraint (hp : p < 4)
    (hwin : (s.rd (LNK p) 0x02).toNat * s.fld (LNK p) 0x03 0 8 < (s.rd PMP 0x02).toNat) (v : Word) :
    breaksConstraint s (LNK p) 0x00 v = false := by
  have hsub : LNK p - 0x08 = p := Nat.add_sub_cancel_left _ _
  unfold breaksConstraint
  dsimp only
  rw [if_neg (fun h => LNK_ne hp (by decide) h.1), if_pos (LNK_mem hp)]
  simp only [linkConstraint, hsub, hwin, decide_true, Bool.or_true, Bool.not_true]

/-- A word of the host for LNK_CTRL that differs in ENABLE or RETIRE alone is stored, and the port acts on it. -/
theorem hostWord_lnkCtrl {v : Word} (hp : p < s.part.links)
    (hres : reservedWord s.part (LNK p) 0x00 (s.rd (LNK p) 0x00) = false)
    (hwin : (s.rd (LNK p) 0x02).toNat * s.fld (LNK p) 0x03 0 8 < (s.rd PMP 0x02).toNat)
    (hv : ∀ j, 6 ≤ j → j < 10 → wbit v j = wbit (s.rd (LNK p) 0x00) j) :
    hostWord (LNK p) 0x00 v s = linkControl p (s.wr (LNK p) 0x00 (storedWord lnkCtrlInfo (s.rd (LNK p) 0x00) v)) := by
  have hp4 : p < 4 := Nat.lt_of_lt_of_le hp (links_le _)
  have hsub : LNK p - 0x08 = p := Nat.add_sub_cancel_left _ _
  rw [hostWord_regPut (regInfo_lnkCtrl hp _) (by rw [changesLocked_of_no_rwl (LNK_ne hp4 (by decide)) rfl, Bool.and_false])
    (LNK_not_window hp4 _) ((lnkCtrl_reserved hp4 _ hv).trans hres) (lnkCtrl_keeps_constraint hp4 hwin v)]
  unfold regPut
  dsimp only
  iterate 7 rw [if_neg (LNK_ne hp4 (by decide))]
  rw [if_pos (LNK_mem hp4), hsub, lnkPut, if_pos rfl]

theorem wbit_storedWord_lnkCtrl (old v : Word) :
    wbit (storedWord lnkCtrlInfo old v) 14 = wbit v 14 ∧ wbit (storedWord lnkCtrlInfo old v) 15 = wbit v 15 := by
  simp [storedWord, word, wbit]

/-- The state with word `v` stored in LNK_CTRL, on which the port has yet to act. -/
def ctrlStored (p : Nat) (v : Word) (s : State) : State :=
  s.wr (LNK p) 0x00 (storedWord lnkCtrlInfo (s.rd (LNK p) 0x00) v)

theorem ctrlStored_bits (hs : s.sound) (v : Word) :
    (ctrlStored p v s).bit (LNK p) 0x00 14 = wbit v 14 ∧ (ctrlStored p v s).bit (LNK p) 0x00 15 = wbit v 15 := by
  simp only [State.bit, ctrlStored, State.rd_wr_same _ _ _ _ hs.regs.1]
  exact wbit_storedWord_lnkCtrl _ _

theorem ctrlStored_sound (hs : s.sound) (v : Word) : (ctrlStored p v s).sound := State_wr_sound _ _ _ _ hs

end

/-- Emptiness of a port compares with the operations and the other ports' states of before alone. -/
theorem linkEmptied_of_ctrlStored {p : Nat} {v : Word} {s t : State} (h : linkEmptied (ctrlStored p v s) t p) :
    linkEmptied s t p := h

/-! ### What a port does on ENABLE and RETIRE (R441, R447, R448) -/

section
variable {p : Nat} {s : State}

/-- Port `p` enters Training, and has seen no HELLO. -/
def trainPort (p : Nat) (s : State) : State := setLink p .training (s.modPort p (fun q => { q with seen := false }))

theorem linkControl_trains (hret : s.bit (LNK p) 0x00 14 = false) (hen : s.bit (LNK p) 0x00 15 = true)
    (hst : (s.port p).st = .down) : linkControl p s = trainPort p s := by
  simp [linkControl, trainPort, hret, hen, hst]

theorem linkControl_disables (hret : s.bit (LNK p) 0x00 14 = false) (hen : s.bit (LNK p) 0x00 15 = false)
    (hst : (s.port p).st ≠ .down) : linkControl p s = killPort p .down s := by
  simp [linkControl, hret, hen, hst]

theorem linkControl_retires (hret : s.bit (LNK p) 0x00 14 = true) (hst : (s.port p).st ≠ .retired) :
    linkControl p s = killPort p .retired s := by
  simp [linkControl, hret, hst]

theorem linkControl_returns (hret : s.bit (LNK p) 0x00 14 = false) (hen : s.bit (LNK p) 0x00 15 = true)
    (hst : (s.port p).st = .retired) (hp : p < s.ports.length) :
    linkControl p s = trainPort p (setLink p .down s) := by
  have hdown : ((setLink p .down s).port p).st = .down := by
    rw [setLink_port_same (by simp [hst]) hp]
  simp [linkControl, trainPort, hret, hen, hst, hdown]

/-- From `r` to `s` only port `p` and events have changed. -/
structure State.onlyPort (r : State) (p : Nat) (s : State) : Prop where
  other : ∀ n, n ≠ p → s.port n = r.port n
  count : s.ports.length = r.ports.length
  plant : s.plant = r.plant
  rd : ∀ n x, s.rd (LNK n) x = r.rd (LNK n) x

theorem State.onlyPort_refl (p : Nat) (s : State) : s.onlyPort p s := ⟨fun _ _ => rfl, rfl, rfl, fun _ _ => rfl⟩

theorem State.onlyPort.modPort {r : State} (h : r.onlyPort p s) (f : Port → Port) : r.onlyPort p (s.modPort p f) where
  other n hn := (State.port_modPort_other hn f).trans (h.other n hn)
  count := (modAt_length _ _ _).trans h.count
  plant := h.plant
  rd := h.rd

theorem State.onlyPort.setLink {r : State} (h : r.onlyPort p s) (st : LinkSt) : r.onlyPort p (setLink p st s) where
  other n hn := (setLink_port_other hn).trans (h.other n hn)
  count := by
    unfold Machine.setLink
    split
    · exact h.count
    · rw [raise_ports]
      exact (modAt_length _ _ _).trans h.count
  plant := by
    unfold Machine.setLink
    split
    · exact h.plant
    · rw [raise_plant]
      exact h.plant
  rd n x := setLink_rd_LNK.trans (h.rd n x)

theorem trainPort_onlyPort {r : State} (h : r.onlyPort p s) : r.onlyPort p (trainPort p s) := (h.modPort _).setLink _

section
variable (hst : (s.port p).st = .down) (hp : p < s.ports.length)
include hst hp

omit hst in
theorem unseen_port : (s.modPort p (fun q => { q with seen := false })).port p = { s.port p with seen := false } :=
  State.port_modPort_same hp _

theorem trainPort_port : ((trainPort p s).port p).st = .training ∧ ((trainPort p s).port p).seen = false := by
  have hseen := unseen_port hp
  rw [trainPort, setLink_port_same (by rw [hseen, hst]; decide) (Nat.lt_of_lt_of_eq hp (modAt_length _ _ _).symm), hseen]
  exact ⟨rfl, rfl⟩

theorem trainPort_event (hs : s.sound) : (trainPort p s).bit DEV 0x05 evLink = true :=
  setLink_event (by rw [unseen_port hp, hst]; decide) (State_modPort_sound _ _ _ hs)

end

end

/-! ### The four rows -/

section
variable {s : State} {p : Nat} (hs : s.sound) (hm : s.power.mode = .run) (hp : p < s.part.links) (hlen : p < s.ports.length)
  (hres : reservedWord s.part (LNK p) 0x00 (s.rd (LNK p) 0x00) = false)
  (hwin : (s.rd (LNK p) 0x02).toNat * s.fld (LNK p) 0x03 0 8 < (s.rd PMP 0x02).toNat)
include hm hp hres hwin

theorem forPort_lnkCtrl {f : Word → Word} (hf : ∀ w j, 6 ≤ j → j < 10 → wbit (f w) j = wbit w j) :
    whenRun (forPort p (fun s => hostWord (LNK p) 0x00 (f (s.rd (LNK p) 0x00)) s)) s =
      .next (linkControl p (ctrlStored p (f (s.rd (LNK p) 0x00)) s)) := by
  rw [whenRun_of_run hm, forPort, if_pos hp, hostWord_lnkCtrl hp hres hwin (hf _)]
  rfl

theorem exec_linkEnable :
    exec (.linkEnable p) s = .next (linkControl p (ctrlStored p (setBit (s.rd (LNK p) 0x00) 15) s)) :=
  forPort_lnkCtrl hm hp hres hwin (f := (setBit · 15)) fun w j _ hj => by
    rw [wbit_setBit _ _ _ (by omega)]
    simp [show 15 ≠ j by omega]

theorem exec_linkDisable :
    exec (.linkDisable p) s = .next (linkControl p (ctrlStored p (clrBit (s.rd (LNK p) 0x00) 15) s)) :=
  forPort_lnkCtrl hm hp hres hwin (f := (clrBit · 15)) fun w j _ hj => by
    rw [wbit_clrBit _ _ _ (by omega)]
    simp [show 15 ≠ j by omega]

theorem exec_linkRetire :
    exec (.linkRetire p) s = .next (linkControl p (ctrlStored p (setBit (s.rd (LNK p) 0x00) 14) s)) :=
  forPort_lnkCtrl hm hp hres hwin (f := (setBit · 14)) fun w j _ hj => by
    rw [wbit_setBit _ _ _ (by omega)]
    simp [show 14 ≠ j by omega]

theorem exec_linkUnretire :
    exec (.linkUnretire p) s = .next (linkControl p (ctrlStored p (clrBit (s.rd (LNK p) 0x00) 14) s)) :=
  forPort_lnkCtrl hm hp hres hwin (f := (clrBit · 14)) fun w j _ hj => by
    rw [wbit_clrBit _ _ _ (by omega)]
    simp [show 14 ≠ j by omega]

include hs hlen

theorem exec_linkEnable_trains (hst : (s.port p).st = .down) (hret : s.bit (LNK p) 0x00 14 = false) :
    ∃ t, exec (.linkEnable p) s = .next t ∧ (t.port p).st = .training ∧ (t.port p).seen = false ∧
      t.bit (LNK p) 0x00 15 = true ∧ t.bit DEV 0x05 evLink = true ∧ (∀ n, n ≠ p → t.port n = s.port n) ∧
      t.ops = s.ops ∧ t.engs = s.engs ∧ t.cist = s.cist := by
  have hbits := ctrlStored_bits hs (p := p) (setBit (s.rd (LNK p) 0x00) 15)
  have hret' : (ctrlStored p (setBit (s.rd (LNK p) 0x00) 15) s).bit (LNK p) 0x00 14 = false :=
    hbits.1.trans (by simpa [State.bit] using hret)
  have hen : (ctrlStored p (setBit (s.rd (LNK p) 0x00) 15) s).bit (LNK p) 0x00 15 = true := hbits.2.trans (by simp)
  have honly := trainPort_onlyPort (State.onlyPort_refl p (ctrlStored p (setBit (s.rd (LNK p) 0x00) 15) s))
  have hplant := honly.plant
  simp only [State.plant, Prod.mk.injEq] at hplant
  obtain ⟨hops, hengs, -, hcist, -⟩ := hplant
  obtain ⟨htrain, hseen⟩ := trainPort_port (s := ctrlStored p (setBit (s.rd (LNK p) 0x00) 15) s) hst hlen
  refine ⟨_, exec_linkEnable hm hp hres hwin, ?_⟩
  rw [linkControl_trains hret' hen hst]
  exact ⟨htrain, hseen, (congrArg (wbit · 15) (honly.rd _ _)).trans hen,
    trainPort_event hst hlen (ctrlStored_sound hs _), honly.other, hops, hengs, hcist⟩

theorem exec_linkDisable_empties (hst : (s.port p).st ≠ .down) (hret : s.bit (LNK p) 0x00 14 = false) :
    ∃ t, exec (.linkDisable p) s = .next t ∧ (t.port p).st = .down ∧ t.bit (LNK p) 0x00 15 = false ∧
      t.bit (LNK p) 0x04 15 = false ∧ t.bit DEV 0x05 evLink = true ∧ linkEmptied s t p := by
  have hbits := ctrlStored_bits hs (p := p) (clrBit (s.rd (LNK p) 0x00) 15)
  have hret' : (ctrlStored p (clrBit (s.rd (LNK p) 0x00) 15) s).bit (LNK p) 0x00 14 = false :=
    hbits.1.trans (by simpa [State.bit] using hret)
  have hen : (ctrlStored p (clrBit (s.rd (LNK p) 0x00) 15) s).bit (LNK p) 0x00 15 = false := hbits.2.trans (by simp)
  have hsound := ctrlStored_sound hs (p := p) (clrBit (s.rd (LNK p) 0x00) 15)
  have hst' : ((ctrlStored p (clrBit (s.rd (LNK p) 0x00) 15) s).port p).st ≠ .down := hst
  refine ⟨_, exec_linkDisable hm hp hres hwin, ?_⟩
  rw [linkControl_disables hret' hen hst]
  exact ⟨by rw [killPort_port hst' hlen], by rwa [killPort_ctrl],
    killPort_partner hsound, killPort_event hsound hst', linkEmptied_of_ctrlStored (killPort_linkEmptied hsound hst' hlen)⟩

theorem exec_linkRetire_empties (hst : (s.port p).st ≠ .retired) :
    ∃ t, exec (.linkRetire p) s = .next t ∧ (t.port p).st = .retired ∧ t.bit (LNK p) 0x00 14 = true ∧
      t.bit (LNK p) 0x04 15 = false ∧ t.bit DEV 0x05 evLink = true ∧ linkEmptied s t p := by
  have hret : (ctrlStored p (setBit (s.rd (LNK p) 0x00) 14) s).bit (LNK p) 0x00 14 = true :=
    (ctrlStored_bits hs _).1.trans (by simp)
  have hsound := ctrlStored_sound hs (p := p) (setBit (s.rd (LNK p) 0x00) 14)
  have hst' : ((ctrlStored p (setBit (s.rd (LNK p) 0x00) 14) s).port p).st ≠ .retired := hst
  refine ⟨_, exec_linkRetire hm hp hres hwin, ?_⟩
  rw [linkControl_retires hret hst]
  exact ⟨by rw [killPort_port hst' hlen], by rwa [killPort_ctrl],
    killPort_partner hsound, killPort_event hsound hst', linkEmptied_of_ctrlStored (killPort_linkEmptied hsound hst' hlen)⟩

theorem exec_linkUnretire_trains (hst : (s.port p).st = .retired) (hen : s.bit (LNK p) 0x00 15 = true) :
    ∃ t, exec (.linkUnretire p) s = .next t ∧ (t.port p).st = .training ∧ t.bit (LNK p) 0x00 14 = false ∧
      t.bit DEV 0x05 evLink = true ∧ (∀ n, n ≠ p → t.port n = s.port n) ∧ t.ops = s.ops ∧ t.engs = s.engs := by
  have hbits := ctrlStored_bits hs (p := p) (clrBit (s.rd (LNK p) 0x00) 14)
  have hret : (ctrlStored p (clrBit (s.rd (LNK p) 0x00) 14) s).bit (LNK p) 0x00 14 = false := hbits.1.trans (by simp)
  have hen' : (ctrlStored p (clrBit (s.rd (LNK p) 0x00) 14) s).bit (LNK p) 0x00 15 = true :=
    hbits.2.trans (by simpa [State.bit] using hen)
  have hdown := (State.onlyPort_refl p (ctrlStored p (clrBit (s.rd (LNK p) 0x00) 14) s)).setLink .down
  have hst' : ((setLink p .down (ctrlStored p (clrBit (s.rd (LNK p) 0x00) 14) s)).port p).st = .down := by
    have hne : ((ctrlStored p (clrBit (s.rd (LNK p) 0x00) 14) s).port p).st ≠ .down := fun h =>
      absurd (hst.symm.trans h) (by decide)
    rw [setLink_port_same hne hlen]
  have hlen' := Nat.lt_of_lt_of_eq hlen hdown.count.symm
  have honly := trainPort_onlyPort hdown
  have hplant := honly.plant
  simp only [State.plant, Prod.mk.injEq] at hplant
  obtain ⟨hops, hengs, -⟩ := hplant
  obtain ⟨htrain, -⟩ := trainPort_port hst' hlen'
  refine ⟨_, exec_linkUnretire hm hp hres hwin, ?_⟩
  rw [linkControl_returns hret hen' hst hlen]
  exact ⟨htrain, (congrArg (wbit · 14) (honly.rd _ _)).trans hret,
    trainPort_event hst' hlen' (setLink_sound _ _ _ (ctrlStored_sound hs _)), honly.other, hops, hengs⟩

end

/-- Settles O47: a word for LNK_CTRL is stored, and the port acts on its ENABLE and RETIRE. -/
theorem linkControlRows : Obligations.LinkControl := by
  unfold Obligations.LinkControl
  exact fun s p hs hm hp hlen hres hwin =>
    ⟨exec_linkEnable_trains hs hm hp hlen hres hwin, exec_linkDisable_empties hs hm hp hlen hres hwin,
      exec_linkRetire_empties hs hm hp hlen hres hwin, exec_linkUnretire_trains hs hm hp hlen hres hwin⟩

end Sys2Proof.Machine

namespace Sys2Proof.Machine

/-! ## Accesses that an issuer's order performs (R234, R239 to R243)

Performing the steps of operations moves data, counts errors and writes records. It changes which banks answer, which
codewords are uncorrectable, what the engines run and the bells in no way, and an operation only gets further. -/

/-- From `r` to `s` no codeword turns uncorrectable where none was, and the same banks are dead, the same programs run and the
bells stand as they did. -/
structure State.sameUnits (r s : State) : Prop where
  ue : r.cistUe = [] → s.cistUe = []
  dead : ∀ b, bankDead s b = bankDead r b
  run : ∀ e, (s.eng e).run = (r.eng e).run
  bells : s.bells = r.bells

/-- So from `r` to `s`, and the operations in flight are the same. -/
structure State.leavesUnits (r s : State) : Prop extends toSameUnits : State.sameUnits r s where
  ops : s.ops = r.ops

/-- What a State.leavesUnits step compares. -/
def State.units (s : State) : List Nat × List Bank × List Engine × List Bell × List PumpOp :=
  (s.cistUe, s.banks, s.engs, s.bells, s.ops)

section
variable {r s t : State}

theorem State.sameUnits_refl (s : State) : s.sameUnits s := ⟨id, fun _ => rfl, fun _ => rfl, rfl⟩

theorem State.sameUnits.trans (h : r.sameUnits s) (h' : s.sameUnits t) : r.sameUnits t :=
  ⟨fun hu => h'.ue (h.ue hu), fun b => (h'.dead b).trans (h.dead b), fun e => (h'.run e).trans (h.run e),
    h'.bells.trans h.bells⟩

theorem State.leavesUnits_refl (s : State) : s.leavesUnits s := ⟨s.sameUnits_refl, rfl⟩

theorem State.leavesUnits.trans (h : r.leavesUnits s) (h' : s.leavesUnits t) : r.leavesUnits t :=
  ⟨h.toSameUnits.trans h'.toSameUnits, h'.ops.trans h.ops⟩

/-- An update of other fields. -/
theorem State.leavesUnits_of_units (hu : t.units = s.units) : s.leavesUnits t := by
  simp only [State.units, Prod.mk.injEq] at hu
  obtain ⟨hue, hbanks, hengs, hbells, hops⟩ := hu
  have hbank : ∀ b, t.bank b = s.bank b := fun b => congrArg (nth · b Bank.reset) hbanks
  exact ⟨⟨hue.trans, fun b => by rw [bankDead, bankDead, hbank], fun e => by rw [State.eng_of_engs hengs], hbells⟩, hops⟩

theorem foldS_leavesUnits {α : Type} {f : α → State → State} (hf : ∀ a (s : State), s.leavesUnits (f a s)) (xs : List α)
    (s : State) : s.leavesUnits (foldS f xs s) :=
  foldS_inv s.leavesUnits f (fun a x hx => hx.trans (hf a x)) xs s s.leavesUnits_refl

/-! ### Records, counts and column tests -/

theorem State.modBank_leavesUnits (s : State) (b : Nat) {f : Bank → Bank}
    (hf : ∀ k, ((f k).fenced || (f k).retired) = (k.fenced || k.retired)) : s.leavesUnits (s.modBank b f) :=
  ⟨⟨id, fun _ => nth_modAt_keeps (fun k : Bank => k.fenced || k.retired) _ _ _ _ _ hf, fun _ => rfl, rfl⟩, rfl⟩

theorem State.modEng_leavesUnits (s : State) (e : Nat) {f : Engine → Engine} (hf : ∀ g, (f g).run = g.run) :
    s.leavesUnits (s.modEng e f) :=
  ⟨⟨id, fun _ => rfl, fun _ => nth_modAt_keeps Engine.run _ _ _ _ _ hf, rfl⟩, rfl⟩

theorem queueTest_leavesUnits (i : BankId) (column : Nat) (s : State) : s.leavesUnits (queueTest i column s) := by
  cases i with
  | cistern b =>
    refine State.modBank_leavesUnits s b fun k => ?_
    split <;> rfl
  | store e b => exact State.leavesUnits_of_units rfl

theorem raise_units (i : Nat) (s : State) : (raise i s).units = s.units := by
  unfold raise
  dsimp only
  split <;> rfl

theorem memRecord_leavesUnits (unit : Nat) (c : Option Nat) (flags detail detail2 : Nat) (s : State) :
    s.leavesUnits (memRecord unit c flags detail detail2 s) := by
  cases c <;> exact State.leavesUnits_of_units (raise_units _ _)

/-! ### One access to the cistern or a store -/

theorem cistUeRecord_leavesUnits (c : Option Nat) (w : Nat) (s : State) : s.leavesUnits (cistUeRecord c w s) :=
  ((memRecord_leavesUnits _ _ _ _ _ s).trans (State.modBank_leavesUnits _ _ fun _ => by rfl)).trans (queueTest_leavesUnits _ _ _)

theorem cistReadEvents_leavesUnits (a n : Nat) (c : Option Nat) (s : State) : s.leavesUnits (cistReadEvents a n c s) := by
  unfold cistReadEvents
  split
  · exact s.leavesUnits_refl
  · exact (foldS_leavesUnits (cistUeRecord_leavesUnits c) _ s).trans
      (foldS_leavesUnits (fun _ x => (State.modBank_leavesUnits x _ fun _ => by rfl).trans (queueTest_leavesUnits _ _ _)) _ _)

theorem cistPut_leavesUnits (a : Nat) (bs : List Byte) (s : State) : s.leavesUnits (cistPut a bs s) := by
  unfold cistPut
  split
  · exact s.leavesUnits_refl
  · extract_lets hit bad s1
    have h1 : s.leavesUnits s1 :=
      ⟨⟨fun hu => (congrArg (List.filter _) hu).trans List.filter_nil, fun _ => rfl, fun _ => rfl, rfl⟩, rfl⟩
    exact h1.trans (foldS_leavesUnits (cistUeRecord_leavesUnits none) _ _)

theorem storeReadEvents_leavesUnits (e a n : Nat) (c : Option Nat) (s : State) : s.leavesUnits (storeReadEvents e a n c s) :=
  (foldS_leavesUnits (fun _ x => (memRecord_leavesUnits _ _ _ _ _ x).trans (queueTest_leavesUnits _ _ _)) _ s).trans
    (foldS_leavesUnits (fun _ x => (State.modEng_leavesUnits x _ fun _ => by rfl).trans (queueTest_leavesUnits _ _ _)) _ _)

theorem storePut_leavesUnits (e a : Nat) (bs : List Byte) (s : State) : s.leavesUnits (storePut e a bs s) :=
  State.modEng_leavesUnits s e fun _ => rfl

/-! ### The steps of a plan -/

theorem readPiece_leavesUnits (x : Access) (m : Moving) (lanes : List Int) : m.s.leavesUnits (readPiece x m lanes).1.s := by
  unfold readPiece
  dsimp only
  split
  · exact State.leavesUnits_refl _
  split
  · exact State.leavesUnits_refl _
  split
  · exact State.leavesUnits_refl _
  split
  · exact State.leavesUnits_refl _
  · exact cistReadEvents_leavesUnits _ _ _ _

theorem writePiece_leavesUnits (x : Access) (m : Moving) (lanes : List (Int × List Byte)) :
    m.s.leavesUnits (writePiece x m lanes).s := by
  unfold writePiece
  dsimp only
  split
  · exact State.leavesUnits_refl _
  split
  · exact State.leavesUnits_refl _
  split
  · exact State.leavesUnits_refl _
  split
  · exact State.leavesUnits_refl _
  · exact cistPut_leavesUnits _ _ _

theorem storeReadLanes_leavesUnits (e : Nat) (c : Option Nat) (m : Moving) (lanes : List Int) :
    m.s.leavesUnits (storeReadLanes e c m lanes).1.s := by
  unfold storeReadLanes
  split
  · exact State.leavesUnits_refl _
  · exact foldS_leavesUnits (fun _ _ => storeReadEvents_leavesUnits _ _ _ _ _) _ _

theorem storeWriteLanes_leavesUnits (e : Nat) (tick : Bool) (m : Moving) (lanes : List (Int × List Byte)) :
    m.s.leavesUnits (storeWriteLanes e tick m lanes).s := by
  unfold storeWriteLanes
  split
  · exact State.leavesUnits_refl _
  split
  · exact State.leavesUnits_refl _
  · exact foldS_leavesUnits (fun _ _ => storePut_leavesUnits _ _ _ _) _ _

theorem readLine_leavesUnits (o : PumpOp) (n : Nat) (m : Moving) : m.s.leavesUnits (readLine o n m).s := by
  unfold readLine
  dsimp only
  split
  · exact State.leavesUnits_refl _
  split
  · exact State.leavesUnits_refl _
  split
  · exact State.leavesUnits_refl _
  · exact cistReadEvents_leavesUnits _ _ _ _

theorem countFlaw_state (o : PumpOp) (e n : Nat) (m : Moving) : (countFlaw o e n m).s = m.s := by
  unfold countFlaw
  split <;> rfl

theorem performStep_leavesUnits (o : PumpOp) (d : Desc) (m : Moving) (st : PumpStep) :
    m.s.leavesUnits (performStep o d m st).s := by
  cases st with
  | cread ls => exact readPiece_leavesUnits _ _ _
  | cwrite ls => exact writePiece_leavesUnits _ _ _
  | sread ls => exact storeReadLanes_leavesUnits _ _ _ _
  | swrite ls => exact storeWriteLanes_leavesUnits _ _ _ _
  | line n => exact readLine_leavesUnits _ _ _
  | frames => exact State.leavesUnits_refl _
  | tile k => exact State.leavesUnits_refl _
  | zeros k n => exact State.leavesUnits_refl _
  | flawed e n =>
    rw [performStep, countFlaw_state]
    exact State.leavesUnits_refl _

theorem performSteps_leavesUnits (o : PumpOp) (d : Desc) (sts : List PumpStep) (m : Moving) :
    m.s.leavesUnits (sts.foldl (performStep o d) m).s := by
  induction sts generalizing m with
  | nil => exact State.leavesUnits_refl _
  | cons st sts ih => exact (performStep_leavesUnits o d m st).trans (ih _)

/-! ### List entries -/

theorem entryEvents_leavesUnits (o : PumpOp) (e : Nat) (s : State) : s.leavesUnits (entryEvents o e s) := by
  unfold entryEvents
  split
  · exact storeReadEvents_leavesUnits _ _ _ _ _
  split
  · exact s.leavesUnits_refl
  · exact cistReadEvents_leavesUnits _ _ _ _

theorem readEntries_leavesUnits (es : List Nat) (o : PumpOp) (s : State) : s.leavesUnits (readEntries es o s).2 := by
  induction es generalizing o s with
  | nil => exact s.leavesUnits_refl
  | cons e es ih => exact (entryEvents_leavesUnits o e s).trans (ih _ _)

/-! ## Operations get further -/

/-- Operation `o'` is `o`, as far as `o` has come or further. -/
structure PumpOp.reaches (o o' : PumpOp) : Prop where
  id : o'.id = o.id
  desc : o'.desc = o.desc
  started : o'.started = o.started
  moved : o.moved = true → o'.moved = true
  steps : o.steps ≤ o'.steps
  shown : o.shown ≤ o'.shown

theorem PumpOp.reaches_refl (o : PumpOp) : o.reaches o := ⟨rfl, rfl, rfl, fun h => h, le_rfl, le_rfl⟩

theorem PumpOp.reaches.trans {o o' o'' : PumpOp} (h : o.reaches o') (h' : o'.reaches o'') : o.reaches o'' :=
  ⟨h'.id.trans h.id, h'.desc.trans h.desc, h'.started.trans h.started, fun hm => h'.moved (h.moved hm),
    h.steps.trans h'.steps, h.shown.trans h'.shown⟩

/-- From `r` to `s` the units stay, and every operation is still in flight, as far as it had come or further. -/
structure State.advances (r s : State) : Prop extends toSameUnits : State.sameUnits r s where
  ops : ∀ i o, r.op? i = some o → ∃ o', s.op? i = some o' ∧ o.reaches o'

theorem State.leavesUnits.advances (h : r.leavesUnits s) : r.advances s :=
  ⟨h.toSameUnits, fun i o ho => ⟨o, by rw [State.op?, h.ops]; exact ho, o.reaches_refl⟩⟩

theorem State.advances_refl (s : State) : s.advances s := s.leavesUnits_refl.advances

theorem State.advances.trans (h : r.advances s) (h' : s.advances t) : r.advances t :=
  ⟨h.toSameUnits.trans h'.toSameUnits, fun i o ho => by
    obtain ⟨o1, h1, hr1⟩ := h.ops i o ho
    obtain ⟨o2, h2, hr2⟩ := h'.ops i o1 h1
    exact ⟨o2, h2, hr1.trans hr2⟩⟩

theorem foldS_advances {α : Type} {f : α → State → State} (hf : ∀ a (s : State), s.advances (f a s)) (xs : List α)
    (s : State) : s.advances (foldS f xs s) :=
  foldS_inv s.advances f (fun a x hx => hx.trans (hf a x)) xs s s.advances_refl

theorem State.op?_id {i : Nat} {o : PumpOp} (h : s.op? i = some o) : o.id = i := by
  simpa using List.find?_some h

/-- An update of operation `i` that keeps its number. -/
theorem State.op?_modOp {i : Nat} {f : PumpOp → PumpOp} (hf : ∀ x, x.id = i → (f x).id = i) (j : Nat) :
    (s.modOp i f).op? j = if j = i then (s.op? i).map f else s.op? j := by
  have hid : ∀ x : PumpOp, ((if x.id == i then f x else x).id == j) = (x.id == j) := fun x => by
    split
    · next hx => rw [hf x (by simpa using hx), ← beq_iff_eq.mp hx]
    · rfl
  unfold State.op? State.modOp
  dsimp only
  have hcomp : ((fun o : PumpOp => o.id == j) ∘ fun o => if o.id == i then f o else o) = (·.id == j) := funext hid
  rw [List.find?_map, hcomp]
  cases hfind : s.ops.find? (·.id == j) with
  | none => split <;> simp_all
  | some o =>
    have ho : o.id = j := by simpa using List.find?_some hfind
    by_cases hj : j = i
    · subst hj
      simp [hfind, ho]
    · simp [ho, hj]

theorem State.modOp_advances {i : Nat} {f : PumpOp → PumpOp} (hid : ∀ x, x.id = i → (f x).id = i)
    (hf : ∀ o, s.op? i = some o → o.reaches (f o)) : s.advances (s.modOp i f) := by
  refine ⟨⟨(fun h => h), fun _ => rfl, fun _ => rfl, rfl⟩, fun j o ho => ?_⟩
  rw [State.op?_modOp hid]
  by_cases hj : j = i
  · subst hj
    exact ⟨f o, by simp [ho], hf o ho⟩
  · exact ⟨o, by simp [hj, ho], o.reaches_refl⟩

/-! ### What has been presented, and late entries -/

theorem notePresented_op? {i : Nat} {o : PumpOp} (h : s.op? i = some o) :
    ∃ o', (notePresented i s).op? i = some o' ∧ o.reaches o' ∧ max 1 o.shown ≤ o'.shown := by
  unfold notePresented
  dsimp only
  rw [State.op?_modOp fun _ hx => by exact hx, if_pos rfl]
  refine ⟨_, congrArg _ h, ⟨rfl, rfl, rfl, (fun h => h), le_rfl, le_max_left _ _⟩, ?_⟩
  dsimp only
  omega

theorem notePresented_advances (i : Nat) (s : State) : s.advances (notePresented i s) :=
  (State.leavesUnits_of_units (s := s) (t := s.takeFree.2) rfl).advances.trans
    (State.modOp_advances (fun _ hx => hx) fun _ _ => ⟨rfl, rfl, rfl, (fun h => h), le_rfl, le_max_left _ _⟩)

/-- An operation but for its list entries. -/
def PumpOp.unread (o : PumpOp) : PumpOp := { o with entries := [], judged := [] }

theorem PumpOp.reaches_of_unread {o o' : PumpOp} (h : o'.unread = o.unread) : o.reaches o' :=
  ⟨(congrArg PumpOp.id h :), (congrArg PumpOp.desc h :), (congrArg PumpOp.started h :), (congrArg PumpOp.moved h).trans,
    (congrArg PumpOp.steps h).ge, (congrArg PumpOp.shown h).ge⟩

theorem withEntry_unread (o : PumpOp) (e : Nat) (r : Except EntryFlaw (List Byte)) : (o.withEntry e r).unread = o.unread := by
  cases r <;> rfl

theorem readEntries_unread (es : List Nat) (o : PumpOp) (s : State) : (readEntries es o s).1.unread = o.unread := by
  induction es generalizing o s with
  | nil => rfl
  | cons e es ih => exact (ih _ _).trans (withEntry_unread o e _)

/-- The late entries of operation `o`. -/
def lateEntries (o : PumpOp) : List Nat := (List.range ((parseDesc o.desc).listLen - 8)).map (· + 8)

theorem readLateEntries_cases (i : Nat) (s : State) :
    readLateEntries i s = s ∨ ∃ o, s.op? i = some o ∧
      readLateEntries i s = (readEntries (lateEntries o) o s).2.modOp i (fun _ => (readEntries (lateEntries o) o s).1) := by
  unfold readLateEntries
  dsimp only
  split
  · exact .inl rfl
  next o ho =>
    split
    · exact .inl rfl
    · exact .inr ⟨o, ho, rfl⟩

theorem readLateEntries_advances (i : Nat) (s : State) : s.advances (readLateEntries i s) := by
  obtain h | ⟨o, ho, h⟩ := readLateEntries_cases i s
  · rw [h]
    exact s.advances_refl
  · have hunits := readEntries_leavesUnits (lateEntries o) o s
    have hreach := PumpOp.reaches_of_unread (readEntries_unread (lateEntries o) o s)
    rw [h]
    refine hunits.advances.trans (State.modOp_advances (fun _ _ => hreach.id.trans (State.op?_id ho)) fun x hx => ?_)
    rw [State.op?, hunits.ops] at hx
    cases hx.symm.trans ho
    exact hreach

/-- Reading its late entries changes nothing else of an operation. -/
theorem readLateEntries_op? {i : Nat} {o : PumpOp} (ho : s.op? i = some o) :
    ∃ x, (readLateEntries i s).op? i = some x ∧ x.unread = o.unread := by
  obtain h | ⟨y, hy, h⟩ := readLateEntries_cases i s
  · exact ⟨o, by rw [h]; exact ho, rfl⟩
  · cases hy.symm.trans ho
    have hid := (PumpOp.reaches_of_unread (readEntries_unread (lateEntries o) o s)).id.trans (State.op?_id ho)
    refine ⟨(readEntries (lateEntries o) o s).1, ?_, readEntries_unread _ _ _⟩
    rw [h, State.op?_modOp fun _ _ => hid, if_pos rfl, State.op?, (readEntries_leavesUnits _ _ _).ops]
    exact congrArg _ ho

/-! ### Running steps -/

theorem after_reaches (o : PumpOp) (n total : Nat) (m : Moving) (hm : o.moved = false) : o.reaches (o.after n total m) :=
  ⟨rfl, rfl, rfl, fun h => absurd h (by simp [hm]), Nat.le_add_right _ _, le_max_left _ _⟩

/-- Operation `o` as it takes up its plan in state `s`. -/
def Moving.begun (o : PumpOp) (s : State) : Moving :=
  { s := s, prot := o.prot, ecc := o.ecc, still := false, drop := 0, short := o.short, buf := o.buf }

/-- The state in which `n` steps of operation `o` have been performed, before the operation notes it. -/
def stepped (n : Nat) (o : PumpOp) (s : State) : Moving :=
  (((opPlan s o).drop o.steps).take n).foldl (performStep o (parseDesc o.desc)) (Moving.begun o s)

theorem stepped_leavesUnits (n : Nat) (o : PumpOp) (s : State) : s.leavesUnits (stepped n o s).s :=
  performSteps_leavesUnits o (parseDesc o.desc) _ (Moving.begun o s)

/-- Operation `o` has steps to perform: they may move, they have not all moved, and they are not a REMOTE's frames. -/
def PumpOp.steppable (o : PumpOp) : Prop := o.started = true ∧ o.moved = false ∧ (parseDesc o.desc).op ≠ .remote

theorem runSteps_of_steppable {n i : Nat} {o : PumpOp} (ho : (readLateEntries i s).op? i = some o) (hs : o.steppable) :
    runSteps n i s = (stepped n o (readLateEntries i s)).s.modOp i
      (fun x => x.after n (opPlan (readLateEntries i s) o).length (stepped n o (readLateEntries i s))) := by
  obtain ⟨hstart, hmoved, hop⟩ := hs
  simp only [runSteps, ho, hstart, hmoved, hop, stepped, Moving.begun]
  simp

theorem runSteps_idle {n i : Nat} (h : ∀ o, (readLateEntries i s).op? i = some o → ¬ o.steppable) : runSteps n i s = s := by
  unfold runSteps
  dsimp only
  split
  · rfl
  next o ho =>
    refine if_pos ?_
    have hidle := h o ho
    unfold PumpOp.steppable at hidle
    grind

theorem runSteps_advances (n i : Nat) (s : State) : s.advances (runSteps n i s) := by
  by_cases h : ∃ o, (readLateEntries i s).op? i = some o ∧ o.steppable
  · obtain ⟨o, ho, hs⟩ := h
    have hunits := stepped_leavesUnits n o (readLateEntries i s)
    rw [runSteps_of_steppable ho hs]
    refine ((readLateEntries_advances i s).trans hunits.advances).trans
      (State.modOp_advances (fun _ hx => hx) fun x hx => after_reaches _ _ _ _ ?_)
    rw [State.op?, hunits.ops] at hx
    cases hx.symm.trans ho
    exact hs.2.1
  · rw [runSteps_idle fun o ho hs => h ⟨o, ho, hs⟩]
    exact s.advances_refl

/-- Operation `i`, whose pieces may move, has moved or come `n` steps from `k`. -/
def cameTo (s : State) (i k : Nat) : Prop := ∃ o, s.op? i = some o ∧ (o.moved = true ∨ k ≤ o.steps)

theorem State.advances.cameTo {i k : Nat} (h : r.advances s) (hc : cameTo r i k) : cameTo s i k := by
  obtain ⟨o, ho, hcame⟩ := hc
  obtain ⟨o', ho', hreach⟩ := h.ops i o ho
  exact ⟨o', ho', hcame.imp hreach.moved fun hk => hk.trans hreach.steps⟩

theorem State.cameTo_mono {i k l : Nat} (h : k ≤ l) (hc : cameTo s i l) : cameTo s i k := by
  obtain ⟨o, ho, hcame⟩ := hc
  exact ⟨o, ho, hcame.imp_right h.trans⟩

theorem runSteps_cameTo {i : Nat} {o : PumpOp} (n : Nat) (ho : s.op? i = some o) (hstart : o.started = true)
    (hop : (parseDesc o.desc).op ≠ .remote) : cameTo (runSteps n i s) i (o.steps + n) := by
  by_cases hmoved : o.moved = true
  · exact (runSteps_advances n i s).cameTo ⟨o, ho, .inl hmoved⟩
  obtain ⟨x, hx, hsame⟩ := readLateEntries_op? ho
  have hreach := PumpOp.reaches_of_unread hsame
  have hs : x.steppable := ⟨hreach.started.trans hstart, (congrArg PumpOp.moved hsame :).trans (Bool.eq_false_iff.mpr hmoved),
    by rw [hreach.desc]; exact hop⟩
  have hop? : (stepped n x (readLateEntries i s)).s.op? i = some x := by
    rw [State.op?, (stepped_leavesUnits n x _).ops]
    exact hx
  rw [runSteps_of_steppable hx hs, cameTo, State.op?_modOp fun _ hy => by exact hy, if_pos rfl, hop?]
  exact ⟨_, rfl, .inr (Nat.add_le_add_right hreach.steps n)⟩

/-! ### In the issuer's order -/

/-- What an earlier operation of the issuer performs before steps that reach `loads`, or that store. -/
def advancePrior (fuel : Nat) (store : Bool) (loads : List (Nat × Nat)) (p : Nat × Nat) (s : State) : State :=
  match (readLateEntries p.1 s).op? p.1 with
  | some q =>
    if q.presents then
      advance fuel (stepsBefore (readLateEntries p.1 s) q p.2 store loads) p.1 (readLateEntries p.1 s)
    else s
  | none => s

theorem advance_none {fuel n i : Nat} (h : (readLateEntries i s).op? i = none) : advance (fuel + 1) n i s = s := by
  unfold advance
  simp only [h]

theorem advance_some {fuel n i : Nat} {o : PumpOp} (h : (readLateEntries i s).op? i = some o) :
    advance (fuel + 1) n i s = runSteps n i (foldS
      (advancePrior fuel ((opPlan (readLateEntries i s) o).any PumpStep.stores)
        ((opPlan (readLateEntries i s) o).flatMap (stepRanges (readLateEntries i s) o))) o.prior (readLateEntries i s)) := by
  rw [advance]
  simp only [h]
  rfl

theorem advancePrior_advances {fuel : Nat} (hadv : ∀ n i (s : State), s.advances (advance fuel n i s)) (store : Bool)
    (loads : List (Nat × Nat)) (p : Nat × Nat) (s : State) : s.advances (advancePrior fuel store loads p s) := by
  unfold advancePrior
  split
  · split
    · exact (readLateEntries_advances _ _).trans (hadv _ _ _)
    · exact s.advances_refl
  · exact s.advances_refl

theorem advance_advances (fuel n i : Nat) (s : State) : s.advances (advance fuel n i s) := by
  induction fuel generalizing n i s with
  | zero => exact runSteps_advances n i s
  | succ fuel ih =>
    cases h : (readLateEntries i s).op? i with
    | none =>
      rw [advance_none h]
      exact s.advances_refl
    | some o =>
      rw [advance_some h]
      exact ((readLateEntries_advances i s).trans (foldS_advances (advancePrior_advances ih _ _) _ _)).trans
        (runSteps_advances n i _)

theorem advance_cameTo {i : Nat} {o : PumpOp} (fuel n : Nat) (ho : s.op? i = some o) (hstart : o.started = true)
    (hop : (parseDesc o.desc).op ≠ .remote) : cameTo (advance fuel n i s) i (o.steps + n) := by
  cases fuel with
  | zero => exact runSteps_cameTo n ho hstart hop
  | succ fuel =>
    obtain ⟨x, hx, -⟩ := readLateEntries_op? ho
    rw [advance_some hx]
    obtain ⟨y, hy, hreach⟩ := ((readLateEntries_advances i s).trans
      (foldS_advances (advancePrior_advances (advance_advances fuel) _ _) _ _)).ops i o ho
    exact State.cameTo_mono (Nat.add_le_add_right hreach.steps n)
      (runSteps_cameTo n hy (hreach.started.trans hstart) (by rw [hreach.desc]; exact hop))

/-- What an issuer's order performs of operation `i`. -/
def orderOp (store : Bool) (xs : List (Nat × Nat)) (i : Nat) (s : State) : State :=
  match (readLateEntries i (notePresented i s)).op? i with
  | some o => advanceOp (stepsBefore (readLateEntries i (notePresented i s)) o o.shown store xs) i
      (readLateEntries i (notePresented i s))
  | none => readLateEntries i (notePresented i s)

theorem orderIssuer_eq (mine : Issuer → Bool) (store : Bool) (xs : List (Nat × Nat)) (s : State) :
    orderIssuer mine store xs s = foldS (orderOp store xs) (presentOps mine s) s := rfl

theorem orderOp_advances (store : Bool) (xs : List (Nat × Nat)) (i : Nat) (s : State) : s.advances (orderOp store xs i s) := by
  have hread := (notePresented_advances i s).trans (readLateEntries_advances i _)
  unfold orderOp
  split
  · exact hread.trans (advance_advances _ _ _ _)
  · exact hread

theorem orderIssuer_advances (mine : Issuer → Bool) (store : Bool) (xs : List (Nat × Nat)) (s : State) :
    s.advances (orderIssuer mine store xs s) := foldS_advances (orderOp_advances store xs) _ s

/-- Before a store, or at a SEAL, an operation performs every access that it has presented. -/
theorem orderOp_cameTo {i : Nat} {o : PumpOp} (xs : List (Nat × Nat)) (ho : s.op? i = some o) (hstart : o.started = true)
    (hop : (parseDesc o.desc).op ≠ .remote) : cameTo (orderOp true xs i s) i (max 1 o.shown) := by
  obtain ⟨x, hx, hreach, hshown⟩ := notePresented_op? ho
  obtain ⟨y, hy, hreach'⟩ := (readLateEntries_advances i _).ops i x hx
  have hall := hreach.trans hreach'
  unfold orderOp
  rw [hy]
  refine State.cameTo_mono ?_ (advance_cameTo _ _ hy (hall.started.trans hstart) (by rw [hall.desc]; exact hop))
  have hle := hreach'.shown
  simp only [stepsBefore, if_true]
  omega

theorem foldS_orderOp_cameTo {i : Nat} {o : PumpOp} {xs : List (Nat × Nat)} {is : List Nat} (hi : i ∈ is)
    (ho : s.op? i = some o) (hstart : o.started = true) (hop : (parseDesc o.desc).op ≠ .remote) :
    cameTo (foldS (orderOp true xs) is s) i (max 1 o.shown) := by
  induction is generalizing s o with
  | nil => simp at hi
  | cons x is ih =>
    rw [foldS_cons]
    rcases List.mem_cons.mp hi with rfl | hi
    · exact (foldS_advances (orderOp_advances true xs) is _).cameTo (orderOp_cameTo xs ho hstart hop)
    · obtain ⟨o', ho', hreach⟩ := (orderOp_advances true xs x s).ops i o ho
      have hle := hreach.shown
      exact State.cameTo_mono (by omega) (ih hi ho' (hreach.started.trans hstart) (by rw [hreach.desc]; exact hop))

theorem State.numbered.op?_of_mem {o : PumpOp} (hn : s.numbered) (ho : o ∈ s.ops) : s.op? o.id = some o := by
  have hpair := hn.1
  unfold State.op?
  generalize s.ops = ops at ho hpair
  induction ops with
  | nil => simp at ho
  | cons x xs ih =>
    obtain ⟨hx, hxs⟩ := List.pairwise_cons.mp hpair
    rcases List.mem_cons.mp ho with rfl | ho
    · simp
    · simpa [(hx o ho).ne] using ih ho hxs

/-- A SEAL of an issuer performs every access that its operations have presented. -/
theorem sealIssuer_cameTo {mine : Issuer → Bool} {o : PumpOp} (hn : s.numbered) (ho : o ∈ s.ops)
    (hmine : mine o.issuer = true) (hp : o.presents = true) : cameTo (sealIssuer mine s) o.id (max 1 o.shown) := by
  have hmem : o.id ∈ presentOps mine s := List.mem_map.mpr ⟨o, List.mem_filter.mpr ⟨ho, by simp [hmine, hp]⟩, rfl⟩
  simp only [PumpOp.presents, Bool.and_eq_true, Bool.not_eq_true', decide_eq_true_eq] at hp
  exact foldS_orderOp_cameTo hmem (hn.op?_of_mem ho) hp.1.1 hp.2

end

end Sys2Proof.Machine

namespace Sys2Proof.Machine

/-! ## The supervisor's accesses (R526, R239, R241, R243) -/

section
variable {s : State} {f : State → State}

theorem whenSup_of_acts (hm : s.power.mode = .run) (ha : supActs s = true) : whenSup f s = .next (f s) := by
  simp [whenSup, hm, ha]

theorem length_leBytes (n x : Nat) : (leBytes n x).length = n := by
  induction n generalizing x with
  | zero => rfl
  | succ n ih => simp [leBytes, ih]

/-! ### FENCE -/

theorem exec_supFence (hm : s.power.mode = .run) (ha : supActs s = true) (hn : s.numbered) :
    ∃ t, exec .supFence s = .next t ∧
      (∀ o, o ∈ s.ops → o.issuer.isSup = true → o.presents = true →
        ∃ o', t.op? o.id = some o' ∧ (o'.moved = true ∨ max 1 o.shown ≤ o'.steps)) ∧
      (∀ e, (t.eng e).run = (s.eng e).run) ∧ t.bells = s.bells := by
  have hadv : s.advances (sealIssuer Issuer.isSup s) := orderIssuer_advances _ _ _ s
  exact ⟨_, whenSup_of_acts hm ha, fun o ho hsup hp => sealIssuer_cameTo hn ho hsup hp, hadv.run, hadv.bells⟩

/-! ### Bus errors -/

section
variable (hm : s.power.mode = .run) (ha : supActs s = true)
include hm ha

theorem exec_supStore (a n : Nat) (v : W32) : exec (.supStore a n v) s = .next (supStore a n v s) := whenSup_of_acts hm ha

theorem exec_supLoad (a n : Nat) : exec (.supLoad a n) s = .next (supLoad a n s) := whenSup_of_acts hm ha

omit hm ha in
theorem supStore_error {a n : Nat} (v : W32) (h : accessOk a n = false ∨ a < 0x8000 ∨ regionOf a = .hole) :
    supStore a n v s = busError s := by
  unfold supStore
  split
  · rfl
  · next hok =>
    obtain hbad | hrom | hhole := h
    · exact absurd hbad hok
    · rw [show regionOf a = .rom a from if_pos hrom]
    · rw [hhole]

theorem exec_supStore_error {a n : Nat} (v : W32) (h : accessOk a n = false ∨ a < 0x8000 ∨ regionOf a = .hole) :
    ∃ t, exec (.supStore a n v) s = .next t ∧ t = { s with sup := { s.sup with bus := none, busError := true } } :=
  ⟨_, exec_supStore hm ha a n v, supStore_error v h⟩

/-! ### SRAM -/

section
variable {o n : Nat} (hn : n = 1 ∨ n = 2 ∨ n = 4) (ho : o % n = 0) (hin : o + n ≤ 0x20000)
include hn ho hin

omit hm ha in
theorem regionOf_sram : regionOf (0x10000000 + o) = .sram o ∧ accessOk (0x10000000 + o) n = true := by
  have hregion : regionOf (0x10000000 + o) = .sram o := by
    unfold regionOf
    rw [if_neg (by omega), if_pos (by omega), Nat.add_sub_cancel_left]
  refine ⟨hregion, ?_⟩
  rw [accessOk, hregion]
  rcases hn with rfl | rfl | rfl <;> simp [Region.bytewise] <;> omega

theorem exec_supStore_sram (hs : s.sound) (v : W32) :
    ∃ t, exec (.supStore (0x10000000 + o) n v) s = .next t ∧ memReadN t.sup.sram o n = leBytes n v.toNat ∧
      (∀ x, x < o ∨ o + n ≤ x → memRead t.sup.sram x = memRead s.sup.sram x) ∧
      t = { s with sup := { s.sup with sram := t.sup.sram, bus := none, busError := false } } := by
  obtain ⟨hregion, hok⟩ := regionOf_sram hn ho hin
  refine ⟨_, exec_supStore hm ha _ n v, ?_⟩
  rw [supStore, if_neg (by simp [hok]), hregion]
  refine ⟨?_, fun x hx => memRead_memWriteL_outside _ _ _ _ hs.sram (by rwa [length_leBytes]), rfl⟩
  have hread := memReadN_memWriteL s.sup.sram o (leBytes n v.toNat) hs.sram
  rwa [length_leBytes] at hread

theorem exec_supLoad_sram :
    ∃ t, exec (.supLoad (0x10000000 + o) n) s = .next t ∧
      t = { s with sup := { s.sup with bus := some (BitVec.ofNat 32 (leVal (memReadN s.sup.sram o n))),
                                       busError := false } } := by
  obtain ⟨hregion, hok⟩ := regionOf_sram hn ho hin
  refine ⟨_, exec_supLoad hm ha _ n, ?_⟩
  rw [supLoad, if_neg (by simp [hok]), hregion]
  rfl

end

/-! ### The cistern -/

section
variable {a n : Nat} (hn : n = 1 ∨ n = 2 ∨ n = 4) (ho : a % n = 0) (hin : a < 0x800000)
include hn ho hin

omit hm ha in
theorem regionOf_cistern : regionOf (0x40000000 + a) = .cistern a ∧ accessOk (0x40000000 + a) n = true := by
  have hregion : regionOf (0x40000000 + a) = .cistern a := by
    unfold regionOf
    iterate 8 rw [if_neg (by omega)]
    rw [if_pos (by omega), Nat.add_sub_cancel_left]
  refine ⟨hregion, ?_⟩
  rw [accessOk, hregion]
  rcases hn with rfl | rfl | rfl <;> simp [Region.bytewise] <;> omega

theorem exec_supStore_cistern (v : W32) : exec (.supStore (0x40000000 + a) n v) s = .next (cistStore a n v s) := by
  obtain ⟨hregion, hok⟩ := regionOf_cistern hn ho hin
  rw [exec_supStore hm ha, supStore, if_neg (by simp [hok]), hregion]

theorem exec_supLoad_cistern : exec (.supLoad (0x40000000 + a) n) s = .next (cistLoad a n s) := by
  obtain ⟨hregion, hok⟩ := regionOf_cistern hn ho hin
  rw [exec_supLoad hm ha, supLoad, if_neg (by simp [hok]), hregion]

end

end

theorem memWriteSkip_nil (m : Mem) (a : Nat) (bs : List Byte) : memWriteSkip [] m a bs = memWriteL m a bs := by
  induction bs generalizing m a with
  | nil => rfl
  | cons b bs ih => exact ih _ _

section
variable {p n : Nat} (hu : s.cistUe = [])
include hu

theorem cistBad_of_none : cistBad s p n = false := by
  rw [cistBad, hu]
  rfl

/-- Where no codeword is uncorrectable, a bank that answers takes the bytes, and only the lists of codewords move beside. -/
theorem cistPut_of_none {bs : List Byte} (hd : bankDead s (cistBankOf p) = false) :
    cistPut p bs s = { s with cist := memWriteL s.cist p bs, cistUe := [],
                              cistCe := s.cistCe.filter (fun w => !(covers 8 p bs.length w)) } := by
  simp [cistPut, hd, hu, hitWords, memWriteSkip_nil, foldS_nil]

/-- Where no codeword is uncorrectable, a read moves nothing but the banks' counts and column tests. -/
theorem cistReadEvents_of_none (c : Option Nat) :
    cistReadEvents p n c s = { s with banks := (cistReadEvents p n c s).banks } := by
  unfold cistReadEvents
  split
  · rfl
  · have hnil : hitWords s.cistUe 8 p n = [] := by rw [hu]; rfl
    rw [hnil]
    refine foldS_inv (fun x : State => x = { s with banks := x.banks }) _ (fun w x hx => ?_) _ s rfl
    rw [hx]
    rfl

section
variable (hd : bankDead s (cistBankOf p) = false)
include hd

theorem cistGet_cistPut (hs : s.sound) (bs : List Byte) : cistGet (cistPut p bs s) p bs.length = bs := by
  have hd' : bankDead (cistPut p bs s) (cistBankOf p) = false := ((cistPut_leavesUnits p bs s).dead _).trans hd
  rw [cistGet, if_neg (by simp [hd']), cistPut_of_none hu hd]
  exact memReadN_memWriteL s.cist p bs hs.cist

theorem cistGet_cistReadEvents (c : Option Nat) : cistGet (cistReadEvents p n c s) p n = cistGet s p n := by
  have hd' : bankDead (cistReadEvents p n c s) (cistBankOf p) = false := ((cistReadEvents_leavesUnits p n c s).dead _).trans hd
  rw [cistGet, if_neg (by simp [hd']), cistReadEvents_of_none hu, cistGet, if_neg (by simp [hd])]

end

end

theorem orderIssuer_of_none {mine : Issuer → Bool} (h : presentOps mine s = []) (store : Bool) (xs : List (Nat × Nat)) :
    orderIssuer mine store xs s = s := by
  rw [orderIssuer_eq, h, foldS_nil]

section
variable {a p : Nat} (n : Nat) (hu : s.cistUe = []) (hd : bankDead s (cistBankOf p) = false)
include hu hd

theorem cistStore_writes (hs : s.sound) (v : W32) (ht : translate s 0x10 .write false a = some p) :
    cistGet (cistStore a n v s) p n = leBytes n v.toNat ∧ (cistStore a n v s).sup.busError = false ∧
      (presentOps Issuer.isSup s = [] →
        (∀ x, x < p ∨ p + n ≤ x → memRead (cistStore a n v s).cist x = memRead s.cist x) ∧
          (cistStore a n v s).engs = s.engs ∧ (cistStore a n v s).regs = s.regs) := by
  have hadv := orderIssuer_advances Issuer.isSup true [] s
  have hu' := hadv.ue hu
  have hd' := (hadv.dead (cistBankOf p)).trans hd
  have hstore : cistStore a n v s = busDone (cistPut p (leBytes n v.toNat) (orderIssuer Issuer.isSup true [] s)) := by
    simp [cistStore, ht, cistBad_of_none hu']
  rw [hstore]
  refine ⟨?_, rfl, fun hnone => ?_⟩
  · have hget := cistGet_cistPut hu' hd' (orderIssuer_sound _ _ _ s hs) (leBytes n v.toNat)
    rwa [length_leBytes] at hget
  · rw [orderIssuer_of_none hnone, cistPut_of_none hu hd]
    exact ⟨fun x hx => memRead_memWriteL_outside _ _ _ _ hs.cist (by rwa [length_leBytes]), rfl, rfl⟩

theorem cistLoad_reads (ht : translate s 0x10 .read false a = some p) :
    (cistLoad a n s).sup.bus = some (BitVec.ofNat 32 (leVal (cistGet (cistLoad a n s) p n))) ∧
      (cistLoad a n s).sup.busError = false ∧
      (presentOps Issuer.isSup s = [] → (cistLoad a n s).cist = s.cist ∧ (cistLoad a n s).engs = s.engs ∧
        (cistLoad a n s).regs = s.regs) := by
  have hadv := orderIssuer_advances Issuer.isSup false [(p, n)] s
  have hu' := hadv.ue hu
  have hd' := (hadv.dead (cistBankOf p)).trans hd
  have hload : cistLoad a n s = busValue (BitVec.ofNat 32 (leVal (cistGet (orderIssuer Issuer.isSup false [(p, n)] s) p n)))
      (cistReadEvents p n none (orderIssuer Issuer.isSup false [(p, n)] s)) := by
    simp [cistLoad, ht, cistBad_of_none hu']
  rw [hload]
  refine ⟨?_, rfl, fun hnone => ?_⟩
  · rw [← cistGet_cistReadEvents hu' hd' none]
    rfl
  · rw [orderIssuer_of_none hnone, cistReadEvents_of_none hu]
    exact ⟨rfl, rfl, rfl⟩

end

end

/-! ## The supervisor's control (R132, R499, R520, R523, R525, R462) -/

section
variable {s : State}

/-- SUP_CTRL: HALT is under LOCK; RESTART, GO and HOST_DB clear themselves. -/
abbrev supCtrlInfo : RegInfo := { rwl := 0x8000, wsc := 0x6001 }

theorem hostWord_supCtrl {v : Word} (hlk : (locked s && changesLocked s SUP 0x00 supCtrlInfo v) = false) :
    hostWord SUP 0x00 v s = supCtrl v s :=
  hostWord_regPut (i := supCtrlInfo) rfl hlk

/-- With nothing halted SUP_CTRL holds 0. -/
theorem supCtrl_zero (hc : s.selfCleared) (hb : s.bit SUP 0x00 15 = false) : s.rd SUP 0x00 = 0 := by
  have hmask : ∀ j, j < 15 → (0x7FFF : Word).getLsbD j = true := by decide
  refine BitVec.eq_of_getLsbD_eq fun j hj => ?_
  by_cases hlt : j < 15
  · have hlow := congrArg (BitVec.getLsbD · j) hc.1
    rwa [BitVec.getLsbD_and, hmask j hlt, Bool.and_true] at hlow
  · rw [show j = 15 by omega]
    simpa [State.bit, wbit] using hb

theorem exec_supHalt (hs : s.sound) (hm : s.power.mode = .run) (on : Bool) (hl : locked s = false) :
    ∃ t, exec (.supHalt on) s = .next t ∧ t.bit SUP 0x00 15 = on ∧ t = { s with regs := t.regs } ∧
      (∀ t' r', key t' r' ≠ key SUP 0x00 → t.rd t' r' = s.rd t' r') := by
  have hword : hostWord SUP 0x00 (bitAt on 15) s = s.putB SUP 0x00 15 on := by
    rw [hostWord_supCtrl (by simp [hl])]
    cases on <;> rfl
  refine ⟨_, whenRun_of_run hm, ?_⟩
  rw [hword]
  refine ⟨?_, rfl, fun t' r' hk => State.rd_wr_other _ _ _ _ _ _ hk⟩
  rw [State.bit, State.putB, State.rd_wr_same _ _ _ _ hs.regs.1]
  simp

/-! ### RESTART and GO -/

section
variable (hc : s.selfCleared) (hb : s.bit SUP 0x00 15 = false)
include hc hb

/-- A word with one self-clearing bit leaves HALT at 0, which LOCK does not refuse. -/
theorem hostWord_supCtrl_pulse {i : Nat} (hi : i < 15) :
    hostWord SUP 0x00 (setBit (s.rd SUP 0x00) i) s = supCtrl (setBit 0 i) s := by
  have hzero := supCtrl_zero hc hb
  rw [hostWord_supCtrl, hzero]
  rw [changesLocked, if_neg (by decide), hzero]
  have hkeep : ∀ j, j < 15 → (setBit 0 j ^^^ 0) &&& word supCtrlInfo.rwl = 0 := by decide
  rw [hkeep i hi]
  simp

variable (hm : s.power.mode = .run)
include hm

theorem exec_supRestart_eq : exec .supRestart s = .next (supRestart (s.putB SUP 0x00 15 false)) := by
  rw [show exec .supRestart s = .next _ from whenRun_of_run hm, hostWord_supCtrl_pulse hc hb (by decide)]
  rfl

theorem exec_supGo_eq : exec .supGo s = .next (supGo (s.putB SUP 0x00 15 false)) := by
  rw [show exec .supGo s = .next _ from whenRun_of_run hm, hostWord_supCtrl_pulse hc hb (by decide)]
  rfl

end

section
variable (hs : s.sound)
include hs

theorem putB_halt : (s.putB SUP 0x00 15 false).bit SUP 0x00 15 = false := by
  rw [State.bit, State.putB, State.rd_wr_same _ _ _ _ hs.regs.1]
  simp

omit hs in
/-- A bit set below a field leaves the field. -/
theorem State.fld_setB_above {t r i lo n : Nat} (h : s.regs.Pairwise (fun x y => x.1 < y.1)) (hi : i < lo)
    (hn : lo + n ≤ 16) : (s.setB t r i).fld t r lo n = s.fld t r lo n := by
  rw [State.fld, State.setB, State.rd_wr_same _ _ _ _ h]
  refine wfld_congr fun j hj => ?_
  rw [wbit_setBit _ _ _ (by omega), decide_eq_false (by omega), Bool.or_false]

theorem bootRom_source : (bootRom s).fld SUP 0x02 14 2 = s.straps.boot.toNat := by
  have hwr := State.rd_wr_same s SUP 0x02 (putFld 0 14 2 s.straps.boot.toNat) hs.regs.1
  have hfld : (s.wr SUP 0x02 (putFld 0 14 2 s.straps.boot.toNat)).fld SUP 0x02 14 2 = s.straps.boot.toNat := by
    rw [State.fld, hwr]
    exact wfld_putFld_same _ _ _ _ (by decide) s.straps.boot.isLt
  unfold bootRom
  dsimp only
  split
  · exact (State.fld_setB_above (State.wr_rises _ _ _ _ hs.regs.1) (by decide) (by decide)).trans hfld
  · exact hfld

omit hs in
theorem bootRom_rest :
    ((bootRom s).sup.sram, (bootRom s).sup.wfi, (bootRom s).cist, (bootRom s).engs, (bootRom s).chans, (bootRom s).ops) =
      (s.sup.sram, false, s.cist, s.engs, s.chans, s.ops) := by
  unfold bootRom
  dsimp only
  split <;> rfl

theorem exec_supRestart_boots (hc : s.selfCleared) (hm : s.power.mode = .run) (hb : s.bit SUP 0x00 15 = false) :
    ∃ t, exec .supRestart s = .next t ∧ t.sup.mode = (if 2 ≤ s.straps.boot.toNat then .halted else .boot) ∧
      t.sup.sram = s.sup.sram ∧ t.sup.wfi = false ∧ t.fld SUP 0x02 14 2 = s.straps.boot.toNat ∧ t.cist = s.cist ∧
      t.engs = s.engs ∧ t.chans = s.chans ∧ t.ops = s.ops := by
  have hrest := bootRom_rest (s := s.putB SUP 0x00 15 false)
  simp only [Prod.mk.injEq] at hrest
  obtain ⟨hsram, hwfi, hcist, hengs, hchans, hops⟩ := hrest
  refine ⟨_, exec_supRestart_eq hc hb hm, ?_⟩
  rw [supRestart, if_neg (by simp [putB_halt hs])]
  exact ⟨bootRom_mode _, hsram, hwfi, bootRom_source (State_wr_sound _ _ _ _ hs), hcist, hengs, hchans, hops⟩

end

/-- SUP_STATUS as the boot ROM leaves it after its checks of an image from `src`. -/
def bootWord (src : Nat) (img : List Byte) (code : Nat) : Word :=
  if code = 0 then putBit (setBit (putFld 0 14 2 src) 13) 12 (nbit (imageField img 6 1) 0)
  else putFld (setBit (setBit (putFld 0 14 2 src) 13) 11) 8 3 code

theorem bootWord_done (src : Nat) (img : List Byte) (code : Nat) : wbit (bootWord src img code) 13 = true := by
  unfold bootWord
  split
  · simp
  · rw [wbit_putFld _ _ _ _ _ (by decide)]
    simp

theorem bootWord_fail (src : Nat) (img : List Byte) (code : Nat) : wbit (bootWord src img code) 11 = decide (code ≠ 0) := by
  unfold bootWord
  split
  · next h =>
    rw [wbit_putBit _ _ _ _ (by decide), if_neg (by decide), wbit_setBit _ _ _ (by decide), wbit_putFld _ _ _ _ _ (by decide)]
    simp [h, wbit]
  · next h =>
    rw [wbit_putFld _ _ _ _ _ (by decide)]
    simp [h]

theorem bootWord_source {src : Nat} (img : List Byte) (code : Nat) (hsrc : src < 4) :
    wfld (bootWord src img code) 14 2 = src := by
  refine Eq.trans (wfld_congr fun j hj => ?_) (wfld_putFld_same 0 14 2 src (by decide) hsrc)
  unfold bootWord
  split
  · rw [wbit_putBit _ _ _ _ (by omega), if_neg (by omega), wbit_setBit _ _ _ (by omega), decide_eq_false (by omega),
      Bool.or_false]
  · rw [wbit_putFld _ _ _ _ _ (by omega), if_neg (by omega), wbit_setBit _ _ _ (by omega), wbit_setBit _ _ _ (by omega),
      decide_eq_false (by omega), decide_eq_false (by omega), Bool.or_false, Bool.or_false]

theorem bootWord_code (src : Nat) (img : List Byte) {code : Nat} (h : code ≠ 0) (h8 : code < 8) :
    wfld (bootWord src img code) 8 3 = code := by
  rw [bootWord, if_neg h]
  exact wfld_putFld_same _ _ _ _ (by decide) h8

theorem bootError_lt (flash : Bool) (img : List Byte) : bootError flash img < 8 := by
  unfold bootError
  dsimp only
  repeat' split
  all_goals decide

section
variable {src code : Nat} {img : List Byte}

theorem bootEnds_rd (hs : s.sound) : (bootEnds src img code s).rd SUP 0x02 = bootWord src img code := by
  unfold bootEnds bootWord
  dsimp only
  split <;> exact State.rd_wr_same _ _ _ _ hs.regs.1

theorem bootEnds_mode : (bootEnds src img code s).sup.mode = if code = 0 then .running else .halted := by
  unfold bootEnds
  dsimp only
  split <;> rfl

theorem bootEnds_image (h : code = 0) : (bootEnds src img code s).sup.image = true := by
  rw [bootEnds, if_pos h]
  rfl

theorem bootEnds_rest :
    ((bootEnds src img code s).sup.sram, (bootEnds src img code s).cist, (bootEnds src img code s).engs,
      (bootEnds src img code s).chans) = (s.sup.sram, s.cist, s.engs, s.chans) := by
  unfold bootEnds
  dsimp only
  split <;> rfl

end

/-- The image in SRAM that GO checks: its header, and its code where the length can be held. -/
abbrev sramImage (s : State) : List Byte :=
  memReadN s.sup.sram 0 128 ++ memReadN s.sup.sram 128
    (if imageSizeOk (memReadN s.sup.sram 0 128) then imageLength (memReadN s.sup.sram 0 128) else 0)

theorem goAccepted_putB (hs : s.sound) (hgo : goAccepted s = true) : goAccepted (s.putB SUP 0x00 15 false) = true := by
  have hfail : (s.putB SUP 0x00 15 false).bit SUP 0x02 11 = s.bit SUP 0x02 11 :=
    congrArg (wbit · 11) (State.rd_wr_other s SUP 0x00 SUP 0x02 _ (by decide))
  rw [goAccepted, putB_halt hs, hfail]
  rw [goAccepted, Bool.and_eq_true, Bool.and_eq_true] at hgo
  obtain ⟨⟨-, hhalted⟩, hwaits⟩ := hgo
  rw [Bool.and_eq_true, Bool.and_eq_true]
  exact ⟨⟨rfl, hhalted⟩, hwaits⟩

theorem exec_supGo_checks (hs : s.sound) (hc : s.selfCleared) (hm : s.power.mode = .run) (hgo : goAccepted s = true) :
    ∃ t, exec .supGo s = .next t ∧ t.bit SUP 0x02 13 = true ∧ t.fld SUP 0x02 14 2 = 2 ∧
      (bootError false (sramImage s) = 0 → t.sup.mode = .running ∧ t.sup.image = true ∧ t.bit SUP 0x02 11 = false) ∧
      (bootError false (sramImage s) ≠ 0 → t.sup.mode = .halted ∧ t.bit SUP 0x02 11 = true ∧
        t.fld SUP 0x02 8 3 = bootError false (sramImage s)) ∧
      t.sup.sram = s.sup.sram ∧ t.cist = s.cist ∧ t.engs = s.engs ∧ t.chans = s.chans := by
  have hb : s.bit SUP 0x00 15 = false := by
    rw [goAccepted, Bool.and_eq_true, Bool.and_eq_true] at hgo
    simpa using hgo.1.1
  have hends : supGo (s.putB SUP 0x00 15 false) =
      bootEnds 2 (sramImage s) (bootError false (sramImage s)) (s.putB SUP 0x00 15 false) := by
    rw [supGo, if_neg (by simp [goAccepted_putB hs hgo])]
    rfl
  have hrd := bootEnds_rd (s := s.putB SUP 0x00 15 false) (src := 2) (img := sramImage s)
    (code := bootError false (sramImage s)) (State_wr_sound _ _ _ _ hs)
  have hmode := bootEnds_mode (s := s.putB SUP 0x00 15 false) (src := 2) (img := sramImage s)
    (code := bootError false (sramImage s))
  have hrest := bootEnds_rest (s := s.putB SUP 0x00 15 false) (src := 2) (img := sramImage s)
    (code := bootError false (sramImage s))
  simp only [Prod.mk.injEq] at hrest
  refine ⟨_, exec_supGo_eq hc hb hm, ?_⟩
  rw [hends, hmode, State.bit, State.bit, State.fld, State.fld, hrd]
  refine ⟨bootWord_done _ _ _, bootWord_source _ _ (by decide), fun h => ⟨if_pos h, bootEnds_image h, ?_⟩,
    fun h => ⟨if_neg h, ?_, bootWord_code _ _ h (bootError_lt _ _)⟩, hrest⟩
  · rw [bootWord_fail, h]
    rfl
  · rw [bootWord_fail]
    exact decide_eq_true h

/-! ### GO_TIMEOUT, WFI and traps -/

theorem arrive_of_idle (r : PowerReq) (h : s.power.prog = none) : arrive r s = startRequest r s := by
  rw [arrive, h]

/-- What an event leaves of the supervisor, the channels and the fault records. -/
theorem raise_supervisor (i : Nat) (s : State) :
    ((raise i s).sup.mode, (raise i s).sup.sram, (raise i s).chans, (raise i s).faults) =
      (s.sup.mode, s.sup.sram, s.chans, s.faults) := by
  unfold raise
  dsimp only
  split <;> rfl

theorem faultRecord_rd_SUP (src unit chan flags detail detail2 : Nat) (s : State) (x : Nat) (hx : x < 256) :
    (faultRecord src unit chan flags detail detail2 s).rd SUP x = s.rd SUP x :=
  (raise_rd_other _ _ _ _ (by simp only [key, SUP, DEV]; omega)).trans (State.rd_regs _ _ _ _ rfl rfl rfl)

/-- A fault record joins the queue while it holds fewer than 64. -/
theorem faultRecord_queued (src unit chan flags detail detail2 : Nat) (h : s.faults.queue.length < 64) :
    ∃ f, (faultRecord src unit chan flags detail detail2 s).faults.queue = s.faults.queue ++ [f] ∧ f.src = src ∧
      f.detail = detail % 0x10000 := by
  have hraise := raise_supervisor
  simp only [Prod.mk.injEq] at hraise
  unfold faultRecord
  dsimp only
  rw [(hraise _ _).2.2.2, if_pos h]
  exact ⟨_, rfl, rfl, rfl⟩

theorem faultRecord_supervisor (src unit chan flags detail detail2 : Nat) (s : State) :
    ((faultRecord src unit chan flags detail detail2 s).sup.mode, (faultRecord src unit chan flags detail detail2 s).sup.sram,
      (faultRecord src unit chan flags detail detail2 s).chans) = (s.sup.mode, s.sup.sram, s.chans) := by
  have hraise := raise_supervisor
  simp only [Prod.mk.injEq] at hraise ⊢
  obtain ⟨hmode, hsram, hchans, -⟩ := hraise _ _
  exact ⟨hmode, hsram, hchans⟩

/-- The supervisor stopped by a trap, before its record. -/
def supTrapped (s : State) : State := (s.setB SUP 0x01 10).modSup (fun u => { u with mode := .trapped, wfi := false })

theorem supTrap_eq (cause : Word) (hst : supState s = .boot ∨ supState s = .running) :
    supTrap cause s = faultRecord 14 0 0xFF 0 cause.toNat 0 (supTrapped s) := by
  rcases hst with hst | hst <;> rw [supTrap, hst] <;> rfl

section
variable (hm : s.power.mode = .run)
include hm

theorem exec_goTimeout_fails (hs : s.sound) (hboot : s.straps.boot = 2) (hhalt : s.sup.mode = .halted)
    (hdone : s.bit SUP 0x02 13 = false) (hfail : s.bit SUP 0x02 11 = false) :
    ∃ t, exec .goTimeout s = .next t ∧ t.now = max s.now (s.power.bootAt + 2 ^ 28) ∧ t.bit SUP 0x02 11 = true ∧
      t.fld SUP 0x02 8 3 = 5 ∧ t.sup = s.sup ∧ t.cist = s.cist ∧ t.engs = s.engs := by
  refine ⟨_, whenRun_of_run hm, ?_⟩
  rw [goTimeout, if_pos ⟨hboot, hhalt, hdone, hfail⟩]
  refine ⟨rfl, ?_, ?_, rfl, rfl, rfl⟩
  · rw [State.bit, State.rd_wr_same _ _ _ _ (by exact hs.regs.1), wbit_putFld _ _ _ _ _ (by decide)]
    simp
  · rw [State.fld, State.rd_wr_same _ _ _ _ (by exact hs.regs.1)]
    exact wfld_putFld_same _ _ _ _ (by decide) (by decide)

theorem exec_supTrap_stops (cause : Word) (hst : supState s = .boot ∨ supState s = .running) (hs : s.sound) :
    ∃ t, exec (.supTrap cause) s = .next t ∧ t.sup.mode = .trapped ∧ t.bit SUP 0x01 10 = true ∧ t.sup.sram = s.sup.sram ∧
      (s.faults.queue.length < 64 → ∃ f, t.faults.queue = s.faults.queue ++ [f] ∧ f.src = 14 ∧
        f.detail = cause.toNat) ∧ t.engs = s.engs ∧ t.chans = s.chans ∧ t.cist = s.cist := by
  have hplant := faultRecord_plant 14 0 0xFF 0 cause.toNat 0 (supTrapped s)
  have hsup := faultRecord_supervisor 14 0 0xFF 0 cause.toNat 0 (supTrapped s)
  simp only [State.plant, Prod.mk.injEq] at hplant hsup
  obtain ⟨-, hengs, -, hcist, -⟩ := hplant
  obtain ⟨hmode, hsram, hchans⟩ := hsup
  refine ⟨_, whenRun_of_run hm, ?_⟩
  rw [supTrap_eq cause hst]
  refine ⟨hmode, ?_, hsram, fun hroom => ?_, hengs, hchans, hcist⟩
  · rw [State.bit, faultRecord_rd_SUP _ _ _ _ _ _ _ _ (by decide)]
    exact (State.bit_setB hs.regs.1 SUP 0x01 10 10 (by decide)).trans (by simp)
  · obtain ⟨f, hqueue, hsrc, hdetail⟩ := faultRecord_queued (s := supTrapped s) 14 0 0xFF 0 cause.toNat 0 hroom
    exact ⟨f, hqueue, hsrc, hdetail.trans (Nat.mod_eq_of_lt cause.isLt)⟩

section
variable (ha : supActs s = true) (hst : supState s = .running)
include ha

theorem exec_supWfi_eq : exec .supWfi s = .next (stewardWfi s) := whenSup_of_acts hm ha

theorem exec_supWfi_held (hh : sleepHeld s = true) : ∃ t, exec .supWfi s = .next t ∧ t = s :=
  ⟨_, exec_supWfi_eq hm ha, if_pos hh⟩

include hst

theorem exec_supWfi_waits (hz : s.fld PWR 0x01 0 2 = 0) :
    ∃ t, exec .supWfi s = .next t ∧ t = { s with sup := { s.sup with wfi := true } } := by
  refine ⟨_, exec_supWfi_eq hm ha, ?_⟩
  rw [stewardWfi, if_neg (by simp [sleepHeld, hz]), supWfi, if_neg (by simp [hst])]
  dsimp only
  rw [hz]
  rfl

theorem exec_supWfi_requests (m : Nat) (hm12 : m = 1 ∨ m = 2) (ht : s.fld PWR 0x01 0 2 = m) (hh : sleepHeld s = false)
    (hp : s.power.prog = none) :
    ∃ t e, exec .supWfi s = .next t ∧ t.now = s.now + 2 ∧ t.sup.wfi = true ∧ t.power.prog = some (.mode m) ∧
      t.power.entry = some e ∧ e.target = m ∧ e.todo.head? = some .tick ∧ t.regs = s.regs := by
  have hwfi : stewardWfi s = beginEntry m ((s.modSup (fun u => { u with wfi := true })).pass 2) := by
    rw [stewardWfi, if_neg (by simp [hh]), supWfi, if_neg (by simp [hst])]
    dsimp only
    rw [ht, if_pos hm12]
    exact arrive_of_idle _ (by exact hp)
  refine ⟨_, SleepEntry.mk m (queryOrder s) [] false (s.now + 2), exec_supWfi_eq hm ha, ?_⟩
  rw [hwfi]
  exact ⟨rfl, rfl, rfl, rfl, rfl, rfl, rfl⟩

end

end

end

/-! ### The rows together -/

/-- Settles O38: the control rows write SUP_CTRL and run the boot ROM, the accesses follow the memory map, and a FENCE is a SEAL
of the supervisor. -/
theorem supervisorRows : Obligations.SupervisorRows := by
  unfold Obligations.SupervisorRows
  refine ⟨fun s hs hc hm => ⟨fun on hl => exec_supHalt hs hm on hl, exec_supRestart_boots hs hc hm,
    exec_supGo_checks hs hc hm, exec_goTimeout_fails hm hs, fun ha hst => ⟨exec_supWfi_waits hm ha hst, exec_supWfi_held hm ha,
      fun m => exec_supWfi_requests hm ha hst m⟩, fun cause hst => exec_supTrap_stops hm cause hst hs⟩, fun s v hs hm ha =>
    ⟨fun o n hn ho hin => ⟨exec_supStore_sram hm ha hn ho hin hs v, exec_supLoad_sram hm ha hn ho hin⟩,
      fun a n hn ho hin hu => ⟨fun p ht hd => ?_, fun p ht hd => ?_, fun ht => ?_⟩,
      fun a n h => exec_supStore_error hm ha v h, exec_supFence hm ha⟩⟩
  · exact ⟨_, exec_supStore_cistern hm ha hn ho hin v, cistStore_writes n hu hd hs v ht⟩
  · exact ⟨_, exec_supLoad_cistern hm ha hn ho hin, cistLoad_reads n hu hd ht⟩
  · refine ⟨_, exec_supStore_cistern hm ha hn ho hin v, ?_⟩
    rw [cistStore, ht]
    rfl

end Sys2Proof.Machine

/-! ## The completion of an operation and the end of a well wait (R185, R186, R235, R272, R275 to R277)

A completion takes the operation from those in flight, writes its completion word, gives back its XID and counts SHORT
(`closeOp`); a fault status then leaves its records. -/

namespace Sys2Proof.Machine

/-! ### Numbers as bytes, and the completion word -/

theorem leVal_leBytes (n x : Nat) : leVal (leBytes n x) = x % 256 ^ n := by
  induction n generalizing x with
  | zero => simp [leBytes, leVal, Nat.mod_one]
  | succ n ih => rw [leBytes, leVal, ih, Nat.pow_succ', Nat.mod_mul, byte, BitVec.toNat_ofNat]

theorem PumpOp.status_code_le (o : PumpOp) : o.status.1 ≤ 11 := by
  unfold PumpOp.status
  split
  · exact Nat.le_of_ble_eq_true rfl
  split
  · next h => rcases h with h | h | h <;> rw [h] <;> decide
  repeat' split
  all_goals exact Nat.le_of_ble_eq_true rfl

theorem PumpOp.word32_lt (o : PumpOp) : o.word32 < 256 ^ 4 := by
  have := o.status_code_le
  unfold PumpOp.word32
  omega

section
variable {s t u : State} {o : PumpOp} {e : Nat}

/-! ### What the records of a fault status leave -/

/-- From `s` to `t` no engine but `e` has changed, and its store has not; the operations and the cistern are the same. -/
structure State.marksEngine (e : Nat) (s t : State) : Prop where
  store : (t.eng e).store = (s.eng e).store
  others : ∀ x, x ≠ e → t.eng x = s.eng x
  ops : t.ops = s.ops
  cist : t.cist = s.cist

theorem State.marksEngine_of_plant (e : Nat) (h : t.plant = s.plant) : s.marksEngine e t := by
  simp only [State.plant, Prod.mk.injEq] at h
  obtain ⟨hops, hengs, -, hcist, -⟩ := h
  have heng := State.eng_of_engs hengs
  exact ⟨by rw [heng], fun x _ => heng x, hops, hcist⟩

theorem State.marksEngine_modEng (s : State) (e : Nat) {f : Engine → Engine} (hf : ∀ g, (f g).store = g.store) :
    s.marksEngine e (s.modEng e f) :=
  ⟨nth_modAt_keeps Engine.store _ _ _ _ _ hf, fun _ hx => State.eng_modEng_other _ _ _ _ hx, rfl, rfl⟩

theorem State.marksEngine.trans (h : s.marksEngine e t) (h' : t.marksEngine e u) : s.marksEngine e u :=
  ⟨h'.store.trans h.store, fun x hx => (h'.others x hx).trans (h.others x hx), h'.ops.trans h.ops, h'.cist.trans h.cist⟩

theorem holdFault_marksEngine (e code : Nat) (pc : Option Nat) (s : State) : s.marksEngine e (holdFault e code pc s) :=
  State.marksEngine_modEng s e fun g => by split <;> rfl

theorem holdFault_faulted (code : Nat) (pc : Option Nat) (he : e < s.engs.length) :
    ((holdFault e code pc s).eng e).faulted = true := by
  rw [holdFault, State.eng_modEng_same _ _ _ he]
  split
  · assumption
  · rfl

theorem unclean_marksEngine (e c no : Nat) (s : State) : s.marksEngine e (unclean e c no s) :=
  State.marksEngine_modEng s e fun _ => rfl

theorem unclean_faulted (e c no : Nat) (s : State) : ((unclean e c no s).eng e).faulted = (s.eng e).faulted :=
  nth_modAt_keeps Engine.faulted _ _ _ _ _ fun _ => rfl

theorem raise_slots (i : Nat) (s : State) : (raise i s).sup.slots = s.sup.slots := by
  unfold raise
  dsimp only
  split <;> rfl

theorem tickFault_plant (src unit c no flags detail detail2 : Nat) (s : State) :
    (tickFault src unit c no flags detail detail2 s).plant = s.plant :=
  (promiseBroken_plant _ _ _ _).trans (faultRecord_plant src unit c _ detail detail2 s)

theorem completionFault_none (h : faultStatus o.status.1 = false) : completionFault o s = s := if_pos h

/-- A fault status of an engine's operation is engine fault 13, with records that leave the engines (R221, R235). -/
theorem completionFault_held {tick : Bool} {c : Option Nat} (hi : o.issuer = .engine e tick c)
    (h : faultStatus o.status.1 = true) : ∃ u, u.plant = (holdFault e fOperation none s).plant ∧
      (completionFault o s = u ∨ ∃ c, completionFault o s = unclean e c o.tickNo u) := by
  have hne : ¬ faultStatus o.status.1 = false := by simp [h]
  unfold completionFault
  dsimp only
  rw [if_neg hne, hi]
  match tick, c with
  | true, some c => exact ⟨_, tickFault_plant _ _ _ _ _ _ _ _, .inr ⟨c, rfl⟩⟩
  | true, none => exact ⟨_, faultRecord_plant _ _ _ _ _ _ _, .inl rfl⟩
  | false, _ => exact ⟨_, faultRecord_plant _ _ _ _ _ _ _, .inl rfl⟩

theorem completionFault_marksEngine {tick : Bool} {c : Option Nat} (hi : o.issuer = .engine e tick c) (s : State) :
    s.marksEngine e (completionFault o s) := by
  cases h : faultStatus o.status.1 with
  | false =>
    rw [completionFault_none h]
    exact State.marksEngine_of_plant e rfl
  | true =>
    obtain ⟨u, hu, hend⟩ := completionFault_held (s := s) hi h
    have hmarks : s.marksEngine e u := (holdFault_marksEngine e _ _ s).trans (State.marksEngine_of_plant e hu)
    rcases hend with hend | ⟨c, hend⟩ <;> rw [hend]
    · exact hmarks
    · exact hmarks.trans (unclean_marksEngine e c _ u)

theorem completionFault_faulted {tick : Bool} {c : Option Nat} (hi : o.issuer = .engine e tick c) (he : e < s.engs.length)
    (h : faultStatus o.status.1 = true) : ((completionFault o s).eng e).faulted = true := by
  obtain ⟨u, hu, hend⟩ := completionFault_held (s := s) hi h
  simp only [State.plant, Prod.mk.injEq] at hu
  have hheld : (u.eng e).faulted = true := by
    rw [State.eng_of_engs hu.2.1]
    exact holdFault_faulted _ _ he
  rcases hend with hend | ⟨c, hend⟩ <;> rw [hend]
  · exact hheld
  · exact (unclean_faulted e c _ u).trans hheld

/-- A fault status of another issuer's operation only leaves a record. -/
theorem completionFault_plant (hi : ∀ e tick c, o.issuer ≠ .engine e tick c) (s : State) :
    (completionFault o s).plant = s.plant ∧ (completionFault o s).sup.slots = s.sup.slots := by
  unfold completionFault
  dsimp only
  split
  · exact ⟨rfl, rfl⟩
  split
  · next hi' => exact absurd hi' (hi _ _ _)
  · next hi' => exact absurd hi' (hi _ _ _)
  · exact ⟨faultRecord_plant _ _ _ _ _ _ _, raise_slots _ _⟩

/-! ### The completion -/

/-- What a completion does before the records of its status (R272, R276, R450). -/
def closeOp (o : PumpOp) (s : State) : State :=
  let s1 := returnXid o (storeCompletion o { s with ops := s.ops.filter (fun x => x.id ≠ o.id) })
  if o.status.1 = stShort then bump16 PMP 0x04 1 s1 else s1

theorem completeOp_eq (o : PumpOp) (s : State) : completeOp o s = completionFault o (closeOp o s) := rfl

theorem returnXid_plant (o : PumpOp) (s : State) : ((returnXid o s).plant, (returnXid o s).sup) = (s.plant, s.sup) := by
  unfold returnXid
  split
  · split <;> rfl
  · rfl

/-- Giving back an XID and counting SHORT leave the operations, the engines, the cistern and the supervisor. -/
theorem closeOp_plant (o : PumpOp) (s : State) :
    ((closeOp o s).plant, (closeOp o s).sup) =
      ((storeCompletion o { s with ops := s.ops.filter (fun x => x.id ≠ o.id) }).plant,
        (storeCompletion o { s with ops := s.ops.filter (fun x => x.id ≠ o.id) }).sup) := by
  unfold closeOp
  dsimp only
  split <;> exact returnXid_plant _ _

/-- A completing operation leaves those in flight, and the cistern stays. -/
theorem completeOp_stock (o : PumpOp) (s : State) :
    (completeOp o s).ops = s.ops.filter (fun x => x.id ≠ o.id) ∧ (completeOp o s).cist = s.cist := by
  have hclose := closeOp_plant o s
  simp only [State.plant, Prod.mk.injEq] at hclose
  obtain ⟨⟨hops, -, -, hcist, -⟩, -⟩ := hclose
  have hword : ∀ u : State, (storeCompletion o u).ops = u.ops ∧ (storeCompletion o u).cist = u.cist := fun u => by
    unfold storeCompletion
    split <;> exact ⟨rfl, rfl⟩
  have hfault : (completionFault o (closeOp o s)).ops = (closeOp o s).ops ∧
      (completionFault o (closeOp o s)).cist = (closeOp o s).cist := by
    cases hi : o.issuer with
    | engine e tick c => exact ⟨(completionFault_marksEngine hi _).ops, (completionFault_marksEngine hi _).cist⟩
    | supervisor | peer =>
      have hplant := (completionFault_plant (o := o) (by simp [hi]) (closeOp o s)).1
      simp only [State.plant, Prod.mk.injEq] at hplant
      exact ⟨hplant.1, hplant.2.2.2.1⟩
  rw [completeOp_eq, hfault.1, hfault.2, hops, hcist, (hword _).1, (hword _).2]
  exact ⟨rfl, rfl⟩

/-- Of numbered operations just one has the number of `o`. -/
theorem State.numbered.length_filter_ne (hn : s.numbered) (ho : o ∈ s.ops) :
    (s.ops.filter (fun x => x.id ≠ o.id)).length + 1 = s.ops.length := by
  have hpair := hn.1
  generalize s.ops = ops at ho hpair
  induction ops with
  | nil => simp at ho
  | cons x xs ih =>
    obtain ⟨hx, hxs⟩ := List.pairwise_cons.mp hpair
    rcases List.mem_cons.mp ho with rfl | ho
    · have hall : xs.filter (fun x => x.id ≠ o.id) = xs :=
        List.filter_eq_self.mpr fun y hy => by simpa using (hx y hy).ne'
      rw [List.filter_cons_of_neg (by simp), hall, List.length_cons]
    · rw [List.filter_cons_of_pos (by simpa using (hx o ho).ne), List.length_cons, ih ho hxs, List.length_cons]

section
variable {tick : Bool} {c : Option Nat} (hi : o.issuer = .engine e tick c)
include hi

theorem closeOp_engs (s : State) :
    (closeOp o s).engs = (storePut e (16 * o.lane + 12) (leBytes 4 o.word32) s).engs := by
  have hclose := closeOp_plant o s
  simp only [State.plant, Prod.mk.injEq] at hclose
  rw [hclose.1.2.1, storeCompletion, hi]
  rfl

/-- The completion word of an engine's operation goes to its descriptor (R276). -/
theorem completeOp_store (he : e < s.engs.length) :
    ((completeOp o s).eng e).store = memWriteL (s.eng e).store (16 * o.lane + 12) (leBytes 4 o.word32) := by
  rw [completeOp_eq, (completionFault_marksEngine hi _).store, State.eng_of_engs (closeOp_engs hi s)]
  exact congrArg Engine.store (State.eng_modEng_same s e _ he)

theorem completeOp_eng_other {x : Nat} (hx : x ≠ e) : (completeOp o s).eng x = s.eng x := by
  rw [completeOp_eq, (completionFault_marksEngine hi _).others x hx, State.eng_of_engs (closeOp_engs hi s)]
  exact State.eng_modEng_other s e x _ hx

theorem completeOp_faulted (he : e < s.engs.length) (h : faultStatus o.status.1 = true) :
    ((completeOp o s).eng e).faulted = true := by
  rw [completeOp_eq]
  refine completionFault_faulted hi ?_ h
  rw [closeOp_engs hi]
  exact he.trans_eq (modAt_length _ _ _).symm

/-- A canonical store reads the completion word back, and keeps its other bytes. -/
theorem completeOp_word (he : e < s.engs.length) (hwf : Memory.wf (s.eng e).store = true) :
    leVal (storeGet (completeOp o s) e (16 * o.lane + 12) 4) = o.word32 ∧
      storeKept s (completeOp o s) e (16 * o.lane + 12) 4 := by
  have hstore := completeOp_store (s := s) hi he
  have hlen := length_leBytes 4 o.word32
  refine ⟨?_, fun x hx => ?_⟩
  · have hread := memReadN_memWriteL _ (16 * o.lane + 12) (leBytes 4 o.word32) hwf
    rw [hlen] at hread
    rw [storeGet, hstore, hread, leVal_leBytes, Nat.mod_eq_of_lt o.word32_lt]
  · rw [hstore]
    exact memRead_memWriteL_outside _ _ _ _ hwf (by rwa [hlen])

end

/-- The completion word of a supervisor's operation goes to its post slot, which is free again (R527). -/
theorem completeOp_slot {n : Nat} (hi : o.issuer = .supervisor n) (hn : n < s.sup.slots.length) :
    ((completeOp o s).slotOf n).completion = o.word32 ∧ ((completeOp o s).slotOf n).busy = false ∧
      (completeOp o s).engs = s.engs := by
  have hclose := closeOp_plant o s
  have hfault := completionFault_plant (o := o) (by simp [hi]) (closeOp o s)
  simp only [State.plant, Prod.mk.injEq, storeCompletion, hi] at hclose hfault
  obtain ⟨⟨-, hengs, -⟩, hsup⟩ := hclose
  obtain ⟨⟨-, hengs', -⟩, hslots⟩ := hfault
  have hslot : (completeOp o s).slotOf n = { s.slotOf n with completion := o.word32, busy := false } := by
    rw [completeOp_eq, State.slotOf, hslots, hsup]
    exact nth_modAt_same _ _ _ _ hn
  rw [hslot]
  exact ⟨rfl, rfl, hengs'.trans hengs⟩

/-- Registers before the count of SHORT completions stand as they did. -/
theorem returnXid_storeCompletion_regs (o : PumpOp) (s : State) :
    ((returnXid o (storeCompletion o s)).regs, (returnXid o (storeCompletion o s)).part,
      (returnXid o (storeCompletion o s)).straps) = (s.regs, s.part, s.straps) := by
  have hword : ((storeCompletion o s).regs, (storeCompletion o s).part, (storeCompletion o s).straps) =
      (s.regs, s.part, s.straps) := by
    unfold storeCompletion
    split <;> rfl
  rw [← hword]
  unfold returnXid
  split
  · split <;> rfl
  · rfl

/-- A SHORT completion is no fault and counts (R141, R184). -/
theorem completeOp_short (hs : s.sound) (h : o.status.1 = 1) :
    (completeOp o s).rd PMP 0x04 = satAdd16 (s.rd PMP 0x04) 1 := by
  have hregs := returnXid_storeCompletion_regs o { s with ops := s.ops.filter (fun x => x.id ≠ o.id) }
  simp only [Prod.mk.injEq] at hregs
  obtain ⟨hregs, hpart, hstraps⟩ := hregs
  rw [completeOp_eq, completionFault_none (by rw [h]; rfl), closeOp, if_pos h, bump16,
    State.rd_wr_same _ _ _ _ (by rw [hregs]; exact hs.regs.1), State.rd_regs s _ _ _ hregs hpart hstraps]

/-! ### The rows PUMP_COMPLETION and WELL_WAIT_END -/

section
variable (hm : s.power.mode = .run) {i : Nat} (ho : s.op? i = some o)
include hm ho

theorem exec_pumpCompletion_completes (hmoved : o.moved = true) : exec (.pumpCompletion i) s = .next (completeOp o s) := by
  refine (whenRun_of_run hm).trans ?_
  rw [pumpComplete, ho]
  exact congrArg _ (if_pos hmoved)

theorem exec_pumpCompletion_waits (hmoved : o.moved = false) : exec (.pumpCompletion i) s = .next s := by
  refine (whenRun_of_run hm).trans ?_
  rw [pumpComplete, ho]
  exact congrArg _ (if_neg (by simp [hmoved]))

/-- The wait ends at once with the last sample, the well's disable or the walk's load, else at its limit (R185, R186). -/
theorem exec_wellWaitEnd_ends (hop : (parseDesc o.desc).op = .window) (hstart : o.started = false) :
    let g := s.well (parseDesc o.desc).src.unit
    ∃ t, exec (.wellWaitEnd i) s = .next t ∧
      t.op? i = some { o with started := true, waitEnd := none, seen := g.count } ∧
      (notYet o.refCount g.count (windowLast (parseDesc o.desc)) = false ∨ g.enabled = false ∨ o.cut = true →
        t.now = s.now) ∧
      (notYet o.refCount g.count (windowLast (parseDesc o.desc)) = true → g.enabled = true → o.cut = false →
        t.now = max s.now (o.waitEnd.getD s.now)) ∧
      (∀ k, k ≠ i → t.op? k = s.op? k) ∧ t.engs = s.engs ∧ t.cist = s.cist ∧ t.regs = s.regs := by
  intro g
  have hend : wellWaitEnd i s =
      (if !notYet o.refCount g.count (windowLast (parseDesc o.desc)) || !g.enabled || o.cut then s
        else s.reach (o.waitEnd.getD s.now)).modOp i
        (fun o => { o with started := true, waitEnd := none, seen := g.count }) := by
    simp only [wellWaitEnd, ho, hstart, hop, ne_eq, not_true_eq_false, if_false, Bool.false_eq_true, g]
  refine ⟨_, whenRun_of_run hm, ?_⟩
  rw [hend]
  generalize hearly : (!notYet o.refCount g.count (windowLast (parseDesc o.desc)) || !g.enabled || o.cut) = early
  refine ⟨?_, fun h => ?_, fun hyet hen hcut => ?_, fun k hk => ?_, ?_, ?_, ?_⟩
  · rw [State.op?_modOp (by exact fun _ hx => hx), if_pos rfl]
    cases early <;> exact congrArg (Option.map _) ho
  · have hyes : early = true := by
      rw [← hearly]
      rcases h with h | h | h <;> simp [h]
    rw [if_pos hyes]
    rfl
  · have hno : early = false := by simp [← hearly, hyet, hen, hcut]
    rw [if_neg (by simp [hno])]
    rfl
  · rw [State.op?_modOp (by exact fun _ hx => hx), if_neg hk]
    cases early <;> rfl
  all_goals cases early <;> rfl

end

end

/-! ### The statement, and what refutes it -/

/-- What O31 says holds of every sound state: its one gap is that it speaks also of stores that are not in canonical form. -/
theorem operationsCompleteAndWaitsEnd_of_sound (s : State) (i : Nat) (o : PumpOp) (hs : s.sound) (hn : s.numbered)
    (hm : s.power.mode = .run) (ho : s.op? i = some o) :
    (o.moved = true →
      ∃ t, exec (.pumpCompletion i) s = .next t ∧ t.ops = s.ops.filter (fun x => x.id ≠ i) ∧
        t.ops.length + 1 = s.ops.length ∧
        (∀ e tick c, o.issuer = .engine e tick c → e < s.engs.length →
          leVal (storeGet t e (16 * o.lane + 12) 4) = min 0xFFFF o.status.2 * 65536 + min 255 o.drop * 256 + o.status.1 ∧
          storeKept s t e (16 * o.lane + 12) 4 ∧ (faultStatus o.status.1 = true → (t.eng e).faulted = true) ∧
          (∀ x, x ≠ e → t.eng x = s.eng x) ∧ t.cist = s.cist) ∧
        (∀ n, o.issuer = .supervisor n → n < s.sup.slots.length →
          (t.slotOf n).completion = min 0xFFFF o.status.2 * 65536 + min 255 o.drop * 256 + o.status.1 ∧
          (t.slotOf n).busy = false ∧ t.engs = s.engs ∧ t.cist = s.cist) ∧
        (o.status.1 = 1 → t.rd PMP 0x04 = satAdd16 (s.rd PMP 0x04) 1)) ∧
    (o.moved = false → exec (.pumpCompletion i) s = .next s) ∧
    ((parseDesc o.desc).op = .window → o.started = false →
      let g := s.well (parseDesc o.desc).src.unit
      ∃ t, exec (.wellWaitEnd i) s = .next t ∧
        t.op? i = some { o with started := true, waitEnd := none, seen := g.count } ∧
        (notYet o.refCount g.count (windowLast (parseDesc o.desc)) = false ∨ g.enabled = false ∨ o.cut = true →
          t.now = s.now) ∧
        (notYet o.refCount g.count (windowLast (parseDesc o.desc)) = true → g.enabled = true → o.cut = false →
          t.now = max s.now (o.waitEnd.getD s.now)) ∧
        (∀ k, k ≠ i → t.op? k = s.op? k) ∧ t.engs = s.engs ∧ t.cist = s.cist ∧ t.regs = s.regs) := by
  refine ⟨fun hmoved => ?_, exec_pumpCompletion_waits hm ho, exec_wellWaitEnd_ends hm ho⟩
  obtain ⟨hops, hcist⟩ := completeOp_stock o s
  have hlen := hn.length_filter_ne (List.mem_of_find?_eq_some ho)
  rw [State.op?_id ho] at hops hlen
  refine ⟨_, exec_pumpCompletion_completes hm ho hmoved, hops, (congrArg (·.length + 1) hops).trans hlen,
    fun e tick c hi he => ?_, fun n hi hslot => ?_, completeOp_short hs⟩
  · obtain ⟨hword, hkept⟩ := completeOp_word hi he (nth_store_wf s e hs.stores)
    exact ⟨hword, hkept, completeOp_faulted hi he, fun _ => completeOp_eng_other hi, hcist⟩
  · obtain ⟨hword, hbusy, hengs⟩ := completeOp_slot hi hslot
    exact ⟨hword, hbusy, hengs, hcist⟩

/-- A COPY that engine 0 posted from lane 0 and whose pieces have moved: it completes with OK, so its completion word is 0. -/
def movedCopy : PumpOp :=
  { id := 0, pump := 0, issuer := .engine 0 false none, handle := 0, ctx := 0, lane := 0, desc := [], entries := [],
    listBase := 0, refCount := 0, seen := 0, filled := false, cut := false, tickNo := 0, started := true, waitEnd := none,
    prior := [], steps := 0, shown := 0, buf := [], judged := [], moved := true, prot := 0, ecc := 0, defer := 0, short := 0,
    drop := 0, fail := 0, port := 0, xid := none, blocks := [], xferFrom := none, xferCount := 0, xferLimit := 0 }

/-- The machine after reset with `movedCopy` in flight and a store of engine 0 that lists byte 12 twice: no memory in
canonical form does, and no sound state holds such a store. -/
def twiceListed : State :=
  { State.reset.modEng 0 (fun g => { g with store := [(12, 1), (12, 2)] }) with ops := [movedCopy], nextOp := 1 }

/-- Refutes O31: its states are numbered but need not be sound. In `twiceListed` the completion word 0 takes the first of two
entries for byte 12 out of the store, and the second, 2, is read. Sound states keep the statement
(`operationsCompleteAndWaitsEnd_of_sound`). -/
theorem not_operationsCompleteAndWaitsEnd : ¬ Obligations.OperationsCompleteAndWaitsEnd := by
  unfold Obligations.OperationsCompleteAndWaitsEnd
  intro h
  have hnumbered : twiceListed.numbered := ⟨List.pairwise_singleton _ _, by simp [twiceListed, movedCopy]⟩
  obtain ⟨t, ht, -, -, hengine, -⟩ := (h twiceListed 0 movedCopy hnumbered rfl rfl).1 rfl
  obtain ⟨hword, -⟩ := hengine 0 false none rfl (by decide)
  rw [exec_pumpCompletion_completes (s := twiceListed) rfl (i := 0) (o := movedCopy) rfl rfl] at ht
  cases ht
  rw [storeGet, completeOp_store (s := twiceListed) (o := movedCopy) rfl (by decide)] at hword
  exact absurd hword (by decide)

end Sys2Proof.Machine

/-! ## Wells: the samples they take, their enable and their disable (R172 to R176, R181, R186, R189, R192 to R194, R394) -/

namespace Sys2Proof.Machine

section
variable {s t : State} {w : Nat}

/-! ### One well of a state -/

theorem State.well_modWell_same (s : State) (w : Nat) (f : Well → Well) (hw : w < s.wells.length) :
    (s.modWell w f).well w = f (s.well w) := nth_modAt_same _ _ _ _ hw

theorem State.well_modWell_other (s : State) (w x : Nat) (f : Well → Well) (hx : x ≠ w) :
    (s.modWell w f).well x = s.well x := nth_modAt_other _ _ _ _ _ (Ne.symm hx)

theorem State.well_of_wells (h : t.wells = s.wells) (x : Nat) : t.well x = s.well x := congrArg (nth · x Well.reset) h

theorem State.ofPart.wells_length {p : Part} (h : s.ofPart p) : s.wells.length = 64 := congrArg Shape.wells h.2

/-- A well whose port's lines have been registered (R394). -/
def Well.withLines (opn stuck : Bool) (g : Well) : Well := { g with openLine := opn, stuckLine := stuck }

/-- A well on the capture of value `v` at RIM count `now`, which laps its guard or not (R173, R175, R181, R189). -/
def Well.captured (v : Int) (lap opn stuck : Bool) (now : Nat) (g : Well) : Well :=
  { g with
    count := (g.count + 1) % 2 ^ 32
    wrapped := g.wrapped || decide (g.cap ≤ g.count + 1)
    fresh := g.fresh + 1
    lastCap := some now
    openSeen := g.openSeen || opn
    stuckSeen := g.stuckSeen || stuck
    status := (if lap then setBit g.status 14 else g.status) ||| bitAt opn 13 ||| bitAt stuck 12
    lapSeen := g.lapSeen || lap
    window := (scaled g.fmt v :: g.window).take 64
    last := some (scaled g.fmt v)
    before := g.last }

/-- The well's next capture laps its guard: G samples have come since the last snapshot's S (R189). -/
def Well.laps (g : Well) : Bool := decide (sinceSnap g = g.guardG)

/-! ### What a capture leaves besides its well -/

/-- What records, events and comparators leave: the wells, the time, the engines, the operations and the tick. -/
def State.ingestFrame (s : State) : List Well × Nat × List Engine × List PumpOp × TickUnit :=
  (s.wells, s.now, s.engs, s.ops, s.tick)

theorem raise_ingestFrame (i : Nat) (s : State) : (raise i s).ingestFrame = s.ingestFrame := by
  unfold raise
  dsimp only
  split <;> rfl

/-- A comparator only starts a hold, which is an event and a change of its channel (R349, R351). -/
theorem compare_ingestFrame (w c : Nat) (s : State) : (compare w c s).ingestFrame = s.ingestFrame := by
  unfold compare
  dsimp only
  split
  · rfl
  · exact raise_ingestFrame _ _

theorem compare_plant (w c : Nat) (s : State) : (compare w c s).plant = s.plant := by
  unfold compare
  dsimp only
  split
  · rfl
  · exact raise_plant _ _

theorem cistUeRecord_ingestFrame (c : Nat) (s : State) : (cistUeRecord none c s).ingestFrame = s.ingestFrame :=
  raise_ingestFrame _ _

theorem cistPut_ingestFrame (a : Nat) (bs : List Byte) (s : State) : (cistPut a bs s).ingestFrame = s.ingestFrame := by
  unfold cistPut
  split
  · rfl
  · exact foldS_keeps State.ingestFrame (cistUeRecord none) (fun _ _ => cistUeRecord_ingestFrame _ _) _ _

/-- A read of the cistern turns on its bytes and its banks. -/
theorem cistGet_of_banks (hcist : t.cist = s.cist) (hbanks : t.banks = s.banks) (a n : Nat) : cistGet t a n = cistGet s a n := by
  rw [cistGet, cistGet, bankDead, bankDead, State.bank, State.bank, hcist, hbanks]

/-! ### A capture (R173 to R176, R181, R189) -/

/-- The state in which well `w` has moved on by a capture, its ring and the comparators still to come. -/
def State.counted (w data : Nat) (opn stuck : Bool) (s : State) : State :=
  s.modWell w (Well.captured (convertSample (s.well w).fmt data) (s.well w).laps opn stuck s.now)

/-- Where a well's next sample goes in its ring (R175). -/
def Well.nextAddr (g : Well) : Nat := g.ringBase + g.count % g.cap * g.width

/-- The bytes that a presented sample becomes (R174). -/
def Well.stored (data : Nat) (g : Well) : List Byte := leBytes g.width (toU (8 * g.width) (convertSample g.fmt data))

section
variable (hw : w < s.wells.length) (data : Nat) (opn stuck : Bool)
include hw

/-- A capture is the count, the write into the ring, and what the event LAP and the comparators add. -/
theorem capture_eq : capture w data opn stuck s = foldS (compare w) allChans
    (if (s.well w).laps then
      raise evFault (cistPut (s.well w).nextAddr ((s.well w).stored data) (s.counted w data opn stuck))
    else cistPut (s.well w).nextAddr ((s.well w).stored data) (s.counted w data opn stuck)) := by
  have hring : ringWrite w (s.well w).count (convertSample (s.well w).fmt data) (s.counted w data opn stuck) =
      cistPut (s.well w).nextAddr ((s.well w).stored data) (s.counted w data opn stuck) := by
    rw [ringWrite, State.counted, State.well_modWell_same _ _ _ hw]
    rfl
  have hcap : capture w data opn stuck s = foldS (compare w) allChans
      (if (s.well w).laps then
        raise evFault (ringWrite w (s.well w).count (convertSample (s.well w).fmt data) (s.counted w data opn stuck))
      else ringWrite w (s.well w).count (convertSample (s.well w).fmt data) (s.counted w data opn stuck)) := rfl
  rw [hcap, hring]

theorem capture_ingestFrame : (capture w data opn stuck s).ingestFrame = (s.counted w data opn stuck).ingestFrame := by
  rw [capture_eq hw, foldS_keeps State.ingestFrame _ (compare_ingestFrame w)]
  split
  · rw [raise_ingestFrame, cistPut_ingestFrame]
  · exact cistPut_ingestFrame _ _ _

theorem capture_plant : (capture w data opn stuck s).plant =
    (cistPut (s.well w).nextAddr ((s.well w).stored data) (s.counted w data opn stuck)).plant := by
  rw [capture_eq hw, foldS_keeps State.plant _ (compare_plant w)]
  split
  · exact raise_plant _ _
  · rfl

theorem capture_wells : (capture w data opn stuck s).wells = (s.counted w data opn stuck).wells := by
  have hframe := capture_ingestFrame (s := s) hw data opn stuck
  simp only [State.ingestFrame, Prod.mk.injEq] at hframe
  exact hframe.1

theorem capture_well : (capture w data opn stuck s).well w =
    (s.well w).captured (convertSample (s.well w).fmt data) (s.well w).laps opn stuck s.now :=
  (State.well_of_wells (capture_wells hw data opn stuck) w).trans (State.well_modWell_same _ _ _ hw)

theorem capture_well_other {x : Nat} (hx : x ≠ w) : (capture w data opn stuck s).well x = s.well x :=
  (State.well_of_wells (capture_wells hw data opn stuck) x).trans (State.well_modWell_other _ _ _ _ hx)

/-- In a bank that answers, without uncorrectable codewords, the sample's bytes stand at their place in the ring and no
other byte changes (R175, R176). -/
theorem capture_cist_written (hs : s.sound) (hdead : bankDead s (cistBankOf (s.well w).nextAddr) = false) (hue : s.cistUe = []) :
    cistGet (capture w data opn stuck s) (s.well w).nextAddr (s.well w).width = (s.well w).stored data ∧
    ∀ x, x < (s.well w).nextAddr ∨ (s.well w).nextAddr + (s.well w).width ≤ x →
      memRead (capture w data opn stuck s).cist x = memRead s.cist x := by
  have hplant := capture_plant hw data opn stuck
  simp only [State.plant, Prod.mk.injEq] at hplant
  obtain ⟨-, -, -, hcist, hbanks⟩ := hplant
  have hlen : ((s.well w).stored data).length = (s.well w).width := length_leBytes _ _
  have hput : (cistPut (s.well w).nextAddr ((s.well w).stored data) (s.counted w data opn stuck)).cist =
      memWriteL s.cist (s.well w).nextAddr ((s.well w).stored data) := by
    rw [cistPut_of_none (s := s.counted w data opn stuck) hue hdead]
    rfl
  have hget := cistGet_cistPut (s := s.counted w data opn stuck) hue hdead (State_modWell_sound _ _ _ hs)
    ((s.well w).stored data)
  rw [hlen] at hget
  refine ⟨?_, fun x hx => ?_⟩
  · rw [← hget, cistGet_of_banks hcist hbanks]
  · rw [hcist, hput]
    exact memRead_memWriteL_outside _ _ _ _ hs.cist (by rwa [hlen])

/-- A dead bank drops the sample (R51, R470). -/
theorem capture_cist_dropped (hdead : bankDead s (cistBankOf (s.well w).nextAddr) = true) :
    (capture w data opn stuck s).cist = s.cist := by
  have hplant := capture_plant hw data opn stuck
  simp only [State.plant, Prod.mk.injEq] at hplant
  obtain ⟨-, -, -, hcist, -⟩ := hplant
  rw [hcist, cistPut, if_pos (by exact hdead)]
  rfl

end

/-! ### A sample on a port (R172, R173, R394) -/

/-- A live port presents its lines and its sample when `dt` RIM have passed. -/
theorem exec_sampleCapture_live (hm : s.power.mode = .run) (hw : w < 64) (hlive : wellPortLive s w = true)
    (x : PortSample) (opn stuck : Bool) (dt : Nat) :
    exec (.sampleCapture w x opn stuck dt) s = .next (presentSample w x.data.toNat x.valid opn stuck (s.pass dt)) := by
  refine (whenRun_of_run hm).trans ?_
  rw [samplePort, if_pos ⟨hw, hlive⟩]

theorem exec_sampleCapture_dead (hm : s.power.mode = .run) (hlive : wellPortLive s w = false)
    (x : PortSample) (opn stuck : Bool) (dt : Nat) :
    exec (.sampleCapture w x opn stuck dt) s = .next { s with now := s.now + dt } := by
  refine (whenRun_of_run hm).trans ?_
  rw [samplePort, if_neg (by simp [hlive])]
  rfl

/-- Without a sample, or with the well not enabled, the port registers its lines and no more. -/
theorem presentSample_lines (data : Nat) {valid : Bool} (opn stuck : Bool) (h : (s.well w).enabled = false ∨ valid = false) :
    presentSample w data valid opn stuck s = s.modWell w (Well.withLines opn stuck) :=
  if_pos (by tauto)

section
variable (hw : w < 64) (hen : (s.well w).enabled = true) (data : Nat) (opn stuck : Bool)
include hw hen

theorem presentSample_early {t0 : Nat} (hlast : (s.well w).lastCap = some t0) (hdt : s.now < t0 + 2) :
    presentSample w data true opn stuck s = overrun w (s.modWell w (Well.withLines opn stuck)) := by
  unfold presentSample
  rw [if_neg (by simp [hw, hen]), hlast]
  exact if_pos hdt

theorem presentSample_captures (hlast : ∀ t0, (s.well w).lastCap = some t0 → t0 + 2 ≤ s.now) :
    presentSample w data true opn stuck s = capture w data opn stuck (s.modWell w (Well.withLines opn stuck)) := by
  unfold presentSample
  rw [if_neg (by simp [hw, hen])]
  cases hcap : (s.well w).lastCap with
  | none => rfl
  | some t0 =>
    have hle := hlast t0 hcap
    exact if_neg (by omega)

end

section
variable (hm : s.power.mode = .run) (hlen : s.wells.length = 64) (hw : w < 64) (hlive : wellPortLive s w = true)
  (opn stuck : Bool) (dt : Nat)
include hm hlen hw hlive

theorem exec_sampleCapture_lines (data : BitVec 24) {valid : Bool} (h : (s.well w).enabled = false ∨ valid = false) :
    ∃ t, exec (.sampleCapture w ⟨data, valid⟩ opn stuck dt) s = .next t ∧
      t.well w = { s.well w with openLine := opn, stuckLine := stuck } ∧ (∀ x, x ≠ w → t.well x = s.well x) ∧
      t = { s with wells := t.wells, now := s.now + dt } := by
  refine ⟨_, exec_sampleCapture_live hm hw hlive _ _ _ _, ?_⟩
  rw [presentSample_lines _ _ _ (by exact h)]
  exact ⟨State.well_modWell_same _ _ _ (by exact hlen ▸ hw), fun x hx => State.well_modWell_other _ _ _ _ hx, rfl⟩

section
variable (hen : (s.well w).enabled = true) (data : BitVec 24)
include hen

theorem exec_sampleCapture_overruns {t0 : Nat} (hlast : (s.well w).lastCap = some t0) (hdt : s.now + dt < t0 + 2) :
    ∃ t, exec (.sampleCapture w ⟨data, true⟩ opn stuck dt) s = .next t ∧ t.now = s.now + dt ∧
      (t.well w).count = (s.well w).count ∧ (t.well w).ovr = satAdd16 (s.well w).ovr 1 ∧
      wbit (t.well w).status 15 = true ∧ (∀ x, x ≠ w → t.well x = s.well x) ∧ t.cist = s.cist ∧ t.chans = s.chans ∧
      t.regs = s.regs := by
  have hw0 : w < (s.pass dt).wells.length := by exact hlen ▸ hw
  refine ⟨_, exec_sampleCapture_live hm hw hlive _ _ _ _, ?_⟩
  rw [presentSample_early hw (by exact hen) _ _ _ (by exact hlast) (by exact hdt), overrun,
    State.well_modWell_same _ _ _ (by simpa using hw0), State.well_modWell_same _ _ _ hw0]
  refine ⟨rfl, rfl, rfl, ?_, fun x hx => ?_, rfl, rfl, rfl⟩
  · simp
  · rw [State.well_modWell_other _ _ _ _ hx, State.well_modWell_other _ _ _ _ hx]
    rfl

theorem exec_sampleCapture_captures (hs : s.sound) (hlast : ∀ t, (s.well w).lastCap = some t → t + 2 ≤ s.now + dt) :
    let g := s.well w
    let v := convertSample g.fmt data.toNat
    let a := g.ringBase + g.count % g.cap * g.width
    ∃ t, exec (.sampleCapture w ⟨data, true⟩ opn stuck dt) s = .next t ∧ t.now = s.now + dt ∧
      (t.well w).openLine = opn ∧ (t.well w).stuckLine = stuck ∧ (t.well w).count = (g.count + 1) % 2 ^ 32 ∧
      (t.well w).lastCap = some (s.now + dt) ∧
      (t.well w).wrapped = (g.wrapped || decide (g.cap ≤ g.count + 1)) ∧ (t.well w).fresh = g.fresh + 1 ∧
      (t.well w).ovr = g.ovr ∧ (∀ x, x ≠ w → t.well x = s.well x) ∧
      (bankDead s (cistBankOf a) = false → s.cistUe = [] →
        cistGet t a g.width = leBytes g.width (toU (8 * g.width) v) ∧
        (∀ x, x < a ∨ a + g.width ≤ x → memRead t.cist x = memRead s.cist x)) ∧
      (bankDead s (cistBankOf a) = true → t.cist = s.cist) ∧
      t.engs = s.engs ∧ t.ops = s.ops ∧ t.tick = s.tick := by
  intro g v a
  have hw0 : w < (s.pass dt).wells.length := by exact hlen ▸ hw
  have hw1 : w < ((s.pass dt).modWell w (Well.withLines opn stuck)).wells.length := by simpa using hw0
  have hg : ((s.pass dt).modWell w (Well.withLines opn stuck)).well w = g.withLines opn stuck :=
    State.well_modWell_same _ _ _ hw0
  have hframe := capture_ingestFrame hw1 data.toNat opn stuck
  simp only [State.ingestFrame, Prod.mk.injEq] at hframe
  obtain ⟨-, hnow, hengs, hops, htick⟩ := hframe
  refine ⟨_, exec_sampleCapture_live hm hw hlive _ _ _ _, ?_⟩
  rw [presentSample_captures hw (by exact hen) _ _ _ (by exact hlast), capture_well hw1, hg]
  refine ⟨hnow, rfl, rfl, rfl, rfl, rfl, rfl, rfl, fun x hx => ?_, fun hdead hue => ?_, fun hdead => ?_, hengs, hops, htick⟩
  · rw [capture_well_other hw1 _ _ _ hx]
    exact State.well_modWell_other _ _ _ _ hx
  · have hwritten := capture_cist_written hw1 data.toNat opn stuck (State_modWell_sound _ _ _ (State_pass_sound _ _ hs))
      (by rw [hg]; exact hdead) hue
    rw [hg] at hwritten
    exact hwritten
  · exact capture_cist_dropped hw1 _ _ _ (by rw [hg]; exact hdead)

end

end

/-! ### Enable and disable (R186, R192, R193) -/

/-- A well that takes SFF from a CTRL word (R193). -/
def Well.withSff (v : Word) (g : Well) : Well := { g with ctrl := putBit g.ctrl 14 (wbit v 14) }

/-- A well as its enable starts it (R175, R180, R182, R193). -/
def Well.started (g : Well) : Well :=
  { g with
    ctrl := setBit g.ctrl 15, count := 0, snap := 0, snapKept := false, wrapped := false, markSeq := 0,
    marked := false, fresh := 0, openSeen := false, stuckSeen := false, ovrSeen := false, lapSeen := false,
    lastCap := none, window := [], last := none, before := none }

theorem startWell_well (s : State) (hw : w < s.wells.length) : (startWell w s).well w = (s.well w).started :=
  State.well_modWell_same { s with engs := s.engs.map (Engine.forget w) } w Well.started hw

theorem startWell_well_other (s : State) {x : Nat} (hx : x ≠ w) : (startWell w s).well x = s.well x :=
  State.well_modWell_other { s with engs := s.engs.map (Engine.forget w) } w x Well.started hx

/-- A CTRL word that turns ENABLE on starts a well whose configuration is not refused. -/
theorem wellCtrl_starts {v : Word} (hv : wbit v 15 = true) (hen : (s.well w).enabled = false)
    (hok : (s.well w).badConfig = false) : wellCtrl w v s = (startWell w (s.modWell w (Well.withSff v)), true) := by
  unfold wellCtrl
  dsimp only
  rw [if_neg (by simp [hv, hen]), if_pos hv, if_neg (by simp [hok])]
  rfl

theorem wellCtrl_denied {v : Word} (hv : wbit v 15 = true) (hen : (s.well w).enabled = false)
    (hbad : (s.well w).badConfig = true) : wellCtrl w v s = (s, false) := by
  simp [wellCtrl, hv, hen, hbad]

/-- A CTRL word that turns ENABLE off stops the well. -/
theorem wellCtrl_stops {v : Word} (hv : wbit v 15 = false) (hen : (s.well w).enabled = true) :
    wellCtrl w v s = (stopWell w (s.modWell w (Well.withSff v)), true) := by
  unfold wellCtrl
  dsimp only
  rw [if_neg (by simp [hv, hen]), if_neg (by simp [hv])]
  rfl

/-- A read that waits on the well ends its wait (R186). -/
def PumpOp.cutBy (w : Nat) (o : PumpOp) : PumpOp :=
  if o.waitEnd.isSome = true ∧ (parseDesc o.desc).op = .window ∧ ((parseDesc o.desc).src.unit == w) = true then
    { o with cut := true }
  else o

theorem PumpOp.cutBy_id (w : Nat) (o : PumpOp) : (o.cutBy w).id = o.id := by
  unfold PumpOp.cutBy
  split <;> rfl

/-- A well that its disable has stopped (R193). -/
def Well.stopped (g : Well) : Well := { g with ctrl := clrBit g.ctrl 15 }

theorem stopWell_eq (w : Nat) (s : State) :
    stopWell w s = { s.modWell w Well.stopped with ops := s.ops.map (PumpOp.cutBy w) } := rfl

theorem stopWell_well (s : State) (hw : w < s.wells.length) : (stopWell w s).well w = (s.well w).stopped :=
  State.well_modWell_same s w Well.stopped hw

theorem stopWell_well_other (s : State) {x : Nat} (hx : x ≠ w) : (stopWell w s).well x = s.well x :=
  State.well_modWell_other s w x Well.stopped hx

theorem stopWell_op? {k : Nat} {o : PumpOp} (ho : s.op? k = some o) : (stopWell w s).op? k = some (o.cutBy w) := by
  have hid : ((fun x : PumpOp => x.id == k) ∘ PumpOp.cutBy w) = (·.id == k) :=
    funext fun x => by simp [PumpOp.cutBy_id]
  have hfind : s.ops.find? (·.id == k) = some o := ho
  rw [stopWell_eq, State.op?, List.find?_map, hid, hfind]
  rfl

section
variable (hm : s.power.mode = .run) (hlen : s.wells.length = 64) (hw : w < 64)
include hm hw

/-- A row that writes CTRL of well `w`. -/
theorem whenRun_wellCtrl (v : State → Word) :
    whenRun (forWell w (fun s => deniedFlag (wellCtrl w (v s) s))) s = .next (deniedFlag (wellCtrl w (v s) s)) := by
  rw [whenRun_of_run hm, forWell, if_pos hw]

theorem exec_wellEnable_denied (hs : s.sound) (hen : (s.well w).enabled = false) (hbad : (s.well w).badConfig = true) :
    ∃ t, exec (.wellEnable w) s = .next t ∧ t.wells = s.wells ∧ t.bit DEV 0x0C tbDenied = true ∧
      t = { s with regs := t.regs } := by
  refine ⟨_, whenRun_wellCtrl hm hw _, ?_⟩
  rw [wellCtrl_denied (by simp) hen hbad]
  exact ⟨rfl, (State.bit_setB hs.regs.1 DEV 0x0C tbDenied tbDenied (by decide)).trans (by simp), rfl⟩

include hlen

theorem exec_wellEnable_starts (hen : (s.well w).enabled = false) (hok : (s.well w).badConfig = false) :
    ∃ t, exec (.wellEnable w) s = .next t ∧ (t.well w).enabled = true ∧ (t.well w).count = 0 ∧
      (t.well w).wrapped = false ∧ (t.well w).marked = false ∧ (t.well w).snapKept = false ∧
      (t.well w).lastCap = none ∧ (t.well w).format = (s.well w).format ∧ (t.well w).base = (s.well w).base ∧
      (t.well w).status = (s.well w).status ∧ (∀ x, x ≠ w → t.well x = s.well x) ∧
      t = { s with wells := t.wells, engs := t.engs } ∧ t.engs = s.engs.map (Engine.forget w) := by
  have hw0 : w < s.wells.length := hlen ▸ hw
  refine ⟨_, whenRun_wellCtrl hm hw _, ?_⟩
  rw [wellCtrl_starts (by simp) hen hok, deniedFlag, if_pos rfl, startWell_well _ (by simpa using hw0),
    State.well_modWell_same _ _ _ hw0]
  refine ⟨?_, rfl, rfl, rfl, rfl, rfl, rfl, rfl, rfl, fun x hx => ?_, rfl, rfl⟩
  · simp [Well.enabled, Well.started]
  · rw [startWell_well_other _ hx, State.well_modWell_other _ _ _ _ hx]

theorem exec_wellDisable_stops (hen : (s.well w).enabled = true) :
    ∃ t, exec (.wellDisable w) s = .next t ∧ (t.well w).enabled = false ∧
      t.well w = { s.well w with ctrl := (t.well w).ctrl } ∧ (∀ x, x ≠ w → t.well x = s.well x) ∧
      t = { s with wells := t.wells, ops := t.ops } ∧
      (∀ k o, s.op? k = some o → t.op? k = some (if o.waitEnd.isSome = true ∧ (parseDesc o.desc).op = .window ∧
        (parseDesc o.desc).src.unit = w then { o with cut := true } else o)) := by
  have hw0 : w < s.wells.length := hlen ▸ hw
  refine ⟨_, whenRun_wellCtrl hm hw _, ?_⟩
  rw [wellCtrl_stops (by simp) hen, deniedFlag, if_pos rfl, stopWell_well _ (by simpa using hw0),
    State.well_modWell_same _ _ _ hw0]
  refine ⟨?_, rfl, fun x hx => ?_, rfl, fun k o ho => (stopWell_op? ho).trans (by simp [PumpOp.cutBy])⟩
  · simp [Well.enabled, Well.stopped]
  · rw [stopWell_well_other _ hx, State.well_modWell_other _ _ _ _ hx]

end

end

/-- Settles O32: a presented sample is captured, dropped or left out by the state of its well, and a CTRL word starts, refuses or
stops it. -/
theorem wellRows : Obligations.WellRows := by
  unfold Obligations.WellRows
  intro p s w hp hs hm hw
  have hlen := hp.wells_length
  exact ⟨fun data opn stuck dt hlive hen =>
      ⟨exec_sampleCapture_captures hm hlen hw hlive opn stuck dt hen data hs,
        fun _ => exec_sampleCapture_overruns hm hlen hw hlive opn stuck dt hen data⟩,
    fun data _ opn stuck dt h hlive => exec_sampleCapture_lines hm hlen hw hlive opn stuck dt data h,
    fun _ _ opn stuck dt hlive => exec_sampleCapture_dead hm hlive _ opn stuck dt,
    exec_wellEnable_starts hm hlen hw, exec_wellEnable_denied hm hw hs, exec_wellDisable_stops hm hlen hw⟩

end Sys2Proof.Machine

/-! ## An engine's instruction at issue (R200, R206, R217, R364)

An instruction that issues has read its word and its operands, and has ended the run of TILEs that it does not continue. The
reads count corrected errors and queue column tests, and a run of TILEs that ends tells its channel what the samples showed;
nothing else moves (`State.primed`). Then the instruction performs (`State.reaches.exec`). -/

namespace Sys2Proof.Machine

/-! ### What the reads leave -/

/-- An engine but for its present run of TILEs and its count of corrected errors. -/
def Engine.unprimed (g : Engine) : Engine := { g with tileRun := none, corrected := 0 }

/-- A channel but for what its samples have shown in the present tick. -/
def Channel.unsampled (c : Channel) : Channel := { c with drift := { c.drift with worst := 0, refresh := false } }

/-- From `s` to `t` an instruction of engine `e` has read its word and its operands, without an uncorrectable error, and a run of
TILEs may have ended. -/
structure State.primed (e : Nat) (s t : State) : Prop where
  rest : t = { s with engs := t.engs, chans := t.chans, storeBanks := t.storeBanks }
  eng : (t.eng e).unprimed = (s.eng e).unprimed
  others : ∀ x, x ≠ e → t.eng x = s.eng x
  engsLen : t.engs.length = s.engs.length
  chan : ∀ c, (t.chan c).unsampled = (s.chan c).unsampled
  chansLen : t.chans.length = s.chans.length
  chans : (∀ r, (s.eng e).run = some r → r.kind.isTick = false) → t.chans = s.chans

section
variable {s t u : State} {e : Nat} {r : Run}

theorem State.primed_refl (e : Nat) (s : State) : s.primed e s := ⟨rfl, rfl, fun _ _ => rfl, rfl, fun _ => rfl, rfl, fun _ => rfl⟩

theorem State.primed.run (h : s.primed e t) : (t.eng e).run = (s.eng e).run := (congrArg Engine.run h.eng :)
theorem State.primed.store (h : s.primed e t) : (t.eng e).store = (s.eng e).store := (congrArg Engine.store h.eng :)
theorem State.primed.ue (h : s.primed e t) : (t.eng e).ue = (s.eng e).ue := (congrArg Engine.ue h.eng :)

theorem State.primed.trans (h : s.primed e t) (h' : t.primed e u) : s.primed e u where
  rest := by rw [h'.rest, h.rest]
  eng := h'.eng.trans h.eng
  others x hx := (h'.others x hx).trans (h.others x hx)
  engsLen := h'.engsLen.trans h.engsLen
  chan c := (h'.chan c).trans (h.chan c)
  chansLen := h'.chansLen.trans h.chansLen
  chans hr := (h'.chans (by rw [h.run]; exact hr)).trans (h.chans hr)

theorem State.primed.storeBad (h : s.primed e t) (a n : Nat) : storeBad t e a n = storeBad s e a n := by
  rw [Machine.storeBad, Machine.storeBad, h.ue]

theorem State.primed.storeGet (h : s.primed e t) (a n : Nat) : storeGet t e a n = storeGet s e a n := by
  rw [Machine.storeGet, Machine.storeGet, h.store]

/-- A correctable codeword is counted, and a column test is queued for it. -/
theorem countCorrected_primed (e b column : Nat) (s : State) :
    s.primed e (queueTest (.store e b) column (s.modEng e (fun g => { g with corrected := min 0xFFFF (g.corrected + 1) }))) where
  rest := rfl
  eng := nth_modAt_keeps Engine.unprimed _ _ _ _ _ fun _ => rfl
  others x hx := State.eng_modEng_other s e x _ hx
  engsLen := modAt_length _ _ _
  chan _ := rfl
  chansLen := rfl
  chans _ := rfl

theorem storeReadEvents_primed {a n : Nat} (c : Option Nat) (hbad : storeBad s e a n = false) :
    s.primed e (storeReadEvents e a n c s) := by
  have hue : hitWords (s.eng e).ue 4 a n = [] := by simpa [storeBad] using hbad
  unfold storeReadEvents
  rw [hue]
  exact foldS_inv (s.primed e) _ (fun _ _ hx => hx.trans (countCorrected_primed _ _ _ _)) _ _ (s.primed_refl e)

theorem readEvents_primed {rs : List (Nat × Nat)} (hbad : ∀ x ∈ rs, storeBad s e x.1 x.2 = false) :
    s.primed e (readEvents e r rs s) := by
  unfold readEvents
  induction rs generalizing s with
  | nil => exact s.primed_refl e
  | cons x rs ih =>
    have hx := storeReadEvents_primed r.kind.tickChan (hbad x (by simp))
    exact hx.trans (ih fun y hy => (hx.storeBad _ _).trans (hbad y (by simp [hy])))

theorem State.modDrift_primed (s : State) (e c : Nat) {f : Drift → Drift}
    (hf : ∀ d, { f d with worst := 0, refresh := false } = { d with worst := 0, refresh := false })
    (hr : ∃ r, (s.eng e).run = some r ∧ r.kind.isTick = true) : s.primed e (s.modDrift c f) where
  rest := rfl
  eng := rfl
  others _ _ := rfl
  engsLen := rfl
  chan x := nth_modAt_keeps Channel.unsampled _ _ _ _ _ fun ch => by simp [Channel.unsampled, hf]
  chansLen := modAt_length _ _ _
  chans h := by
    obtain ⟨r, hrun, htick⟩ := hr
    exact absurd (h r hrun) (by simp [htick])

theorem State.clearTileRun_primed (s : State) (e : Nat) : s.primed e (s.modEng e (fun g => { g with tileRun := none })) where
  rest := rfl
  eng := nth_modAt_keeps Engine.unprimed _ _ _ _ _ fun _ => rfl
  others x hx := State.eng_modEng_other s e x _ hx
  engsLen := modAt_length _ _ _
  chan _ := rfl
  chansLen := rfl
  chans _ := rfl

theorem endTileRun_primed (e : Nat) (s : State) : s.primed e (endTileRun e s) := by
  have hclear := s.clearTileRun_primed e
  unfold endTileRun
  dsimp only
  split
  · next r _ hr =>
    split
    · next c hk =>
      split
      · exact hclear
      · exact hclear.trans (State.modDrift_primed _ e c (fun _ => rfl) ⟨r, hclear.run.trans hr, by rw [hk]; rfl⟩)
    · exact hclear
  · exact hclear

end
/-! ### The first delta TILE of a refresh tick (R371) -/

theorem refreshed_of_not_tile {s : State} {e : Nat} {r : Run} {i : Ins} (h : ∀ m, i.op ≠ .tile m) : refreshed s e r i = i := by
  unfold refreshed
  split
  · next m hm => exact absurd hm (h m)
  · rfl

theorem refreshed_cases (s : State) (e : Nat) (r : Run) (i : Ins) :
    refreshed s e r i = i ∨ (∃ m, i.op = .tile m) ∧ refreshed s e r i = { i with flag := false } := by
  unfold refreshed
  split
  · next m hm =>
    dsimp only
    split
    · exact .inr ⟨⟨m, hm⟩, rfl⟩
    · exact .inl rfl
  · exact .inl rfl

section
variable (s : State) (e : Nat) (r : Run) (i : Ins)

theorem refreshed_op : (refreshed s e r i).op = i.op := by
  obtain h | ⟨-, h⟩ := refreshed_cases s e r i <;> rw [h]

/-- Where the operands lie does not depend on whether C is read. -/
theorem touches_refreshed_places :
    (touches s e r (refreshed s e r i)).map (fun t => (t.trap, t.at_, t.n)) =
      (touches s e r i).map (fun t => (t.trap, t.at_, t.n)) := by
  obtain h | ⟨⟨m, hm⟩, h⟩ := refreshed_cases s e r i
  · rw [h]
  · rw [h]
    simp [touches, Ins.uses, hm, Ins.operand]

end

theorem touchTrap_congr {ts us : List Touch} (h : ts.map (fun t => (t.trap, t.at_, t.n)) = us.map (fun t => (t.trap, t.at_, t.n))) :
    touchTrap ts = touchTrap us := by
  have hany : ∀ code : Nat, ts.any (fun t => t.trap == code) = us.any (fun t => t.trap == code) := fun code => by
    have := congrArg (List.any · (fun p => p.1 == code)) h
    simpa [List.any_map, Function.comp_def] using this
  simp only [touchTrap, hany]

theorem atOf_congr {ts us : List Touch} (h : ts.map (fun t => (t.trap, t.at_, t.n)) = us.map (fun t => (t.trap, t.at_, t.n)))
    (k : Nat) : atOf ts k = atOf us k := by
  have := congrArg (fun l : List (Nat × Nat × Nat) => (l[k]?.map (fun p => p.2.1)).getD 0) h
  simpa [atOf, Option.map_map, Function.comp_def] using this

theorem badLane_refreshed (s : State) (e : Nat) (r : Run) (i : Ins) : badLane (refreshed s e r i) = badLane i := by
  obtain h | ⟨⟨m, hm⟩, h⟩ := refreshed_cases s e r i <;> rw [h]
  simp [badLane, hm]

theorem modeTrap_refreshed (s : State) (e : Nat) (r : Run) (i : Ins) : modeTrap r (refreshed s e r i) = modeTrap r i := by
  rw [modeTrap, modeTrap, refreshed_op]

theorem issueTrap_refreshed (s : State) (e : Nat) (r : Run) (i : Ins) :
    issueTrap r (refreshed s e r i) (touches s e r (refreshed s e r i)) = issueTrap r i (touches s e r i) := by
  rw [issueTrap, issueTrap, badLane_refreshed, modeTrap_refreshed, touchTrap_congr (touches_refreshed_places s e r i)]

/-- The granules that a TILE touches do not depend on whether it reads C. -/
theorem mustHold_tile (s : State) (e : Nat) (r : Run) {i : Ins} {m : TileMode} (hm : i.op = .tile m) (ts : List Touch) :
    mustHold s e r i ts = (ts.map (fun t => (t.at_, t.n))).any (granuleHeld s e) := by
  have hsub : ((ts.filter (fun t => t.rd)).map (fun t => (t.at_, t.n)) ++ ts.map (fun t => (t.at_, t.n))).any (granuleHeld s e) =
      (ts.map (fun t => (t.at_, t.n))).any (granuleHeld s e) := by
    rw [Bool.eq_iff_iff]
    simp only [List.any_append, List.any_map, Bool.or_eq_true, List.any_eq_true, List.mem_filter, Function.comp]
    exact ⟨fun h => h.elim (fun ⟨x, hx, hg⟩ => ⟨x, hx.1, hg⟩) id, .inr⟩
  simp only [mustHold, heldByHandle, readRanges, hm, List.append_nil, Bool.or_false]
  exact hsub

theorem mustHold_refreshed (s : State) (e : Nat) (r : Run) (i : Ins) :
    mustHold s e r (refreshed s e r i) (touches s e r (refreshed s e r i)) = mustHold s e r i (touches s e r i) := by
  obtain h | ⟨⟨m, hm⟩, h⟩ := refreshed_cases s e r i
  · rw [h]
  · have hplaces := congrArg (List.map fun p => p.2) (touches_refreshed_places s e r i)
    simp only [List.map_map, Function.comp_def] at hplaces
    rw [mustHold_tile s e r hm, mustHold_tile s e r ((refreshed_op s e r i).trans hm), hplaces]

/-! ### The rows of the instructions -/

/-- The strokes that the row of an instruction carries: HALT.V's alone. -/
def EOp.rowStrokes : EOp → Nat → Nat
  | .haltV, n => n
  | _, _ => 0

theorem exec_insRow (e strokes : Nat) (o : EOp) (s : State) :
    exec (insRow e strokes o) s = whenRun (issue (fun x => decide (x = o)) (o.rowStrokes strokes) e) s := by
  cases o with
  | tens v => cases v <;> rfl
  | tile m => cases m <;> rfl
  | vec o => cases o <;> rfl
  | red o => cases o <;> rfl
  | cmp o => cases o <;> rfl
  | _ => rfl

/-- The state in which the instruction `i` of run `r` performs: its reads have left their counts, and it has ended the run of
TILEs that it does not continue. -/
def issuing (e : Nat) (r : Run) (i : Ins) (s : State) : State :=
  readEvents e r (readRanges e r i (touches s e r i))
    (if endsTileRun (s.eng e) i (touches s e r i) then endTileRun e (fetchEvents e r s) else fetchEvents e r s)

section
variable {s : State} {e : Nat} {r : Run} {i : Ins}

theorem fetchIns_whole {w : Nat} (h : fetchIns s e r = .ok w) : storeBad s e (r.entry + 8 * r.pc) 8 = false := by
  unfold fetchIns at h
  dsimp only at h
  split at h
  · cases h
  split at h
  · cases h
  · next hbad => exact Bool.eq_false_iff.mpr hbad

theorem fetchEvents_primed {w : Nat} (h : fetchIns s e r = .ok w) : s.primed e (fetchEvents e r s) :=
  readEvents_primed (by simpa using fetchIns_whole h)

/-- The engine as an instruction of run `r` finds it that traps or performs. -/
theorem fetched_primed {w : Nat} (h : fetchIns s e r = .ok w) (ends : Bool) :
    s.primed e (if ends then endTileRun e (fetchEvents e r s) else fetchEvents e r s) := by
  have hfetch := fetchEvents_primed h
  split
  · exact hfetch.trans (endTileRun_primed e _)
  · exact hfetch

theorem issuing_primed {w : Nat} (h : fetchIns s e r = .ok w)
    (hwhole : ∀ x ∈ readRanges e r i (touches s e r i), storeBad s e x.1 x.2 = false) : s.primed e (issuing e r i s) := by
  have hfetch := fetched_primed h (endsTileRun (s.eng e) i (touches s e r i))
  exact hfetch.trans (readEvents_primed fun x hx => (hfetch.storeBad _ _).trans (hwhole x hx))

variable (h : s.reaches e r i)
include h

theorem State.reaches.primed : s.primed e (issuing e r (refreshed s e r i) s) := by
  obtain ⟨w, i0, hw, -⟩ := h.word
  exact issuing_primed hw h.whole

/-- An instruction that a program reaches performs (R206, R217). -/
theorem State.reaches.exec (strokes : Nat) : exec (insRow e strokes i.op) s =
    .next (perform e r (i.op.rowStrokes strokes) (refreshed s e r i) (touches s e r (refreshed s e r i))
      (issuing e r (refreshed s e r i) s)) := by
  obtain ⟨w, i0, hfetch, hdec, hi⟩ := h.word
  have hop : i0.op = i.op := by rw [hi]; rfl
  have htrap : issueTrap r i (touches s e r i) = 0 := by simp [issueTrap, h.lane, h.operands, h.mode]
  have hwhole : (readRanges e r (refreshed s e r i) (touches s e r (refreshed s e r i))).any
      (fun x => storeBad s e x.1 x.2) = false := List.any_eq_false.mpr fun x hx => Bool.eq_false_iff.mp (h.whole x hx)
  rw [exec_insRow, whenRun_of_run h.up, issue, h.run]
  simp only [h.bell, h.tag, hfetch, hdec, hop, ← hi, issueIns, issueTrap_refreshed, htrap, mustHold_refreshed, h.free, hwhole]
  rfl

end
end Sys2Proof.Machine

/-! ## Traps (R206, R214, R215, R220, R318, R370, R462)

A trap takes the program off its engine, holds the first fault and leaves one record. What follows ends other parts of a tick
program and flags its tick, and leaves engine `e`, the records, the cistern and the operations (`State.winds`). -/

namespace Sys2Proof.Machine

/-- What a program that has left its engine leaves there: ENG_PC, the held fault and the store. -/
def Engine.wake (g : Engine) : Option Run × Nat × Bool × Nat × Option Nat × Mem :=
  (g.run, g.lastPc, g.faulted, g.fault, g.faultPc, g.store)

/-- What a trap marks of a channel (R318, R370). -/
def Channel.trapMarks (c : Channel) : Bool × Bool × List Nat × Bool :=
  (c.learn.tainted, c.learn.sweepBad, c.learn.parts, c.drift.refresh)

/-- From `s` to `t` parts of programs have ended beside engine `e`, and their ticks are flagged. -/
structure State.winds (e : Nat) (s t : State) : Prop where
  wake : (t.eng e).wake = (s.eng e).wake
  due : ∀ x, (t.eng x).due = (s.eng x).due
  stock : (t.faults, t.cist, t.ops) = (s.faults, s.cist, s.ops)
  marks : ∀ c, (t.chan c).trapMarks = (s.chan c).trapMarks

section
variable {r s t u : State} {e : Nat}

theorem State.winds_refl (e : Nat) (s : State) : s.winds e s := ⟨rfl, fun _ => rfl, rfl, fun _ => rfl⟩

theorem State.winds.trans (h : s.winds e t) (h' : t.winds e u) : s.winds e u :=
  ⟨h'.wake.trans h.wake, fun x => (h'.due x).trans (h.due x), h'.stock.trans h.stock, fun c => (h'.marks c).trans (h.marks c)⟩

theorem State.winds.nothingDue (h : s.winds e t) (hd : nothingDue s) : nothingDue t := fun x => (h.due x).trans (hd x)

/-- An update of other fields. -/
theorem State.winds_of_rest (e : Nat) (h : (t.engs, t.chans, t.part, t.faults, t.cist, t.ops) =
    (s.engs, s.chans, s.part, s.faults, s.cist, s.ops)) : s.winds e t := by
  simp only [Prod.mk.injEq] at h
  obtain ⟨hengs, hchans, hpart, hfaults, hcist, hops⟩ := h
  have heng := State.eng_of_engs hengs
  exact ⟨by rw [heng], fun x => by rw [heng], by rw [hfaults, hcist, hops], fun c => by rw [State.chan, State.chan, hchans, hpart]⟩

theorem State.modEng_winds (s : State) (e x : Nat) {f : Engine → Engine} (hdue : ∀ g, (f g).due = g.due)
    (hwake : x = e → ∀ g, (f g).wake = g.wake) : s.winds e (s.modEng x f) where
  wake := by
    by_cases hx : x = e
    · exact nth_modAt_keeps Engine.wake _ _ _ _ _ (hwake hx)
    · rw [State.eng_modEng_other _ _ _ _ (Ne.symm hx)]
  due _ := nth_modAt_keeps Engine.due _ _ _ _ _ hdue
  stock := rfl
  marks _ := rfl

theorem State.modChan_winds (s : State) (e c : Nat) {f : Channel → Channel} (hf : ∀ ch, (f ch).trapMarks = ch.trapMarks) :
    s.winds e (s.modChan c f) :=
  ⟨rfl, fun _ => rfl, rfl, fun _ => nth_modAt_keeps Channel.trapMarks _ _ _ _ _ hf⟩

theorem foldS_winds {α : Type} {f : α → State → State} (hf : ∀ a (s : State), s.winds e (f a s)) (xs : List α) (s : State) :
    s.winds e (foldS f xs s) :=
  foldS_inv (s.winds e) f (fun a x hx => hx.trans (hf a x)) xs s (s.winds_refl e)

/-! ### Flags of a tick -/

theorem raise_winds (e i : Nat) (s : State) : s.winds e (raise i s) := by
  refine State.winds_of_rest e ?_
  unfold raise
  dsimp only
  split <;> rfl

theorem promiseBroken_winds (e : Nat) (stall : Bool) (no : Nat) (cs : List Nat) (s : State) :
    s.winds e (promiseBroken stall no cs s) := by
  unfold promiseBroken
  extract_lets s1 w tick s2
  have h2 : s.winds e s2 := by
    unfold s2
    split
    · exact State.winds_of_rest e rfl
    · refine State.winds.trans ?_ (raise_winds e _ _)
      exact State.winds_of_rest e rfl
  split
  · exact h2.trans (foldS_winds (fun c x => State.modChan_winds x e c fun _ => by rfl) _ _)
  · exact h2

theorem chargeChannel_winds (e c : Nat) (s : State) : s.winds e (chargeChannel c s) :=
  State.modChan_winds s e c fun ch => by split <;> rfl

/-! ### The ends of parts -/

theorem settleDrift_winds (e c : Nat) (s : State) : s.winds e (settleDrift c s) := by
  have hdrift : s.winds e (s.modDrift c (fun d => { d with sampled := false, refreshTick := false, worst := 0 })) :=
    State.modChan_winds s e c fun _ => rfl
  unfold settleDrift
  dsimp only
  split
  · exact hdrift.trans (State.winds_of_rest e rfl)
  · exact hdrift

theorem tickPartEnded_winds (e c x : Nat) (s : State) : s.winds e (tickPartEnded c x s) := by
  unfold tickPartEnded
  extract_lets ch ps s1
  have h1 : s.winds e s1 := State.modChan_winds s e c fun _ => rfl
  split
  · exact (h1.trans (State.modChan_winds s1 e c fun _ => by rfl)).trans (settleDrift_winds e c _)
  · exact h1

theorem liftAfter_winds (e x no : Nat) (s : State) : s.winds e (liftAfter x no s) :=
  State.modEng_winds s e x (fun g => by split <;> rfl) fun _ g => by split <;> rfl

theorem endPart_winds {x : Nat} (hx : x ≠ e) (c : Nat) (s : State) : s.winds e (endPart x c s) := by
  unfold endPart
  split
  · have hclear : s.winds e (clearRun x s) := State.modEng_winds s e x (fun _ => rfl) fun h => absurd h hx
    refine State.winds.trans (State.winds.trans ?_ (tickPartEnded_winds e c x _)) (liftAfter_winds e x _ _)
    exact hclear.trans (State.winds_of_rest e rfl)
  · exact s.winds_refl e

theorem dropDue_of_nothingDue (hd : nothingDue s) (x c : Nat) : dropDue x c s = s := by simp [dropDue, hd x]

/-- The other parts end when one traps; none that is due has to be dropped. -/
theorem stopOtherParts_winds (hd : nothingDue s) (c e : Nat) : s.winds e (stopOtherParts c e s) := by
  unfold stopOtherParts
  refine foldS_inv (s.winds e) _ (fun x u hu => ?_) _ _ (s.winds_refl e)
  have hdrop := dropDue_of_nothingDue (hu.nothingDue hd) x c
  split
  · exact hu
  next hx =>
    split
    · split
      · rwa [hdrop]
      split
      · exact hu.trans (State.modEng_winds u e x (fun _ => rfl) fun h => absurd h hx)
      · exact hu.trans (endPart_winds hx c u)
    · rwa [hdrop]

theorem startAllDue_of_nothingDue (hd : nothingDue s) : startAllDue s = s :=
  startDue_of_none _ _ fun x => canStartDue_of_due_nil (hd x)

/-! ### A trap (R220, R318, R370) -/

/-- From `s` to `t` the program of run `r` has left engine `e` by a trap with `code`, which has left its record. -/
structure State.trapsAt (e : Nat) (r : Run) (code : Nat) (s t : State) : Prop where
  run : (t.eng e).run = none
  lastPc : (t.eng e).lastPc = r.pc
  faulted : (t.eng e).faulted = true
  first : (s.eng e).faulted = false → (t.eng e).fault = code ∧ (t.eng e).faultPc = some r.pc
  store : (t.eng e).store = (s.eng e).store
  record : ∃ f, t.faults.queue = s.faults.queue ++ [f] ∧ f.src = 1 ∧ f.unit = e ∧ f.detail = code % 65536 ∧
    f.detail2 = r.pc % 65536
  cist : t.cist = s.cist
  ops : t.ops = s.ops

variable {q : Run} {code : Nat}

/-- What is neither of the engine's trap nor its record may go on. -/
theorem State.trapsAt.same (h : s.trapsAt e q code t) (hwake : (u.eng e).wake = (t.eng e).wake)
    (hstock : (u.faults, u.cist, u.ops) = (t.faults, t.cist, t.ops)) : s.trapsAt e q code u := by
  simp only [Engine.wake, Prod.mk.injEq] at hwake hstock
  obtain ⟨hrun, hpc, hfaulted, hfault, hfaultPc, hstore⟩ := hwake
  obtain ⟨hfaults, hcist, hops⟩ := hstock
  exact ⟨hrun.trans h.run, hpc.trans h.lastPc, hfaulted.trans h.faulted, by rw [hfault, hfaultPc]; exact h.first,
    hstore.trans h.store, by rw [hfaults]; exact h.record, hcist.trans h.cist, hops.trans h.ops⟩

theorem State.trapsAt.winds (h : s.trapsAt e q code t) (hw : t.winds e u) : s.trapsAt e q code u := h.same hw.wake hw.stock

theorem faultRecord_record (src unit chan flags detail detail2 : Nat) (h : s.faults.queue.length < 64) :
    ∃ f, (faultRecord src unit chan flags detail detail2 s).faults.queue = s.faults.queue ++ [f] ∧ f.src = src ∧
      f.unit = unit ∧ f.detail = detail % 65536 ∧ f.detail2 = detail2 % 65536 := by
  have hraise := raise_supervisor
  simp only [Prod.mk.injEq] at hraise
  unfold faultRecord
  dsimp only
  rw [(hraise _ _).2.2.2, if_pos h]
  exact ⟨_, rfl, rfl, rfl, rfl, rfl⟩

/-- An engine fault is held and recorded; the rest of it flags a tick. -/
theorem engineRecord_winds (e code pc : Nat) (stops : Bool) (k : ProgKind) (no : Nat) (s : State) :
    ∃ chan flags, (faultRecord 1 e chan flags code pc (holdFault e code (if stops then some pc else none) s)).winds e
      (engineRecord e code pc stops k no s) := by
  cases k with
  | tick c => exact ⟨c, _, (chargeChannel_winds e c _).trans (promiseBroken_winds e _ _ _ _)⟩
  | sweep c => exact ⟨_, _, State.winds_refl e _⟩
  | job k => exact ⟨_, _, State.winds_refl e _⟩

section
variable (hrun : (s.eng e).run = some q) (hq : s.faults.queue.length < 64)
include hrun hq

omit hq in
theorem clearRun_eng : (clearRun e s).eng e = { s.eng e with run := none, lastPc := q.pc, delta := none, tileRun := none } := by
  rw [clearRun, State.eng_modEng_same _ _ _ (State.lt_engs_of_run hrun), hrun]

omit hq in
theorem holdFault_clearRun_eng : (holdFault e code (some q.pc) (clearRun e s)).eng e =
    if (s.eng e).faulted then { s.eng e with run := none, lastPc := q.pc, delta := none, tileRun := none }
    else { s.eng e with run := none, lastPc := q.pc, delta := none, tileRun := none, faulted := true, fault := code,
                        faultPc := some q.pc } := by
  rw [holdFault, State.eng_modEng_same _ _ _ ((State.lt_engs_of_run hrun).trans_eq (modAt_length _ _ _).symm), clearRun_eng hrun]

theorem heldRecord_trapsAt (chan flags : Nat) :
    s.trapsAt e q code (faultRecord 1 e chan flags code q.pc (holdFault e code (some q.pc) (clearRun e s))) := by
  have hplant := faultRecord_plant 1 e chan flags code q.pc (holdFault e code (some q.pc) (clearRun e s))
  simp only [State.plant, Prod.mk.injEq] at hplant
  obtain ⟨hops, hengs, -, hcist, -⟩ := hplant
  have heng := (State.eng_of_engs hengs e).trans (holdFault_clearRun_eng hrun)
  constructor
  case record => exact faultRecord_record (s := holdFault e code (some q.pc) (clearRun e s)) 1 e chan flags code q.pc hq
  case cist => exact hcist
  case ops => exact hops
  all_goals
    rw [heng]
    cases hf : (s.eng e).faulted <;> simp [hf]

theorem engineRecord_trapsAt : s.trapsAt e q code (engineRecord e code q.pc true q.kind q.tickNo (clearRun e s)) := by
  obtain ⟨chan, flags, hw⟩ := engineRecord_winds e code q.pc true q.kind q.tickNo (clearRun e s)
  exact (heldRecord_trapsAt hrun hq chan flags).winds hw

end

theorem engineRecord_due (e code pc : Nat) (stops : Bool) (k : ProgKind) (no : Nat) (s : State) (x : Nat) :
    ((engineRecord e code pc stops k no s).eng x).due = (s.eng x).due := by
  obtain ⟨chan, flags, hw⟩ := engineRecord_winds e code pc stops k no s
  have hplant := faultRecord_plant 1 e chan flags code pc (holdFault e code (if stops then some pc else none) s)
  simp only [State.plant, Prod.mk.injEq] at hplant
  rw [hw.due, State.eng_of_engs hplant.2.1]
  exact nth_modAt_keeps Engine.due _ _ _ _ _ fun g => by split <;> rfl

/-- A trap taints the epoch of channel `c` and asks for a refresh (R318, R370). -/
def taintTick (c : Nat) (s : State) : State :=
  s.modChan c (fun ch => { ch with learn := { ch.learn with tainted := true }, drift := { ch.drift with refresh := true } })

theorem taintTick_chan {c : Nat} (hc : c < s.chans.length) : (taintTick c s).chan c =
    { s.chan c with learn := { (s.chan c).learn with tainted := true }, drift := { (s.chan c).drift with refresh := true } } :=
  nth_modAt_same _ _ _ _ hc

theorem trapped_tick_winds {c : Nat} (code pc no : Nat) (s : State)
    (hd : nothingDue (taintTick c (engineRecord e code pc true (.tick c) no s))) :
    (taintTick c (engineRecord e code pc true (.tick c) no s)).winds e (trapped e code pc (.tick c) no s) :=
  ((stopOtherParts_winds hd c e).trans (tickPartEnded_winds e c e _)).trans (liftAfter_winds e e _ _)

/-- An engine on which no part of channel `c`'s sweep is pending (R471). -/
def Engine.withoutSweep (c : Nat) (g : Engine) : Engine := { g with sweeps := g.sweeps.filter (fun y => y ≠ c) }

theorem sweepTrapped_eng (c x : Nat) (s : State) : (sweepTrapped c s).eng x = (s.eng x).withoutSweep c :=
  nth_map (Engine.withoutSweep c) s.engs x Engine.reset

theorem sweepTrapped_chan {c : Nat} (hc : c < s.chans.length) : (sweepTrapped c s).chan c =
    { s.chan c with learn := { (s.chan c).learn with parts := [], sweepBad := true } } := nth_modAt_same s.chans c _ _ hc

/-- The program that runs traps, and nothing that is due starts after it. -/
theorem trap_trapsAt (hrun : (s.eng e).run = some q) (hd : nothingDue s) (hq : s.faults.queue.length < 64) :
    s.trapsAt e q code (trap e code s) ∧
    (∀ c, q.kind = .tick c → c < s.chans.length →
      ((trap e code s).chan c).learn.tainted = true ∧ ((trap e code s).chan c).drift.refresh = true) ∧
    (∀ c, q.kind = .sweep c → c < s.chans.length →
      ((trap e code s).chan c).learn.sweepBad = true ∧ ((trap e code s).chan c).learn.parts = []) := by
  have hrec := engineRecord_trapsAt (code := code) hrun hq
  have hdue : nothingDue (engineRecord e code q.pc true q.kind q.tickNo (clearRun e s)) := fun x => by
    rw [engineRecord_due]
    exact (nth_modAt_keeps Engine.due _ _ _ _ _ fun _ => by rfl).trans (hd x)
  have hchans : (engineRecord e code q.pc true q.kind q.tickNo (clearRun e s)).chans.length = s.chans.length :=
    congrArg (·.2.1.chans) (engineRecord_frame e code q.pc true q.kind q.tickNo (clearRun e s))
  rw [trap, hrun]
  dsimp only
  cases hk : q.kind with
  | tick c =>
    rw [hk] at hrec hdue hchans
    have hwind := trapped_tick_winds (c := c) code q.pc q.tickNo (clearRun e s) hdue
    rw [startAllDue_of_nothingDue (hwind.nothingDue hdue)]
    refine ⟨(hrec.same (u := taintTick c _) rfl rfl).winds hwind, fun c' hc' hlen => ?_, by simp⟩
    cases hc'
    have hmarks := hwind.marks c
    rw [taintTick_chan (hchans ▸ hlen)] at hmarks
    simp only [Channel.trapMarks, Prod.mk.injEq] at hmarks
    exact ⟨hmarks.1, hmarks.2.2.2⟩
  | sweep c =>
    rw [hk] at hrec hdue hchans
    rw [trapped]
    rw [startAllDue_of_nothingDue fun x => by rw [sweepTrapped_eng]; exact hdue x]
    refine ⟨hrec.same (by rw [sweepTrapped_eng]; rfl) rfl, by simp, fun c' hc' hlen => ?_⟩
    cases hc'
    rw [sweepTrapped_chan (hchans ▸ hlen)]
    exact ⟨rfl, rfl⟩
  | job k =>
    rw [hk] at hrec hdue
    rw [trapped]
    rw [startAllDue_of_nothingDue hdue]
    exact ⟨hrec, by simp, by simp⟩

end
end Sys2Proof.Machine

namespace Sys2Proof.Machine

/-! ### What stops a program at issue (R206, R208, R214, R215) -/

section
variable {s t u : State} {e : Nat} {r : Run} {code : Nat}

theorem State.primed.nothingDue (h : s.primed e t) (hd : nothingDue s) : nothingDue t := fun x => by
  by_cases hx : x = e
  · subst hx
    exact (congrArg Engine.due h.eng :).trans (hd x)
  · rw [h.others x hx, hd x]

/-- A trap after the reads of an instruction is a trap of the state before them. -/
theorem State.primed.trapsAt (h : s.primed e t) (ht : t.trapsAt e r code u) : s.trapsAt e r code u where
  run := ht.run
  lastPc := ht.lastPc
  faulted := ht.faulted
  first hf := ht.first ((congrArg Engine.faulted h.eng :).trans hf)
  store := ht.store.trans h.store
  record := by
    have hrec := ht.record
    rwa [h.rest] at hrec
  cist := by rw [ht.cist, h.rest]
  ops := by rw [ht.ops, h.rest]

/-- The program of engine `e` stops at issue with `code` (R206, R208, R214, R215). -/
def stopsAtIssue (s : State) (e : Nat) (r : Run) (o : EOp) (code : Nat) : Prop :=
  fetchIns s e r = .error code ∧ code = 4 ∨
   (∃ w, fetchIns s e r = .ok w ∧
     (decodeIns w = none ∧ code = 1 ∨
      ∃ i0, decodeIns w = some i0 ∧ i0.op = o ∧
        (badLane (i0.strided r.loops) = true ∧ code = 1 ∨
         badLane (i0.strided r.loops) = false ∧ code ≠ 0 ∧
           (touchTrap (touches s e r (i0.strided r.loops)) = code ∨
            touchTrap (touches s e r (i0.strided r.loops)) = 0 ∧ modeTrap r (i0.strided r.loops) = code))))

theorem touchTrap_le (ts : List Touch) : touchTrap ts ≤ 8 := by
  unfold touchTrap
  split
  · decide
  split <;> decide

theorem modeTrap_le (r : Run) (i : Ins) : modeTrap r i ≤ 8 := by
  unfold modeTrap
  repeat' split
  all_goals decide

/-- The order of the traps of R206: ILLEGAL, the operands', then the mode's. -/
theorem issueTrap_eq {i : Ins} {ts : List Touch}
    (h : badLane i = true ∧ code = 1 ∨
      badLane i = false ∧ code ≠ 0 ∧ (touchTrap ts = code ∨ touchTrap ts = 0 ∧ modeTrap r i = code)) :
    issueTrap r i ts = code ∧ code ≠ 0 ∧ code ≤ 8 := by
  have htouch := touchTrap_le ts
  have hmode := modeTrap_le r i
  obtain ⟨hlane, rfl⟩ | ⟨hlane, hne, rfl | ⟨htouch0, rfl⟩⟩ := h
  · simp [issueTrap, hlane]
  · simpa [issueTrap, hlane, hne] using htouch
  · simpa [issueTrap, hlane, htouch0, hne] using hmode

section
variable {o : EOp} (hup : s.power.mode = .run) (hrun : (s.eng e).run = some r)
include hup hrun

theorem exec_insRow_waits (strokes : Nat) (hw : r.waitBell.isSome = true ∨ r.stalled.isSome = true) :
    exec (insRow e strokes o) s = .next s := by
  rw [exec_insRow, whenRun_of_run hup, issue, hrun]
  dsimp only
  rw [if_pos (by simpa using hw)]

theorem exec_insRow_other (strokes : Nat) {w : Nat} {i0 : Ins} (hfetch : fetchIns s e r = .ok w)
    (hdec : decodeIns w = some i0) (hop : i0.op ≠ o) : exec (insRow e strokes o) s = .next s := by
  rw [exec_insRow, whenRun_of_run hup, issue, hrun]
  simp [hfetch, hdec, hop]

/-- What stops a program at issue is a trap, after its reads. -/
theorem exec_insRow_traps (strokes : Nat) (hbell : r.waitBell = none) (htag : r.stalled = none)
    (hstop : stopsAtIssue s e r o code) :
    code ≤ 8 ∧ ∃ x, s.primed e x ∧ exec (insRow e strokes o) s = .next (trap e code x) := by
  rw [exec_insRow, whenRun_of_run hup, issue, hrun]
  obtain ⟨hfetch, rfl⟩ | ⟨w, hfetch, ⟨hdec, rfl⟩ | ⟨i0, hdec, hop, htrap⟩⟩ := hstop
  · exact ⟨by decide, s, s.primed_refl e, by simp [hbell, htag, hfetch]⟩
  · refine ⟨by decide, _, (fetchEvents_primed hfetch).trans (endTileRun_primed e _), ?_⟩
    simp [hbell, htag, hfetch, hdec]
  · obtain ⟨hissue, hne, hle⟩ := issueTrap_eq htrap
    refine ⟨hle, _, fetched_primed hfetch (endsTileRun (s.eng e) (refreshed s e r (i0.strided r.loops))
      (touches s e r (refreshed s e r (i0.strided r.loops)))), ?_⟩
    simp [hbell, htag, hfetch, hdec, hop, issueIns, issueTrap_refreshed, hissue, hne]

end

end

/-- Settles O29: whatever stops the program at issue, it traps after reads that leave only counts (`exec_insRow_traps`), and a
trap leaves one record, the first fault and the marks of its kind of program (`trap_trapsAt`). -/
theorem trapsStopThePrograms : Obligations.TrapsStopThePrograms := by
  unfold Obligations.TrapsStopThePrograms
  intro s e strokes r o hup hrun
  refine ⟨fun hbell htag hd hq code hstop => ?_, exec_insRow_waits hup hrun strokes,
    fun w i0 => exec_insRow_other hup hrun strokes⟩
  obtain ⟨hle, x, hx, hexec⟩ := exec_insRow_traps hup hrun strokes hbell htag hstop
  obtain ⟨htrap, htick, hsweep⟩ := trap_trapsAt (code := code) (hx.run.trans hrun) (hx.nothingDue hd) (by rw [hx.rest]; exact hq)
  have ht := hx.trapsAt htrap
  obtain ⟨f, hqueue, hsrc, hunit, hdetail, hdetail2⟩ := ht.record
  rw [hx.chansLen] at htick hsweep
  exact ⟨_, f, hexec, ht.run, ht.lastPc, ht.faulted, ht.first, hqueue, hsrc, hunit,
    hdetail.trans (Nat.mod_eq_of_lt (by omega)), hdetail2, ht.store, ht.cist, ht.ops, htick, hsweep⟩

end Sys2Proof.Machine

/-! ## What the instructions that write the store leave of it (R210 to R212, R296)

A store in canonical form holds what was written to it (`memRead_memWriteL_inside`). One that lists an address twice does not:
the entry behind the one that a zero takes out is read next. -/

namespace Sys2Proof.Machine

/-! ### A store that lists a byte twice -/

/-- A memory whose cells below `a` come first; then it lists byte `a` twice. -/
def listsTwice (a : Nat) (m : Mem) : Prop := ∃ p : Mem, (∀ x ∈ p, x.1 < a) ∧ m = p ++ [(a, 1), (a, 1)]

theorem memWrite_append_above {p q : Mem} {a : Nat} (b : Byte) (hp : ∀ x ∈ p, x.1 < a) :
    memWrite (p ++ q) a b = p ++ memWrite q a b := by
  induction p with
  | nil => rfl
  | cons x p ih =>
    obtain ⟨hx, hp⟩ := List.forall_mem_cons.mp hp
    simp only [List.cons_append, memWrite, if_neg (Nat.not_lt.mpr hx.le), if_neg hx.ne', ih hp]

theorem memRead_append_above {p q : Mem} {a : Nat} (hp : ∀ x ∈ p, x.1 < a) : memRead (p ++ q) a = memRead q a := by
  induction p with
  | nil => rfl
  | cons x p ih =>
    obtain ⟨hx, hp⟩ := List.forall_mem_cons.mp hp
    simp only [List.cons_append, memRead, if_neg (Nat.not_lt.mpr hx.le), if_neg hx.ne', ih hp]

/-- A write above a listed byte leaves it, whatever the order of the memory. -/
theorem memRead_memWrite_above {m : Mem} {a x : Nat} (b : Byte) (hx : a < x) (h : memRead m a ≠ 0) :
    memRead (memWrite m x b) a = memRead m a := by
  induction m with
  | nil => exact absurd rfl h
  | cons c m ih =>
    obtain ⟨k, v⟩ := c
    have hk : ¬ a < k := fun hk => h (by simp [memRead, hk])
    have hxk : ¬ x < k := by omega
    by_cases hak : a = k
    · have hne : ¬ x = k := by omega
      simp [memWrite, memRead, hxk, hne, hak]
    · have hm : memRead m a ≠ 0 := by simpa [memRead, hk, hak] using h
      by_cases hxk' : x = k
      · by_cases hb : b = 0#8 <;> simp [memWrite, memCons, memRead, hxk', hb, hak, hk]
      · simp [memWrite, memRead, hxk, hxk', hk, hak, ih hm]

theorem memRead_memWriteL_above {m : Mem} {a x : Nat} (bs : List Byte) (hx : a < x) (h : memRead m a ≠ 0) :
    memRead (memWriteL m x bs) a = memRead m a := by
  induction bs generalizing m x with
  | nil => rfl
  | cons b bs ih =>
    have hw := memRead_memWrite_above b hx h
    rw [memWriteL, ih (by omega) (by rwa [hw]), hw]

/-- A byte that is listed twice never reads 0 after a write. -/
theorem memRead_memWriteL_twice {m : Mem} {a : Nat} {bs : List Byte} (h : listsTwice a m) (hbs : bs ≠ []) :
    memRead (memWriteL m a bs) a ≠ 0 := by
  obtain ⟨b, bs, rfl⟩ := List.exists_cons_of_ne_nil hbs
  obtain ⟨p, hp, rfl⟩ := h
  have hfirst : memRead (memWrite (p ++ [(a, 1), (a, 1)]) a b) a ≠ 0 := by
    rw [memWrite_append_above b hp, memRead_append_above hp]
    by_cases hb : b = 0#8 <;> simp [memWrite, memCons, memRead, hb]
  rwa [memWriteL, memRead_memWriteL_above bs (Nat.lt_succ_self a) hfirst]

/-- The low byte of an element of 0 is 0. -/
theorem memRead_of_storeElem_zero {s : State} {e a w : Nat} (hw : w = 8 ∨ w = 32) (h : storeElem s e a w 0 = 0) :
    memRead (s.eng e).store a = 0 := by
  have hmod : ∀ v : Nat, sext w v = 0 → v % 2 ^ w = 0 := fun v hv => by
    have := Nat.mod_lt v (Nat.two_pow_pos w)
    unfold sext at hv
    split at hv <;> [omega; split at hv <;> omega]
  have hdvd : 256 ∣ 2 ^ w := by obtain rfl | rfl := hw <;> decide
  have hlow : ∀ (b : Byte) (x : Nat), (b.toNat + 256 * x) % 2 ^ w = 0 → b = 0 := fun b x hb => by
    have hmod256 := Nat.mod_mod_of_dvd (b.toNat + 256 * x) hdvd
    have hb256 := b.isLt
    apply BitVec.eq_of_toNat_eq
    change b.toNat = 0
    omega
  obtain rfl | rfl := hw
  all_goals
    have hzero := hmod _ (by simpa [storeElem, elemAt] using h)
    simp only [storeGet, memReadN, leVal] at hzero
    exact hlow _ _ hzero

/-! ### The instructions that write one range -/

/-- From `s` to `t` bytes have been written to engine `e`'s store from byte `a` up. -/
def State.wrote (e a : Nat) (s t : State) : Prop := ∃ bs, bs ≠ [] ∧ (t.eng e).store = memWriteL (s.eng e).store a bs

theorem State.wrote.reads {s t : State} {e a : Nat} (h : s.wrote e a t) (hs : listsTwice a (s.eng e).store) :
    memRead (t.eng e).store a ≠ 0 := by
  obtain ⟨bs, hbs, ht⟩ := h
  rw [ht]
  exact memRead_memWriteL_twice hs hbs

section
variable {s t u : State} {e a : Nat} {bs : List Byte}

theorem next_storePut_wrote (he : e < u.engs.length) (hu : (u.eng e).store = (s.eng e).store) (hbs : bs ≠ []) :
    s.wrote e a (next e (storePut e a bs u)) := by
  refine ⟨bs, hbs, ?_⟩
  have hnext : ((next e (storePut e a bs u)).eng e).store = ((storePut e a bs u).eng e).store :=
    nth_modAt_keeps Engine.store _ _ _ _ _ fun _ => rfl
  rw [hnext, storePut, State.eng_modEng_same _ _ _ he, hu]

theorem packElems_ne_nil {w : Nat} {xs : List Int} (h : 8 ≤ w * xs.length) : packElems w xs ≠ [] := by
  rw [← List.length_pos_iff, packElems, length_leBytes]
  omega

theorem length_tileResult (m : TileMode) (free : Option Nat) (a b : List Byte) (c0 : Option (List Byte)) :
    (tileResult m free a b c0).length = 1024 := by
  simp [tileResult, List.length_flatMap]

variable (he : e < s.engs.length) (i : Ins) (ts : List Touch)
include he

theorem doVec_move_wrote (hlen : 8 ≤ etypeWidth i.et * (64 * i.n)) : s.wrote e (atOf ts 0) (doVec e .move i ts s) :=
  next_storePut_wrote he rfl (packElems_ne_nil (by simpa [vecResult, VecOp.readsD, VecOp.dWidth, elems] using hlen))

theorem doRed_wrote (o : RedOp) : s.wrote e (atOf ts 1) (doRed e o i ts s) := next_storePut_wrote he rfl (by simp [leBytes])

theorem doTile_wrote (r : Run) (m : TileMode) : s.wrote e (atOf ts 2) (doTile e r m i ts s) := by
  have hbs (x : Option Nat) (a b c) : packElems 32 (tileResult m x a b c) ≠ [] :=
    packElems_ne_nil (by rw [length_tileResult]; decide)
  unfold doTile
  dsimp only
  split
  all_goals exact next_storePut_wrote (by simpa using he) (nth_modAt_keeps Engine.store _ _ _ _ _ fun _ => rfl) (hbs _ _ _ _)

end

section
variable {s t : State} {e : Nat} {r : Run} {i : Ins}

/-- What an instruction writes in the state after its reads it writes in the state that its program reached. -/
theorem State.reaches.wrote (h : s.reaches e r i) {k : Nat}
    (hperform : ∀ (ts : List Touch) (u : State), e < u.engs.length →
      u.wrote e (atOf ts k) (perform e r (i.op.rowStrokes 0) (refreshed s e r i) ts u))
    (ht : Machine.exec (insRow e 0 i.op) s = .next t) : s.wrote e (atOf (touches s e r i) k) t := by
  rw [h.exec 0] at ht
  cases ht
  obtain ⟨bs, hbs, hstore⟩ := hperform (touches s e r (refreshed s e r i)) (issuing e r (refreshed s e r i) s)
    (h.primed.engsLen ▸ State.lt_engs_of_run h.run)
  exact ⟨bs, hbs, by rw [hstore, h.primed.store, atOf_congr (touches_refreshed_places s e r i)]⟩

end

/-! ### Three programs over such a store -/

/-- A background job of engine 0 at instruction 0 of 1, in store bytes 0x8000 to 0x8007. -/
def firstOfJob : Run :=
  { kind := .job 0, entry := 0x8000, len := 1, strokes := 0, pc := 0, loops := [], any := false, tickNo := 0, snapAt := 0,
    snapTb := 0, snaps := [], clean := true, active := false, lean := false, waitBell := none, stalled := none,
    post := none, halting := false, firstOp := 0, primary := false, bt := 0, sampled := false, row := 0, bound := 0 }

/-- The machine after reset with engine 0 at the word `w` of a job; its store lists byte `a` twice after the word. -/
def jobAt (w a : Nat) : State :=
  State.reset.modEng 0 (fun g => { g with run := some firstOfJob, store := memOf 0x8000 (leBytes 8 w) ++ [(a, 1), (a, 1)] })

theorem jobAt_reaches {w a : Nat} {i : Ins}
    (hword : fetchIns (jobAt w a) 0 firstOfJob = .ok w ∧ decodeIns w = some i ∧ i = i.strided [])
    (hissue : badLane i = false ∧ touchTrap (touches (jobAt w a) 0 firstOfJob i) = 0 ∧ modeTrap firstOfJob i = 0 ∧
      mustHold (jobAt w a) 0 firstOfJob i (touches (jobAt w a) 0 firstOfJob i) = false) :
    (jobAt w a).reaches 0 firstOfJob i := by
  obtain ⟨hlane, htouch, hmode, hhold⟩ := hissue
  exact ⟨rfl, rfl, rfl, rfl, ⟨w, i, hword⟩, hlane, htouch, hmode, hhold, fun _ _ => rfl⟩

theorem jobAt_listsTwice {w a : Nat} (h : ∀ x ∈ memOf 0x8000 (leBytes 8 w), x.1 < a) :
    listsTwice a ((jobAt w a).eng 0).store := ⟨_, h, rfl⟩

/-- VEC MOVE of 64 INT8 elements from 0x12000 to 0x10000. -/
def moveIns : Ins := { op := .vec .move, sb := false, xs := [⟨false, 16, 0x1000⟩, ⟨false, 16, 0x1200⟩] }
def moveWord : Nat := 3 * 2 ^ 59 + 6 * 2 ^ 56 + 0x1000 * 2 ^ 37 + 0x1200 * 2 ^ 19

/-- RED SUM of 64 INT8 elements from 0x10000 into 0x12000. -/
def sumIns : Ins := { op := .red .sum, sb := false, xs := [⟨false, 16, 0x1000⟩, ⟨false, 16, 0x1200⟩] }
def sumWord : Nat := 4 * 2 ^ 59 + 0x1000 * 2 ^ 37 + 0x1200 * 2 ^ 19

/-- TILE of INT8 with A at 0x10000, B at 0x12000 and C at 0x14000, without ACC. -/
def tileIns : Ins :=
  { op := .tile .i8i8, sb := false, xs := [⟨false, 16, 0x1000⟩, ⟨false, 16, 0x1200⟩, ⟨false, 16, 0x1400⟩] }
def tileWord : Nat := 2 * 2 ^ 59 + 0x1000 * 2 ^ 37 + 0x1200 * 2 ^ 19 + 0x1400 * 2

theorem moveJob_reaches : (jobAt moveWord 0x10000).reaches 0 firstOfJob moveIns :=
  jobAt_reaches (by decide +kernel) (by decide +kernel)

theorem sumJob_reaches : (jobAt sumWord 0x12000).reaches 0 firstOfJob sumIns :=
  jobAt_reaches (by decide +kernel) (by decide +kernel)

theorem tileJob_reaches : (jobAt tileWord 0x14000).reaches 0 firstOfJob tileIns :=
  jobAt_reaches (by decide +kernel) (by decide +kernel)

/-- Refutes O23: a program may reach its instruction over a store that is not in canonical form, which no store of a sound
state is. With byte 0x10000 listed twice, MOVE of a zero element takes the first entry out, and the second is read. -/
theorem not_vectorRowsWriteElements : ¬ Obligations.VectorRowsWriteElements := by
  unfold Obligations.VectorRowsWriteElements
  intro h
  obtain ⟨t, ht, -, helems, -⟩ := h _ _ _ _ .move moveJob_reaches rfl
  have hzero : storeElem t 0 0x10000 8 0 = 0 := (helems 0 (by decide)).trans (by decide +kernel)
  have hwrote := moveJob_reaches.wrote (fun ts u hu => doVec_move_wrote hu moveIns ts (by decide)) ht
  exact hwrote.reads (jobAt_listsTwice (by decide +kernel)) (memRead_of_storeElem_zero (.inl rfl) hzero)

/-- Refutes O24, as O23 is refuted: RED SUM of 64 zero elements over a store that lists the destination byte twice. -/
theorem not_reductionsAndComparisons : ¬ Obligations.ReductionsAndComparisons := by
  unfold Obligations.ReductionsAndComparisons
  intro h
  obtain ⟨t, ht, -, hsum, -⟩ := h.1 _ _ _ _ .sum sumJob_reaches rfl
  have hzero : storeElem t 0 0x12000 32 0 = 0 := hsum.trans (by decide +kernel)
  have hwrote := sumJob_reaches.wrote (fun ts u hu => doRed_wrote hu sumIns ts .sum) ht
  exact hwrote.reads (jobAt_listsTwice (by decide +kernel)) (memRead_of_storeElem_zero (.inr rfl) hzero)

theorem productOf_zero {short : Bool} {b p : Int} (h : productOf short 0 b p) : p = 0 := by simpa [productOf] using h

theorem tileJob_zeros : ∀ k < 32, storeElem (jobAt tileWord 0x14000) 0
    (atOf (touches (jobAt tileWord 0x14000) 0 firstOfJob tileIns) 0) TileMode.i8i8.aWidth (TileMode.i8i8.k * 0 + k) = 0 := by
  decide +kernel

/-- Refutes O25, as O23 is refuted: a TILE of a zero row of A over a store that lists the first byte of C twice. -/
theorem not_tileRowsMultiply : ¬ Obligations.TileRowsMultiply := by
  unfold Obligations.TileRowsMultiply
  intro h
  obtain ⟨t, ht, -, helems, -⟩ := h _ _ _ _ .i8i8 tileJob_reaches rfl
  obtain ⟨p, hp, hsum⟩ := helems 0 0 (by decide) (by decide)
  have hp0 : ∀ k < 32, p k = 0 := fun k hk => productOf_zero (tileJob_zeros k hk ▸ hp k hk)
  have hzero : storeElem t 0 0x14000 32 0 = 0 := by
    rw [List.map_eq_replicate_iff.mpr fun k hk => by rw [hp0 k (List.mem_range.mp hk), Int.mul_zero]] at hsum
    exact hsum.trans (by decide +kernel)
  have hwrote := tileJob_reaches.wrote (fun ts u hu => doTile_wrote hu _ ts firstOfJob .i8i8) ht
  exact hwrote.reads (jobAt_listsTwice (by decide +kernel)) (memRead_of_storeElem_zero (.inr rfl) hzero)

end Sys2Proof.Machine

/-! ## What refutes the statement of the control instructions (R214, R63)

A register file in canonical form lists a register once, and none at its reset value. Where one lists a register twice, a write
of the reset value takes the first entry out, and the second is read. -/

namespace Sys2Proof.Machine

/-- The part on engine 0 of channel 0's tick program, at instruction 0 of 1, in store bytes 0x8000 to 0x8007. -/
def lastOfTick : Run := { firstOfJob with kind := .tick 0, primary := true }

/-- HALT.V with its verdict lane at 0x10000. -/
def haltVIns : Ins := { op := .haltV, sb := false, xs := [⟨false, 16, 0x1000⟩] }
def haltVWord : Nat := 2 ^ 56 + 0x1000 * 2 ^ 37

/-- The machine in a tick that waits for the verdict of the active channel 0, with engine 0 at HALT.V and a verdict lane of
zeros; its register file lists CH_SCORE of channel 0 twice. -/
def twoScores : State :=
  { State.reset.modEng 0 (fun g => { g with run := some lastOfTick, store := memOf 0x8000 (leBytes 8 haltVWord) }) with
    regs := [(key (CH 0) 0x10, 1), (key (CH 0) 0x10, 2)]
    tick := { TickUnit.reset with open_ := true }
    chans := modAt State.reset.chans 0 (fun c => { c with st := .active }) }

theorem twoScores_reaches : twoScores.reaches 0 lastOfTick haltVIns where
  up := rfl
  run := rfl
  bell := rfl
  tag := rfl
  word := ⟨haltVWord, haltVIns, by decide +kernel, by decide +kernel, by decide +kernel⟩
  lane := rfl
  operands := by decide +kernel
  mode := rfl
  free := by decide +kernel
  whole _ _ := rfl

theorem twoScores_nothingDue : nothingDue twoScores := fun x => by
  have hreset : State.reset.eng x = Engine.reset := List.getElem?_getD_replicate_default_eq _ _ _
  exact (nth_modAt_keeps Engine.due _ _ _ _ _ fun _ => by rfl).trans (congrArg Engine.due hreset)

/-- HALT.V latches score 0, and the second entry is read. -/
theorem twoScores_haltV : ∃ t, exec (.haltV 0 0) twoScores = .next t ∧ t.rd (CH 0) 0x10 = 2 := by
  have hrun : (match exec (.haltV 0 0) twoScores with | .next t => decide (t.rd (CH 0) 0x10 = 2) | _ => false) = true := by
    decide +kernel
  split at hrun
  · next t ht => exact ⟨t, ht, of_decide_eq_true hrun⟩
  · cases hrun

/-- Refutes O27: its states need not be sound. In `twoScores` HALT.V with score 0 leaves CH_SCORE reading 2. -/
theorem not_controlAndOrderingInstructions : ¬ Obligations.ControlAndOrderingInstructions := by
  unfold Obligations.ControlAndOrderingInstructions
  rintro ⟨-, h⟩
  obtain ⟨-, -, -, -, hhaltV⟩ := h _ _ _ _ twoScores_reaches
  obtain ⟨t, ht, -, -, -, -, -, -, hlatch⟩ := hhaltV 0 0 rfl rfl (by decide) twoScores_nothingDue
  obtain ⟨t', ht', hscore⟩ := twoScores_haltV
  cases ht.symm.trans ht'
  obtain ⟨-, hzero⟩ := hlatch rfl rfl rfl rfl rfl
  rw [hscore] at hzero
  exact absurd hzero (by decide +kernel)

end Sys2Proof.Machine

/-! ## Posts and their tags (R218, R219, R229 to R235, R258)

A post reads its descriptor and its first list entries, which leaves counts and records (`State.postReads`), and then is accepted,
or waits for a tag. An accepted descriptor leaves every program as it was, but for CLEAN (`State.takesTag`). -/

namespace Sys2Proof.Machine

/-! ### What the reads of a post leave -/

/-- From `s` to `t` store bytes have been read: corrected errors and records are counted, column tests queued and channels
charged; and a run of TILEs may have ended. -/
structure State.postReads (s t : State) : Prop where
  rest : t = { s with
    engs := t.engs, chans := t.chans, storeBanks := t.storeBanks, regs := t.regs, sup := t.sup, faults := t.faults }
  eng : ∀ x, (t.eng x).unprimed = (s.eng x).unprimed
  engsLen : t.engs.length = s.engs.length
  rd : ∀ a x, key a x ≠ key DEV 0x05 → t.rd a x = s.rd a x

section
variable {s t u : State} {e : Nat}

theorem State.postReads_refl (s : State) : s.postReads s := ⟨rfl, fun _ => rfl, rfl, fun _ _ _ => rfl⟩

theorem State.postReads.trans (h : s.postReads t) (h' : t.postReads u) : s.postReads u where
  rest := by rw [h'.rest, h.rest]
  eng x := (h'.eng x).trans (h.eng x)
  engsLen := h'.engsLen.trans h.engsLen
  rd a x hk := (h'.rd a x hk).trans (h.rd a x hk)

theorem State.postReads.run (h : s.postReads t) (x : Nat) : (t.eng x).run = (s.eng x).run := (congrArg Engine.run (h.eng x) :)
theorem State.postReads.store (h : s.postReads t) (x : Nat) : (t.eng x).store = (s.eng x).store :=
  (congrArg Engine.store (h.eng x) :)

theorem State.primed.postReads (h : s.primed e t) : s.postReads t where
  rest := by rw [h.rest]
  eng x := by
    by_cases hx : x = e
    · exact hx ▸ h.eng
    · rw [h.others x hx]
  engsLen := h.engsLen
  rd a x _ := by rw [h.rest]; rfl

theorem raise_postReads (i : Nat) (s : State) : s.postReads (raise i s) := by
  have hrest : raise i s = { s with regs := (raise i s).regs, sup := (raise i s).sup } := by
    unfold raise
    dsimp only
    split <;> rfl
  constructor
  · rw [hrest]
  · exact fun x => by rw [hrest]; rfl
  · rw [hrest]
  · exact fun a x hk => raise_rd_other i a x s hk

/-- An update of the channels, the banks and the fault queue. -/
theorem State.postReads_of_rest (h : t = { s with chans := t.chans, storeBanks := t.storeBanks, faults := t.faults }) :
    s.postReads t :=
  ⟨by rw [h], fun x => by rw [h]; rfl, by rw [h], fun a x _ => by rw [h]; rfl⟩

theorem faultRecord_postReads (src unit chan flags detail detail2 : Nat) (s : State) :
    s.postReads (faultRecord src unit chan flags detail detail2 s) := by
  have hraise (i : Nat) (f : Faults) : s.postReads (raise i { s with faults := f }) :=
    (State.postReads_of_rest rfl).trans (raise_postReads i _)
  exact hraise _ _

theorem chargeChannel_postReads (c : Nat) (s : State) : s.postReads (chargeChannel c s) := State.postReads_of_rest rfl

theorem memRecord_postReads (unit : Nat) (c : Option Nat) (flags detail detail2 : Nat) (s : State) :
    s.postReads (memRecord unit c flags detail detail2 s) := by
  cases c with
  | none => exact faultRecord_postReads _ _ _ _ _ _ _
  | some c => exact (faultRecord_postReads _ _ _ _ _ _ _).trans (chargeChannel_postReads _ _)

theorem countCorrected_postReads (e : Nat) (s : State) :
    s.postReads (s.modEng e (fun g => { g with corrected := min 0xFFFF (g.corrected + 1) })) where
  rest := rfl
  eng _ := nth_modAt_keeps Engine.unprimed _ _ _ _ _ fun _ => rfl
  engsLen := modAt_length _ _ _
  rd _ _ _ := rfl

theorem queueTest_postReads (e b column : Nat) (s : State) : s.postReads (queueTest (.store e b) column s) :=
  State.postReads_of_rest rfl

theorem storeReadEvents_postReads (e a n : Nat) (c : Option Nat) (s : State) : s.postReads (storeReadEvents e a n c s) := by
  have hbad := foldS_inv s.postReads (fun w s =>
      queueTest (.store e (storeBankOf (4 * w))) (storeWordIdx (4 * w) % 256)
        (memRecord e c 4 (storeBankOf (4 * w)) (storeWordIdx (4 * w)) s))
    (fun _ _ h => (h.trans (memRecord_postReads _ _ _ _ _ _)).trans (queueTest_postReads _ _ _ _))
    (hitWords (s.eng e).ue 4 a n) s s.postReads_refl
  exact foldS_inv s.postReads _
    (fun _ _ h => (h.trans (countCorrected_postReads _ _)).trans (queueTest_postReads _ _ _ _)) _ _ hbad

theorem withEntry_issuer (o : PumpOp) (e : Nat) (r : Except EntryFlaw (List Byte)) : (o.withEntry e r).issuer = o.issuer :=
  (congrArg PumpOp.issuer (withEntry_unread o e r) :)

theorem readEntries_postReads {o : PumpOp} {tick : Bool} {c : Option Nat} (hi : o.issuer = .engine e tick c) (es : List Nat)
    (s : State) : s.postReads (readEntries es o s).2 := by
  induction es generalizing o s with
  | nil => exact s.postReads_refl
  | cons x es ih =>
    have hx : s.postReads (entryEvents o x s) := by
      rw [entryEvents, hi]
      exact storeReadEvents_postReads _ _ _ _ _
    exact hx.trans (ih ((withEntry_issuer _ _ _).trans hi) _)

end
end Sys2Proof.Machine

namespace Sys2Proof.Machine

/-! ### Registers of the device that a stall counts in (R140, R231)

What was last written is read back, whatever the order of the register file, unless it is the reset value. -/

theorem assoc_assocPut_true {α : Type} (k : Nat) (v : α) (xs : List (Nat × α)) : assoc (assocPut true k v xs) k = some v := by
  induction xs with
  | nil => simp [assocPut, assoc]
  | cons x xs ih =>
    obtain ⟨j, w⟩ := x
    unfold assocPut
    split
    · simp [assoc]
    split
    · simp [assoc]
    · next hne => simp [assoc, hne, ih]

theorem State.rd_wr_kept (s : State) (t r : Nat) {v : Word} (hv : v ≠ resetWord s.part s.straps (key t r)) :
    (s.wr t r v).rd t r = v := by
  simp [State.rd, State.wr, hv, assoc_assocPut_true]

theorem resetWord_events (p : Part) (b : Straps) : resetWord p b (key DEV 0x05) = 0 := rfl
theorem resetWord_tagStalls (p : Part) (b : Straps) : resetWord p b (key DEV 0x1A) = 0 := rfl

section
variable (s : State)

theorem raise_events (i : Nat) (hi : i < 16) : (raise i s).rd DEV 0x05 = setBit (s.rd DEV 0x05) i := by
  have hset : (s.setB DEV 0x05 i).rd DEV 0x05 = setBit (s.rd DEV 0x05) i :=
    State.rd_wr_kept s DEV 0x05 fun h => by
      rw [resetWord_events] at h
      have hbit : wbit (setBit (s.rd DEV 0x05) i) i = false := by simp [h, wbit]
      simp [wbit_setBit _ _ _ hi] at hbit
  unfold raise
  dsimp only
  split
  · exact hset
  · exact hset

theorem raise_bit_kept {i j : Nat} (hi : i < 16) (hj : j < 16) (h : i = j ∨ s.bit DEV 0x05 j = true) :
    (raise i s).bit DEV 0x05 j = true := by
  rw [State.bit, raise_events s i hi, wbit_setBit _ _ _ hj]
  obtain rfl | h := h
  · simp
  · simpa [State.bit] using .inl h

theorem bump16_rd_tagStalls : (bump16 DEV 0x1A 1 s).rd DEV 0x1A = satAdd16 (s.rd DEV 0x1A) 1 := by
  refine State.rd_wr_kept s DEV 0x1A ?_
  rw [resetWord_tagStalls]
  intro h
  have hval := congrArg BitVec.toNat h
  simp [satAdd16, word] at hval
  omega

end

/-! ### What records and marks leave of programs and posts -/

/-- The engines, the part, the post slots, the ports and the operations with their next number. -/
def State.posts (s : State) : List Engine × Part × List Slot × List Port × Nat × List PumpOp :=
  (s.engs, s.part, s.sup.slots, s.ports, s.nextOp, s.ops)

theorem raise_posts (i : Nat) (s : State) : (raise i s).posts = s.posts := by
  unfold raise
  dsimp only
  split <;> rfl

/-- What the writes of PROMISE, its event and the marks of channels keep, a broken promise keeps (R203). -/
theorem promiseBroken_inv {P : State → Prop} (hwr : ∀ u v, P u → P (u.wr DEV 0x26 v))
    (htick : ∀ (u : State) k, P u → P { u with tick := k }) (hraise : ∀ u, P u → P (raise evPromise u))
    (hchan : ∀ (u : State) c f, P u → P (u.modChan c f)) (stall : Bool) (no : Nat) (cs : List Nat) {s : State} (h : P s) :
    P (promiseBroken stall no cs s) := by
  unfold promiseBroken
  extract_lets s1 w tick s2
  have h1 : P s1 := hwr _ _ h
  have h2 : P s2 := by
    unfold s2
    split
    · exact h1
    · exact hraise _ (hwr _ _ (htick _ _ h1))
  split
  · exact foldS_inv P _ (fun _ _ hx => hchan _ _ _ hx) _ _ h2
  · exact h2

theorem promiseBroken_posts (stall : Bool) (no : Nat) (cs : List Nat) (s : State) :
    (promiseBroken stall no cs s).posts = s.posts :=
  promiseBroken_inv (P := fun u => u.posts = s.posts) (fun _ _ => id) (fun _ _ => id) (fun u => (raise_posts _ u).trans)
    (fun _ _ _ => id) stall no cs rfl

theorem faultRecord_posts (src unit chan flags detail detail2 : Nat) (s : State) :
    (faultRecord src unit chan flags detail detail2 s).posts = s.posts := raise_posts _ _

theorem tickFault_posts (src unit c no flags detail detail2 : Nat) (s : State) :
    (tickFault src unit c no flags detail detail2 s).posts = s.posts :=
  (promiseBroken_posts _ _ _ _).trans (faultRecord_posts src unit c _ detail detail2 s)

/-! ### A post that waits for a tag (R140, R231, R233) -/

/-- A run whose post, of a TENS `v` with the operation `o` as read, waits for a tag. -/
def Run.stalls (v : Variant) (o : PumpOp) (r : Run) : Run :=
  { r with stalled := some r.pc, post := some (v.code, o), clean := false }

/-- A stalled issue is counted, and its event is set. -/
def State.countsStall (s t : State) : Prop :=
  t.bit DEV 0x05 evTagStall = true ∧ t.rd DEV 0x1A = satAdd16 (s.rd DEV 0x1A) 1

section
variable {s x : State} {e : Nat} {r : Run} {v : Variant} {o : PumpOp}

theorem tagStall_countsStall (s : State) : s.countsStall (tagStall s) :=
  ⟨raise_bit_kept _ (by decide) (by decide) (.inl rfl),
    (raise_rd_other _ _ _ _ (by decide)).trans (bump16_rd_tagStalls s)⟩

theorem promiseBroken_countsStall (stall : Bool) (no : Nat) (cs : List Nat) (h : s.countsStall x) :
    s.countsStall (promiseBroken stall no cs x) :=
  promiseBroken_inv (P := s.countsStall)
    (fun u w hu => by
      rw [State.countsStall, State.bit, State.rd_wr_other _ _ _ _ _ _ (by decide), State.rd_wr_other _ _ _ _ _ _ (by decide)]
      exact hu)
    (fun _ _ hu => hu)
    (fun u hu => ⟨raise_bit_kept u (by decide) (by decide) (.inr hu.1), (raise_rd_other _ _ _ u (by decide)).trans hu.2⟩)
    (fun _ _ _ hu => hu) stall no cs h

theorem stallPost_cases (s : State) : stallPost e r v o s = (tagStall s).modRun e (Run.stalls v o) ∨
    ∃ c, stallPost e r v o s = promiseBroken true r.tickNo [c] ((tagStall s).modRun e (Run.stalls v o)) := by
  unfold stallPost
  dsimp only
  split
  · exact .inr ⟨_, rfl⟩
  · exact .inl rfl

theorem stallPost_countsStall (s : State) : s.countsStall (stallPost e r v o s) := by
  obtain hend | ⟨c, hend⟩ := stallPost_cases (e := e) (r := r) (v := v) (o := o) s <;> rw [hend]
  · exact tagStall_countsStall s
  · exact promiseBroken_countsStall (x := (tagStall s).modRun e (Run.stalls v o)) _ _ _ (tagStall_countsStall s)

theorem stallPost_posts (s : State) : (stallPost e r v o s).posts = (s.modRun e (Run.stalls v o)).posts := by
  have hstall : ((tagStall s).modRun e (Run.stalls v o)).posts = (s.modRun e (Run.stalls v o)).posts := by
    have hraise : (tagStall s).posts = s.posts := raise_posts _ _
    simp only [State.posts, Prod.mk.injEq] at hraise
    simp only [State.posts, State.modRun, State.modEng, hraise]
  obtain hend | ⟨c, hend⟩ := stallPost_cases (e := e) (r := r) (v := v) (o := o) s <;> rw [hend]
  · exact hstall
  · exact (promiseBroken_posts _ _ _ _).trans hstall

end
end Sys2Proof.Machine

namespace Sys2Proof.Machine

/-! ### The tags that posts wait for (R232) -/

section
variable {s t : State} {e : Nat}

theorem State.primed.stalledEngines (h : s.primed e t) (tick : Bool) : stalledEngines t tick = stalledEngines s tick := by
  have hst (x : Nat) : (t.eng x).stalledRun tick = (s.eng x).stalledRun tick := by
    by_cases hx : x = e
    · subst hx
      exact (congrArg (Engine.stalledRun · tick) h.eng :)
    · rw [h.others x hx]
  have hpart : t.part = s.part := by rw [h.rest]
  simp only [Machine.stalledEngines, hst, hpart]

theorem State.primed.freeTags (h : s.primed e t) : freeTags t = freeTags s := by rw [h.rest]; rfl

theorem State.primed.tagsAhead (h : s.primed e t) (x : Nat) (tick : Bool) : tagsAhead t x tick = tagsAhead s x tick := by
  have hslots : slotsAhead t = slotsAhead s := by rw [h.rest]; rfl
  have hpeers : peersAhead t t.ports.length = peersAhead s s.ports.length := by rw [h.rest]; rfl
  simp only [Machine.tagsAhead, h.stalledEngines, hslots, hpeers]

end

/-! ### The parts of an acceptance (R234, R257 to R260) -/

/-- Why a pump refuses a descriptor at its post: DISABLED, FORMAT or ALIGN, in this order; 0 none (R234). -/
def postFlaw (s : State) (pump : Nat) (v : Option Variant) (isSup : Bool) (d : Desc) : Nat :=
  if pumpAccepts s pump = false then 7
  else if formatBad d v isSup s.part.engines (windowWidth s d) = true then 3
  else if alignBad d = true then 2 else 0

/-- The status code that acceptance finds, LOST for a REMOTE with no port to its peer (R449). -/
def acceptFail (o : PumpOp) (v : Option Variant) (s : State) : Nat :=
  let d := parseDesc o.desc
  if postFlaw s o.pump v o.issuer.isSup d ≠ 0 then postFlaw s o.pump v o.issuer.isSup d
  else if d.op = .remote ∧ remotePort s d.peer = none then stLost
  else 0

/-- The operation as it takes its tag. -/
def takenOp (o : PumpOp) (v : Option Variant) (s : State) : PumpOp :=
  let d := parseDesc o.desc
  let wait := mustWait s o d
  let o1 : PumpOp :=
    { o with
      id := s.nextOp, fail := acceptFail o v s, moved := decide (acceptFail o v s ≠ 0)
      started := !wait && decide (d.op ≠ .remote)
      waitEnd := if wait then some (s.now + 64 * s.fld PMP 0x03 0 16) else none
      seen := (s.well d.src.unit).count, filled := (s.well d.src.unit).wrapped
      blocks := if d.op = .remote ∧ (acceptFail o v s = 0 ∨ acceptFail o v s = stLost) then
          List.replicate d.listLen { got := [], done := false, refused := false } else [] }
  match remotePort s d.peer with
  | some p => if d.op = .remote ∧ acceptFail o v s = 0 then beginRemote s p o1 else o1
  | none => o1

/-- The operations whose order an acceptance notes. -/
def notedOps (o : PumpOp) (v : Option Variant) (s : State) : List Nat :=
  if acceptFail o v s = 0 ∧ (parseDesc o.desc).op ≠ .remote then presentOps o.issuer.same s else []

/-- Operation `p` is in flight, and those before it are noted. -/
def State.takes (p : PumpOp) (earlier : List Nat) (s : State) : State :=
  let s0 := foldS notePresented earlier s
  noteXid p (noteTag p { s0 with ops := s0.ops ++ [{ p with prior := priorOf s0 earlier }], nextOp := s0.nextOp + 1 })

theorem acceptOp_eq (o : PumpOp) (v : Option Variant) (s : State) :
    acceptOp o v s =
      if acceptFail o v s ≠ 0 then completeOp (takenOp o v s) (s.takes (takenOp o v s) (notedOps o v s))
      else s.takes (takenOp o v s) (notedOps o v s) := by
  have hfail : (if pumpAccepts s o.pump = false then stDisabled
      else if formatBad (parseDesc o.desc) v o.issuer.isSup s.part.engines (windowWidth s (parseDesc o.desc)) then stFormat
      else if alignBad (parseDesc o.desc) then stAlign
      else if (parseDesc o.desc).op = .remote ∧ remotePort s (parseDesc o.desc).peer = none then stLost
      else 0) = acceptFail o v s := by
    unfold acceptFail postFlaw
    repeat' split
    all_goals simp_all
  unfold takenOp notedOps
  rw [← hfail]
  rfl

/-- What a post says of its operation, and what acceptance says of its status. -/
def PumpOp.asPosted (o : PumpOp) : Nat × Issuer × Nat × Nat × List Byte × Nat × Bool × Nat × Bool × Nat :=
  (o.pump, o.issuer, o.handle, o.lane, o.desc, o.steps, o.started, o.fail, o.moved, o.id)

section
variable (o : PumpOp) (v : Option Variant) (s : State)

theorem takenOp_asPosted : (takenOp o v s).asPosted =
    (o.pump, o.issuer, o.handle, o.lane, o.desc, o.steps,
      !mustWait s o (parseDesc o.desc) && decide ((parseDesc o.desc).op ≠ .remote),
      acceptFail o v s, decide (acceptFail o v s ≠ 0), s.nextOp) := by
  unfold takenOp
  dsimp only
  split
  · split <;> rfl
  · rfl

theorem takenOp_id : (takenOp o v s).id = s.nextOp := congrArg (·.2.2.2.2.2.2.2.2.2) (takenOp_asPosted o v s)

end

/-! ### What an acceptance leaves of the programs (R203, R233) -/

/-- A run but for whether its part has met a stall or fault. -/
def Run.unmarked (r : Run) : Run := { r with clean := true }

/-- The programs of an engine, but for their marks. -/
def Engine.programs (g : Engine) : Option Run × Option Run := (g.run.map Run.unmarked, g.susp.map Run.unmarked)

/-- From `s` to `t` the programs, the posts that wait and the peers' blocks are the same. -/
structure State.keepsPosts (s t : State) : Prop where
  programs : ∀ x, (t.eng x).programs = (s.eng x).programs
  part : t.part = s.part
  waiting : stalledSlots t = stalledSlots s
  peers : ∀ p, (t.port p).peers = (s.port p).peers
  nextOp : t.nextOp = s.nextOp

section
variable {s t u : State} {e : Nat} {o : PumpOp}

theorem State.keepsPosts_refl (s : State) : s.keepsPosts s := ⟨fun _ => rfl, rfl, rfl, fun _ => rfl, rfl⟩

theorem State.keepsPosts.trans (h : s.keepsPosts t) (h' : t.keepsPosts u) : s.keepsPosts u :=
  ⟨fun x => (h'.programs x).trans (h.programs x), h'.part.trans h.part, h'.waiting.trans h.waiting,
    fun p => (h'.peers p).trans (h.peers p), h'.nextOp.trans h.nextOp⟩

theorem State.keepsPosts.run {r : Run} (h : s.keepsPosts t) (hr : (s.eng e).run = some r) :
    ∃ q, (t.eng e).run = some q ∧ q.unmarked = r.unmarked := by
  have hprog : (t.eng e).run.map Run.unmarked = some r.unmarked :=
    (congrArg Prod.fst (h.programs e)).trans (by rw [Engine.programs, hr]; rfl)
  simpa using hprog

/-- An update of other fields. -/
theorem State.keepsPosts_of_rest (h : (t.engs, t.part, t.sup.slots, t.ports, t.nextOp) =
    (s.engs, s.part, s.sup.slots, s.ports, s.nextOp)) : s.keepsPosts t := by
  simp only [Prod.mk.injEq] at h
  obtain ⟨hengs, hpart, hslots, hports, hnext⟩ := h
  exact ⟨fun x => by rw [State.eng_of_engs hengs], hpart, by rw [stalledSlots, hslots]; rfl, fun p => by rw [State.port, hports]; rfl,
    hnext⟩

theorem State.keepsPosts_of_posts (h : t.posts = s.posts) : s.keepsPosts t := by
  simp only [State.posts, Prod.mk.injEq] at h
  exact State.keepsPosts_of_rest (by simp only [h])

theorem State.modEng_keepsPosts (s : State) (e : Nat) {f : Engine → Engine} (hf : ∀ g, (f g).programs = g.programs) :
    s.keepsPosts (s.modEng e f) :=
  ⟨fun _ => nth_modAt_keeps Engine.programs _ _ _ _ _ hf, rfl, rfl, fun _ => rfl, rfl⟩

theorem State.modPort_keepsPosts (s : State) (p : Nat) {f : Port → Port} (hf : ∀ q, (f q).peers = q.peers) :
    s.keepsPosts (s.modPort p f) :=
  ⟨fun _ => rfl, rfl, rfl, fun _ => nth_modAt_keeps Port.peers _ _ _ _ _ hf, rfl⟩

theorem holdFault_keepsPosts (e code : Nat) (pc : Option Nat) (s : State) : s.keepsPosts (holdFault e code pc s) :=
  State.modEng_keepsPosts s e fun g => by split <;> rfl

theorem unclean_keepsPosts (e c no : Nat) (s : State) : s.keepsPosts (unclean e c no s) :=
  State.modEng_keepsPosts s e fun g => by
    have hrun (r : Run) : (if r.tickNo = no ∧ r.ofChan c = true then { r with clean := false } else r).unmarked = r.unmarked := by
      split <;> rfl
    simp [Engine.programs, Function.comp_def, hrun]

theorem completionFault_keepsPosts (o : PumpOp) (s : State) : s.keepsPosts (completionFault o s) := by
  unfold completionFault
  dsimp only
  split
  · exact s.keepsPosts_refl
  split
  · exact ((holdFault_keepsPosts _ _ _ s).trans (State.keepsPosts_of_posts (tickFault_posts _ _ _ _ _ _ _ _))).trans
      (unclean_keepsPosts _ _ _ _)
  · exact (holdFault_keepsPosts _ _ _ s).trans (State.keepsPosts_of_posts (faultRecord_posts _ _ _ _ _ _ _))
  · exact State.keepsPosts_of_posts (faultRecord_posts _ _ _ _ _ _ _)

theorem storeCompletion_keepsPosts (o : PumpOp) (s : State) : s.keepsPosts (storeCompletion o s) := by
  unfold storeCompletion
  split
  · exact State.modEng_keepsPosts s _ fun _ => by rfl
  · next n _ =>
    have hslot (k : Nat) : ((slotDone n o.word32 s.sup).slots[k]?.bind (fun l => l.waiting)).isSome =
        (s.sup.slots[k]?.bind (fun l => l.waiting)).isSome := by
      rw [slotDone, modAt_getElem?]
      split <;> cases s.sup.slots[k]? <;> rfl
    exact ⟨fun _ => rfl, rfl, by simp only [stalledSlots, hslot], fun _ => rfl, rfl⟩
  · exact s.keepsPosts_refl

theorem returnXid_keepsPosts (o : PumpOp) (s : State) : s.keepsPosts (returnXid o s) := by
  unfold returnXid
  split
  · split
    · exact s.keepsPosts_refl
    · exact State.modPort_keepsPosts s _ fun _ => by rfl
  · exact s.keepsPosts_refl

theorem completeOp_keepsPosts (o : PumpOp) (s : State) : s.keepsPosts (completeOp o s) := by
  have hclose : s.keepsPosts (returnXid o (storeCompletion o { s with ops := s.ops.filter (fun x => x.id ≠ o.id) })) :=
    ((State.keepsPosts_of_rest (by rfl)).trans (storeCompletion_keepsPosts o _)).trans (returnXid_keepsPosts o _)
  have hshort : s.keepsPosts (closeOp o s) := by
    unfold closeOp
    dsimp only
    split
    · exact hclose.trans (State.keepsPosts_of_rest rfl)
    · exact hclose
  exact hshort.trans (completionFault_keepsPosts o _)

theorem notePresented_keepsPosts (i : Nat) (s : State) : s.keepsPosts (notePresented i s) := State.keepsPosts_of_rest rfl

/-- An engine whose PEAK counts `n` tags (R254). -/
def Engine.peaks (n : Nat) (g : Engine) : Engine := if g.peakOn then { g with peakAcc := max g.peakAcc n } else g

theorem noteTag_cases (o : PumpOp) (s : State) :
    ∃ w, noteTag o s = s.wr DEV 0x19 w ∨ ∃ e n, noteTag o s = (s.wr DEV 0x19 w).modEng e (Engine.peaks n) := by
  unfold noteTag
  dsimp only
  split
  · exact ⟨_, .inr ⟨_, _, rfl⟩⟩
  · exact ⟨_, .inl rfl⟩

theorem noteTag_keepsPosts (o : PumpOp) (s : State) : s.keepsPosts (noteTag o s) := by
  have hwr (w : Word) : s.keepsPosts (s.wr DEV 0x19 w) := State.keepsPosts_of_rest rfl
  obtain ⟨w, hcase | ⟨e, n, hcase⟩⟩ := noteTag_cases o s <;> rw [hcase]
  · exact hwr w
  · exact (hwr w).trans (State.modEng_keepsPosts _ e fun g => by unfold Engine.peaks; split <;> rfl)

theorem noteXid_keepsPosts (o : PumpOp) (s : State) : s.keepsPosts (noteXid o s) := by
  unfold noteXid
  split
  · exact State.modPort_keepsPosts s _ fun _ => by rfl
  · exact s.keepsPosts_refl

/-- An operation that takes its tag takes the next number. -/
theorem State.keepsPosts.numbers (h : s.keepsPosts t) (ops : List PumpOp) :
    { s with nextOp := s.nextOp + 1 }.keepsPosts { t with ops := ops, nextOp := t.nextOp + 1 } :=
  ⟨h.programs, h.part, h.waiting, h.peers, congrArg (· + 1) h.nextOp⟩

theorem State.takes_keepsPosts (p : PumpOp) (earlier : List Nat) (s : State) :
    { s with nextOp := s.nextOp + 1 }.keepsPosts (s.takes p earlier) := by
  have hnoted : s.keepsPosts (foldS notePresented earlier s) :=
    foldS_inv s.keepsPosts notePresented (fun i u hu => hu.trans (notePresented_keepsPosts i u)) earlier s s.keepsPosts_refl
  exact ((hnoted.numbers _).trans (noteTag_keepsPosts p _)).trans (noteXid_keepsPosts p _)

/-- Acceptance leaves every program as it was, but for its mark, and takes one number (R203, R229). -/
theorem acceptOp_keepsPosts (o : PumpOp) (v : Option Variant) (s : State) :
    { s with nextOp := s.nextOp + 1 }.keepsPosts (acceptOp o v s) := by
  rw [acceptOp_eq]
  split
  · exact (State.takes_keepsPosts _ _ s).trans (completeOp_keepsPosts _ _)
  · exact State.takes_keepsPosts _ _ s

end

/-! ### An operation in flight (R229, R234) -/

/-- From `s` to `t` more accesses of operations are noted as presented. -/
structure State.notes (s t : State) : Prop where
  known : ∀ k x, s.op? k = some x → ∃ n, x.shown ≤ n ∧ t.op? k = some { x with shown := n }
  unknown : ∀ k, s.op? k = none → t.op? k = none
  count : t.ops.length = s.ops.length
  engs : t.engs = s.engs

section
variable {s t u : State}

theorem State.notes_refl (s : State) : s.notes s := ⟨fun _ x hx => ⟨x.shown, le_rfl, hx⟩, fun _ => id, rfl, rfl⟩

theorem State.notes.trans (h : s.notes t) (h' : t.notes u) : s.notes u where
  known k x hx := by
    obtain ⟨n, hn, ht⟩ := h.known k x hx
    obtain ⟨m, hm, hu⟩ := h'.known k _ ht
    exact ⟨m, hn.trans hm, hu⟩
  unknown k hk := h'.unknown k (h.unknown k hk)
  count := h'.count.trans h.count
  engs := h'.engs.trans h.engs

theorem notePresented_notes (i : Nat) (s : State) : s.notes (notePresented i s) := by
  have hop (k : Nat) : (notePresented i s).op? k = if k = i then (s.op? i).map (fun o =>
      { o with shown := max o.shown (max 1 (Config.freeWord s.free).toNat) }) else s.op? k :=
    State.op?_modOp (s := { s with free := s.free + 1 }) (fun _ hx => by exact hx) k
  refine ⟨fun k x hx => ?_, fun k hk => ?_, List.length_map _, rfl⟩
  · by_cases hki : k = i
    · subst hki
      exact ⟨_, le_max_left _ _, by rw [hop, if_pos rfl, hx]; rfl⟩
    · exact ⟨x.shown, le_rfl, by rw [hop, if_neg hki, hx]⟩
  · by_cases hki : k = i
    · subst hki
      rw [hop, if_pos rfl, hk]
      rfl
    · rw [hop, if_neg hki, hk]

theorem foldS_notePresented_notes (is : List Nat) (s : State) : s.notes (foldS notePresented is s) :=
  foldS_inv s.notes notePresented (fun i u hu => hu.trans (notePresented_notes i u)) is s s.notes_refl

theorem noteTag_ops (o : PumpOp) (s : State) : (noteTag o s).ops = s.ops := by
  obtain ⟨w, hcase | ⟨e, n, hcase⟩⟩ := noteTag_cases o s <;> rw [hcase] <;> rfl

/-- An engine as taking a tag leaves it. -/
def Engine.unpeaked (g : Engine) : Engine := { g with peakAcc := 0 }

theorem noteTag_unpeaked (o : PumpOp) (s : State) (x : Nat) : ((noteTag o s).eng x).unpeaked = (s.eng x).unpeaked := by
  obtain ⟨w, hcase | ⟨e, n, hcase⟩⟩ := noteTag_cases o s <;> rw [hcase]
  · rfl
  · exact nth_modAt_keeps Engine.unpeaked s.engs _ _ _ _ fun g => by unfold Engine.peaks; split <;> rfl

theorem noteXid_plant (o : PumpOp) (s : State) : (noteXid o s).plant = s.plant := by
  unfold noteXid
  split <;> rfl

theorem State.takes_ops (p : PumpOp) (earlier : List Nat) (s : State) : (s.takes p earlier).ops =
    (foldS notePresented earlier s).ops ++ [{ p with prior := priorOf (foldS notePresented earlier s) earlier }] :=
  (congrArg (·.1) (noteXid_plant p _)).trans (noteTag_ops p _)

theorem State.takes_unpeaked (p : PumpOp) (earlier : List Nat) (s : State) (x : Nat) :
    ((s.takes p earlier).eng x).unpeaked = (s.eng x).unpeaked := by
  have hengs : (s.takes p earlier).engs = (noteTag p _).engs := congrArg (·.2.1) (noteXid_plant p _)
  rw [State.eng_of_engs hengs, noteTag_unpeaked]
  exact congrArg Engine.unpeaked (State.eng_of_engs (foldS_notePresented_notes earlier s).engs x)

/-- The operation that takes a tag is found under its number, and the others under theirs. -/
theorem State.takes_op? {p : PumpOp} (earlier : List Nat) (hid : p.id = s.nextOp) (hfree : s.op? s.nextOp = none) :
    (∀ k x, s.op? k = some x → ∃ n, x.shown ≤ n ∧ (s.takes p earlier).op? k = some { x with shown := n }) ∧
      ∃ q, (s.takes p earlier).op? s.nextOp = some q ∧ q.asPosted = p.asPosted := by
  have hnotes := foldS_notePresented_notes earlier s
  have hfind (k : Nat) : (s.takes p earlier).op? k = ((foldS notePresented earlier s).op? k).or
      (List.find? (fun o => o.id == k) [{ p with prior := priorOf (foldS notePresented earlier s) earlier }]) := by
    rw [State.op?, State.takes_ops, List.find?_append]
    rfl
  constructor
  · intro k x hk
    obtain ⟨n, hn, ht⟩ := hnotes.known k x hk
    exact ⟨n, hn, by rw [hfind, ht]; rfl⟩
  · refine ⟨{ p with prior := priorOf (foldS notePresented earlier s) earlier }, ?_, rfl⟩
    rw [hfind, hnotes.unknown _ hfree]
    simp [hid]

end
end Sys2Proof.Machine

namespace Sys2Proof.Machine

/-! ### The descriptor lane of a post (R207, R218) -/

/-- Every operand is a lane or a granule. -/
def Ins.inLanes (i : Ins) : Prop := ∀ x ∈ i.xs, x.unit % 16 = 0

theorem decodeIns_inLanes {w : Nat} {i : Ins} (h : decodeIns w = some i) : i.inLanes := by
  unfold decodeIns at h
  dsimp only at h
  split at h
  case h_15 => cases h
  all_goals
    simp only [decHalt, decTens, decTile, decVec, decRed, decCmp, decTrace, decSrnd, decDgate, decSeal, decBell, decTagwait,
      decLoop, decBr, Option.bind_eq_some_iff, Option.map_eq_some_iff] at h
    grind [ifZero, Ins.inLanes, sOp, lOp, gOp]

theorem strided_inLanes {i : Ins} (h : i.inLanes) (fs : List LoopFrame) : (i.strided fs).inLanes := fun x hx => by
  simp only [Ins.strided, List.mem_iff_getElem, List.getElem_zipWith] at hx
  obtain ⟨k, hk, rfl⟩ := hx
  exact h (i.xs[k]'(hk.trans_le (by simp))) (List.getElem_mem _)

theorem operand_unit {i : Ins} (h : i.inLanes) (k : Nat) : (i.operand k).unit % 16 = 0 := by
  unfold Ins.operand nth
  rw [List.getD_eq_getElem?_getD]
  cases hk : i.xs[k]? with
  | none => rfl
  | some x => exact h x (List.mem_of_getElem? hk)

theorem resolve_lane (s : State) (e : Nat) (r : Run) (sb : Bool) {x : Operand} (n : Nat) (wr : Bool) (h : x.unit % 16 = 0) :
    (resolve s e r sb x n wr).2 % 16 = 0 := by
  have hval : (x.val * (x.unit : Int)).toNat % 16 = 0 := by
    obtain ⟨k, hk⟩ := Nat.dvd_of_mod_eq_zero h
    have hprod : x.val * (x.unit : Int) = 16 * (x.val * k) := by rw [hk]; push_cast; ring
    omega
  unfold resolve
  dsimp only
  repeat' split
  all_goals grind

theorem State.reaches.lane_at {s : State} {e : Nat} {r : Run} {i : Ins} {v : Variant} (h : s.reaches e r i)
    (hop : i.op = .tens v) : atOf (touches s e r i) 0 % 16 = 0 := by
  obtain ⟨w, i0, -, hdec, rfl⟩ := h.word
  have hunit := operand_unit (strided_inLanes (decodeIns_inLanes hdec) r.loops) 0
  simp only [touches, Ins.uses, hop, atOf]
  exact resolve_lane s e r _ _ _ hunit

/-! ### A post at issue (R218, R230 to R235) -/

section
variable {s x : State} {e : Nat} {r : Run} {i : Ins} {v : Variant}

theorem State.primed.tensOp (h : s.primed e x) (r : Run) (i : Ins) (at_ : Nat) : tensOp x e r i at_ = tensOp s e r i at_ := by
  have href (d : Desc) : refOf x r d = refOf s r d := by rw [h.rest]; rfl
  simp only [Machine.tensOp, h.storeGet, href]

/-- A post that a program reaches waits for a tag or is accepted, with its descriptor as the store holds it (R231). -/
theorem State.reaches.tens (h : s.reaches e r i) (hop : i.op = .tens v)
    (hlocal : r.kind.isTick = true → (parseDesc (storeGet s e (atOf (touches s e r i) 0) 128)).op ≠ .remote) :
    ∃ (x : State) (o : PumpOp), s.postReads x ∧ o.unread = (Machine.tensOp s e r i (atOf (touches s e r i) 0)).unread ∧
      Machine.exec (insRow e 0 (.tens v)) s = .next (if freeTags s ≤ tagsAhead s e r.kind.isTick
        then stallPost e r v o x else acceptOp o (some v) (next e x)) := by
  have hplain : refreshed s e r i = i := refreshed_of_not_tile (by simp [hop])
  have hprimed := h.primed
  have hexec := h.exec 0
  rw [hplain] at hprimed hexec
  rw [hop] at hexec
  generalize issuing e r i s = x at hprimed hexec
  have hnot : ¬ (r.kind.isTick = true ∧ (parseDesc (Machine.storeGet x e (atOf (touches s e r i) 0) 128)).op = .remote) :=
    fun hx => hlocal hx.1 (hprimed.storeGet _ _ ▸ hx.2)
  let p := readPost e r i (atOf (touches s e r i) 0) x
  refine ⟨p.2, p.1, hprimed.postReads.trans (readEntries_postReads (by rfl) _ _),
    (readEntries_unread _ _ x).trans (congrArg PumpOp.unread (hprimed.tensOp r i _)), ?_⟩
  rw [hexec]
  simp only [perform, hop, doTens, hnot, if_false, hprimed.freeTags, hprimed.tagsAhead]
  rfl

end

/-! ### The completion word of a refused post (R275) -/

theorem memRead_memWrite_kept {m : Mem} {a : Nat} {b : Byte} (hb : b ≠ 0) : memRead (memWrite m a b) a = b := by
  have hcons (q : Mem) : memRead (memCons a b q) a = b := by
    rw [memCons, if_neg hb]
    simp [memRead]
  induction m with
  | nil => exact hcons []
  | cons c m ih =>
    obtain ⟨k, v⟩ := c
    unfold memWrite
    split
    · exact hcons _
    split
    · exact hcons _
    · next hlt hne => simp [memRead, hlt, hne, ih]

/-- The first byte that is written is read back, whatever the order of the memory, unless it is 0. -/
theorem memRead_memWriteL_kept {m : Mem} {a : Nat} {b : Byte} (bs : List Byte) (hb : b ≠ 0) :
    memRead (memWriteL m a (b :: bs)) a = b := by
  have hfirst : memRead (memWrite m a b) a = b := memRead_memWrite_kept hb
  rw [memWriteL, memRead_memWriteL_above bs (Nat.lt_succ_self a) (by rwa [hfirst]), hfirst]

theorem postFlaw_cases (s : State) (pump : Nat) (v : Option Variant) (isSup : Bool) (d : Desc) :
    postFlaw s pump v isSup d ∈ [0, 2, 3, 7] := by
  unfold postFlaw
  repeat' split
  all_goals simp

theorem postFlaw_of_flaw {s : State} {pump : Nat} {v : Option Variant} {isSup : Bool} {d : Desc}
    (h : pumpAccepts s pump = false ∨ formatBad d v isSup s.part.engines (windowWidth s d) = true ∨ alignBad d = true) :
    postFlaw s pump v isSup d = (if pumpAccepts s pump = false then 7
      else if formatBad d v isSup s.part.engines (windowWidth s d) = true then 3 else 2) := by
  unfold postFlaw
  split
  · rfl
  split
  · rfl
  · simp_all

theorem status_of_flaw {o : PumpOp} (h : o.fail ∈ [2, 3, 7]) : o.status = (o.fail, 0) := by
  have hcode : o.fail = 2 ∨ o.fail = 3 ∨ o.fail = 7 := by simpa using h
  obtain hcode | hcode | hcode := hcode <;> simp [PumpOp.status, stStill, stDisabled, stFormat, stAlign, hcode]

/-- The low byte of the completion word is the status. -/
theorem completeOp_statusByte {s : State} {e : Nat} {tick : Bool} {c : Option Nat} {o : PumpOp} (hi : o.issuer = .engine e tick c)
    (he : e < s.engs.length) (h : o.fail ∈ [2, 3, 7]) : leVal (storeGet (completeOp o s) e (16 * o.lane + 12) 1) = o.fail := by
  have hcode : o.fail = 2 ∨ o.fail = 3 ∨ o.fail = 7 := by simpa using h
  have hlow : (byte o.word32).toNat = o.fail := by
    rw [PumpOp.word32, status_of_flaw h]
    simp only [byte, BitVec.toNat_ofNat]
    omega
  have hne : byte o.word32 ≠ 0 := fun h0 => by
    rw [h0] at hlow
    change 0 = o.fail at hlow
    omega
  rw [storeGet, completeOp_store hi he, leBytes, memReadN, memReadN, memRead_memWriteL_kept _ hne]
  simpa [leVal] using hlow

section
variable {s x : State} {e : Nat} {r : Run} {o : PumpOp} {v : Option Variant} (hx : s.postReads x) (hrun : (s.eng e).run = some r)
include hx hrun

theorem State.postReads.next_eng : (next e x).eng e = { x.eng e with run := some r.advance } := by
  have hxrun : (x.eng e).run = some r := (hx.run e).trans hrun
  rw [next, State.modRun, State.eng_modEng_same _ _ _ (State.lt_engs_of_run hxrun), hxrun]
  rfl

/-- A post that waits for a tag is counted, and its program waits with the operation as read. -/
theorem State.postReads.stalls (v : Variant) :
    ((stallPost e r v o x).eng e).run = some { r with stalled := some r.pc, post := some (v.code, o), clean := false } ∧
      ((stallPost e r v o x).eng e).store = (s.eng e).store ∧
      (stallPost e r v o x).ops = s.ops ∧ (stallPost e r v o x).nextOp = s.nextOp ∧
      s.countsStall (stallPost e r v o x) := by
  have hxrun : (x.eng e).run = some r := (hx.run e).trans hrun
  have hposts := stallPost_posts (e := e) (r := r) (v := v) (o := o) x
  simp only [State.posts, Prod.mk.injEq] at hposts
  obtain ⟨hengs, -, -, -, hnext, hops⟩ := hposts
  have heng : (stallPost e r v o x).eng e = { x.eng e with run := some (r.stalls v o) } := by
    rw [State.eng_of_engs hengs, State.modRun, State.eng_modEng_same _ _ _ (State.lt_engs_of_run hxrun), hxrun]
    rfl
  obtain ⟨hbit, hcount⟩ := stallPost_countsStall (e := e) (r := r) (v := v) (o := o) x
  refine ⟨by rw [heng]; rfl, by rw [heng]; exact hx.store e, hops.trans (by rw [hx.rest]; rfl), hnext.trans (by rw [hx.rest]; rfl),
    hbit, hcount.trans (by rw [hx.rd _ _ (by decide)])⟩

/-- The program of an accepted post goes on, and the post takes a number. -/
theorem State.postReads.accepts : (∃ q, ((acceptOp o v (next e x)).eng e).run = some q ∧ q.unmarked = r.advance.unmarked) ∧
    (acceptOp o v (next e x)).nextOp = s.nextOp + 1 := by
  have hkeeps := acceptOp_keepsPosts o v (next e x)
  exact ⟨hkeeps.run (congrArg Engine.run (hx.next_eng hrun) :), hkeeps.nextOp.trans (by rw [hx.rest]; rfl)⟩

omit hrun in
theorem State.postReads.postFlaw (pump : Nat) (isSup : Bool) (d : Desc) :
    postFlaw (next e x) pump v isSup d = postFlaw s pump v isSup d := by
  have hbit : (next e x).bit PMP 0x00 (8 + pump) = s.bit PMP 0x00 (8 + pump) :=
    congrArg (wbit · (8 + pump)) (hx.rd PMP 0x00 (by decide))
  have hpump : (next e x).pump pump = s.pump pump := by rw [hx.rest]; rfl
  have hpart : (next e x).part = s.part := by rw [hx.rest]; rfl
  have hwidth : windowWidth (next e x) d = windowWidth s d := by rw [hx.rest]; rfl
  have hops : (next e x).ops = s.ops := by rw [hx.rest]; rfl
  have haccepts : pumpAccepts (next e x) pump = pumpAccepts s pump := by simp only [pumpAccepts, hbit, hpump, hops]
  simp only [Machine.postFlaw, haccepts, hpart, hwidth]

omit hx hrun in
theorem State.numbered.op?_nextOp (hn : s.numbered) : s.op? s.nextOp = none :=
  List.find?_eq_none.mpr fun p hp => by simpa using (hn.2 p hp).ne

/-- The operation of a post without a flaw is in flight, and the store is as it was (R229, R234). -/
theorem State.postReads.inFlight (hn : s.numbered) (hflaw : Machine.postFlaw s o.pump v o.issuer.isSup (parseDesc o.desc) = 0)
    (hlocal : (parseDesc o.desc).op ≠ .remote) :
    ((acceptOp o v (next e x)).eng e).run = some r.advance ∧
      ((acceptOp o v (next e x)).eng e).store = (s.eng e).store ∧
      (acceptOp o v (next e x)).ops.length = s.ops.length + 1 ∧
      (∀ k p, s.op? k = some p → ∃ n, p.shown ≤ n ∧ (acceptOp o v (next e x)).op? k = some { p with shown := n }) ∧
      ∃ p, (acceptOp o v (next e x)).op? s.nextOp = some p ∧ p.asPosted = (o.pump, o.issuer, o.handle, o.lane, o.desc, o.steps,
        !mustWait (next e x) o (parseDesc o.desc), 0, false, s.nextOp) := by
  have hfail : acceptFail o v (next e x) = 0 := by
    rw [acceptFail, hx.postFlaw (e := e)]
    simp [hflaw, hlocal]
  have hops : (next e x).ops = s.ops := by rw [hx.rest]; rfl
  have hnext : (next e x).nextOp = s.nextOp := by rw [hx.rest]; rfl
  have hop? (k : Nat) : (next e x).op? k = s.op? k := congrArg (List.find? _) hops
  rw [acceptOp_eq, if_neg (by simp [hfail])]
  generalize hearlier : notedOps o v (next e x) = earlier
  have heng := (State.takes_unpeaked (takenOp o v (next e x)) earlier (next e x) e)
  rw [hx.next_eng hrun] at heng
  obtain ⟨hknown, q, hq, hposted⟩ := State.takes_op? (s := next e x) earlier (takenOp_id o v _)
    (by rw [hop?, hnext]; exact hn.op?_nextOp)
  refine ⟨(congrArg Engine.run heng :), (congrArg Engine.store heng :).trans (hx.store e), ?_, fun k p hp => ?_, q, hnext ▸ hq,
    hposted.trans ?_⟩
  · rw [State.takes_ops, List.length_append, (foldS_notePresented_notes earlier _).count, hops]
    rfl
  · exact hknown k p ((hop? k).trans hp)
  · simp [takenOp_asPosted, hfail, hlocal, hnext]

/-- The operation of a post with a flaw completes at once, with the flaw as its status (R142, R234, R235). -/
theorem State.postReads.refused {tick : Bool} {c : Option Nat} (hi : o.issuer = .engine e tick c) (hn : s.numbered)
    (hflaw : Machine.postFlaw s o.pump v false (parseDesc o.desc) ≠ 0) :
    (acceptOp o v (next e x)).ops = s.ops ∧ ((acceptOp o v (next e x)).eng e).faulted = true ∧
      leVal (storeGet (acceptOp o v (next e x)) e (16 * o.lane + 12) 1) = Machine.postFlaw s o.pump v false (parseDesc o.desc) := by
  have hfail : acceptFail o v (next e x) = Machine.postFlaw s o.pump v false (parseDesc o.desc) := by
    rw [acceptFail, hi, hx.postFlaw (e := e)]
    exact if_pos hflaw
  have hposted := takenOp_asPosted o v (next e x)
  have hnoted : notedOps o v (next e x) = [] := if_neg (by simp [hfail, hflaw])
  rw [acceptOp_eq, if_pos (by rwa [hfail]), hnoted]
  generalize takenOp o v (next e x) = p at hposted
  simp only [PumpOp.asPosted, Prod.mk.injEq, hfail] at hposted
  obtain ⟨-, hissuer, -, hlane, -, -, -, hcode, -, hid⟩ := hposted
  have hcodes : p.fail ∈ [2, 3, 7] := by
    have := postFlaw_cases s o.pump v false (parseDesc o.desc)
    rw [hcode]
    simp_all
  have hpi := hissuer.trans hi
  have he : e < ((next e x).takes p []).engs.length := by
    have hrunning : (((next e x).takes p []).eng e).run = some r.advance :=
      (congrArg Engine.run (State.takes_unpeaked p [] (next e x) e) :).trans (by rw [hx.next_eng hrun]; rfl)
    exact State.lt_engs_of_run hrunning
  refine ⟨?_, completeOp_faulted hpi he ?_, ?_⟩
  · have hops : (foldS notePresented [] (next e x)).ops = s.ops := by rw [hx.rest]; rfl
    have hnext : p.id = s.nextOp := hid.trans (by rw [hx.rest]; rfl)
    have hothers : s.ops.filter (fun o => o.id ≠ p.id) = s.ops :=
      List.filter_eq_self.mpr fun o ho => by simpa [hnext] using (hn.2 o ho).ne
    rw [(completeOp_stock p _).1, State.takes_ops, hops, List.filter_append, hothers]
    simp
  · rw [status_of_flaw hcodes, hcode]
    rcases (by simpa [hcode] using hcodes : _ ∨ _ ∨ _) with h | h | h <;> rw [h] <;> rfl
  · rw [← hlane, ← hcode]
    exact completeOp_statusByte hpi he hcodes

end

/-- An operation whose wait has not ended is a WINDOW's. -/
theorem mustWait_window {s : State} {o : PumpOp} {d : Desc} (h : mustWait s o d = true) : d.op = .window := by
  simp only [mustWait, Bool.and_eq_true, decide_eq_true_eq] at h
  obtain ⟨⟨⟨⟨hop, -⟩, -⟩, -⟩, -⟩ := h
  exact hop

/-- The operation that a TENS has posted. -/
theorem posted_of_tens {s u : State} {e at_ : Nat} {r : Run} {i : Ins} {o p : PumpOp} {fail : Nat} {moved : Bool}
    (ho : o.unread = (tensOp s e r i at_).unread)
    (hp : p.asPosted = (o.pump, o.issuer, o.handle, o.lane, o.desc, o.steps, !mustWait u o (parseDesc o.desc), fail, moved,
      s.nextOp)) :
    p.id = s.nextOp ∧ p.pump = i.num ∧ p.handle = i.aux ∧ p.byEngine e = true ∧ p.lane = at_ / 16 ∧
      p.desc = storeGet s e at_ 128 ∧ p.tickMode = r.kind.isTick ∧ p.fail = fail ∧ p.moved = moved ∧ p.steps = 0 ∧
      (p.started = true ∨ (parseDesc (storeGet s e at_ 128)).op = .window) := by
  have hissuer : ∃ c, o.issuer = .engine e r.kind.isTick c := ⟨_, (congrArg PumpOp.issuer ho :)⟩
  have hdesc : o.desc = storeGet s e at_ 128 := (congrArg PumpOp.desc ho :)
  obtain ⟨c, hissuer⟩ := hissuer
  simp only [PumpOp.asPosted, Prod.mk.injEq] at hp
  obtain ⟨hpump, hi, hhandle, hlane, hpdesc, hsteps, hstarted, hfail, hmoved, hid⟩ := hp
  rw [hissuer] at hi
  refine ⟨hid, hpump.trans (congrArg PumpOp.pump ho :), hhandle.trans (congrArg PumpOp.handle ho :), by simp [PumpOp.byEngine, hi],
    hlane.trans (congrArg PumpOp.lane ho :), hpdesc.trans hdesc, by simp [PumpOp.tickMode, hi], hfail, hmoved,
    hsteps.trans (congrArg PumpOp.steps ho :), ?_⟩
  rw [hstarted, ← hdesc]
  cases hwait : mustWait u o (parseDesc o.desc) with
  | false => exact .inl rfl
  | true => exact .inr (mustWait_window hwait)

end Sys2Proof.Machine

namespace Sys2Proof.Machine

/-! ### The grant of a tag (R232, R233) -/

/-- A run after a grant to its mode: a post that waited has been made. -/
def Run.granted (tick : Bool) (r : Run) : Run := if r.waitsTag tick then r.posted else r

/-- An engine whose waiting post of a mode is made. -/
def Engine.granted (tick : Bool) (g : Engine) : Engine :=
  { g with run := g.run.map (Run.granted tick), susp := g.susp.map (Run.granted tick) }

section
variable {s t : State} {e : Nat} {r : Run} {tick : Bool}

theorem Engine.stalledRun_isSome (g : Engine) (tick : Bool) :
    (g.stalledRun tick).isSome = (g.run.any (·.waitsTag tick) || g.susp.any (·.waitsTag tick)) := by
  have hfilter (x : Option Run) : (x.filter (fun r => r.waitsTag tick)).isSome = x.any (·.waitsTag tick) := by
    cases x with
    | none => rfl
    | some r => cases hr : r.waitsTag tick <;> simp [Option.filter, hr]
  unfold Engine.stalledRun
  cases g.run with
  | none => simp [hfilter]
  | some r => cases hr : r.waitsTag tick <;> simp [hr, hfilter]

/-- Whether a program waits for a tag does not turn on its mark. -/
theorem Engine.stalledRun_of_programs {g g' : Engine} (h : g'.programs = g.programs) (tick : Bool) :
    (g'.stalledRun tick).isSome = (g.stalledRun tick).isSome := by
  have hany (x : Option Run) : x.any (·.waitsTag tick) = (x.map Run.unmarked).any (·.waitsTag tick) := by cases x <;> rfl
  simp only [Engine.programs, Prod.mk.injEq] at h
  simp only [Engine.stalledRun_isSome, hany g'.run, hany g'.susp, h]
  rw [← hany, ← hany]

theorem Run.granted_waitsTag (r : Run) (tick : Bool) : (r.granted tick).waitsTag (!tick) = r.waitsTag (!tick) := by
  unfold Run.granted
  split
  · next hr =>
    have hkind : r.kind.isTick = tick := by
      simp only [Run.waitsTag, Bool.and_eq_true, beq_iff_eq] at hr
      exact hr.1
    have hposted : r.posted.kind = r.kind := rfl
    simp [Run.waitsTag, hposted, hkind]
  · rfl

theorem Engine.stalledRun_granted (g : Engine) (tick : Bool) :
    ((g.granted tick).stalledRun (!tick)).isSome = (g.stalledRun (!tick)).isSome := by
  simp [Engine.stalledRun_isSome, Engine.granted, Option.any_map, Run.granted_waitsTag]

theorem Engine.stalledRun_of_run {g : Engine} (hrun : g.run = some r) (hwaits : r.waitsTag tick = true) :
    g.stalledRun tick = some r := by
  simp [Engine.stalledRun, hrun, hwaits]

theorem Run.granted_waits (hwaits : r.waitsTag tick = true) : r.granted tick = r.posted := if_pos hwaits

/-- A grant accepts the post as it was read before the stall. -/
theorem grantEngine_eq {v : Nat} {o : PumpOp} (hstall : (s.eng e).stalledRun tick = some r) (hpost : r.post = some (v, o))
    (hhalt : r.halting = false) : grantEngine tick e s =
      acceptOp { o with refCount := refOf s r (parseDesc o.desc) } (tensVariant v) (s.modEng e (Engine.granted tick)) := by
  unfold grantEngine stopHalting
  simp only [hstall, hpost, hhalt]
  split <;> rfl

theorem mem_stalledEngines : e ∈ stalledEngines s tick ↔ e < s.part.engines ∧ ((s.eng e).stalledRun tick).isSome = true := by
  simp [stalledEngines]

theorem Engine.granted_stalledEngines (s : State) (e : Nat) (tick : Bool) :
    stalledEngines (s.modEng e (Engine.granted tick)) (!tick) = stalledEngines s (!tick) := by
  have hst (x : Nat) : (((s.modEng e (Engine.granted tick)).eng x).stalledRun (!tick)).isSome =
      ((s.eng x).stalledRun (!tick)).isSome :=
    nth_modAt_keeps (fun g : Engine => (g.stalledRun (!tick)).isSome) _ _ _ _ _ fun g => g.stalledRun_granted tick
  simp only [stalledEngines, hst]
  rfl

theorem State.keepsPosts.stalledEngines (h : s.keepsPosts t) (tick : Bool) : stalledEngines t tick = stalledEngines s tick := by
  simp only [Machine.stalledEngines, Engine.stalledRun_of_programs (h.programs _), h.part]

section
variable {v : Nat} {o : PumpOp} (hrun : (s.eng e).run = some r) (hwaits : r.waitsTag tick = true)
  (hpost : r.post = some (v, o)) (hhalt : r.halting = false)
include hrun hwaits hpost hhalt

/-- The one grant: the program goes on after its post, which takes a number; no other post's wait ends (R232, R233). -/
theorem grantEngine_posts : (∃ q, ((grantEngine tick e s).eng e).run = some q ∧ q.unmarked = r.posted.unmarked) ∧
    (grantEngine tick e s).nextOp = s.nextOp + 1 ∧
    stalledEngines (grantEngine tick e s) (!tick) = stalledEngines s (!tick) ∧
    stalledSlots (grantEngine tick e s) = stalledSlots s ∧
    ∀ p, ((grantEngine tick e s).port p).peers = (s.port p).peers := by
  rw [grantEngine_eq (Engine.stalledRun_of_run hrun hwaits) hpost hhalt]
  have hkeeps := acceptOp_keepsPosts { o with refCount := refOf s r (parseDesc o.desc) } (tensVariant v)
    (s.modEng e (Engine.granted tick))
  have hgranted : ((s.modEng e (Engine.granted tick)).eng e).run = some r.posted := by
    rw [State.eng_modEng_same _ _ _ (State.lt_engs_of_run hrun), Engine.granted, hrun]
    exact congrArg some (Run.granted_waits hwaits)
  exact ⟨hkeeps.run hgranted, hkeeps.nextOp, (hkeeps.stalledEngines _).trans (Engine.granted_stalledEngines s e tick),
    hkeeps.waiting, hkeeps.peers⟩

end

theorem grantSupervisor_none (h : stalledSlots s = []) : grantSupervisor s = s := by rw [grantSupervisor, h]; rfl

theorem grantPeers_none (h : ∀ p, (s.port p).peers = []) : grantPeers s = s :=
  foldS_inv (· = s) _ (fun p u hu => by subst hu; simp [h]) _ _ rfl

theorem grantEngines_one (h : freeTags s ≠ 0) : grantEngines tick [e] s = grantEngine tick e s := by
  simp [grantEngines, foldS, h]

/-- Where one post waits, and it is an engine's, the free tags go to it. -/
theorem tagGrant_one (hfree : freeTags s ≠ 0) (hone : stalledEngines s tick = [e]) (hnone : stalledEngines s (!tick) = [])
    (hslots : stalledSlots s = []) (hpeers : ∀ p, (s.port p).peers = []) {v : Nat} {o : PumpOp} 
    (hrun : (s.eng e).run = some r) (hwaits : r.waitsTag tick = true)
    (hpost : r.post = some (v, o)) (hhalt : r.halting = false) : tagGrant s = grantEngine tick e s := by
  obtain ⟨-, -, hothers, hslots', hpeers'⟩ := grantEngine_posts hrun hwaits hpost hhalt
  unfold tagGrant
  cases tick with
  | true =>
    have hrest : grantPeers (grantSupervisor (grantEngine true e s)) = grantEngine true e s := by
      rw [grantSupervisor_none (hslots'.trans hslots), grantPeers_none fun p => (hpeers' p).trans (hpeers p)]
    have hlater : stalledEngines (grantEngine true e s) false = [] := hothers.trans hnone
    simp only [hone, grantEngines_one hfree, hrest, hlater]
    rfl
  | false =>
    have hfirst : stalledEngines s true = [] := hnone
    have hnothing : grantEngines true [] s = s := rfl
    simp only [hfirst, hnothing, grantSupervisor_none hslots, grantPeers_none hpeers, hone, grantEngines_one hfree]

/-- The one engine whose post waits is in the list of its program's mode. -/
theorem stalledEngines_one (h : stalledEngines s true ++ stalledEngines s false = [e]) (hrun : (s.eng e).run = some r)
    (hwaits : r.waitsTag tick = true) : stalledEngines s tick = [e] ∧ stalledEngines s (!tick) = [] := by
  have hpart : e < s.part.engines := by
    have hmem : e ∈ stalledEngines s true ++ stalledEngines s false := by simp [h]
    rcases List.mem_append.mp hmem with hmem | hmem <;> exact (mem_stalledEngines.mp hmem).1
  have hmem : e ∈ stalledEngines s tick := mem_stalledEngines.mpr ⟨hpart, by rw [Engine.stalledRun_of_run hrun hwaits]; rfl⟩
  have hne : stalledEngines s tick ≠ [] := List.ne_nil_of_mem hmem
  rcases List.append_eq_singleton_iff.mp h with ⟨h1, h2⟩ | ⟨h1, h2⟩ <;> cases tick <;> simp_all

end
/-! ### The statement -/

/-- Settles O28: the reads of a post leave the store, the operations and what the pumps accept (`State.postReads`); then it waits
(`State.postReads.stalls`), is in flight (`State.postReads.inFlight`) or completes at once (`State.postReads.refused`), and a grant
is such an acceptance (`tagGrant_one`). -/
theorem postsTakeTags : Obligations.PostsTakeTags := by
  unfold Obligations.PostsTakeTags
  constructor
  · intro s e r i v h hop hn at_ d hlocal
    obtain ⟨x, o, hx, ho, hexec⟩ := h.tens hop hlocal
    have hpump : o.pump = i.num := (congrArg PumpOp.pump ho :)
    have hhandle : o.handle = i.aux := (congrArg PumpOp.handle ho :)
    have hdesc : o.desc = storeGet s e at_ 128 := (congrArg PumpOp.desc ho :)
    have hlane : o.lane = at_ / 16 := (congrArg PumpOp.lane ho :)
    obtain ⟨c, hi⟩ : ∃ c, o.issuer = .engine e r.kind.isTick c := ⟨_, (congrArg PumpOp.issuer ho :)⟩
    refine ⟨fun hfree => ?_, fun hfull => ?_⟩
    · rw [if_neg (Nat.not_le.mpr hfree)] at hexec
      obtain ⟨⟨q, hq, hunmarked⟩, hnext⟩ := hx.accepts (o := o) (v := some v) h.run
      refine ⟨_, q, hexec, hq, (congrArg Run.pc hunmarked :), (congrArg Run.loops hunmarked :), hnext,
        fun haccepts hformat halign hremote => ?_, fun hflaw => ?_⟩
      · have hnone : postFlaw s o.pump (some v) o.issuer.isSup (parseDesc o.desc) = 0 := by
          simp [postFlaw, hpump, hdesc, hi, Issuer.isSup, haccepts, hformat, halign, d]
        obtain ⟨hrun, hstore, hcount, hknown, p, hp, hposted⟩ := hx.inFlight h.run hn hnone (by rw [hdesc]; exact hremote)
        exact ⟨Option.some.inj (hq.symm.trans hrun), hcount, hstore, hknown, p, hp, posted_of_tens ho hposted⟩
      · have hcode := postFlaw_of_flaw hflaw
        have hrefused := hx.refused (o := o) (v := some v) h.run hi hn
        have hbyte : 16 * o.lane + 12 = at_ + 12 := by
          have haligned : at_ % 16 = 0 := h.lane_at hop
          omega
        rw [hpump, hdesc, hcode, hbyte] at hrefused
        exact hrefused (by split <;> [decide; split <;> decide])
    · rw [if_pos hfull] at hexec
      obtain ⟨hwaits, hstore, hops, hnext, hevent, hcount⟩ := hx.stalls (o := o) h.run v
      exact ⟨_, o, hexec, hwaits, hdesc, hpump, hhandle, hlane, hops, hnext, hevent, hcount, hstore⟩
  · intro s e v r o hup hops hone hslots hpeers hrun hstall hpost hhalt
    have hwaits : r.waitsTag r.kind.isTick = true := by simp [Run.waitsTag, hstall]
    obtain ⟨hone, hnone⟩ := stalledEngines_one hone hrun hwaits
    have hfree : freeTags s ≠ 0 := by
      unfold freeTags
      omega
    obtain ⟨⟨q, hq, hposted⟩, hnext, -⟩ := grantEngine_posts hrun hwaits hpost hhalt
    rw [← tagGrant_one hfree hone hnone hslots hpeers hrun hwaits hpost hhalt] at hq hnext
    exact ⟨_, q, whenRun_of_run hup, hq, (congrArg Run.stalled hposted :), (congrArg Run.post hposted :),
      (congrArg Run.pc hposted :), hnext⟩

end Sys2Proof.Machine

/-! ## Bells and the supervisor's ports (R230, R246, R248, R250, R251, R325, R527 to R529) -/

namespace Sys2Proof.Machine

/-! ### Units that reach a bell (R246, R248, R251) -/

/-- From `s` to `t` bell `b` has let its first `m` waiters go and counts `c`. -/
structure State.rings (b c m : Nat) (s t : State) : Prop where
  bell : t.bell b = { count := c, waiters := (s.bell b).waiters.drop m }
  others : ∀ x, x ≠ b → t.bell x = s.bell x
  released : ∀ w g, w ∈ (s.bell b).waiters.take m → (s.eng w.1).run = some g → g.kind.isTick = w.2 →
    g.waitBell.isSome = true → (t.eng w.1).run = some { g.advance with waitBell := none }
  ops : t.ops = s.ops
  cist : t.cist = s.cist

section
variable {s t u : State} {b c m : Nat}

theorem State.rings.of_plant (h : s.rings b c m t) (hu : u.plant = t.plant) : s.rings b c m u := by
  simp only [State.plant, Prod.mk.injEq] at hu
  obtain ⟨hops, hengs, hbells, hcist, -⟩ := hu
  have hbell := State.bell_of_bells hbells
  exact ⟨(hbell b).trans h.bell, fun x hx => (hbell x).trans (h.others x hx),
    fun w g hw hg hk hb => by rw [State.eng_of_engs hengs]; exact h.released w g hw hg hk hb,
    hops.trans h.ops, hcist.trans h.cist⟩

theorem State.bell_modBell_same (f : Bell → Bell) (hb : b < s.bells.length) : (s.modBell b f).bell b = f (s.bell b) :=
  nth_modAt_same _ _ _ _ hb

theorem State.bell_modBell_other (f : Bell → Bell) {x : Nat} (hx : x ≠ b) : (s.modBell b f).bell x = s.bell x :=
  nth_modAt_other _ _ _ _ _ (Ne.symm hx)

/-- Bell `b` takes the count `c` and lets its first `m` waiters go. -/
def letGo (b c m : Nat) (s : State) : State :=
  foldS releaseWaiter ((s.bell b).waiters.take m) (s.modBell b (fun l => { l with count := c, waiters := l.waiters.drop m }))

theorem letGo_rings (c m : Nat) (hb : b < s.bells.length) : s.rings b c m (letGo b c m s) where
  bell := (State.bell_of_bells (foldS_releaseWaiter_bells _ _) b).trans (State.bell_modBell_same _ hb)
  others x hx := (State.bell_of_bells (foldS_releaseWaiter_bells _ _) x).trans (State.bell_modBell_other _ hx)
  released w g hw hg hk hwait := by
    have hin : (w.1, g.kind.isTick) ∈ (s.bell b).waiters.take m := by rwa [hk]
    rw [letGo, foldS_releaseWaiter_run _ (by exact hg), releasedBy, if_pos hin, releaseRun_waiting hwait]
  ops := foldS_keeps State.ops releaseWaiter (fun _ _ => rfl) _ _
  cist := foldS_keeps State.cist releaseWaiter (fun _ _ => rfl) _ _

/-- Letting waiters go touches bells and engines. -/
theorem letGo_rest (b c m : Nat) (s : State) :
    letGo b c m s = { s with bells := (letGo b c m s).bells, engs := (letGo b c m s).engs } :=
  foldS_inv (fun x : State => x = { s with bells := x.bells, engs := x.engs }) releaseWaiter
    (fun w x hx => by rw [hx]; rfl) _ _ rfl

/-- A RING of the supervisor: a bell that saturates leaves a record (R246, R250). -/
theorem supervisorRing_eq (b k : Nat) (s : State) :
    let m := min k (s.bell b).waiters.length
    let n := (s.bell b).count + (k - m)
    supervisorRing b k s =
      if 255 < n then faultRecord 8 b 0xFF 0 0x10 0 (letGo b (min 255 n) m s) else letGo b (min 255 n) m s := by
  intro m n
  by_cases hn : 255 < n
  · rw [if_pos hn]
    exact if_pos (decide_eq_true hn)
  · rw [if_neg hn]
    exact if_neg (by simpa [n, m] using hn)

/-- A RING lets waiters go as far as its units reach; only a bell that saturates leaves a record. -/
theorem supervisorRing_rings (k : Nat) (hb : b < s.bells.length) :
    let m := min k (s.bell b).waiters.length
    let n := (s.bell b).count + (k - m)
    s.rings b (min 255 n) m (supervisorRing b k s) ∧
      (n ≤ 255 → (supervisorRing b k s).faults = s.faults ∧ (supervisorRing b k s).regs = s.regs) := by
  intro m n
  have hgo : s.rings b (min 255 n) m (letGo b (min 255 n) m s) := letGo_rings _ _ hb
  have hrest := letGo_rest b (min 255 n) m s
  rw [supervisorRing_eq b k s]
  refine ⟨?_, fun hn => ?_⟩
  · split
    · exact hgo.of_plant (faultRecord_plant _ _ _ _ _ _ _)
    · exact hgo
  · rw [if_neg (Nat.not_lt.mpr hn)]
    exact ⟨(congrArg State.faults hrest :), (congrArg State.regs hrest :)⟩

section
variable (hm : s.power.mode = .run) (hb : b < 64)
include hm hb

section
variable (hlen : s.bells.length = 64)
include hlen

theorem exec_bellsWrite_loads (v : Word) :
    let m := min (wfld v 0 8) (s.bell b).waiters.length
    ∃ t, exec (.bellsWrite b v) s = .next t ∧ s.rings b (wfld v 0 8 - m) m t ∧ t.regs = s.regs := by
  intro m
  have hload : bellsWrite b v s = letGo b (wfld v 0 8 - m) m s := if_neg (Nat.not_le.mpr hb)
  refine ⟨_, whenRun_of_run hm, ?_⟩
  rw [hload]
  exact ⟨letGo_rings _ _ (hlen ▸ hb), (congrArg State.regs (letGo_rest _ _ _ s) :)⟩

variable (ha : supActs s = true)
include ha

theorem exec_supRing_rings {inc : BitVec 8} (hinc : inc ≠ 0) :
    let m := min inc.toNat (s.bell b).waiters.length
    let n := (s.bell b).count + (inc.toNat - m)
    ∃ t, exec (.supRing b inc) s = .next t ∧ s.rings b (min 255 n) m t ∧ t.sup.busError = false ∧
      (n ≤ 255 → t.faults = s.faults ∧ t.regs = s.regs) := by
  intro m n
  have hne : inc.toNat ≠ 0 := fun h => hinc (BitVec.eq_of_toNat_eq h)
  obtain ⟨hrings, hquiet⟩ := supervisorRing_rings inc.toNat (hlen ▸ hb : b < s.bells.length)
  refine ⟨_, whenSup_of_acts hm ha, ?_⟩
  rw [supRing, if_neg (Nat.not_le.mpr hb), if_neg hne]
  exact ⟨hrings.of_plant rfl, rfl, hquiet⟩

theorem exec_supTry_takes :
    ∃ t, exec (.supTry b) s = .next t ∧ t.sup.bus = some (BitVec.ofNat 32 (s.bell b).count) ∧
      t.bell b = { s.bell b with count := (s.bell b).count - 1 } ∧ (∀ x, x ≠ b → t.bell x = s.bell x) ∧
      t.engs = s.engs ∧ t.regs = s.regs := by
  refine ⟨_, whenSup_of_acts hm ha, ?_⟩
  rw [supTry, if_neg (Nat.not_le.mpr hb)]
  split
  · next h0 =>
    have hsame : { s.bell b with count := (s.bell b).count - 1 } = s.bell b := by rw [h0, Nat.zero_sub, ← h0]
    exact ⟨rfl, hsame.symm, fun _ _ => rfl, rfl, rfl⟩
  · exact ⟨rfl, State.bell_modBell_same _ (hlen ▸ hb), fun x hx => State.bell_modBell_other _ hx, rfl, rfl⟩

end

variable (ha : supActs s = true)
include ha

theorem exec_supRing_zero :
    ∃ t, exec (.supRing b 0) s = .next t ∧ t.bells = s.bells ∧ t.engs = s.engs ∧ t.regs = s.regs := by
  refine ⟨_, whenSup_of_acts hm ha, ?_⟩
  rw [supRing, if_neg (Nat.not_le.mpr hb)]
  exact ⟨rfl, rfl, rfl⟩

theorem exec_supPeek_returns :
    ∃ t, exec (.supPeek b) s = .next t ∧
      t = { s with sup := { s.sup with bus := some (BitVec.ofNat 32 (s.bell b).count), busError := false } } :=
  ⟨_, whenSup_of_acts hm ha, if_neg (Nat.not_le.mpr hb)⟩

end

end

end Sys2Proof.Machine

namespace Sys2Proof.Machine

/-! ### A post of the supervisor (R229, R230, R234, R258, R527) -/

/-- From `s` to `t` codewords of the cistern have been read, outside any tick: the banks count them and queue column tests,
and records are left. -/
structure State.listReads (s t : State) : Prop where
  rest : t = { s with banks := t.banks, regs := t.regs, sup := t.sup, faults := t.faults }
  slots : t.sup.slots = s.sup.slots
  rd : ∀ a x, key a x ≠ key DEV 0x05 → t.rd a x = s.rd a x

section
variable {s t u : State}

theorem State.listReads_refl (s : State) : s.listReads s := ⟨rfl, rfl, fun _ _ _ => rfl⟩

theorem State.listReads.trans (h : s.listReads t) (h' : t.listReads u) : s.listReads u where
  rest := by rw [h'.rest, h.rest]
  slots := h'.slots.trans h.slots
  rd a x hk := (h'.rd a x hk).trans (h.rd a x hk)

/-- An update of the banks and the fault queue. -/
theorem State.listReads_of_rest (h : t = { s with banks := t.banks, faults := t.faults }) : s.listReads t :=
  ⟨by rw [h], by rw [h], fun a x _ => by rw [h]; rfl⟩

theorem raise_listReads (i : Nat) (s : State) : s.listReads (raise i s) where
  rest := by
    unfold raise
    dsimp only
    split <;> rfl
  slots := raise_slots i s
  rd a x hk := raise_rd_other i a x s hk

theorem faultRecord_listReads (src unit chan flags detail detail2 : Nat) (s : State) :
    s.listReads (faultRecord src unit chan flags detail detail2 s) := by
  have hraise (i : Nat) (f : Faults) : s.listReads (raise i { s with faults := f }) :=
    (State.listReads_of_rest rfl).trans (raise_listReads i _)
  exact hraise _ _

theorem cistUeRecord_listReads (w : Nat) (s : State) : s.listReads (cistUeRecord none w s) :=
  (faultRecord_listReads 9 (cistBankOf (8 * w)) 0xFF 0 0 (cistWordIdx (8 * w)) s).trans (State.listReads_of_rest rfl)

theorem cistReadEvents_listReads (a n : Nat) (s : State) : s.listReads (cistReadEvents a n none s) := by
  unfold cistReadEvents
  split
  · exact s.listReads_refl
  · exact foldS_inv s.listReads _ (fun _ _ h => h.trans (State.listReads_of_rest rfl)) _ _
      (foldS_inv s.listReads _ (fun w x h => h.trans (cistUeRecord_listReads w x)) _ s s.listReads_refl)

/-- The supervisor's list entries come from the cistern. -/
theorem readEntries_listReads {o : PumpOp} {n : Nat} (hi : o.issuer = .supervisor n) (es : List Nat) (s : State) :
    s.listReads (readEntries es o s).2 := by
  induction es generalizing o s with
  | nil => exact s.listReads_refl
  | cons x es ih =>
    have hx : s.listReads (entryEvents o x s) := by
      simp only [entryEvents, hi]
      split
      · exact s.listReads_refl
      · exact cistReadEvents_listReads _ _ s
    exact hx.trans (ih ((withEntry_issuer _ _ _).trans hi) _)

theorem State.listReads.postFlaw (h : s.listReads t) (pump : Nat) (v : Option Variant) (isSup : Bool) (d : Desc) :
    postFlaw t pump v isSup d = postFlaw s pump v isSup d := by
  have hbit : t.bit PMP 0x00 (8 + pump) = s.bit PMP 0x00 (8 + pump) :=
    congrArg (wbit · (8 + pump)) (h.rd PMP 0x00 (by decide))
  have hpump : t.pump pump = s.pump pump := by rw [h.rest]; rfl
  have hpart : t.part = s.part := by rw [h.rest]
  have hwidth : windowWidth t d = windowWidth s d := by rw [h.rest]; rfl
  have hops : t.ops = s.ops := by rw [h.rest]
  have haccepts : pumpAccepts t pump = pumpAccepts s pump := by simp only [pumpAccepts, hbit, hpump, hops]
  simp only [Machine.postFlaw, haccepts, hpart, hwidth]

/-- The supervisor's operation takes its tag: no engine, no byte of the cistern and no post slot moves. -/
theorem State.takes_bySupervisor {p : PumpOp} {n : Nat} (hi : p.issuer = .supervisor n) (earlier : List Nat) (s : State) :
    ((s.takes p earlier).engs, (s.takes p earlier).cist, (s.takes p earlier).sup) = (s.engs, s.cist, s.sup) := by
  have hnoted := foldS_keeps (fun u : State => (u.engs, u.cist, u.sup)) notePresented (fun _ _ => rfl) earlier s
  have htag (u : State) : ((noteTag p u).engs, (noteTag p u).cist, (noteTag p u).sup) = (u.engs, u.cist, u.sup) := by
    simp only [noteTag, hi]
    rfl
  have hxid (u : State) : ((noteXid p u).engs, (noteXid p u).cist, (noteXid p u).sup) = (u.engs, u.cist, u.sup) := by
    unfold noteXid
    split <;> rfl
  exact ((hxid _).trans (htag _)).trans hnoted

/-- An operation of the supervisor that has no flaw and stays on the chip is in flight at its post (R229, R234). -/
theorem acceptOp_bySupervisor {o : PumpOp} {n : Nat} {v : Option Variant} (hn : s.numbered) (hi : o.issuer = .supervisor n)
    (hflaw : postFlaw s o.pump v true (parseDesc o.desc) = 0) (hlocal : (parseDesc o.desc).op ≠ .remote) :
    ((acceptOp o v s).engs, (acceptOp o v s).cist, (acceptOp o v s).sup) = (s.engs, s.cist, s.sup) ∧
      (acceptOp o v s).ops.length = s.ops.length + 1 ∧
      (∀ k x, s.op? k = some x → ∃ z, x.shown ≤ z ∧ (acceptOp o v s).op? k = some { x with shown := z }) ∧
      ∃ p, (acceptOp o v s).op? s.nextOp = some p ∧ p.id = s.nextOp ∧ p.pump = o.pump ∧ p.issuer = .supervisor n ∧
        p.desc = o.desc ∧ p.fail = 0 ∧ p.moved = false := by
  have hsup : o.issuer.isSup = true := by rw [hi]; rfl
  have hfail : acceptFail o v s = 0 := by
    rw [acceptFail, hsup]
    simp [hflaw, hlocal]
  have htaken := takenOp_asPosted o v s
  rw [acceptOp_eq, if_neg (by simp [hfail])]
  generalize notedOps o v s = earlier
  have hissuer : (takenOp o v s).issuer = .supervisor n := (congrArg (·.2.1) htaken).trans hi
  obtain ⟨hknown, p, hp, hposted⟩ := State.takes_op? (s := s) earlier (takenOp_id o v s) hn.op?_nextOp
  have hp' := hposted.trans htaken
  simp only [PumpOp.asPosted, Prod.mk.injEq, hfail] at hp'
  obtain ⟨hpump, hpi, -, -, hdesc, -, -, hpfail, hmoved, hid⟩ := hp'
  refine ⟨State.takes_bySupervisor hissuer earlier s, ?_, hknown, p, hp, hid, hpump, hpi.trans hi, hdesc, hpfail, hmoved⟩
  rw [State.takes_ops, List.length_append, (foldS_notePresented_notes earlier s).count]
  rfl

/-- Slot `n` posts to pump `p` a descriptor without a flaw: its operation is in flight, and the slot is busy. -/
theorem postSlot_inFlight {n p : Nat} (hn : s.numbered) (hslot : n < s.sup.slots.length)
    (hflaw : postFlaw s p none true (parseDesc (memReadN (s.slotOf n).desc 0 128)) = 0)
    (hlocal : (parseDesc (memReadN (s.slotOf n).desc 0 128)).op ≠ .remote) :
    ((postSlot n p s).engs = s.engs ∧ (postSlot n p s).cist = s.cist ∧ ((postSlot n p s).slotOf n).busy = true ∧
        ∀ m, m ≠ n → (postSlot n p s).slotOf m = s.slotOf m) ∧
      (postSlot n p s).ops.length = s.ops.length + 1 ∧
      (∀ k x, s.op? k = some x → ∃ z, x.shown ≤ z ∧ (postSlot n p s).op? k = some { x with shown := z }) ∧
      ∃ o, (postSlot n p s).op? s.nextOp = some o ∧ o.id = s.nextOp ∧ o.pump = p ∧ o.issuer = .supervisor n ∧
        o.desc = memReadN (s.slotOf n).desc 0 128 ∧ o.fail = 0 ∧ o.moved = false := by
  let u := s.modSlotOf n (fun l => { l with busy := true, waiting := none })
  let x := readEntries (postEntries (parseDesc (slotOp s n p).desc)) (slotOp s n p) u
  have hreads : u.listReads x.2 := readEntries_listReads rfl _ u
  have hsame : x.1.unread = (slotOp s n p).unread := readEntries_unread _ _ u
  have hpump : x.1.pump = p := (congrArg PumpOp.pump hsame :)
  have hi : x.1.issuer = .supervisor n := (congrArg PumpOp.issuer hsame :)
  have hdesc : x.1.desc = memReadN (s.slotOf n).desc 0 128 := (congrArg PumpOp.desc hsame :)
  have hops : x.2.ops = s.ops := by rw [hreads.rest]; rfl
  have hnext : x.2.nextOp = s.nextOp := by rw [hreads.rest]; rfl
  have hop? (k : Nat) : x.2.op? k = s.op? k := congrArg (List.find? _) hops
  have hxflaw : postFlaw x.2 x.1.pump none true (parseDesc x.1.desc) = 0 := by
    rw [hreads.postFlaw, hpump, hdesc]
    exact hflaw
  obtain ⟨hunits, hcount, hknown, o, ho, hid, hposted⟩ :=
    acceptOp_bySupervisor (v := none) (by rw [State.numbered, hops, hnext]; exact hn) hi hxflaw (by rw [hdesc]; exact hlocal)
  simp only [Prod.mk.injEq] at hunits
  obtain ⟨hengs, hcist, hsup⟩ := hunits
  have hslots : (postSlot n p s).sup.slots = modAt s.sup.slots n (fun l => { l with busy := true, waiting := none }) :=
    (congrArg Sup.slots hsup).trans hreads.slots
  refine ⟨⟨hengs.trans (by rw [hreads.rest]; rfl), hcist.trans (by rw [hreads.rest]; rfl), ?_, fun m hm => ?_⟩,
    hcount.trans (by rw [hops]), fun k y hk => hknown k y ((hop? k).trans hk), o, hnext ▸ ho, hid.trans hnext, ?_⟩
  · rw [State.slotOf, hslots, nth_modAt_same _ _ _ _ hslot]
  · rw [State.slotOf, hslots, nth_modAt_other _ _ _ _ _ (Ne.symm hm)]
    rfl
  · rwa [hpump, hdesc] at hposted

variable (hm : s.power.mode = .run) (ha : supActs s = true) {n : Nat} (hn8 : n < 8)
include hm ha

theorem exec_supPost_busy (k : BitVec 3) (hbusy : (s.slotOf n).busy = true) :
    ∃ t, exec (.supPost n k) s = .next t ∧ t = { s with sup := { s.sup with bus := none, busError := true } } :=
  ⟨_, whenSup_of_acts hm ha, if_pos (.inr hbusy)⟩

include hn8

/-- A post that finds a tag, with fewer than eight held, is in flight at once (R229 to R231). -/
theorem exec_supPost_inFlight (k : BitVec 3) (hn : s.numbered) (hlen : s.sup.slots.length = 8)
    (hfree : (s.slotOf n).busy = false) :
    let desc := memReadN (s.slotOf n).desc 0 128
    let d := parseDesc desc
    supHeld s < 8 → (stalledEngines s true).length < freeTags s → pumpAccepts s k.toNat = true →
    formatBad d none true s.part.engines (windowWidth s d) = false → alignBad d = false → d.op ≠ .remote →
    ∃ t o, exec (.supPost n k) s = .next t ∧ t.op? s.nextOp = some o ∧ t.ops.length = s.ops.length + 1 ∧
      (∀ m x, s.op? m = some x → ∃ z, x.shown ≤ z ∧ t.op? m = some { x with shown := z }) ∧ o.id = s.nextOp ∧
      o.pump = k.toNat ∧ o.issuer = .supervisor n ∧ o.desc = desc ∧ o.fail = 0 ∧ o.moved = false ∧
      (t.slotOf n).busy = true ∧ (∀ m, m ≠ n → t.slotOf m = s.slotOf m) ∧ t.sup.busError = false ∧ t.engs = s.engs ∧
      t.cist = s.cist := by
  intro desc d hheld htags haccepts hformat halign hlocal
  have hexec : exec (.supPost n k) s = .next (busDone (postSlot n k.toNat s)) := by
    refine (whenSup_of_acts hm ha).trans ?_
    rw [supPost, if_neg (by simp [hfree, hn8]), if_neg (by omega)]
  have hflaw : postFlaw s k.toNat none true d = 0 := by simp [postFlaw, haccepts, hformat, halign]
  obtain ⟨⟨hengs, hcist, hbusy, hothers⟩, hcount, hknown, o, ho, hid, hpump, hissuer, hdesc, hfail, hmoved⟩ :=
    postSlot_inFlight (p := k.toNat) hn (hlen ▸ hn8) hflaw hlocal
  exact ⟨_, o, hexec, ho, hcount, hknown, hid, hpump, hissuer, hdesc, hfail, hmoved, hbusy, hothers, rfl, hengs, hcist⟩

end

end Sys2Proof.Machine

namespace Sys2Proof.Machine

/-! ### Bank marks, interrupt causes and HANDOVER (R325, R528, R529) -/

section
variable {s : State}

theorem setReady_onlyChan (c : Nat) (f : Option Bool) (s : State) : s.onlyChan c (setReady c f s) := by
  have hmark := (State.onlyChan_refl c s).modChan fun ch => { ch with learn := { ch.learn with ready := true, readyForeign := f } }
  unfold setReady
  dsimp only
  split
  · exact hmark.swapBanks
  · exact hmark

theorem setReady_regs (c : Nat) (f : Option Bool) (s : State) : (setReady c f s).regs = s.regs := by
  unfold setReady
  dsimp only
  split <;> rfl

/-- A mark waits for the channel's swap; in Off the banks swap on it (R316, R317, R325). -/
theorem setReady_learn {c : Nat} (hc : c < s.chans.length) (f : Option Bool) :
    ((setReady c f s).chan c).learn =
      if (s.chan c).st = .off then
        { (s.chan c).learn with
          active := !(s.chan c).learn.active, ready := false, readyForeign := none, hold := false, clear := true,
          foreign := f.getD (s.chan c).learn.foreign, swaps := ((s.chan c).learn.swaps + 1) % 0x10000, imports := [],
          epochs := (s.chan c).learn.epochs + 1 }
      else { (s.chan c).learn with ready := true, readyForeign := f } := by
  unfold setReady
  dsimp only
  split
  · simp [swapBanks, State.modDrift, State.modLearn, State.chan_modChan_same, hc]
  · rw [State.modLearn, State.chan_modChan_same _ _ _ hc]

/-- A word for TB_SRC selects the timebase, whatever LOCK holds. -/
theorem supWrite_selectsCrystal (s : State) : supWrite CRY 0x0B 1 s = s.wr CRY 0x0B 1 := by
  have hinfo : regInfo s.part s.straps CRY 0x0B = some { rw := 0x0001, wsc := 0xC000, home := .crypt } := rfl
  have hput := wordWrite_regPut (sup := true) (lk := locked s) (v := 1) hinfo rfl rfl
    (by rw [changesLocked_of_no_rwl (by decide) rfl, Bool.and_false]) rfl
  rw [supWrite, hput]
  rfl

variable (hm : s.power.mode = .run) (ha : supActs s = true)
include hm ha

theorem exec_bankReadyMark_marks {c : Nat} (foreign : Bool) (hc : c < 16) (hlen : s.chans.length = 16)
    (hsweep : (s.chan c).learn.sweepOn = false) (hready : (s.chan c).learn.ready = false) :
    ∃ t, exec (.bankReadyMark c foreign) s = .next t ∧ t.sup.busError = false ∧
      ((s.chan c).st ≠ .off → (t.chan c).learn.ready = true ∧ (t.chan c).learn.readyForeign = some foreign ∧
        (t.chan c).learn.active = (s.chan c).learn.active) ∧
      ((s.chan c).st = .off → (t.chan c).learn.ready = false ∧ (t.chan c).learn.foreign = foreign ∧
        (t.chan c).learn.active = !(s.chan c).learn.active) ∧
      (∀ x, x ≠ c → t.chan x = s.chan x) ∧ t.engs = s.engs ∧ t.regs = s.regs := by
  have honly := setReady_onlyChan c (some foreign) s
  have hlearn := setReady_learn (hlen ▸ hc) (some foreign)
  refine ⟨_, whenSup_of_acts hm ha, ?_⟩
  rw [bankReadyMark, if_neg (by simp [hc, hsweep, hready])]
  refine ⟨rfl, fun hst => ?_, fun hst => ?_, honly.others, honly.engs, setReady_regs c _ s⟩
  · rw [if_neg hst] at hlearn
    exact ⟨(congrArg Learn.ready hlearn :), (congrArg Learn.readyForeign hlearn :), (congrArg Learn.active hlearn :)⟩
  · rw [if_pos hst] at hlearn
    exact ⟨(congrArg Learn.ready hlearn :), (congrArg Learn.foreign hlearn :), (congrArg Learn.active hlearn :)⟩

theorem exec_bankReadyMark_refused {c : Nat} (foreign : Bool)
    (hbusy : (s.chan c).learn.sweepOn = true ∨ (s.chan c).learn.ready = true) :
    ∃ t, exec (.bankReadyMark c foreign) s = .next t ∧ t.sup.busError = true ∧ t.chans = s.chans := by
  refine ⟨_, whenSup_of_acts hm ha, ?_⟩
  rw [bankReadyMark, if_pos (.inr hbusy)]
  exact ⟨rfl, rfl⟩

theorem exec_intCauseClear_clears (v : W32) :
    ∃ t, exec (.intCauseClear v) s = .next t ∧
      (∀ j, j < 3 → t.sup.cause.getLsbD j = (s.sup.cause.getLsbD j && !v.getLsbD j)) ∧
      t = { s with sup := { s.sup with cause := t.sup.cause, bus := none, busError := false } } := by
  refine ⟨_, whenSup_of_acts (f := fun s => busDone (causeClear v s)) hm ha, fun j hj => ?_, rfl⟩
  have hseven : (7 : W32).getLsbD j = true := by
    interval_cases j <;> rfl
  have hwidth : decide (j < 32) = true := decide_eq_true (by omega)
  change (s.sup.cause &&& ~~~(v &&& 7)).getLsbD j = _
  rw [BitVec.getLsbD_and, BitVec.getLsbD_not, BitVec.getLsbD_and, hseven, hwidth, Bool.true_and, Bool.and_true]

theorem exec_handover_ready (h : s.sup.image = false ∨ s.sup.ready = true ∨ s.tbase.xtalOk = false) :
    ∃ t, exec .handover s = .next t ∧
      t = { s with sup := { s.sup with ready := true, bus := none, busError := false } } := by
  have hstays : (s.sup.image && !s.sup.ready && s.tbase.xtalOk) = false := by
    obtain h | h | h := h <;> simp [h]
  refine ⟨_, whenSup_of_acts hm ha, ?_⟩
  rw [stewardHandover, hstays]
  rfl

/-- The firmware of a checked image selects a good crystal before it hands over (R529). -/
theorem exec_handover_selectsCrystal (hs : s.sound) (himage : s.sup.image = true) (hready : s.sup.ready = false)
    (hxtal : s.tbase.xtalOk = true) :
    ∃ t, exec .handover s = .next t ∧ t.bit CRY 0x0B 0 = true ∧
      (∀ t' r', key t' r' ≠ key CRY 0x0B → t.rd t' r' = s.rd t' r') ∧
      t = { s with regs := t.regs, sup := { s.sup with ready := true, bus := none, busError := false } } := by
  have hselects : (s.sup.image && !s.sup.ready && s.tbase.xtalOk) = true := by simp [himage, hready, hxtal]
  have hrd : (s.wr CRY 0x0B 1).rd CRY 0x0B = 1 := State.rd_wr_same s _ _ _ hs.regs.1
  refine ⟨_, whenSup_of_acts hm ha, ?_⟩
  rw [stewardHandover, hselects, if_pos rfl, supWrite_selectsCrystal]
  exact ⟨congrArg (wbit · 0) hrd, fun t' r' hk => State.rd_wr_other s _ _ _ _ _ hk, rfl⟩

end

/-- Settles O39: a RING, a TRY and a host's word reach one bell and the engines whose programs it lets go (`State.rings`), a post
reads its list and is in flight (`postSlot_inFlight`), and each other port touches its own unit. -/
theorem bellsAndSupervisorPorts : Obligations.BellsAndSupervisorPorts := by
  unfold Obligations.BellsAndSupervisorPorts
  constructor
  · intro s b _ hm hb hlen l
    refine ⟨fun ha => ⟨fun inc hinc => ?_, exec_supRing_zero hm hb ha, exec_supTry_takes hm hb hlen ha,
      exec_supPeek_returns hm hb ha⟩, fun v => ?_⟩
    · obtain ⟨t, hexec, hrings, herror, hquiet⟩ := exec_supRing_rings hm hb hlen ha hinc
      exact ⟨t, hexec, hrings.bell, hrings.others, hrings.released, herror, hrings.cist, hrings.ops, hquiet⟩
    · obtain ⟨t, hexec, hrings, hregs⟩ := exec_bellsWrite_loads hm hb hlen v
      exact ⟨t, hexec, hrings.bell, hrings.others, hrings.released, hregs, hrings.ops, hrings.cist⟩
  · intro p s hp hs hn hm ha
    obtain ⟨-, hshape⟩ := hp
    have hchans : s.chans.length = 16 := congrArg Shape.chans hshape
    have hslots : s.sup.slots.length = 8 := congrArg Shape.slots hshape
    exact ⟨fun n k hn8 => exec_supPost_inFlight hm ha hn8 k hn hslots, fun n k _ => exec_supPost_busy hm ha k,
      fun c foreign hc => exec_bankReadyMark_marks hm ha foreign hc hchans,
      fun c foreign _ => exec_bankReadyMark_refused hm ha foreign, exec_intCauseClear_clears hm ha,
      exec_handover_ready hm ha, exec_handover_selectsCrystal hm ha hs⟩

end Sys2Proof.Machine

/-! ## What refutes the statement of the pump rows (R264)

A FILL of zeros takes the first of two entries for a byte out of a store that is not in canonical form, and the second is
read. -/

namespace Sys2Proof.Machine

/-- The descriptor of a FILL of one lane of the posting engine's store, at 0x10000, with the value 0. -/
def zeroLaneDesc : List Byte := memReadN [(0, 6), (1, 1), (16, 1), (80, 2), (86, 1), (108, 1)] 0 128

/-- A FILL of a lane with zeros that engine 0 posted, none of whose pieces has moved. -/
def zeroFill : PumpOp := { movedCopy with desc := zeroLaneDesc, moved := false }

/-- The machine after reset with `zeroFill` in flight and a store of engine 0 that lists the lane's first byte twice. -/
def fillOverTwice : State :=
  { State.reset.modEng 0 (fun g => { g with store := [(0x10000, 1), (0x10000, 2)] }) with ops := [zeroFill], nextOp := 1 }

theorem zeroFill_units : unitPairs (parseDesc zeroLaneDesc) = [(none, some 0x10000)] := by decide +kernel

/-- The FILL leaves the second entry of the byte. -/
theorem fillOverTwice_fills :
    ∃ t, exec (.pumpFill 0 0) fillOverTwice = .next t ∧ storeGet t 0 0x10000 16 = 2 :: List.replicate 15 0 := by
  have hrun : (match exec (.pumpFill 0 0) fillOverTwice with
      | .next t => decide (storeGet t 0 0x10000 16 = 2 :: List.replicate 15 0)
      | _ => false) = true := by decide +kernel
  split at hrun
  · next t ht => exact ⟨t, ht, of_decide_eq_true hrun⟩
  · cases hrun

theorem fillOverTwice_numbered : fillOverTwice.numbered :=
  ⟨List.pairwise_singleton _ _, by simp [fillOverTwice, zeroFill, movedCopy]⟩

/-- Refutes O30: its states are numbered but need not be sound. In `fillOverTwice` a FILL with the value 0 leaves a byte of its
lane reading 2. -/
theorem not_pumpRows : ¬ Obligations.PumpRows := by
  unfold Obligations.PumpRows
  rintro ⟨-, -, h⟩
  have hunits : unitPairs (parseDesc zeroFill.desc) = [(none, some 0x10000)] := zeroFill_units
  have hfill : (parseDesc zeroFill.desc).op = .fill := by decide +kernel
  have hallowed : storeRefused fillOverTwice 0 false true [0x10000] = false := by decide +kernel
  obtain ⟨row, t, -, hrow, ht, -, -, -, -, -, hlanes, -⟩ :=
    h fillOverTwice 0 0 0 false none zeroFill fillOverTwice_numbered rfl rfl rfl (by decide) rfl rfl rfl rfl rfl rfl
      (fun p hp => nomatch hp) (.inr ⟨hfill, by decide +kernel⟩) (by decide +kernel)
      (by simp [hunits]) (by simpa [hunits] using hallowed) (by simp [hunits])
  obtain ⟨t', ht', hread⟩ := fillOverTwice_fills
  rw [hfill] at hrow
  cases hrow
  cases ht.symm.trans ht'
  have hzeros := hlanes (none, some 0x10000) (by simp [hunits]) 0x10000 rfl
  exact absurd (hread.symm.trans hzeros) (by decide +kernel)

end Sys2Proof.Machine

namespace Sys2Proof.Machine

/-! ## A sequenced frame that an Up port expects (R434 to R440) -/

/-- What serving a peer looks at of a port: its blocks, the frames queued, the credits granted, the pump next in turn, and the
frames held for their order. -/
def Port.service (q : Port) : List PeerBlock × List TxFrame × Nat × Bool × List (Nat × List Byte) :=
  (q.peers, q.queue, q.granted, q.turn, q.held)

/-- From `s` to `t` only ports have changed, and of no port what serving a peer looks at. -/
structure State.keepsService (s t : State) : Prop where
  rest : t = { s with ports := t.ports }
  service : ∀ n, (t.port n).service = (s.port n).service
  count : t.ports.length = s.ports.length

section
variable {s t u : State} {p : Nat} {bs : List Byte}

theorem State.keepsService_refl (s : State) : s.keepsService s := ⟨rfl, fun _ => rfl, rfl⟩

theorem State.keepsService.trans (h : s.keepsService t) (h' : t.keepsService u) : s.keepsService u where
  rest := by rw [h'.rest, h.rest]
  service n := (h'.service n).trans (h.service n)
  count := h'.count.trans h.count

theorem State.modPort_keepsService (s : State) (p : Nat) {f : Port → Port} (hf : ∀ q, (f q).service = q.service) :
    s.keepsService (s.modPort p f) :=
  ⟨rfl, fun _ => nth_modAt_keeps Port.service _ _ _ _ _ hf, modAt_length _ _ _⟩

theorem takeAck_keepsService (p a : Nat) (s : State) : s.keepsService (takeAck p a s) := by
  unfold takeAck
  dsimp only
  split
  · exact s.keepsService_refl
  · exact s.modPort_keepsService p fun _ => rfl

/-- A port that has been granted credits up to `c` (R440). -/
def Port.credited (c : Nat) (q : Port) : Port := if seqFrom c q.limit then { q with limit := c } else q

theorem takeCredit_eq (p c : Nat) (s : State) : takeCredit p c s = s.modPort p (Port.credited c) := rfl

theorem Port.credited_keeps (c : Nat) (q : Port) : (q.credited c).service = q.service ∧ (q.credited c).expect = q.expect := by
  unfold Port.credited
  split <;> exact ⟨rfl, rfl⟩

theorem takeCredit_keepsService (p c : Nat) (s : State) : s.keepsService (takeCredit p c s) :=
  s.modPort_keepsService p fun q => (q.credited_keeps c).1

theorem advanceE_keepsService (p : Nat) (s : State) : s.keepsService (advanceE p s) := s.modPort_keepsService p fun _ => rfl

theorem ensureAck_keepsService (p : Nat) (s : State) : s.keepsService (ensureAck p s) := by
  unfold ensureAck
  split
  · exact s.keepsService_refl
  · exact s.modPort_keepsService p fun _ => rfl

/-- The frame in `bs` arrives at the Up port `p` as the next in order, and none waits for it. -/
structure State.expects (s : State) (p : Nat) (bs : List Byte) : Prop where
  run : s.power.mode = .run
  link : p < s.part.links
  port : p < s.ports.length
  up : (s.port p).st = .up
  held : (s.port p).held = []
  kept : frameKept s (unpadded bs) = true
  next : (parseFrame (unpadded bs)).seq = (s.port p).expect

theorem deliverHeld_none (n : Nat) (h : (s.port p).held = []) : deliverHeld n p s = s := by
  cases n with
  | zero => rfl
  | succ n => simp [deliverHeld, h]

/-- The state in which a frame that is expected acts: its ACK and CREDIT taken, and E past it. -/
@[irreducible] def arrivedState (s : State) (p : Nat) (bs : List Byte) : State :=
  let f := parseFrame (unpadded bs)
  advanceE p (takeCredit p f.credit (takeAck p f.ack s))

theorem arrivedState_keepsService (s : State) (p : Nat) (bs : List Byte) : s.keepsService (arrivedState s p bs) := by
  unfold arrivedState
  exact ((takeAck_keepsService _ _ _).trans (takeCredit_keepsService _ _ _)).trans (advanceE_keepsService _ _)

theorem State.modPort_expect (s : State) (p : Nat) {f : Port → Port} (hf : ∀ q, (f q).expect = q.expect) (n : Nat) :
    ((s.modPort p f).port n).expect = (s.port n).expect := nth_modAt_keeps Port.expect _ _ _ _ _ hf

theorem takeAck_expect (p a : Nat) (s : State) : ((takeAck p a s).port p).expect = (s.port p).expect := by
  unfold takeAck
  dsimp only
  split
  · rfl
  · exact s.modPort_expect p (fun _ => by rfl) p

theorem takeCredit_expect (p c : Nat) (s : State) : ((takeCredit p c s).port p).expect = (s.port p).expect := by
  rw [takeCredit_eq, s.modPort_expect p fun q => (q.credited_keeps c).2]

theorem resequence_expected (hnext : (parseFrame bs).seq = (s.port p).expect)
    (hheld : ((deliverFrame p bs (advanceE p s)).port p).held = []) :
    resequence p bs s = ensureAck p (deliverFrame p bs (advanceE p s)) := by
  unfold resequence
  dsimp only
  rw [if_pos (by omega), deliverHeld_none 8 hheld]

/-- A row whose frame is expected delivers it; what follows on the lanes leaves the service as it is. -/
theorem State.expects.delivers (h : s.expects p bs) {row : Instr} {typ : Nat}
    (hrow : exec row s = whenRun (forPort p (receive typ p bs)) s) (hseq : 8 ≤ typ)
    (htyp : (parseFrame (unpadded bs)).typ = typ)
    (hheld : ((deliverFrame p (unpadded bs) (arrivedState s p bs)).port p).held = []) :
    ∃ t, exec row s = .next t ∧ (deliverFrame p (unpadded bs) (arrivedState s p bs)).keepsService t := by
  have hexpect : (parseFrame (unpadded bs)).seq = ((takeCredit p (parseFrame (unpadded bs)).credit
      (takeAck p (parseFrame (unpadded bs)).ack s)).port p).expect := by
    rw [takeCredit_expect, takeAck_expect]
    exact h.next
  have hne : ∀ k, k < 8 → (parseFrame (unpadded bs)).typ ≠ k := fun k hk => by omega
  unfold arrivedState at hheld ⊢
  refine ⟨_, hrow.trans ?_, ensureAck_keepsService p _⟩
  rw [whenRun_of_run h.run, forPort, if_pos h.link]
  unfold receive
  dsimp only
  rw [if_neg (fun hn => hn.1 h.up), if_neg (by simp [h.kept]), if_neg (by simp [htyp, h.up])]
  unfold takeFrame
  dsimp only
  iterate 4 rw [if_neg (hne _ (by decide))]
  rw [resequence_expected hexpect hheld]

end

/-! ## What service does at its port (R440, R453) -/

section
variable {s t : State} {p : Nat}

/-- A port from whose list the blocks `gone` leave, and from whose buffer what they hold. -/
def Port.without (gone : PeerBlock → Bool) (q : Port) : Port :=
  { q with peers := q.peers.filter (fun b => !gone b),
           granted := (q.granted + ((q.peers.filter gone).map PeerBlock.holds).foldl (· + ·) 0) % 65536 }

/-- Port `q` with its last block done and `n` credits granted again, and the answer `f` queued. -/
def Port.answered (q : Port) (n : Nat) (f : TxFrame) : Port :=
  { q with peers := [], granted := (q.granted + n) % 65536, queue := q.queue ++ [f] }

/-- Ports with the same traffic are the same to serving a peer once they have been answered. -/
theorem Port.answered_service {q r : Port} (hqueue : q.queue = r.queue) (hgranted : q.granted = r.granted)
    (hheld : q.held = r.held) (n : Nat) (f : TxFrame) (turn : Bool) :
    ({ q.answered n f with turn := turn } : Port).service = ({ r.answered n f with turn := turn } : Port).service := by
  simp only [Port.service, Port.answered, hqueue, hgranted, hheld]

section
variable (hp : p < s.ports.length)
include hp

theorem enqueue_port (f : TxFrame) : (enqueue p f s).port p = { s.port p with queue := (s.port p).queue ++ [f] } :=
  State.port_modPort_same hp _

theorem leaveBuffer_port (n : Nat) :
    (leaveBuffer p n s).port p = { s.port p with granted := ((s.port p).granted + n) % 65536 } := State.port_modPort_same hp _

theorem modBlock_port (x e : Nat) (f : PeerBlock → PeerBlock) : (modBlock p x e f s).port p =
    { s.port p with peers := (s.port p).peers.map (fun c => if c.is x e then f c else c) } := State.port_modPort_same hp _

theorem dropBlocks_port (gone : PeerBlock → Bool) : (dropBlocks p gone s).port p = (s.port p).without gone := by
  rw [dropBlocks, leaveBuffer_port (Nat.lt_of_lt_of_eq hp (modAt_length _ _ _).symm), State.port_modPort_same hp]
  rfl

end

theorem leaveBuffer_plant (n : Nat) (s : State) : (leaveBuffer p n s).plant = s.plant := rfl

theorem leaveBuffer_regs (n : Nat) (s : State) : (leaveBuffer p n s).regs = s.regs := rfl

@[simp] theorem leaveBuffer_count (n : Nat) : (leaveBuffer p n s).ports.length = s.ports.length := modAt_length _ _ _

@[simp] theorem modBlock_count (x e : Nat) (f : PeerBlock → PeerBlock) : (modBlock p x e f s).ports.length = s.ports.length :=
  modAt_length _ _ _

@[simp] theorem dropBlocks_count (gone : PeerBlock → Bool) : (dropBlocks p gone s).ports.length = s.ports.length :=
  (modAt_length _ _ _).trans (modAt_length _ _ _)

theorem dropBlocks_onlyPort {r : State} (h : r.onlyPort p s) (gone : PeerBlock → Bool) : r.onlyPort p (dropBlocks p gone s) :=
  (h.modPort _).modPort _

theorem PeerBlock.is_self (b : PeerBlock) : b.is b.xid b.block = true := by simp [PeerBlock.is]

theorem PeerBlock.holds_of_no_data {b : PeerBlock} (h : b.data = []) : b.holds = b.credit := by simp [PeerBlock.holds, h]

/-- A block that waits alone leaves an empty list. -/
theorem dropBlock_port_alone (hp : p < s.ports.length) {b c : PeerBlock} (hpeers : (s.port p).peers = [c])
    (his : c.is b.xid b.block = true) : (dropBlock p b.xid b.block s).port p =
      { s.port p with peers := [], granted := ((s.port p).granted + c.holds) % 65536 } := by
  rw [dropBlock, dropBlocks_port hp]
  simp [Port.without, hpeers, his]

/-! ### The order of service -/

theorem servePort_none (n : Nat) (h : (s.port p).peers = []) : servePort n p s = s := by
  cases n with
  | zero => rfl
  | succ n => simp [servePort, serveNext, h]

/-- A block that waits alone is served, and then none waits. -/
theorem serveAll_alone {b : PeerBlock} (hpeers : (s.port p).peers = [b]) (hnext : serveNext false p s = (t, true))
    (hdone : (t.port p).peers = []) : serveAll p s = t := by
  rw [serveAll, hpeers]
  show servePort 2 p s = t
  rw [servePort, hnext]
  exact servePort_none 1 hdone

/-- The pump that serves the next block of port `p`, if there is one, takes it at once. -/
def pumpReady (s : State) (p : Nat) : Prop :=
  ∀ k, servingPump s p = some k → pumpAsleep s k = false ∧ peerHeld s k < 16 ∧
    (stalledEngines s true).length + slotsAhead s + peersAhead s p < freeTags s

/-- Port `p` turns to its other pump. -/
def turnPort (p : Nat) (s : State) : State := s.modPort p (fun q => { q with turn := !q.turn })

section
variable {b : PeerBlock} (hpeers : (s.port p).peers = [b]) (hop : b.op = none)
include hpeers hop

theorem serveNext_unserved (hpump : servingPump s p = none) : serveNext false p s = (refuseBlock p b s, true) := by
  simp [serveNext, hpeers, hop, hpump]

theorem serveNext_served {k : Nat} (hpump : servingPump s p = some k) (hready : pumpReady s p) :
    serveNext false p s = (startBlock p k b (turnPort p s), true) := by
  obtain ⟨hawake, hheld, htags⟩ := hready k hpump
  unfold serveNext
  simp only [hpeers, List.find?_cons, hop, Option.isNone_none, hpump, hawake]
  rw [if_neg (by simp), if_neg (by omega), if_neg (by simpa using htags)]
  rfl

end

/-- A block that waits alone and is refused leaves its port with the answer queued; nothing else changes. -/
theorem refuseBlock_alone (hp : p < s.ports.length) {b : PeerBlock} (hpeers : (s.port p).peers = [b]) (hdata : b.data = []) :
    (refuseBlock p b s).port p = (s.port p).answered b.credit (answer b lfRefuse 0 []) ∧
      s.onlyPort p (refuseBlock p b s) := by
  refine ⟨?_, (dropBlocks_onlyPort (State.onlyPort_refl p s) _).modPort _⟩
  rw [refuseBlock, enqueue_port (by simpa [dropBlock] using hp), dropBlock_port_alone hp hpeers b.is_self,
    PeerBlock.holds_of_no_data hdata]
  rfl

end

end Sys2Proof.Machine

namespace Sys2Proof.Machine

/-! ## Lanes that make up pieces (R269, R279)

Lanes that join stand in one line of 128 bytes, so one page translates them all. -/

section
variable {α : Type} {addr : α → Option Int}

/-- `y` goes on with the piece that ends at `x`. -/
def piecesJoin (addr : α → Option Int) (x y : α) : Prop := ∃ a b, addr x = some a ∧ addr y = some b ∧ joins a b = true

theorem goesOn_joinLine {cur : List α} {y : α} (h : goesOn addr joinLine cur y = true) :
    ∃ x ∈ cur.head?, piecesJoin addr x y := by
  unfold goesOn at h
  split at h
  · next a b ha hb =>
    obtain ⟨x, hx, hax⟩ := Option.bind_eq_some_iff.mp ha
    exact ⟨x, hx, a, b, hax, hb, h⟩
  · simp at h

theorem groupFrom_flatten (join : Nat → Int → Int → Bool) (xs cur : List α) :
    (groupFrom addr join xs cur).flatten = cur.reverse ++ xs := by
  have hshut (cur : List α) : (if cur.isEmpty then ([] : List (List α)) else [cur.reverse]).flatten = cur.reverse := by
    cases cur <;> simp
  induction xs generalizing cur with
  | nil => rw [groupFrom, hshut, List.append_nil]
  | cons x xs ih =>
    rw [groupFrom]
    split
    · simp [ih]
    · rw [List.flatten_append, hshut, ih]
      simp

theorem groupFrom_chain {xs cur : List α} (hcur : cur.reverse.IsChain (piecesJoin addr)) :
    ∀ g ∈ groupFrom addr joinLine xs cur, g.IsChain (piecesJoin addr) := by
  have hshut (cur g : List α) (hcur : cur.reverse.IsChain (piecesJoin addr))
      (hg : g ∈ (if cur.isEmpty then ([] : List (List α)) else [cur.reverse])) : g.IsChain (piecesJoin addr) := by
    split at hg
    · simp at hg
    · rw [List.mem_singleton.mp hg]
      exact hcur
  induction xs generalizing cur with
  | nil => exact fun g hg => hshut cur g hcur hg
  | cons x xs ih =>
    rw [groupFrom]
    split
    · next hon =>
      obtain ⟨y, hy, hjoin⟩ := goesOn_joinLine hon
      refine ih ?_
      rw [List.reverse_cons, List.isChain_append]
      refine ⟨hcur, List.isChain_singleton _, fun a ha b hb => ?_⟩
      rw [List.getLast?_reverse] at ha
      simp only [List.head?_cons, Option.mem_def, Option.some.injEq] at hb
      cases ha.symm.trans hy
      exact hb ▸ hjoin
    · intro g hg
      rcases List.mem_append.mp hg with hg | hg
      · exact hshut cur g hcur hg
      · exact ih (List.isChain_singleton _) g hg

theorem groupBy_flatten (join : Nat → Int → Int → Bool) (xs : List α) : (groupBy addr join xs).flatten = xs :=
  groupFrom_flatten join xs []

theorem groupBy_chain (xs : List α) : ∀ g ∈ groupBy addr joinLine xs, g.IsChain (piecesJoin addr) := groupFrom_chain .nil

end

/-- Entry `n` of context `x` is valid and gives the right that the access needs, to a peer where one makes it (R280). -/
def pageOpen (s : State) (x : Nat) (k : AccessKind) (peer : Bool) (n : Nat) : Bool :=
  wbit (pageWord s x n 1) 15 && wbit (pageWord s x n 1) (match k with | .read => 14 | .write => 13) &&
    (!peer || wbit (pageWord s x n 1) 12)

section
variable {s : State} {x : Nat} {kind : AccessKind} {peer : Bool} {a b : Int} {n : Nat}

theorem translate_eq_some : translate s x kind peer a = some n ↔
    0 ≤ a ∧ a ≤ 0x7FFFFF ∧ pageOpen s x kind peer (a.toNat / 0x10000) = true ∧
      wfld (pageWord s x (a.toNat / 0x10000) 0) 0 9 * 0x10000 + a.toNat % 0x10000 = n := by
  have hopen : translate s x kind peer a = if a < 0 ∨ a > 0x7FFFFF then none else
      if pageOpen s x kind peer (a.toNat / 0x10000) = true then
        some (wfld (pageWord s x (a.toNat / 0x10000) 0) 0 9 * 0x10000 + a.toNat % 0x10000) else none := by
    cases kind <;> rfl
  rw [hopen]
  split
  · simp
    omega
  · next hin =>
    split
    · next hok => simp [hok, show 0 ≤ a ∧ a ≤ 0x7FFFFF by omega]
    · next hno => simp [hno]

theorem joins_iff : joins a b = true ↔ b = a + 16 ∧ a / 128 = b / 128 := by simp [joins]

/-- An address that joins one that is translated is translated to the lane behind it. -/
theorem translate_joins (h : translate s x kind peer a = some n) (hj : joins a b = true) :
    translate s x kind peer b = some (n + 16) := by
  obtain ⟨rfl, hline⟩ := joins_iff.mp hj
  obtain ⟨hlow, hhigh, hopen, hn⟩ := translate_eq_some.mp h
  have hpage : (a + 16).toNat / 0x10000 = a.toNat / 0x10000 := by omega
  rw [translate_eq_some, hpage]
  exact ⟨by omega, by omega, hopen, by omega⟩

/-- Translation keeps the place in a lane. -/
theorem translate_mod (h : translate s x kind peer a = some n) : (n : Int) % 16 = a % 16 := by
  obtain ⟨hlow, -, -, hn⟩ := translate_eq_some.mp h
  omega

end

section
variable {α β : Type}

/-- Grouping looks at the addresses alone. -/
theorem groupBy_map (addr : β → Option Int) (join : Nat → Int → Int → Bool) (f : α → β) (xs : List α) :
    groupBy addr join (xs.map f) = (groupBy (fun x => addr (f x)) join xs).map (List.map f) := by
  have hon (cur : List α) (x : α) : goesOn addr join (cur.map f) (f x) = goesOn (fun x => addr (f x)) join cur x := by
    cases cur <;> simp [goesOn]
  have hfrom (cur : List α) : groupFrom addr join (xs.map f) (cur.map f) =
      (groupFrom (fun x => addr (f x)) join xs cur).map (List.map f) := by
    induction xs generalizing cur with
    | nil => cases cur <;> simp [groupFrom]
    | cons x xs ih =>
      simp only [List.map_cons, groupFrom, hon]
      split
      · exact ih (x :: cur)
      · rw [List.map_append, ← ih [x]]
        cases cur <;> simp
  exact hfrom []

theorem piecesJoin_some {addr : α → Int} {x y : α} :
    piecesJoin (fun x => some (addr x)) x y ↔ joins (addr x) (addr y) = true := by simp [piecesJoin]

end

/-! ## What a peer's lanes read and write at a cistern without errors (R269, R451, R452) -/

/-- No codeword of the cistern is uncorrectable, and every bank answers. -/
structure State.cistWhole (s : State) : Prop where
  ue : s.cistUe = []
  alive : ∀ b, bankDead s b = false

theorem State.cistWhole.bank {s : State} (h : s.cistWhole) (b : Nat) :
    (s.bank b).retired = false ∧ (s.bank b).fenced = false := by
  have halive := h.alive b
  simp only [bankDead, Bool.or_eq_false_iff] at halive
  exact halive.symm

/-- From `s` to `t` only counts and column tests of banks have changed, and the cistern is whole. -/
structure State.readsWhole (s t : State) : Prop where
  rest : t = { s with banks := t.banks }
  whole : t.cistWhole

/-- From `s` to `t` the cistern has been written, and is whole. -/
structure State.writesWhole (s t : State) : Prop where
  rest : t = { s with cist := t.cist, cistCe := t.cistCe }
  whole : t.cistWhole

/-- The lane that an access reads at an address. -/
def readLane (s : State) (x : Access) (a : Int) : List Byte := cistGet s ((translate s x.ctx .read x.peer a).getD 0) 16

/-- Where an access writes a lane, and the lane. -/
def landed (s : State) (x : Access) (w : Int × List Byte) : Nat × List Byte :=
  ((translate s x.ctx .write x.peer w.1).getD 0, w.2)

/-- Write strings of bytes one after another. -/
def memWriteAll (m : Mem) (ws : List (Nat × List Byte)) : Mem := ws.foldl (fun m w => memWriteL m w.1 w.2) m

theorem memWriteL_append (m : Mem) (a : Nat) (xs ys : List Byte) :
    memWriteL m a (xs ++ ys) = memWriteL (memWriteL m a xs) (a + xs.length) ys := by
  induction xs generalizing m a with
  | nil => rfl
  | cons x xs ih => rw [List.cons_append, memWriteL, ih, memWriteL, List.length_cons, Nat.add_right_comm, Nat.add_assoc]

section
variable {s t : State} {x : Access} {m : Moving}

theorem State.readsWhole_refl (h : s.cistWhole) : s.readsWhole s := ⟨rfl, h⟩

theorem State.writesWhole_refl (h : s.cistWhole) : s.writesWhole s := ⟨rfl, h⟩

theorem State.readsWhole.readLane (h : s.readsWhole t) (hs : s.cistWhole) (a : Int) : readLane t x a = readLane s x a := by
  have htr : translate t x.ctx .read x.peer a = translate s x.ctx .read x.peer a := by rw [h.rest]; rfl
  have hcist : t.cist = s.cist := by rw [h.rest]
  simp only [Machine.readLane, htr, cistGet, hs.alive, h.whole.alive, hcist]

theorem State.readsWhole.step (h : s.readsWhole t) (p n : Nat) (c : Option Nat) : s.readsWhole (cistReadEvents p n c t) where
  rest := by rw [cistReadEvents_of_none h.whole.ue, h.rest]
  whole := by
    have hleaves := cistReadEvents_leavesUnits p n c t
    exact ⟨hleaves.ue h.whole.ue, fun b => (hleaves.dead b).trans (h.whole.alive b)⟩

/-- The lanes of a piece lie one behind another. -/
theorem translate_chain {kind : AccessKind} {as : List Int} {a : Int} {p : Nat}
    (hchain : (a :: as).IsChain (fun a b => joins a b = true)) (h : translate s x.ctx kind x.peer a = some p) :
    ∀ i (hi : i < (a :: as).length), translate s x.ctx kind x.peer (a :: as)[i] = some (p + 16 * i) := by
  induction as generalizing a p with
  | nil =>
    intro i hi
    obtain rfl : i = 0 := by simpa using hi
    exact h
  | cons b as ih =>
    rw [List.isChain_cons_cons] at hchain
    intro i hi
    cases i with
    | zero => exact h
    | succ i =>
      rw [List.getElem_cons_succ, ih hchain.2 (translate_joins h hchain.1) i (by simpa using hi)]
      congr 1
      omega

theorem readPiece_whole (hm : m.s.cistWhole) {as : List Int} (hchain : as.IsChain (fun a b => joins a b = true))
    (hok : ∀ a ∈ as, (translate m.s x.ctx .read x.peer a).isSome = true) :
    ∃ t, readPiece x m as = ({ m with s := t }, as.map (readLane m.s x)) ∧ ∀ r : State, r.readsWhole m.s → r.readsWhole t := by
  cases as with
  | nil => exact ⟨m.s, rfl, fun _ hr => hr⟩
  | cons a as =>
    obtain ⟨p, hp⟩ := Option.isSome_iff_exists.mp (hok a (by simp))
    refine ⟨cistReadEvents p (16 * (a :: as).length) x.chan m.s, ?_, fun r hr => hr.step _ _ _⟩
    obtain ⟨hretired, hfenced⟩ := hm.bank (cistBankOf p)
    have hlanes : (List.range (a :: as).length).map (fun i => laneRead m.s (p + 16 * i)) = (a :: as).map (readLane m.s x) := by
      refine List.ext_getElem (by simp) fun i hi _ => ?_
      rw [List.getElem_map, List.getElem_map, List.getElem_range, laneRead, cistBad_of_none hm.ue, readLane,
        translate_chain hchain hp i (by simpa using hi)]
      rfl
    unfold readPiece
    simp only [hp, hretired, hfenced, cistBad_of_none hm.ue, hlanes]
    rfl

/-- What `readLanes` does with one group of lanes. -/
def readGroup (x : Access) (d : Desc) (acc : Moving × List (List Byte)) (g : List (Option Int)) : Moving × List (List Byte) :=
  match g.filterMap id with
  | [] => (acc.1, acc.2 ++ g.map (fun _ => fillLane d))
  | as => ((readPiece x acc.1 as).1, acc.2 ++ (readPiece x acc.1 as).2)

theorem readGroup_some (d : Desc) (acc : Moving × List (List Byte)) (g : List Int) :
    readGroup x d acc (g.map some) = ((readPiece x acc.1 g).1, acc.2 ++ (readPiece x acc.1 g).2) := by
  cases g with
  | nil => rfl
  | cons a g => simp [readGroup]

theorem readLanes_some (d : Desc) (as : List Int) (m : Moving) : readLanes x d (as.map some) m =
    (groupBy some joinLine as).foldl (fun acc g => readGroup x d acc (g.map some)) (m, []) := by
  rw [readLanes, groupBy_map, List.foldl_map]
  rfl

/-- Lanes that a whole cistern may read are read as they stand. -/
theorem readLanes_whole (d : Desc) (hs : m.s.cistWhole) {as : List Int}
    (hok : ∀ a ∈ as, (translate m.s x.ctx .read x.peer a).isSome = true) :
    ∃ t, readLanes x d (as.map some) m = ({ m with s := t }, as.map (readLane m.s x)) ∧ m.s.readsWhole t := by
  have hgroups (gs : List (List Int)) (hchain : ∀ g ∈ gs, g.IsChain (fun a b => joins a b = true))
      (hok : ∀ g ∈ gs, ∀ a ∈ g, (translate m.s x.ctx .read x.peer a).isSome = true) (u : State) (hu : m.s.readsWhole u)
      (out : List (List Byte)) : ∃ t, gs.foldl (fun acc g => readGroup x d acc (g.map some)) ({ m with s := u }, out) =
        ({ m with s := t }, out ++ gs.flatten.map (readLane m.s x)) ∧ m.s.readsWhole t := by
    induction gs generalizing u out with
    | nil => exact ⟨u, by simp, hu⟩
    | cons g gs ih =>
      have htr (a : Int) : translate u x.ctx .read x.peer a = translate m.s x.ctx .read x.peer a := by rw [hu.rest]; rfl
      obtain ⟨t, hpiece, ht⟩ := readPiece_whole (m := { m with s := u }) hu.whole (hchain g (by simp))
        fun a ha => by rw [htr]; exact hok g (by simp) a ha
      have hlanes : g.map (readLane u x) = g.map (readLane m.s x) := List.map_congr_left fun a _ => hu.readLane hs a
      obtain ⟨v, hfold, hv⟩ := ih (fun g hg => hchain g (by simp [hg])) (fun g hg => hok g (by simp [hg])) t (ht _ hu)
        (out ++ g.map (readLane m.s x))
      refine ⟨v, ?_, hv⟩
      rw [List.foldl_cons, readGroup_some, hpiece, hlanes, hfold]
      simp
  have hchains : ∀ g ∈ groupBy some joinLine as, g.IsChain (fun a b => joins a b = true) := fun g hg =>
    (groupBy_chain as g hg).imp fun _ _ => piecesJoin_some.mp
  have hflat := groupBy_flatten (addr := some) joinLine as
  rw [readLanes_some]
  obtain ⟨t, hfold, ht⟩ := hgroups _ hchains (fun g hg a ha => hok a (hflat ▸ List.mem_flatten.mpr ⟨g, hg, ha⟩)) m.s
    (State.readsWhole_refl hs) []
  exact ⟨t, by rw [hfold, hflat]; simp, ht⟩

end

section
variable {s t : State} {x : Access} {m : Moving}

theorem State.writesWhole.landed (h : s.writesWhole t) (w : Int × List Byte) : landed t x w = landed s x w := by
  have htr : translate t x.ctx .write x.peer w.1 = translate s x.ctx .write x.peer w.1 := by rw [h.rest]; rfl
  rw [Machine.landed, Machine.landed, htr]

/-- The lanes of a piece, written as one string, are written one after another. -/
theorem memWriteL_piece {w : Int × List Byte} {ws : List (Int × List Byte)} {p : Nat} (mem : Mem)
    (hchain : (w :: ws).IsChain (fun v w => joins v.1 w.1 = true)) (hlane : ∀ v ∈ w :: ws, v.2.length = 16)
    (hp : translate s x.ctx .write x.peer w.1 = some p) :
    memWriteL mem p ((w :: ws).flatMap (·.2)) = memWriteAll mem ((w :: ws).map (landed s x)) := by
  induction ws generalizing w p mem with
  | nil => simp [memWriteAll, landed, hp]
  | cons v ws ih =>
    rw [List.isChain_cons_cons] at hchain
    have htail := ih (memWriteL mem p w.2) hchain.2 (fun v hv => hlane v (by simp [hv])) (translate_joins hp hchain.1)
    rw [List.flatMap_cons, memWriteL_append, hlane w (by simp), htail]
    simp [memWriteAll, landed, hp]

theorem writePiece_whole (hm : m.s.cistWhole) {ws : List (Int × List Byte)}
    (hchain : ws.IsChain (fun v w => joins v.1 w.1 = true)) (hlane : ∀ w ∈ ws, w.2.length = 16)
    (hok : ∀ w ∈ ws, (translate m.s x.ctx .write x.peer w.1).isSome = true) :
    ∃ t, writePiece x m ws = { m with s := t } ∧ m.s.writesWhole t ∧
      t.cist = memWriteAll m.s.cist (ws.map (landed m.s x)) := by
  cases ws with
  | nil => exact ⟨m.s, rfl, State.writesWhole_refl hm, rfl⟩
  | cons w ws =>
    obtain ⟨p, hp⟩ := Option.isSome_iff_exists.mp (hok w (by simp))
    obtain ⟨hretired, hfenced⟩ := hm.bank (cistBankOf p)
    refine ⟨cistPut p ((w :: ws).flatMap (·.2)) m.s, ?_, ⟨?_, ?_, fun b => ?_⟩, ?_⟩
    · unfold writePiece
      simp only [hp, hretired, hfenced]
      rfl
    · rw [cistPut_of_none hm.ue (hm.alive _), ← hm.ue]
    · rw [cistPut_of_none hm.ue (hm.alive _)]
    · exact ((cistPut_leavesUnits _ _ _).dead b).trans (hm.alive b)
    · rw [cistPut_of_none hm.ue (hm.alive _), ← memWriteL_piece m.s.cist hchain hlane hp]

theorem memWriteAll_append (mem : Mem) (vs ws : List (Nat × List Byte)) :
    memWriteAll mem (vs ++ ws) = memWriteAll (memWriteAll mem vs) ws := List.foldl_append

/-- Lanes that a whole cistern may take are all written. -/
theorem writeLanes_whole (hs : m.s.cistWhole) {ws : List (Int × List Byte)} (hlane : ∀ w ∈ ws, w.2.length = 16)
    (hok : ∀ w ∈ ws, (translate m.s x.ctx .write x.peer w.1).isSome = true) :
    ∃ t, writeLanes x (ws.map (fun w => (some w.1, w.2))) m = { m with s := t } ∧ m.s.writesWhole t ∧
      t.cist = memWriteAll m.s.cist (ws.map (landed m.s x)) := by
  have hgroups (gs : List (List (Int × List Byte))) (hchain : ∀ g ∈ gs, g.IsChain (fun v w => joins v.1 w.1 = true))
      (hin : ∀ g ∈ gs, ∀ w ∈ g, w ∈ ws) (u : State) (hu : m.s.writesWhole u) :
      ∃ t, gs.foldl (writePiece x) { m with s := u } = { m with s := t } ∧ m.s.writesWhole t ∧
        t.cist = memWriteAll u.cist (gs.flatten.map (landed m.s x)) := by
    induction gs generalizing u with
    | nil => exact ⟨u, rfl, hu, rfl⟩
    | cons g gs ih =>
      have htr (a : Int) : translate u x.ctx .write x.peer a = translate m.s x.ctx .write x.peer a := by rw [hu.rest]; rfl
      obtain ⟨t, hpiece, ht, hcist⟩ := writePiece_whole (m := { m with s := u }) hu.whole (hchain g (by simp))
        (fun w hw => hlane w (hin g (by simp) w hw)) fun w hw => by rw [htr]; exact hok w (hin g (by simp) w hw)
      have hlands : g.map (landed u x) = g.map (landed m.s x) := List.map_congr_left fun w _ => hu.landed w
      have hut : m.s.writesWhole t := ⟨by rw [ht.rest, hu.rest], ht.whole⟩
      obtain ⟨v, hfold, hv, hvcist⟩ := ih (fun g hg => hchain g (by simp [hg])) (fun g hg => hin g (by simp [hg])) t hut
      refine ⟨v, by rw [List.foldl_cons, hpiece, hfold], hv, ?_⟩
      rw [hvcist, hcist, hlands, List.flatten_cons, List.map_append, memWriteAll_append]
  have hchains : ∀ g ∈ groupBy (fun w : Int × List Byte => some w.1) joinLine ws,
      g.IsChain (fun v w => joins v.1 w.1 = true) := fun g hg =>
    (groupBy_chain ws g hg).imp fun _ _ => piecesJoin_some.mp
  have hflat := groupBy_flatten (addr := fun w : Int × List Byte => some w.1) joinLine ws
  obtain ⟨t, hfold, ht, hcist⟩ := hgroups _ hchains (fun g hg w hw => hflat ▸ List.mem_flatten.mpr ⟨g, hg, hw⟩) m.s
    (State.writesWhole_refl hs)
  refine ⟨t, ?_, ht, by rw [hcist, hflat]⟩
  rw [writeLanes, groupBy_map, List.foldl_map, ← hfold]
  simp [List.filterMap_map]

end

/-! ### What memory holds after strings of bytes are written -/

section
variable {mem : Mem} {ws : List (Nat × List Byte)}

/-- A byte outside all the strings reads as before. -/
theorem memRead_memWriteAll_outside (hm : Memory.wf mem = true) {a : Nat} (ha : ∀ w ∈ ws, a < w.1 ∨ w.1 + w.2.length ≤ a) :
    memRead (memWriteAll mem ws) a = memRead mem a := by
  induction ws generalizing mem with
  | nil => rfl
  | cons w ws ih =>
    rw [← memRead_memWriteL_outside mem w.1 a w.2 hm (ha w (by simp))]
    exact ih (memWriteL_wf mem w.1 w.2 hm) fun v hv => ha v (by simp [hv])

/-- Each of the strings that lie apart reads back. -/
theorem memReadN_memWriteAll (hm : Memory.wf mem = true)
    (hapart : ws.Pairwise (fun v w => v.1 + v.2.length ≤ w.1 ∨ w.1 + w.2.length ≤ v.1)) :
    ∀ w ∈ ws, memReadN (memWriteAll mem ws) w.1 w.2.length = w.2 := by
  induction ws generalizing mem with
  | nil => simp
  | cons v ws ih =>
    obtain ⟨hv, hws⟩ := List.pairwise_cons.mp hapart
    have hwf := memWriteL_wf mem v.1 v.2 hm
    intro w hw
    rcases List.mem_cons.mp hw with rfl | hw
    · have hback := memReadN_memWriteL mem w.1 w.2 hm
      refine Eq.trans (List.ext_getElem? fun i => ?_) hback
      by_cases hi : i < w.2.length
      · rw [memReadN_getElem? _ _ _ _ hi, memReadN_getElem? _ _ _ _ hi]
        exact congrArg some (memRead_memWriteAll_outside hwf fun u hu => by
          have hcases := hv u hu
          omega)
      · rw [List.getElem?_eq_none (by rw [memReadN_length]; omega), List.getElem?_eq_none (by rw [memReadN_length]; omega)]
    · exact ih hwf hws w hw

end

end Sys2Proof.Machine

namespace Sys2Proof.Machine

/-! ## A block that a peer reads (R286, R451, R453) -/

section
variable {s t : State} {p : Nat}

/-- A peer's operation that ends well, and holds no XID, only gives its tag back. -/
theorem completeOp_quiet {o : PumpOp} {n x : Nat} (hi : o.issuer = .peer n x) (hxid : o.xid = none)
    (hok : o.status = (stOk, 0)) (s : State) : completeOp o s = { s with ops := s.ops.filter (fun x => x.id ≠ o.id) } := by
  simp [completeOp, completionFault, storeCompletion, returnXid, hi, hxid, hok, faultStatus]

theorem lanePayloads_one {ls : List (List Byte)} (hne : ls ≠ []) (hlen : ls.length ≤ 256) :
    lanePayloads ls.length 0 ls = [(0, ls.flatten)] := by
  obtain ⟨n, hn⟩ := Nat.exists_eq_succ_of_ne_zero (mt List.length_eq_zero_iff.mp hne)
  have hrest : lanePayloads n 256 [] = [] := by cases n <;> rfl
  rw [hn, lanePayloads, if_neg (by simpa using hne), List.take_of_length_le hlen, List.drop_eq_nil_of_le hlen, hrest]

/-- The accesses of a peer's operation. -/
def PumpOp.peerAccess (o : PumpOp) : Access := { ctx := o.ctx, peer := true, chan := none }

section
variable {u : State} {b c : PeerBlock} {k base : Nat}

/-- A read block of a whole cistern is answered with its lanes in one RDATA. -/
theorem serveRead_whole (hs : s.cistWhole) (hlow : 1 ≤ exportLanes u b.handle) (hhigh : exportLanes u b.handle ≤ 256)
    (hok : ∀ a ∈ lanesFrom base (exportLanes u b.handle),
      (translate s (peerOp u p k base b).ctx .read true a).isSome = true) :
    ∃ t, s.readsWhole t ∧ serveRead p (peerOp u p k base b) c s =
      { enqueue p (answer c lfRdata 0 ((lanesFrom base (exportLanes u b.handle)).flatMap
          (readLane s (peerOp u p k base b).peerAccess))) (dropBlock p c.xid c.block t) with
        ops := s.ops.filter (fun x => x.id ≠ u.nextOp) } := by
  let m0 : Moving := { s := s, prot := 0, ecc := 0, still := false, drop := 0, short := 0 }
  obtain ⟨t, hread, ht⟩ := readLanes_whole (x := (peerOp u p k base b).peerAccess) (m := m0) (parseDesc []) hs hok
  have hlen : (lanesFrom base (exportLanes u b.handle)).length = exportLanes u b.handle := by simp [lanesFrom]
  have hpayload := lanePayloads_one (ls := (lanesFrom base (exportLanes u b.handle)).map
    (readLane s (peerOp u p k base b).peerAccess)) (by rw [← List.length_pos_iff, List.length_map]; omega)
    (by rw [List.length_map]; omega)
  refine ⟨t, ht, ?_⟩
  have hops : t.ops = s.ops := by rw [ht.rest]
  unfold serveRead
  dsimp only
  rw [show readLanes { ctx := (peerOp u p k base b).ctx, peer := true, chan := none } (parseDesc [])
    ((lanesFrom (peerOp u p k base b).listBase (peerOp u p k base b).seen).map some) _ = _ from hread]
  dsimp only
  rw [hpayload, completeOp_quiet (n := p) (x := b.xid) rfl rfl rfl, ← hops]
  rfl

end

/-- Every lane of a block that is not refused is translated (R286). -/
theorem peerBase_lanes {b : PeerBlock} {base : Nat} (h : peerBase s b = some base) :
    ∀ a ∈ lanesFrom base (exportLanes s b.handle), (translate s (wfld (exportWord s b.handle 0) 8 5)
      (if b.write then .write else .read) true a).isSome = true := by
  unfold peerBase at h
  dsimp only at h
  split at h
  · simp at h
  split at h
  · simp at h
  obtain ⟨hall, hbase⟩ := Option.ite_none_right_eq_some.mp h
  cases hbase
  exact List.all_eq_true.mp hall

section
variable {b : PeerBlock} {k base : Nat}

/-- The state in which the service of a block begins: it holds its tag, and its REQ has left the buffer (R229, R440). -/
def tagged (p k base : Nat) (b : PeerBlock) (s : State) : State :=
  leaveBuffer p b.credit (modBlock p b.xid b.block (fun c => { c with credit := 0 })
    (noteTag (peerOp s p k base b) { s with ops := s.ops ++ [peerOp s p k base b], nextOp := s.nextOp + 1 }))

theorem startBlock_read_eq (hbase : peerBase s b = some base) (hread : b.write = false) :
    startBlock p k b s = serveRead p (peerOp s p k base b) { b with credit := 0 } (tagged p k base b s) := by
  simp only [startBlock, hbase, hread]
  rfl

theorem startBlock_refused (hbase : peerBase s b = none) : startBlock p k b s = refuseBlock p b s := by
  simp only [startBlock, hbase]

/-- A block waits alone at port `p`, none of its data here yet. -/
structure State.waitsAlone (s : State) (p : Nat) (b : PeerBlock) : Prop where
  port : p < s.ports.length
  peers : (s.port p).peers = [b]
  data : b.data = []

theorem tagged_port (h : s.waitsAlone p b) : (tagged p k base b s).port p =
    { s.port p with peers := [{ b with credit := 0 }], granted := ((s.port p).granted + b.credit) % 65536 } := by
  have hport (u : State) (hp : p < u.ports.length) (hu : u.port p = s.port p) :
      (leaveBuffer p b.credit (modBlock p b.xid b.block (fun c => { c with credit := 0 }) u)).port p =
        { s.port p with peers := [{ b with credit := 0 }], granted := ((s.port p).granted + b.credit) % 65536 } := by
    rw [leaveBuffer_port (by rwa [modBlock_count]), modBlock_port hp, hu]
    simp [h.peers, b.is_self]
  exact hport _ h.port rfl

theorem tagged_ops (hn : s.numbered) :
    (tagged p k base b s).ops.filter (fun x => x.id ≠ s.nextOp) = s.ops := by
  show (s.ops ++ [peerOp s p k base b]).filter (fun x => x.id ≠ s.nextOp) = s.ops
  have hold : s.ops.filter (fun x => x.id ≠ s.nextOp) = s.ops :=
    List.filter_eq_self.mpr fun o ho => by simpa using (hn.2 o ho).ne
  rw [List.filter_append, hold]
  simp [peerOp]

theorem startBlock_read (h : s.waitsAlone p b) (hn : s.numbered) (hs : s.cistWhole) (hbase : peerBase s b = some base)
    (hread : b.write = false) (hlow : 1 ≤ exportLanes s b.handle) (hhigh : exportLanes s b.handle ≤ 256) :
    (startBlock p k b s).port p = (s.port p).answered b.credit
        (answer b lfRdata 0 ((lanesFrom base (exportLanes s b.handle)).flatMap
          (readLane s { ctx := wfld (exportWord s b.handle 0) 8 5, peer := true, chan := none }))) ∧
      (startBlock p k b s).ops = s.ops ∧ (startBlock p k b s).engs = s.engs ∧ (startBlock p k b s).cist = s.cist := by
  have hwhole : (tagged p k base b s).cistWhole := ⟨hs.ue, hs.alive⟩
  have hcount : (tagged p k base b s).ports.length = s.ports.length :=
    (leaveBuffer_count _).trans (modBlock_count _ _ _)
  have hok := peerBase_lanes hbase
  rw [hread] at hok
  obtain ⟨t, ht, hserve⟩ := serveRead_whole (c := { b with credit := 0 }) (p := p) (k := k) hwhole hlow hhigh hok
  have hport : t.port p = (tagged p k base b s).port p := by rw [ht.rest]; rfl
  have hpeers : (t.port p).peers = [{ b with credit := 0 }] := by rw [hport, tagged_port h]
  have htcount : t.ports.length = s.ports.length := by rw [ht.rest]; exact hcount
  have htp : p < t.ports.length := htcount ▸ h.port
  rw [startBlock_read_eq hbase hread, hserve]
  refine ⟨?_, tagged_ops hn, (congrArg State.engs ht.rest :), (congrArg State.cist ht.rest :)⟩
  refine (enqueue_port (by simpa [dropBlock] using htp) _).trans ?_
  rw [dropBlock_port_alone htp hpeers (PeerBlock.is_self _), hport, tagged_port h,
    PeerBlock.holds_of_no_data (b := { b with credit := 0 }) h.data]
  simp [Port.answered]
  rfl

end

end

/-! ## REQ (R286, R451, R453) -/

/-- From `s` to `t` only ports have changed, of the others nothing that serving a peer looks at, and port `p` serves with the
same pump next. -/
structure State.keepsTurn (s : State) (p : Nat) (t : State) : Prop where
  rest : t = { s with ports := t.ports }
  others : ∀ n, n ≠ p → (t.port n).service = (s.port n).service
  turn : (t.port p).turn = (s.port p).turn

section
variable {s t : State} {p : Nat}

theorem State.keepsService.keepsTurn (h : s.keepsService t) (p : Nat) : s.keepsTurn p t :=
  ⟨h.rest, fun n _ => h.service n, congrArg (·.2.2.2.1) (h.service p)⟩

theorem State.keepsTurn.modPort (h : s.keepsTurn p t) {f : Port → Port} (hf : ∀ q, (f q).turn = q.turn) :
    s.keepsTurn p (t.modPort p f) where
  rest := by rw [h.rest]; rfl
  others n hn := (congrArg Port.service (State.port_modPort_other hn f)).trans (h.others n hn)
  turn := (nth_modAt_keeps Port.turn _ _ _ _ _ hf).trans h.turn

theorem State.keepsTurn.servingPump (h : s.keepsTurn p t) (n : Nat) : servingPump t n = servingPump s n := by
  have hturn : (t.port n).turn = (s.port n).turn := by
    by_cases hn : n = p
    · exact hn ▸ h.turn
    · exact congrArg (·.2.2.2.1) (h.others n hn)
  have haccepts (k : Nat) : pumpAccepts t k = pumpAccepts s k := by rw [h.rest]; rfl
  simp only [Machine.servingPump, hturn, haccepts]

theorem State.keepsTurn.peersAhead (h : s.keepsTurn p t) : peersAhead t p = peersAhead s p := by
  have hawake (k : Nat) : pumpAsleep t k = pumpAsleep s k := by rw [h.rest]; rfl
  have hheld (k : Nat) : peerHeld t k = peerHeld s k := by rw [h.rest]; rfl
  have hwaits (n : Nat) (hn : n < p) : peerWaits t n = peerWaits s n := by
    have hpeers : (t.port n).peers = (s.port n).peers := congrArg (·.1) (h.others n hn.ne)
    simp only [peerWaits, hpeers, h.servingPump, hawake, hheld]
  unfold Machine.peersAhead
  rw [List.filter_congr fun n hn => hwaits n (List.mem_range.mp hn)]

theorem State.keepsTurn.pumpReady (h : s.keepsTurn p t) (hready : pumpReady s p) : pumpReady t p := by
  intro k hk
  obtain ⟨hawake, hheld, htags⟩ := hready k (by rwa [← h.servingPump])
  have hawake' : pumpAsleep t k = pumpAsleep s k := by rw [h.rest]; rfl
  have hheld' : peerHeld t k = peerHeld s k := by rw [h.rest]; rfl
  have hstalled : stalledEngines t true = stalledEngines s true := by rw [h.rest]; rfl
  have hslots : slotsAhead t = slotsAhead s := by rw [h.rest]; rfl
  have hfree : freeTags t = freeTags s := by rw [h.rest]; rfl
  rw [hawake', hheld', hstalled, hslots, hfree, h.peersAhead]
  exact ⟨hawake, hheld, htags⟩

theorem State.keepsTurn.peerBase (h : s.keepsTurn p t) (b : PeerBlock) : peerBase t b = peerBase s b := by rw [h.rest]; rfl

theorem State.keepsTurn.exportWord (h : s.keepsTurn p t) (e i : Nat) : exportWord t e i = exportWord s e i := by
  rw [h.rest]
  rfl

theorem State.keepsTurn.exportLanes (h : s.keepsTurn p t) (e : Nat) : exportLanes t e = exportLanes s e := by
  rw [Machine.exportLanes, h.exportWord, Machine.exportLanes]

theorem State.keepsTurn.readLane (h : s.keepsTurn p t) (x : Access) : readLane t x = readLane s x := by rw [h.rest]; rfl

theorem State.keepsTurn.cistWhole (h : s.keepsTurn p t) (hs : s.cistWhole) : t.cistWhole := by
  rw [h.rest]
  exact ⟨hs.ue, hs.alive⟩

theorem State.keepsTurn.ops (h : s.keepsTurn p t) : t.ops = s.ops := by rw [h.rest]

theorem State.keepsTurn.engs (h : s.keepsTurn p t) : t.engs = s.engs := by rw [h.rest]

theorem State.keepsTurn.cist (h : s.keepsTurn p t) : t.cist = s.cist := by rw [h.rest]

theorem State.keepsTurn.regs (h : s.keepsTurn p t) : t.regs = s.regs := by rw [h.rest]

theorem State.keepsTurn.translate (h : s.keepsTurn p t) (y : Nat) (k : AccessKind) (peer : Bool) (a : Int) :
    translate t y k peer a = translate s y k peer a := by rw [h.rest]; rfl

theorem State.keepsTurn.op? (h : s.keepsTurn p t) (j : Nat) : t.op? j = s.op? j := by rw [h.rest]; rfl

theorem State.keepsTurn.plant (h : s.keepsTurn p t) : t.plant = s.plant := by rw [h.rest]; rfl

theorem State.keepsTurn.numbered (h : s.keepsTurn p t) (hn : s.numbered) : t.numbered := by
  rw [h.rest]
  exact hn

/-! ### One block -/

/-- The block of a REQ with one entry. -/
def reqBlock (f : RxFrame) : PeerBlock :=
  { xid := f.xid, block := f.block, write := f.write, handle := f.handle, entry := f.payload.take 16, op := none,
    stalled := false, data := [], credit := creditCost 36 }

/-- A REQ of one entry takes 36 bytes of the receive buffer: one credit (R440). -/
theorem reqBlock_credit (f : RxFrame) : (reqBlock f).credit = 1 := by
  show creditCost 36 = 1
  decide

/-- A REQ's block joins the list of port `p`. -/
def addBlock (p : Nat) (b : PeerBlock) (s : State) : State := s.modPort p (fun q => { q with peers := q.peers ++ [b] })

theorem takeReq_one {f : RxFrame} (hlen : f.len = 16) : takeReq p f s = serveAll p (addBlock p (reqBlock f) s) := by
  simp only [takeReq, hlen]
  rfl

section
variable {b : PeerBlock} (hp : p < s.ports.length) (hpeers : (s.port p).peers = [])
include hp

theorem addBlock_port : (addBlock p b s).port p = { s.port p with peers := (s.port p).peers ++ [b] } :=
  State.port_modPort_same hp _

include hpeers

theorem addBlock_waitsAlone (hdata : b.data = []) : (addBlock p b s).waitsAlone p b where
  port := hp.trans_eq (modAt_length _ _ _).symm
  peers := by rw [addBlock_port hp, hpeers]; rfl
  data := hdata

end

theorem State.waitsAlone.turnPort {b : PeerBlock} (h : s.waitsAlone p b) : (turnPort p s).waitsAlone p b where
  port := h.port.trans_eq (modAt_length _ _ _).symm
  peers := (congrArg Port.peers (State.port_modPort_same h.port _)).trans h.peers
  data := h.data

theorem turnPort_answered (hp : p < s.ports.length) (n : Nat) (f : TxFrame) : ((turnPort p s).port p).answered n f =
    { (s.port p).answered n f with turn := !(s.port p).turn } := by
  rw [turnPort, State.port_modPort_same hp]
  rfl

/-- A block that finds no pump, or whose handle does not allow it, is refused at once. -/
theorem serveAll_refuses {b : PeerBlock} (h : s.waitsAlone p b) (hop : b.op = none) (hready : pumpReady s p)
    (hno : servingPump s p = none ∨ peerBase s b = none) :
    ∃ turn, (serveAll p s).port p = { (s.port p).answered b.credit (answer b lfRefuse 0 []) with turn := turn } ∧
      (serveAll p s).plant = s.plant := by
  cases hpump : servingPump s p with
  | none =>
    obtain ⟨hport, honly⟩ := refuseBlock_alone h.port h.peers h.data
    rw [serveAll_alone h.peers (serveNext_unserved h.peers hop hpump) (congrArg Port.peers hport)]
    exact ⟨_, hport, honly.plant⟩
  | some k =>
    have hbase : peerBase (turnPort p s) b = none := hno.resolve_left (by simp [hpump])
    obtain ⟨hport, honly⟩ := refuseBlock_alone h.turnPort.port h.turnPort.peers h.data
    rw [← startBlock_refused (k := k) hbase] at hport honly
    rw [serveAll_alone h.peers (serveNext_served h.peers hop hpump hready) (congrArg Port.peers hport)]
    exact ⟨_, hport.trans (turnPort_answered h.port _ _), honly.plant⟩

/-- A read block whose handle allows it is answered with its lanes. -/
theorem serveAll_reads {b : PeerBlock} {base : Nat} (h : s.waitsAlone p b) (hn : s.numbered) (hs : s.cistWhole)
    (hop : b.op = none) (hready : pumpReady s p) (hpump : (servingPump s p).isSome = true) (hbase : peerBase s b = some base)
    (hread : b.write = false) (hlow : 1 ≤ exportLanes s b.handle) (hhigh : exportLanes s b.handle ≤ 256) :
    ∃ turn, (serveAll p s).port p = { (s.port p).answered b.credit
        (answer b lfRdata 0 ((lanesFrom base (exportLanes s b.handle)).flatMap
          (readLane s { ctx := wfld (exportWord s b.handle 0) 8 5, peer := true, chan := none }))) with turn := turn } ∧
      (serveAll p s).ops = s.ops ∧ (serveAll p s).engs = s.engs ∧ (serveAll p s).cist = s.cist := by
  obtain ⟨k, hk⟩ := Option.isSome_iff_exists.mp hpump
  have hwhole : (turnPort p s).cistWhole := ⟨hs.ue, hs.alive⟩
  obtain ⟨hport, hops, hengs, hcist⟩ := startBlock_read (k := k) h.turnPort hn hwhole hbase hread hlow hhigh
  rw [serveAll_alone h.peers (serveNext_served h.peers hop hk hready) (congrArg Port.peers hport)]
  exact ⟨_, hport.trans (turnPort_answered h.port _ _), hops, hengs, hcist⟩

/-! ### The row -/

variable {bs : List Byte}

/-- The frame in `bs`, without its padding. -/
abbrev frameIn (bs : List Byte) : RxFrame := parseFrame (unpadded bs)

theorem State.keepsService.port_service (h : s.keepsService t) {q : Port} (hq : (s.port p).service = q.service) :
    (t.port p).peers = q.peers ∧ (t.port p).queue = q.queue ∧ (t.port p).granted = q.granted ∧ (t.port p).held = q.held := by
  have hservice := (h.service p).trans hq
  exact ⟨congrArg (·.1) hservice, congrArg (·.2.1) hservice, congrArg (·.2.2.1) hservice, congrArg (·.2.2.2.2) hservice⟩

theorem deliverFrame_req (htyp : (parseFrame bs).typ = lfReq) : deliverFrame p bs s = takeReq p (parseFrame bs) s := by
  unfold deliverFrame
  dsimp only
  rw [if_pos htyp]

/-- In the state `r` the expected frame acts, and what its row then answers is what the frame makes of `r`. -/
structure State.arrives (s : State) (p : Nat) (bs : List Byte) (r : State) : Prop where
  keeps : s.keepsService r
  port : p < r.ports.length
  held : (s.port p).held = []
  acts : ∀ (row : Instr) (typ : Nat), exec row s = whenRun (forPort p (receive typ p bs)) s → 8 ≤ typ → (frameIn bs).typ = typ →
    ((deliverFrame p (unpadded bs) r).port p).held = [] →
    ∃ t, exec row s = .next t ∧ (deliverFrame p (unpadded bs) r).keepsService t

theorem State.expects.arrives (h : s.expects p bs) : ∃ r, s.arrives p bs r :=
  ⟨arrivedState s p bs, arrivedState_keepsService s p bs, h.port.trans_eq (arrivedState_keepsService s p bs).count.symm,
    h.held, fun _ _ hrow hseq htyp hheld => h.delivers hrow hseq htyp hheld⟩

section
variable {r : State} (h : s.arrives p bs r)
include h

/-- What the service of port `p` sees of an arrived frame. -/
theorem State.arrives.service : (r.port p).peers = (s.port p).peers ∧ (r.port p).queue = (s.port p).queue ∧
    (r.port p).granted = (s.port p).granted ∧ (r.port p).held = (s.port p).held := h.keeps.port_service rfl

/-- What a delivered frame makes of port `p` is what its row makes of it. -/
theorem State.arrives.serves {row : Instr} {typ : Nat} (hrow : exec row s = whenRun (forPort p (receive typ p bs)) s)
    (hseq : 8 ≤ typ) (htyp : (frameIn bs).typ = typ) {u : State} {q : Port} (hu : deliverFrame p (unpadded bs) r = u)
    (hq : (u.port p).service = q.service) (hheld : q.held = []) :
    ∃ t, exec row s = .next t ∧ (t.port p).peers = q.peers ∧ (t.port p).queue = q.queue ∧ (t.port p).granted = q.granted ∧
      t.plant = u.plant ∧ t.regs = u.regs := by
  subst hu
  obtain ⟨t, hexec, ht⟩ := h.acts row typ hrow hseq htyp ((congrArg (·.2.2.2.2) hq).trans hheld)
  obtain ⟨hpeers, hqueue, hgranted, -⟩ := ht.port_service hq
  exact ⟨t, hexec, hpeers, hqueue, hgranted, (ht.keepsTurn p).plant, (ht.keepsTurn p).regs⟩

theorem State.arrives.addBlock_keepsTurn (b : PeerBlock) : s.keepsTurn p (addBlock p b r) :=
  (h.keeps.keepsTurn p).modPort fun _ => rfl

theorem State.arrives.addBlock_waitsAlone {b : PeerBlock} (hpeers : (s.port p).peers = []) (hdata : b.data = []) :
    (addBlock p b r).waitsAlone p b := Machine.addBlock_waitsAlone h.port (h.service.1.trans hpeers) hdata

end

section
variable (h : s.expects p bs)
include h

variable (htyp : (frameIn bs).typ = lfReq) (hlen : (frameIn bs).len = 16) (hpeers : (s.port p).peers = [])
include htyp hlen

omit h in
/-- A REQ whose only block is answered at once leaves the port with the answer queued. -/
theorem State.arrives.req_answers {r u : State} (h : s.arrives p bs r)
    (hu : serveAll p (addBlock p (reqBlock (frameIn bs)) r) = u) {turn : Bool} {x : TxFrame}
    (hport : u.port p = { ((addBlock p (reqBlock (frameIn bs)) r).port p).answered 1 x with turn := turn })
    (hops : u.ops = s.ops) (hengs : u.engs = s.engs) (hcist : u.cist = s.cist) :
    ∃ t, exec (.req p bs) s = .next t ∧ (t.port p).queue = (s.port p).queue ++ [x] ∧ (t.port p).peers = [] ∧
      (t.port p).granted = ((s.port p).granted + 1) % 65536 ∧ t.ops = s.ops ∧ t.engs = s.engs ∧ t.cist = s.cist := by
  obtain ⟨-, hqueue, hgranted, hheld⟩ := h.service
  have hservice : (u.port p).service = ({ (s.port p).answered 1 x with turn := turn } : Port).service := by
    rw [hport, addBlock_port h.port]
    exact Port.answered_service hqueue hgranted hheld 1 x turn
  obtain ⟨t, hexec, htpeers, htqueue, htgranted, htplant, -⟩ := h.serves (row := .req p bs) rfl (by decide) htyp
    (((deliverFrame_req htyp).trans (takeReq_one hlen)).trans hu) hservice h.held
  simp only [State.plant, Prod.mk.injEq] at htplant
  obtain ⟨htops, htengs, -, htcist, -⟩ := htplant
  exact ⟨t, hexec, htqueue, htpeers, htgranted, htops.trans hops, htengs.trans hengs, htcist.trans hcist⟩

variable (hready : pumpReady s p)
include hpeers hready

theorem exec_req_refuses (hno : servingPump s p = none ∨ peerBase s (reqBlock (frameIn bs)) = none) :
    ∃ t, exec (.req p bs) s = .next t ∧
      (t.port p).queue = (s.port p).queue ++ [answer (reqBlock (frameIn bs)) lfRefuse 0 []] ∧ (t.port p).peers = [] ∧
      (t.port p).granted = ((s.port p).granted + 1) % 65536 ∧ t.ops = s.ops ∧ t.engs = s.engs ∧ t.cist = s.cist := by
  obtain ⟨r, hr⟩ := h.arrives
  have hkeeps := hr.addBlock_keepsTurn (reqBlock (frameIn bs))
  have hwaits := hr.addBlock_waitsAlone (b := reqBlock (frameIn bs)) hpeers rfl
  obtain ⟨turn, hport, hplant⟩ := serveAll_refuses hwaits rfl (hkeeps.pumpReady hready)
    (by rwa [hkeeps.servingPump, hkeeps.peerBase])
  simp only [State.plant, Prod.mk.injEq] at hplant
  obtain ⟨hops, hengs, -, hcist, -⟩ := hplant
  rw [reqBlock_credit] at hport
  exact hr.req_answers htyp hlen rfl hport (hops.trans hkeeps.ops) (hengs.trans hkeeps.engs) (hcist.trans hkeeps.cist)

theorem exec_req_reads (hn : s.numbered) (hs : s.cistWhole) {base : Nat} (hpump : (servingPump s p).isSome = true)
    (hbase : peerBase s (reqBlock (frameIn bs)) = some base) (hread : (frameIn bs).write = false)
    (hlow : 1 ≤ exportLanes s (frameIn bs).handle) (hhigh : exportLanes s (frameIn bs).handle ≤ 256) :
    ∃ t, exec (.req p bs) s = .next t ∧
      (t.port p).queue = (s.port p).queue ++ [answer (reqBlock (frameIn bs)) lfRdata 0
        ((lanesFrom base (exportLanes s (frameIn bs).handle)).flatMap (readLane s
          { ctx := wfld (exportWord s (frameIn bs).handle 0) 8 5, peer := true, chan := none }))] ∧
      (t.port p).peers = [] ∧ (t.port p).granted = ((s.port p).granted + 1) % 65536 ∧ t.ops = s.ops ∧ t.engs = s.engs ∧
      t.cist = s.cist := by
  obtain ⟨r, hr⟩ := h.arrives
  have hkeeps := hr.addBlock_keepsTurn (reqBlock (frameIn bs))
  have hwaits := hr.addBlock_waitsAlone (b := reqBlock (frameIn bs)) hpeers rfl
  have hlanes := hkeeps.exportLanes (frameIn bs).handle
  obtain ⟨turn, hport, hops, hengs, hcist⟩ := serveAll_reads hwaits (hkeeps.numbered hn) (hkeeps.cistWhole hs) rfl
    (hkeeps.pumpReady hready) (by rwa [hkeeps.servingPump]) ((hkeeps.peerBase _).trans hbase) hread (hlanes ▸ hlow)
    (hlanes ▸ hhigh)
  rw [show (reqBlock (frameIn bs)).handle = (frameIn bs).handle from rfl, hkeeps.exportWord, hlanes, hkeeps.readLane,
    reqBlock_credit] at hport
  exact hr.req_answers htyp hlen rfl hport (hops.trans hkeeps.ops) (hengs.trans hkeeps.engs) (hcist.trans hkeeps.cist)

end

end

end Sys2Proof.Machine

namespace Sys2Proof.Machine

/-! ## What the completion of an operation leaves of the ports (R447, R453) -/

section
variable {s t : State} {p : Nat}

theorem completionFault_ports (o : PumpOp) (s : State) : (completionFault o s).ports = s.ports := by
  unfold completionFault
  dsimp only
  split
  · rfl
  split
  · exact congrArg (·.2.2.2.1) (tickFault_posts _ _ _ _ _ _ _ _)
  · exact congrArg (·.2.2.2.1) (faultRecord_posts _ _ _ _ _ _ _)
  · exact congrArg (·.2.2.2.1) (faultRecord_posts _ _ _ _ _ _ _)

/-- A completion may give an XID back, which is no matter of serving a peer. -/
theorem completeOp_service (o : PumpOp) (s : State) (n : Nat) : ((completeOp o s).port n).service = (s.port n).service := by
  have hports : (completeOp o s).ports = (closeOp o s).ports := completionFault_ports o _
  have hword (u : State) : (storeCompletion o u).ports = u.ports := by
    unfold storeCompletion
    split <;> rfl
  have hxid (u : State) : ((returnXid o u).port n).service = (u.port n).service := by
    unfold returnXid
    split
    · split
      · rfl
      · exact nth_modAt_keeps Port.service _ _ _ _ _ fun _ => rfl
    · rfl
  have hclose : ((closeOp o s).port n).service =
      ((returnXid o (storeCompletion o { s with ops := s.ops.filter (fun x => x.id ≠ o.id) })).port n).service := by
    unfold closeOp
    dsimp only
    split <;> rfl
  rw [State.port, hports]
  exact hclose.trans ((hxid _).trans (congrArg (fun ps => (nth ps n Port.reset).service) (hword _)))

/-- The operation of a peer only gives its tag back, whatever records its status leaves. -/
theorem completeOp_peer_plant {o : PumpOp} {n x : Nat} (hi : o.issuer = .peer n x) (s : State) :
    (completeOp o s).plant = (s.ops.filter (fun x => x.id ≠ o.id), s.engs, s.bells, s.cist, s.banks) := by
  have hclose := congrArg (·.1) (closeOp_plant o s)
  simp only [storeCompletion, hi] at hclose
  exact ((completionFault_plant (o := o) (by simp [hi]) (closeOp o s)).1.trans hclose)

theorem op?_filter_ne (xs : List PumpOp) (i j : Nat) : (xs.filter (fun x => x.id ≠ i)).find? (fun x => x.id == j) =
    if j = i then none else xs.find? (fun x => x.id == j) := by
  rw [List.find?_filter]
  split
  · next hj =>
    subst hj
    simp
  · next hj =>
    congr 1
    funext x
    by_cases hx : x.id = j <;> simp [hx, hj]

theorem completeOp_op? (o : PumpOp) (s : State) (j : Nat) : (completeOp o s).op? j = if j = o.id then none else s.op? j := by
  rw [State.op?, (completeOp_stock o s).1, op?_filter_ne]
  rfl

/-! ## CANCEL (R455) -/

/-- The operation that serves a block of a cancelled XID completes here. -/
def endBlock (b : PeerBlock) (s : State) : State :=
  match b.op.bind (fun i => s.op? i) with
  | some o => completeOp o s
  | none => s

theorem takeCancel_eq (f : RxFrame) (s : State) :
    takeCancel p f s = enqueue p { (controlFrame lfCdone) with xid := f.xid, block := f.block }
      (dropBlocks p (fun b => decide (b.xid = f.xid))
        (foldS endBlock ((s.port p).peers.filter (fun b => decide (b.xid = f.xid))) s)) := rfl

/-- From `s` to `t` operations have completed, and what serves the peers is else the same. -/
structure State.endsOps (s t : State) : Prop where
  cist : t.cist = s.cist
  service : ∀ n, (t.port n).service = (s.port n).service
  count : t.ports.length = s.ports.length
  gone : ∀ i, s.op? i = none → t.op? i = none

theorem endBlock_endsOps {r : State} (b : PeerBlock) (h : r.endsOps s) : r.endsOps (endBlock b s) := by
  unfold endBlock
  split
  · next o ho =>
    refine ⟨(completeOp_stock o s).2.trans h.cist, fun n => (completeOp_service o s n).trans (h.service n),
      (completeOp_keepsLinks s.keepsLinks_refl).count.trans h.count, fun i hi => ?_⟩
    rw [completeOp_op?]
    split
    · rfl
    · exact h.gone i hi
  · exact h

theorem endBlock_gone {b : PeerBlock} {i : Nat} (hop : b.op = some i) : (endBlock b s).op? i = none := by
  unfold endBlock
  cases ho : s.op? i with
  | none => simp [hop, ho]
  | some o => simp [hop, ho, completeOp_op?, State.op?_id ho]

theorem State.endsOps_refl (s : State) : s.endsOps s := ⟨rfl, fun _ => rfl, rfl, fun _ => id⟩

theorem foldS_endBlock_endsOps (xs : List PeerBlock) (s : State) : s.endsOps (foldS endBlock xs s) :=
  foldS_inv s.endsOps endBlock (fun b _ h => endBlock_endsOps b h) xs s s.endsOps_refl

theorem foldS_endBlock_gone (xs : List PeerBlock) (s : State) :
    ∀ b ∈ xs, ∀ i, b.op = some i → (foldS endBlock xs s).op? i = none := by
  induction xs generalizing s with
  | nil => simp
  | cons x xs ih =>
    intro b hb i hi
    rcases List.mem_cons.mp hb with rfl | hb
    · exact (foldS_endBlock_endsOps xs _).gone i (endBlock_gone hi)
    · exact ih _ b hb i hi

/-- A CANCEL leaves no block and no operation of its XID in service, and is answered. -/
theorem takeCancel_ends (hp : p < s.ports.length) (f : RxFrame) :
    ((takeCancel p f s).port p).peers = (s.port p).peers.filter (fun b => decide (b.xid ≠ f.xid)) ∧
      ((takeCancel p f s).port p).queue =
        (s.port p).queue ++ [{ (controlFrame lfCdone) with xid := f.xid, block := f.block }] ∧
      ((takeCancel p f s).port p).held = (s.port p).held ∧
      (∀ b ∈ (s.port p).peers, b.xid = f.xid → ∀ i, b.op = some i → (takeCancel p f s).op? i = none) ∧
      (takeCancel p f s).cist = s.cist := by
  rw [takeCancel_eq]
  generalize hmine : (s.port p).peers.filter (fun b => decide (b.xid = f.xid)) = mine
  have hends := foldS_endBlock_endsOps mine s
  have hgone := foldS_endBlock_gone mine s
  generalize foldS endBlock mine s = t at hends hgone
  have htp : p < t.ports.length := hp.trans_eq hends.count.symm
  have hservice := hends.service p
  rw [enqueue_port (by rwa [dropBlocks_count]), dropBlocks_port htp]
  refine ⟨?_, ?_, congrArg (·.2.2.2.2) hservice, fun b hb hx i hi => ?_, hends.cist⟩
  · simp only [Port.without, ← show (t.port p).peers = (s.port p).peers from congrArg (·.1) hservice, decide_not]
  · simp only [Port.without, ← show (t.port p).queue = (s.port p).queue from congrArg (·.2.1) hservice]
  · exact hgone b (hmine ▸ List.mem_filter.mpr ⟨hb, by simpa using hx⟩) i hi

variable {bs : List Byte}

/-- Frames that leave the buffer leave the rest of their port. -/
theorem leaveBuffer_leaves {n : Nat} (hp : p < s.ports.length) (ht : leaveBuffer p n s = t) :
    p < t.ports.length ∧ (t.port p).peers = (s.port p).peers ∧ (t.port p).queue = (s.port p).queue ∧
      (t.port p).held = (s.port p).held ∧ t.plant = s.plant := by
  subst ht
  rw [leaveBuffer_port hp, leaveBuffer_count]
  exact ⟨hp, rfl, rfl, rfl, rfl⟩

theorem deliverFrame_cancel (htyp : (parseFrame bs).typ = lfCancel) :
    deliverFrame p bs s = takeCancel p (parseFrame bs) (leaveBuffer p (creditCost bs.length) s) := by
  unfold deliverFrame
  dsimp only
  rw [htyp]
  rfl

section
variable (h : s.expects p bs)
include h

theorem exec_cancel_ends (htyp : (frameIn bs).typ = lfCancel) :
    ∃ t, exec (.cancel p bs) s = .next t ∧
      (t.port p).peers = (s.port p).peers.filter (fun b => decide (b.xid ≠ (frameIn bs).xid)) ∧
      (t.port p).queue = (s.port p).queue ++
        [{ (controlFrame lfCdone) with xid := (frameIn bs).xid, block := (frameIn bs).block }] ∧
      (∀ b ∈ (s.port p).peers, b.xid = (frameIn bs).xid → ∀ i, b.op = some i → t.op? i = none) ∧ t.cist = s.cist := by
  obtain ⟨r, hr⟩ := h.arrives
  obtain ⟨hpeers, hqueue, -, hheld⟩ := hr.service
  generalize hu : leaveBuffer p (creditCost (unpadded bs).length) r = u
  obtain ⟨hup, hupeers, huqueue, huheld, huplant⟩ := leaveBuffer_leaves hr.port hu
  obtain ⟨hendpeers, hendqueue, hendheld, hgone, hendcist⟩ := takeCancel_ends hup (frameIn bs)
  obtain ⟨t, hexec, htpeers, htqueue, -, htplant, -⟩ := hr.serves (row := .cancel p bs) rfl (by decide) htyp
    ((deliverFrame_cancel htyp).trans (by rw [hu])) rfl (by rw [hendheld, huheld, hheld, hr.held])
  have hsame := huplant.trans (hr.keeps.keepsTurn p).plant
  simp only [State.plant, Prod.mk.injEq] at htplant hsame
  obtain ⟨htops, -, -, htcist, -⟩ := htplant
  obtain ⟨-, -, -, hucist, -⟩ := hsame
  have hop (i : Nat) : t.op? i = (takeCancel p (frameIn bs) u).op? i := by rw [State.op?, htops]; rfl
  refine ⟨t, hexec, by rw [htpeers, hendpeers, hupeers, hpeers], by rw [htqueue, hendqueue, huqueue, hqueue],
    fun b hb hx i hi => ?_, (htcist.trans hendcist).trans hucist⟩
  rw [hop]
  exact hgone b (by rwa [hupeers, hpeers]) hx i hi

end

/-! ## WDATA (R440, R452, R456) -/

theorem deliverFrame_wdata (htyp : (parseFrame bs).typ = lfWdata) : deliverFrame p bs s = takeWdata p (parseFrame bs) s := by
  unfold deliverFrame
  dsimp only
  rw [htyp]
  rfl

/-- A WDATA for no block in service leaves the buffer, and nothing else happens. -/
theorem exec_wdata_discarded (h : s.expects p bs) (htyp : (frameIn bs).typ = lfWdata)
    (hnone : ∀ b ∈ (s.port p).peers, b.is (frameIn bs).xid (frameIn bs).block = false ∨ b.write = false) :
    ∃ t, exec (.wdata p bs) s = .next t ∧ (t.port p).peers = (s.port p).peers ∧
      (t.port p).granted = ((s.port p).granted + creditCost (20 + (frameIn bs).len)) % 65536 ∧ t.ops = s.ops ∧
      t.cist = s.cist ∧ t.engs = s.engs ∧ t.regs = s.regs := by
  obtain ⟨r, hr⟩ := h.arrives
  obtain ⟨hpeers, -, hgranted, hheld⟩ := hr.service
  have hkeeps := hr.keeps.keepsTurn p
  have hfind : (r.port p).peers.find? (fun b => b.is (frameIn bs).xid (frameIn bs).block && b.write) = none := by
    rw [hpeers, List.find?_eq_none]
    intro b hb
    rcases hnone b hb with hb | hb <;> simp [hb]
  have htake : takeWdata p (frameIn bs) r = leaveBuffer p (creditCost (20 + (frameIn bs).len)) r := by
    rw [takeWdata, hfind]
  obtain ⟨t, hexec, htpeers, -, htgranted, htplant, htregs⟩ := hr.serves (row := .wdata p bs) rfl (by decide) htyp
    ((deliverFrame_wdata htyp).trans htake) (congrArg Port.service (leaveBuffer_port hr.port _)) (hheld.trans hr.held)
  rw [leaveBuffer_plant, hkeeps.plant] at htplant
  rw [leaveBuffer_regs, hkeeps.regs] at htregs
  simp only [State.plant, Prod.mk.injEq] at htplant
  obtain ⟨htops, htengs, -, htcist, -⟩ := htplant
  exact ⟨t, hexec, htpeers.trans hpeers, htgranted.trans (by rw [hgranted]), htops, htcist, htengs, htregs⟩

end

end Sys2Proof.Machine

namespace Sys2Proof.Machine

/-! ## A block that a peer writes (R452) -/

section
variable {s t : State} {p : Nat}

/-- The lanes of a block's data in the order of their addresses. -/
def dataLanes (o : PumpOp) (bytes : List Byte) : List (Int × List Byte) :=
  (List.range o.seen).map (fun i => (((o.listBase + 16 * i : Nat) : Int), (bytes.drop (16 * i)).take 16))

/-- The strings of bytes that the lanes of a block become in the cistern. -/
def landings (s : State) (o : PumpOp) (bytes : List Byte) : List (Nat × List Byte) :=
  (dataLanes o bytes).map (landed s o.peerAccess)

section
variable {o : PumpOp} {b : PeerBlock} {bytes : List Byte}

/-- Data that makes up the block whole is cut into its lanes. -/
theorem dataLanes_eq (hdata : b.data = [(0, bytes)]) (hlen : bytes.length = 16 * o.seen) :
    b.data.flatMap (fun x => (List.range (x.2.length / 16)).filterMap (fun j =>
      ((lanesFrom o.listBase o.seen)[x.1 + j]?).map (fun a => (some a, (x.2.drop (16 * j)).take 16)))) =
      (dataLanes o bytes).map (fun w => (some w.1, w.2)) := by
  have hn : bytes.length / 16 = o.seen := by omega
  have hlane (j : Nat) (hj : j ∈ List.range o.seen) :
      ((lanesFrom o.listBase o.seen)[0 + j]?).map (fun a => (some a, (bytes.drop (16 * j)).take 16)) =
        some (some ((o.listBase + 16 * j : Nat) : Int), (bytes.drop (16 * j)).take 16) := by
    rw [Nat.zero_add, lanesFrom, List.getElem?_map, List.getElem?_range (List.mem_range.mp hj)]
    rfl
  rw [hdata, List.flatMap_singleton, hn, List.filterMap_congr hlane, dataLanes, List.map_map]
  exact congrFun List.filterMap_eq_map _

/-- A peer's operation after `n` more lanes of its block. -/
def PumpOp.counts (o : PumpOp) (n : Nat) : PumpOp := { o with short := 0, refCount := o.refCount + n }

/-- The data of a block leaves it, and its buffer space is granted. -/
def dataTaken (p : Nat) (b : PeerBlock) (s : State) : State :=
  leaveBuffer p ({ b with credit := 0 } : PeerBlock).holds (modBlock p b.xid b.block (fun c => { c with data := [] }) s)

/-- The WDATA that brings a block whole is written, and the block is answered. -/
theorem serveWrite_whole {i : Nat} (hs : s.cistWhole) (ho : s.op? i = some o) (hdata : b.data = [(0, bytes)])
    (hlen : bytes.length = 16 * o.seen)
    (hok : ∀ w ∈ dataLanes o bytes, (translate s o.ctx .write true w.1).isSome = true) :
    ∃ t, s.writesWhole t ∧ t.cist = memWriteAll s.cist (landings s o bytes) ∧
      serveWrite p i b s = enqueue p (answer b lfWdone 0 []) (dropBlock p b.xid b.block
        (completeOp (o.counts o.seen) (dataTaken p b (t.modOp i (fun _ => o.counts o.seen))))) := by
  let m0 : Moving := { s := s, prot := o.prot, ecc := o.ecc, still := false, drop := 0, short := 0 }
  have hlanes : ∀ w ∈ dataLanes o bytes, w.2.length = 16 := by
    intro w hw
    obtain ⟨j, hj, rfl⟩ := List.mem_map.mp hw
    have hlt := List.mem_range.mp hj
    simp only [List.length_take, List.length_drop]
    omega
  obtain ⟨t, hwrite, ht, hcist⟩ := writeLanes_whole (x := o.peerAccess) (m := m0) hs hlanes hok
  have hcount : ((dataLanes o bytes).map (fun w => (some w.1, w.2))).length = o.seen := by simp [dataLanes]
  have hall : (lanesFrom o.listBase o.seen).length ≤ o.refCount + o.seen := by simp [lanesFrom]
  refine ⟨t, ht, hcist, ?_⟩
  unfold serveWrite
  simp only [ho, dataLanes_eq hdata hlen]
  rw [show writeLanes { ctx := o.ctx, peer := true, chan := none } ((dataLanes o bytes).map (fun w => (some w.1, w.2))) _ = _
    from hwrite]
  simp only [hcount, if_pos hall]
  rfl

end
end

section
variable {s t : State} {p x : Nat} {o : PumpOp} {b : PeerBlock} {bytes : List Byte}

section
variable (hp : p < s.ports.length) (hpeers : (s.port p).peers = [b])
include hp hpeers

theorem dataTaken_port : (dataTaken p b s).port p = { s.port p with
    peers := [{ b with data := [] }],
    granted := ((s.port p).granted + ({ b with credit := 0 } : PeerBlock).holds) % 65536 } := by
  rw [dataTaken, leaveBuffer_port (by rwa [modBlock_count]), modBlock_port hp, hpeers]
  simp [b.is_self]

theorem enqueue_dropBlock_service (htcount : t.ports.length = s.ports.length) (ht : (t.port p).service = (s.port p).service)
    (f : TxFrame) : ((enqueue p f (dropBlock p b.xid b.block t)).port p).service = ((s.port p).answered b.holds f).service := by
  have htp : p < t.ports.length := hp.trans_eq htcount.symm
  have htpeers : (t.port p).peers = [b] := (congrArg (·.1) ht).trans hpeers
  simp only [Port.service, Prod.mk.injEq] at ht
  obtain ⟨-, hqueue, hgranted, hturn, hheld⟩ := ht
  rw [enqueue_port (by simpa [dropBlock] using htp), dropBlock_port_alone htp htpeers b.is_self]
  simp only [Port.service, Port.answered, hqueue, hgranted, hturn, hheld]

end

/-- An operation that has changed under its number is gone with it. -/
theorem filter_modOp {q : PumpOp} {i : Nat} (hq : q.id = i) (s : State) :
    (s.modOp i (fun _ => q)).ops.filter (fun x => x.id ≠ i) = s.ops.filter (fun x => x.id ≠ i) := by
  unfold State.modOp
  dsimp only
  induction s.ops with
  | nil => rfl
  | cons y ys ih =>
    rw [List.map_cons, List.filter_cons, List.filter_cons, ih]
    by_cases hy : y.id = i <;> simp [hy, hq]

theorem enqueue_dropBlock_plant (f : TxFrame) (y e : Nat) (s : State) : (enqueue p f (dropBlock p y e s)).plant = s.plant := rfl

theorem dataTaken_plant (b : PeerBlock) (s : State) : (dataTaken p b s).plant = s.plant := rfl

/-- The last WDATA of a block ends its service: the lanes are in the cistern, the tag is free, and WDONE is queued. -/
theorem serveWrite_ends (hp : p < s.ports.length) (hs : s.cistWhole) (hpeers : (s.port p).peers = [b])
    (hcredit : b.credit = 0) (ho : s.op? o.id = some o) (hi : o.issuer = .peer p x) (hdata : b.data = [(0, bytes)])
    (hlen : bytes.length = 16 * o.seen)
    (hok : ∀ w ∈ dataLanes o bytes, (translate s o.ctx .write true w.1).isSome = true) :
    ((serveWrite p o.id b s).port p).service =
        ((s.port p).answered (creditCost (20 + bytes.length)) (answer b lfWdone 0 [])).service ∧
      (serveWrite p o.id b s).plant = (s.ops.filter (fun x => x.id ≠ o.id), s.engs, s.bells,
        memWriteAll s.cist (landings s o bytes), s.banks) := by
  obtain ⟨t, ht, hcist, hserve⟩ := serveWrite_whole (p := p) hs ho hdata hlen hok
  have hports : (t.modOp o.id (fun _ => o.counts o.seen)).ports = s.ports := by rw [ht.rest]; rfl
  have hops : (t.modOp o.id (fun _ => o.counts o.seen)).ops.filter (fun x => x.id ≠ o.id) =
      s.ops.filter (fun x => x.id ≠ o.id) := by
    rw [filter_modOp (q := o.counts o.seen) (i := o.id) rfl, ht.rest]
  have hplant : (t.modOp o.id (fun _ => o.counts o.seen)).plant =
      ((t.modOp o.id (fun _ => o.counts o.seen)).ops, s.engs, s.bells, t.cist, s.banks) := by rw [ht.rest]; rfl
  generalize t.modOp o.id (fun _ => o.counts o.seen) = v at hserve hports hops hplant
  have hvport : v.port p = s.port p := congrArg (nth · p Port.reset) hports
  have hvp : p < v.ports.length := by rwa [hports]
  have htaken := dataTaken_port hvp (by rw [hvport]; exact hpeers)
  rw [hserve]
  constructor
  · have hholds : ({ b with credit := 0 } : PeerBlock).holds = creditCost (20 + bytes.length) := by
      simp [PeerBlock.holds, hdata]
    have hempty : ({ b with data := [] } : PeerBlock).holds = 0 := by simp [PeerBlock.holds, hcredit]
    have hdp : p < (dataTaken p b v).ports.length := by rwa [dataTaken, leaveBuffer_count, modBlock_count]
    refine (enqueue_dropBlock_service (b := { b with data := [] }) hdp (by rw [htaken])
      (completeOp_keepsLinks (State.keepsLinks_refl _)).count (completeOp_service _ _ p) _).trans ?_
    rw [htaken, hvport, hholds, hempty]
    simp [Port.service, Port.answered]
  · have hdone := completeOp_peer_plant (o := o.counts o.seen) hi (dataTaken p b v)
    have htplant := (dataTaken_plant (p := p) b v).trans hplant
    simp only [State.plant, Prod.mk.injEq] at htplant
    obtain ⟨htops, htengs, htbells, htcist, htbanks⟩ := htplant
    rw [enqueue_dropBlock_plant, hdone, htops, htengs, htbells, htcist, htbanks, ← hcist]
    exact congrArg (·, s.engs, s.bells, t.cist, s.banks) hops

/-- The block with the payload of a WDATA that has arrived for it. -/
def PeerBlock.takes (b : PeerBlock) (f : RxFrame) : PeerBlock := { b with data := b.data ++ [(f.offset, f.payload)] }

section
variable {f : RxFrame} (hpeers : (s.port p).peers = [b]) (his : b.is f.xid f.block = true)
include hpeers his

theorem takeWdata_serves {i : Nat} (hwrite : b.write = true) (hop : b.op = some i) :
    takeWdata p f s = serveAll p (serveWrite p i (b.takes f) (modBlock p f.xid f.block (fun _ => b.takes f) s)) := by
  have hfind : (s.port p).peers.find? (fun b => b.is f.xid f.block && b.write) = some b := by simp [hpeers, his, hwrite]
  rw [takeWdata, hfind]
  dsimp only
  split
  · next hnone => simp [hop] at hnone
  · next j hj =>
    cases hop.symm.trans hj
    rfl

theorem takes_port (hp : p < s.ports.length) :
    (modBlock p f.xid f.block (fun _ => b.takes f) s).port p = { s.port p with peers := [b.takes f] } := by
  rw [modBlock_port hp, hpeers]
  simp [his]

end

theorem takeWdata_ends {f : RxFrame} (hp : p < s.ports.length) (hs : s.cistWhole) (hpeers : (s.port p).peers = [b])
    (his : b.is f.xid f.block = true) (hwrite : b.write = true) (hop : b.op = some o.id) (ho : s.op? o.id = some o)
    (hi : o.issuer = .peer p x) (hdata : b.data = []) (hcredit : b.credit = 0) (hoffset : f.offset = 0)
    (hlen : f.payload.length = 16 * o.seen)
    (hok : ∀ w ∈ dataLanes o f.payload, (translate s o.ctx .write true w.1).isSome = true) :
    ((takeWdata p f s).port p).service =
        ((s.port p).answered (creditCost (20 + f.payload.length)) (answer b lfWdone 0 [])).service ∧
      (takeWdata p f s).plant = (s.ops.filter (fun x => x.id ≠ o.id), s.engs, s.bells,
        memWriteAll s.cist (landings s o f.payload), s.banks) := by
  have hport := takes_port hpeers his hp
  have hends := serveWrite_ends (b := b.takes f) (s := modBlock p f.xid f.block (fun _ => b.takes f) s)
    (by rwa [modBlock_count]) ⟨hs.ue, hs.alive⟩ (by rw [hport]) hcredit ho hi
    (by simp [PeerBlock.takes, hdata, hoffset]) hlen hok
  have hnone : ((serveWrite p o.id (b.takes f) (modBlock p f.xid f.block (fun _ => b.takes f) s)).port p).peers = [] :=
    congrArg (·.1) hends.1
  rw [takeWdata_serves hpeers his hwrite hop, serveAll, servePort_none _ hnone]
  rw [hport] at hends
  exact hends

end

/-! ### The row WDATA -/

section
variable {s : State} {p x : Nat} {bs bytes : List Byte} {o : PumpOp} {b : PeerBlock}

theorem frameKept_payload (h : frameKept s bs = true) : (parseFrame bs).payload.length = (parseFrame bs).len := by
  have hlength : bs.length = 20 + (parseFrame bs).len := by
    simp only [frameKept, Bool.and_eq_true, decide_eq_true_eq] at h
    exact h.2
  have hpayload : (parseFrame bs).payload.length = min (parseFrame bs).len (bs.length - 16) := by
    simp [parseFrame]
  omega

section
variable (hlen : bytes.length = 16 * o.seen)
  (hok : ∀ i, i < o.seen → (translate s o.ctx .write true ((o.listBase + 16 * i : Nat) : Int)).isSome = true)

include hok

theorem dataLanes_translated : ∀ w ∈ dataLanes o bytes, (translate s o.ctx .write true w.1).isSome = true := by
  intro w hw
  obtain ⟨i, hi, rfl⟩ := List.mem_map.mp hw
  exact hok i (List.mem_range.mp hi)

/-- Each string is a lane, at the place that its address is translated to. -/
theorem mem_landings (w : Nat × List Byte) : w ∈ landings s o bytes ↔
    ∃ i a, i < o.seen ∧ translate s o.ctx .write true ((o.listBase + 16 * i : Nat) : Int) = some a ∧
      w = (a, (bytes.drop (16 * i)).take 16) := by
  simp only [landings, dataLanes, List.map_map, List.mem_map, List.mem_range, Function.comp_apply, landed]
  constructor
  · rintro ⟨i, hi, rfl⟩
    obtain ⟨a, ha⟩ := Option.isSome_iff_exists.mp (hok i hi)
    exact ⟨i, a, hi, ha, by rw [show translate s o.peerAccess.ctx .write o.peerAccess.peer _ = some a from ha]; rfl⟩
  · rintro ⟨i, a, hi, ha, rfl⟩
    exact ⟨i, hi, by rw [show translate s o.peerAccess.ctx .write o.peerAccess.peer _ = some a from ha]; rfl⟩

include hlen

omit hok in
theorem dataLane_length {i : Nat} (hi : i < o.seen) : ((bytes.drop (16 * i)).take 16).length = 16 := by
  simp only [List.length_take, List.length_drop]
  omega

/-- Lanes at places that differ lie apart: every place is a lane's. -/
theorem landings_apart (hbase : o.listBase % 16 = 0)
    (hdiff : ∀ i j, i < o.seen → j < o.seen → i ≠ j →
      translate s o.ctx .write true ((o.listBase + 16 * i : Nat) : Int) ≠
        translate s o.ctx .write true ((o.listBase + 16 * j : Nat) : Int)) :
    (landings s o bytes).Pairwise (fun v w => v.1 + v.2.length ≤ w.1 ∨ w.1 + w.2.length ≤ v.1) := by
  rw [landings, dataLanes, List.map_map, List.pairwise_map]
  refine List.pairwise_lt_range.imp_of_mem fun {i j} hi hj hij => ?_
  have hi := List.mem_range.mp hi
  have hj := List.mem_range.mp hj
  obtain ⟨a, ha⟩ := Option.isSome_iff_exists.mp (hok i hi)
  obtain ⟨c, hc⟩ := Option.isSome_iff_exists.mp (hok j hj)
  have hne : a ≠ c := fun hac => hdiff i j hi hj hij.ne (by rw [ha, hc, hac])
  have hamod := translate_mod ha
  have hcmod := translate_mod hc
  simp only [Function.comp_apply, landed, show translate s o.peerAccess.ctx .write o.peerAccess.peer _ = some a from ha,
    show translate s o.peerAccess.ctx .write o.peerAccess.peer _ = some c from hc, Option.getD_some,
    dataLane_length hlen hi, dataLane_length hlen hj]
  omega

theorem memReadN_landings (hm : Memory.wf s.cist = true) (hbase : o.listBase % 16 = 0)
    (hdiff : ∀ i j, i < o.seen → j < o.seen → i ≠ j →
      translate s o.ctx .write true ((o.listBase + 16 * i : Nat) : Int) ≠
        translate s o.ctx .write true ((o.listBase + 16 * j : Nat) : Int)) (i a : Nat) (hi : i < o.seen)
    (ha : translate s o.ctx .write true ((o.listBase + 16 * i : Nat) : Int) = some a) :
    memReadN (memWriteAll s.cist (landings s o bytes)) a 16 = (bytes.drop (16 * i)).take 16 := by
  have hread := memReadN_memWriteAll hm (landings_apart hlen hok hbase hdiff) _
    ((mem_landings hok _).mpr ⟨i, a, hi, ha, rfl⟩)
  rwa [dataLane_length hlen hi] at hread

theorem memRead_landings_outside (hm : Memory.wf s.cist = true) (y : Nat)
    (hy : ∀ i a, i < o.seen → translate s o.ctx .write true ((o.listBase + 16 * i : Nat) : Int) = some a →
      y < a ∨ a + 16 ≤ y) : memRead (memWriteAll s.cist (landings s o bytes)) y = memRead s.cist y := by
  refine memRead_memWriteAll_outside hm fun w hw => ?_
  obtain ⟨i, a, hi, ha, rfl⟩ := (mem_landings hok w).mp hw
  rw [dataLane_length hlen hi]
  exact hy i a hi ha

end

theorem State.keepsTurn.landings {t : State} (h : s.keepsTurn p t) (o : PumpOp) (bytes : List Byte) :
    landings t o bytes = landings s o bytes := by rw [h.rest]; rfl

/-- The WDATA that brings a block whole is written to the exported lanes and answered with WDONE. -/
theorem exec_wdata_ends (h : s.expects p bs) (hs : s.cistWhole) (htyp : (frameIn bs).typ = lfWdata)
    (hpeers : (s.port p).peers = [b]) (his : b.is (frameIn bs).xid (frameIn bs).block = true) (hwrite : b.write = true)
    (hop : b.op = some o.id) (ho : s.op? o.id = some o) (hi : o.issuer = .peer p x) (hdata : b.data = [])
    (hcredit : b.credit = 0) (hoffset : (frameIn bs).offset = 0) (hlen : (frameIn bs).len = 16 * o.seen)
    (hok : ∀ i, i < o.seen → (translate s o.ctx .write true ((o.listBase + 16 * i : Nat) : Int)).isSome = true) :
    ∃ t, exec (.wdata p bs) s = .next t ∧ (t.port p).queue = (s.port p).queue ++ [answer b lfWdone 0 []] ∧
      (t.port p).peers = [] ∧
      (t.port p).granted = ((s.port p).granted + creditCost (20 + (frameIn bs).len)) % 65536 ∧
      t.plant = (s.ops.filter (fun x => x.id ≠ o.id), s.engs, s.bells,
        memWriteAll s.cist (landings s o (frameIn bs).payload), s.banks) := by
  obtain ⟨r, hr⟩ := h.arrives
  obtain ⟨hqpeers, hqueue, hgranted, hheld⟩ := hr.service
  have hkeeps := hr.keeps.keepsTurn p
  have hpayload : (frameIn bs).payload.length = (frameIn bs).len := frameKept_payload h.kept
  obtain ⟨hservice, hplant⟩ := takeWdata_ends hr.port (hkeeps.cistWhole hs) (hqpeers.trans hpeers) his hwrite hop
    ((hkeeps.op? _).trans ho) hi hdata hcredit hoffset (hpayload.trans hlen)
    (dataLanes_translated fun i hi => by rw [hkeeps.translate]; exact hok i hi)
  obtain ⟨t, hexec, htpeers, htqueue, htgranted, htplant, -⟩ := hr.serves (row := .wdata p bs) rfl (by decide) htyp
    (deliverFrame_wdata htyp) hservice (hheld.trans hr.held)
  have hsame := hkeeps.plant
  simp only [State.plant, Prod.mk.injEq] at hsame
  obtain ⟨hops, hengs, hbells, hcist, hbanks⟩ := hsame
  refine ⟨t, hexec, htqueue.trans (by rw [Port.answered, hqueue]), htpeers,
    htgranted.trans (by rw [Port.answered, hgranted, hpayload]), htplant.trans ?_⟩
  rw [hplant, hkeeps.landings, hops, hengs, hbells, hcist, hbanks]

end

/-! ## The statement -/

/-- The payload of an answer is the lanes at consecutive addresses. -/
theorem flatMap_lanesFrom (s : State) (x : Access) (base n : Nat) : (lanesFrom base n).flatMap (readLane s x) =
    (List.range n).flatMap (fun i =>
      cistGet s ((translate s x.ctx .read x.peer ((base + 16 * i : Nat) : Int)).getD 0) 16) := List.flatMap_map _ _ _

/-- Settles O53, one frame after another: each is the expected one, so its row acts on the arrived state alone, and the lanes of
a block are read and written piece by piece as its pages translate them. -/
theorem servingFrames : Obligations.ServingFrames := by
  unfold Obligations.ServingFrames
  intro s p bs hs hn hm hp hlen hup hheld hkept hnext
  have h : s.expects p bs := ⟨hm, hp, hlen, hup, hheld, hkept, hnext⟩
  refine ⟨?req, ?wdata, fun htyp hnone => exec_wdata_discarded h htyp hnone, fun htyp => exec_cancel_ends h htyp⟩
  case req =>
    rintro b htyp hone hpeers rfl hready
    refine ⟨fun hno => exec_req_refuses h htyp hone hpeers hready hno, ?_⟩
    rintro base n hpump hbase hread rfl hlow hhigh - hue halive
    obtain ⟨t, hexec, hqueue, htpeers, hgranted, hops, hengs, hcist⟩ :=
      exec_req_reads h htyp hone hpeers hready hn ⟨hue, halive⟩ hpump hbase hread hlow hhigh
    rw [flatMap_lanesFrom] at hqueue
    exact ⟨t, hexec, htpeers, hops, hengs, hcist, hgranted, hqueue⟩
  case wdata =>
    intro b o htyp hpeers his hwrite hop ho hi hdata hcredit _ hoffset hseen hbase hue halive hok hdiff
    obtain ⟨t, hexec, hqueue, htpeers, hgranted, hplant⟩ :=
      exec_wdata_ends h ⟨hue, halive⟩ htyp hpeers his hwrite hop ho hi hdata hcredit hoffset hseen hok
    have hbytes : (frameIn bs).payload.length = 16 * o.seen := (frameKept_payload hkept).trans hseen
    simp only [State.plant, Prod.mk.injEq] at hplant
    obtain ⟨hops, hengs, -, hcist, hbanks⟩ := hplant
    have hgone (j : Nat) : t.op? j = if j = o.id then none else s.op? j := by
      rw [State.op?, hops, op?_filter_ne]
      rfl
    have hdead (x : Nat) : bankDead t x = false := by
      rw [bankDead, State.bank, hbanks]
      exact halive x
    refine ⟨t, hexec, hqueue, htpeers, hgranted, by simp [hgone], fun i hi => by simp [hgone, hi], hengs,
      fun i a hi ha => ?_, fun x hx => ?_⟩
    · rw [cistGet, if_neg (by simp [hdead]), hcist]
      exact memReadN_landings hbytes hok hs.cist hbase hdiff i a hi ha
    · rw [hcist]
      exact memRead_landings_outside hbytes hok hs.cist x hx

end Sys2Proof.Machine

/-! ## What refutes the statement of the rounding instructions (R302)

SRND of a zero is a zero whatever the draw. Over a store that lists the destination byte twice, the zero takes the first entry
out, and the second is read. -/

namespace Sys2Proof.Machine

/-- A zero has no fractional part to round. -/
theorem roundsTo_zero {w sh : Nat} {u : W32} {z : Int} (h : roundsTo w sh 0 u z) : z = 0 := by
  obtain ⟨f, r, hsplit, hr, hz⟩ := h
  have hr0 : r = 0 := Nat.eq_zero_of_dvd_of_lt (by
    rw [← Int.natCast_dvd_natCast, Nat.cast_pow, Nat.cast_ofNat]
    exact (Int.dvd_add_right (Dvd.intro_left f rfl)).mp (hsplit ▸ Int.dvd_zero _)) hr
  have hf0 : f = 0 := by simpa [hr0] using hsplit
  have hw : (1 : Int) ≤ 2 ^ (w - 1) := one_le_pow₀ (by decide)
  simp only [hr0, hf0, Nat.zero_mul, Nat.not_lt_zero, false_and, if_false, clampTo] at hz
  omega

theorem length_stochList (w sh : Nat) (vs : List Int) (g : W32) : (stochList w sh vs g).1.length = vs.length := by
  induction vs generalizing g with
  | nil => rfl
  | cons v vs ih => exact congrArg (· + 1) (ih (genStep g))

theorem doSrnd_int8_wrote {s : State} {e : Nat} {i : Ins} (he : e < s.engs.length) (ts : List Touch) (het : i.et = 0)
    (hn : 0 < i.n) : s.wrote e (atOf ts 1) (doSrnd e i ts s) := by
  have hbs : packElems 8 (stochList 8 i.imm (storeElems s e (atOf ts 0) 32 (srndCount 0 i.n)) (s.eng e).gen).1 ≠ [] :=
    packElems_ne_nil (by simp [length_stochList, storeElems, elems, srndCount]; omega)
  simp only [doSrnd, het]
  exact next_storePut_wrote (by simpa using he) (nth_modAt_keeps Engine.store _ _ _ _ _ fun _ => rfl) hbs

/-- SRND of 64 elements from 0x10000 to INT8 at 0x12000, with SHIFT 0. -/
def srndIns : Ins := { op := .srnd, sb := false, xs := [⟨false, 16, 0x1000⟩, ⟨false, 16, 0x1200⟩] }
def srndWord : Nat := 7 * 2 ^ 59 + 0x1000 * 2 ^ 37 + 0x1200 * 2 ^ 19

theorem srndJob_reaches : (jobAt srndWord 0x12000).reaches 0 firstOfJob srndIns :=
  jobAt_reaches (by decide +kernel) (by decide +kernel)

theorem srndJob_zero : storeElem (jobAt srndWord 0x12000) 0
    (atOf (touches (jobAt srndWord 0x12000) 0 firstOfJob srndIns) 0) 32 0 = 0 := by
  decide +kernel

/-- Refutes O26, as O23 is refuted, since its states need not be sound: SRND of a zero element over a store that lists the
destination byte twice. -/
theorem not_roundingRows : ¬ Obligations.RoundingRows := by
  unfold Obligations.RoundingRows
  rintro ⟨⟨hsrnd, -⟩, -⟩
  obtain ⟨t, ht, -, hint8, -⟩ := hsrnd _ _ _ _ srndJob_reaches rfl
  have hrounds := hint8 rfl 0 (by decide)
  rw [srndJob_zero] at hrounds
  have hzero : storeElem t 0 0x12000 8 0 = 0 := roundsTo_zero hrounds
  have hwrote := srndJob_reaches.wrote (fun ts u hu => doSrnd_int8_wrote hu ts (i := srndIns) rfl (by decide)) ht
  exact hwrote.reads (jobAt_listsTwice (by decide +kernel)) (memRead_of_storeElem_zero (.inl rfl) hzero)

end Sys2Proof.Machine

/-! ## Epochs, sweeps and the bank swap (R313 to R317, R320) -/

namespace Sys2Proof.Machine

section
variable {c : Nat} {s : State}

theorem State.ofPart.eng_lt {p : Part} (hp : s.ofPart p) {e : Nat} (he : e < p.engines) : e < s.engs.length :=
  he.trans_eq (congrArg Shape.engs hp.2).symm

/-! ### The start of a sweep (R314, R223) -/

/-- A part of channel `c`'s sweep is pending on the engine. -/
def Engine.awaitsSweep (c : Nat) (g : Engine) : Engine :=
  { g with sweeps := (List.range 16).filter (fun x => x = c ∨ g.sweeps.contains x = true) }

theorem mem_awaitsSweep (hc : c < 16) (g : Engine) : c ∈ (g.awaitsSweep c).sweeps := by
  simp [Engine.awaitsSweep, hc]

/-- The learning state on the start of a sweep on the engines `es`. -/
def Learn.sweeping (es : List Nat) (l : Learn) : Learn := { l with hold := true, sweepOn := true, sweepBad := false, parts := es }

theorem startSweep_eq (c : Nat) (s : State) :
    startSweep c s = foldS (fun e s => s.modEng e (Engine.awaitsSweep c)) (chanEngines s c)
      (s.modLearn c (Learn.sweeping (chanEngines s c))) := rfl

/-- What every update by `f` establishes holds of each engine that it updates. -/
theorem foldS_modEng_reaches {f : Engine → Engine} {P : Engine → Prop} (hf : ∀ g, P (f g)) {e : Nat} (es : List Nat)
    (s : State) (hlen : e < s.engs.length) (h : e ∈ es ∨ P (s.eng e)) : P ((foldS (fun e s => s.modEng e f) es s).eng e) := by
  induction es generalizing s with
  | nil => exact h.resolve_left List.not_mem_nil
  | cons x es ih =>
    refine ih _ (by simpa [State.modEng] using hlen) ?_
    by_cases hx : e = x
    · subst hx
      exact .inr (State.eng_modEng_same s e f hlen ▸ hf _)
    · rw [State.eng_modEng_other s x e f hx]
      exact h.imp_left fun he => (List.mem_cons.mp he).resolve_left hx

/-- A sweep touches the engines and the learning state of its channel. -/
theorem startSweep_rest (c : Nat) (s : State) :
    startSweep c s = { s.modLearn c (Learn.sweeping (chanEngines s c)) with engs := (startSweep c s).engs } := by
  rw [startSweep_eq]
  refine foldS_inv (fun t : State => t = { s.modLearn c (Learn.sweeping (chanEngines s c)) with engs := t.engs }) _
    (fun e t ht => ?_) _ _ rfl
  rw [ht]
  rfl

/-- A sweep starts on every engine of the map that the part has. -/
theorem startSweep_pending (hc : c < 16) {e : Nat} (he : e ∈ chanEngines s c) (hlen : e < s.engs.length) :
    c ∈ ((startSweep c s).eng e).sweeps :=
  foldS_modEng_reaches (P := fun g => c ∈ g.sweeps) (mem_awaitsSweep hc) _ _ hlen (.inl he)

/-! ### The boundary of an epoch (R313 to R315) -/

/-- An entry is numbered and queued while no edge collects entries and fewer than 64 are queued (R361). -/
theorem journal_queues (h : s.settled) (hroom : s.journal.queue.length < 64)
    (typ chan cls flags score aux rim tb : Nat) (payload : List Byte) :
    ∃ j, journal typ chan cls flags score aux rim tb payload s = { s with journal := j } ∧
      j.queue.length = s.journal.queue.length + 1 := by
  unfold journal numberEntry
  rw [show s.journal.stage = none from h]
  dsimp only
  rw [if_pos hroom]
  exact ⟨_, rfl, by simp⟩

/-- An epoch that ends starts a sweep (R314). -/
def sweepStarts (c : Nat) (held : Bool) (s : State) : Bool :=
  s.bit (CH c) 0x00 15 && (s.chan c).learnOn && (s.chan c).st.counting && !held && !(s.chan c).learn.tainted &&
    !s.tick.buttressOnly

/-- The sweep that the end of an epoch starts, or the CLEAR that it sets (R314, R315). -/
def sweepOrClear (c : Nat) (held : Bool) (s : State) : State :=
  if sweepStarts c held s then startSweep c s else s.modLearn c (fun l => { l with clear := true })

theorem sweepOrClear_rest (c : Nat) (held : Bool) (s : State) :
    sweepOrClear c held s =
      { s with chans := (sweepOrClear c held s).chans, engs := (sweepOrClear c held s).engs } := by
  unfold sweepOrClear
  split
  · rw [startSweep_rest]
    rfl
  · rfl

/-- The end of an epoch starts the sweep or sets CLEAR, queues one entry and drops the taint (R314, R315, R319). -/
theorem endEpoch_eq (hset : s.settled) (hroom : s.journal.queue.length < 64) (held : Bool) (rim tb : Nat) :
    ∃ j, endEpoch c held rim tb s =
        ({ sweepOrClear c held s with journal := j } : State).modLearn c (fun l => { l with tainted := false }) ∧
      j.queue.length = s.journal.queue.length + 1 := by
  have hkeep : (sweepOrClear c held s).journal = s.journal := by rw [sweepOrClear_rest]
  have hset' : (sweepOrClear c held s).settled := (congrArg Journal.stage hkeep).trans hset
  obtain ⟨j, hj, hlen⟩ := journal_queues hset' (hkeep ▸ hroom) 3 c 0
    (if sweepStarts c held s then 0 else 16 * b2n held + 32 * b2n (s.chan c).learn.tainted) 0 (s.chan c).learn.swaps rim tb []
  exact ⟨j, congrArg (fun t : State => t.modLearn c (fun l => { l with tainted := false })) hj, hkeep ▸ hlen⟩

theorem sweepOrClear_others (held : Bool) {x : Nat} (hx : x ≠ c) : (sweepOrClear c held s).chan x = s.chan x := by
  unfold sweepOrClear
  split
  · rw [startSweep_rest]
    exact State.chan_modChan_other s c x _ hx.symm
  · exact State.chan_modChan_other s c x _ hx.symm

theorem sweepOrClear_learn (held : Bool) (hlen : c < s.chans.length) :
    ((sweepOrClear c held s).chan c).learn =
      if sweepStarts c held s then (s.chan c).learn.sweeping (chanEngines s c) else { (s.chan c).learn with clear := true } := by
  unfold sweepOrClear
  split
  · rw [startSweep_rest]
    exact congrArg Channel.learn (State.chan_modChan_same s c _ hlen)
  · exact congrArg Channel.learn (State.chan_modChan_same s c _ hlen)

theorem sweepOrClear_length (c : Nat) (held : Bool) (s : State) : (sweepOrClear c held s).chans.length = s.chans.length := by
  unfold sweepOrClear
  split
  · rw [startSweep_rest]
    exact modAt_length _ _ _
  · exact modAt_length _ _ _

theorem sweepOrClear_sweeps {held : Bool} (h : sweepStarts c held s = true) (hc : c < 16) {e : Nat} (he : e ∈ chanEngines s c)
    (hlen : e < s.engs.length) : c ∈ ((sweepOrClear c held s).eng e).sweeps := by
  rw [sweepOrClear, if_pos h]
  exact startSweep_pending hc he hlen

theorem sweepOrClear_engs {held : Bool} (h : sweepStarts c held s = false) : (sweepOrClear c held s).engs = s.engs := by
  simp [sweepOrClear, h, State.modLearn]

/-- Channel `c` at the start of its next epoch: position 0 and the written length in force (R313). -/
def epochTurned (c : Nat) (s : State) : State :=
  (s.modLearn c (fun l => { l with pos := 0, exp := s.fld (CH c) 0x04 0 5 })).modChan c (fun ch => { ch with stepped := true })

theorem epochTurned_length (c : Nat) (s : State) : (epochTurned c s).chans.length = s.chans.length := by
  simp [epochTurned, State.modLearn]

/-- A channel on duty has no shadow boundary. -/
theorem epochBoundary_onDuty (hlen : c < s.chans.length) (h : (s.chan c).st.onDuty = true) (held : Bool) (rim tb : Nat) :
    epochBoundary c held rim tb s = endEpoch c held rim tb (epochTurned c s) := by
  have hst : ((epochTurned c s).chan c).st = (s.chan c).st := by
    simp [epochTurned, State.modLearn, State.chan_modChan_same, hlen]
  have htrial : ((epochTurned c s).chan c).st.onTrial = false := by
    rw [hst]
    revert h
    cases (s.chan c).st <;> decide
  exact congrArg (endEpoch c held rim tb) (if_pos (.inl htrial))

theorem epochTurned_chan (hlen : c < s.chans.length) :
    (epochTurned c s).chan c =
      { s.chan c with stepped := true, learn := { (s.chan c).learn with pos := 0, exp := s.fld (CH c) 0x04 0 5 } } := by
  simp [epochTurned, State.modLearn, State.chan_modChan_same, hlen]

theorem epochTurned_others {x : Nat} (hx : x ≠ c) : (epochTurned c s).chan x = s.chan x := by
  simp [epochTurned, State.modLearn, State.chan_modChan_other _ _ _ _ hx.symm]

theorem sweepStarts_epochTurned (hlen : c < s.chans.length) (h : (s.chan c).st.onDuty = true)
    (hb : s.tick.buttressOnly = false) :
    sweepStarts c (s.chan c).learn.hold (epochTurned c s) =
      (s.bit (CH c) 0x00 15 && (s.chan c).learnOn && !(s.chan c).learn.hold && !(s.chan c).learn.tainted) := by
  have hcounting : (s.chan c).st.counting = true := by
    revert h
    cases (s.chan c).st <;> decide
  have hbit : (epochTurned c s).bit (CH c) 0x00 15 = s.bit (CH c) 0x00 15 := rfl
  have htick : (epochTurned c s).tick = s.tick := rfl
  simp [sweepStarts, epochTurned_chan hlen, hcounting, hbit, htick, hb]

/-! ### The rows -/

/-- What the end of an epoch on duty leaves: one entry more, the channel's learning state, and its sweep's pending parts. -/
theorem epochEnds_onDuty (hlen : c < s.chans.length) (hduty : (s.chan c).st.onDuty = true) (hdue : epochDue s c = true)
    (hset : s.settled) (hroom : s.journal.queue.length < 64) :
    (epochEnds c s).journal.queue.length = s.journal.queue.length + 1 ∧
      (epochEnds c s).engs = (sweepOrClear c (s.chan c).learn.hold (epochTurned c s)).engs ∧
      (∀ x, x ≠ c → (epochEnds c s).chan x = s.chan x) ∧
      ((epochEnds c s).chan c).learn =
        { ((sweepOrClear c (s.chan c).learn.hold (epochTurned c s)).chan c).learn with tainted := false } := by
  obtain ⟨j, hj, hqueue⟩ := endEpoch_eq (c := c) (s := epochTurned c s) hset hroom (s.chan c).learn.hold s.now s.tb
  have hlen' : c < (sweepOrClear c (s.chan c).learn.hold (epochTurned c s)).chans.length := by
    rw [sweepOrClear_length, epochTurned_length]
    exact hlen
  rw [epochEnds, if_pos hdue, epochBoundary_onDuty hlen hduty, hj]
  refine ⟨hqueue, rfl, fun x hx => ?_, congrArg Channel.learn (State.chan_modChan_same _ c _ hlen')⟩
  exact (State.chan_modChan_other _ c x _ hx.symm).trans ((sweepOrClear_others _ hx).trans (epochTurned_others hx))

/-- EPOCH_END of a channel on duty: the boundary's entry, and the sweep or the CLEAR. -/
theorem exec_epochEnd_onDuty {p : Part} (hp : s.ofPart p) (hm : s.power.mode = .run) (hc : c < 16)
    (hduty : (s.chan c).st.onDuty = true) (hb : s.tick.buttressOnly = false) (hdue : epochDue s c = true) (hset : s.settled)
    (hroom : s.journal.queue.length < 64) :
    ∃ t, exec (.epochEnd c) s = .next t ∧ (t.chan c).learn.pos = 0 ∧ (t.chan c).learn.exp = s.fld (CH c) 0x04 0 5 ∧
      (t.chan c).learn.tainted = false ∧ t.journal.queue.length = s.journal.queue.length + 1 ∧
      (∀ x, x ≠ c → t.chan x = s.chan x) ∧
      (s.bit (CH c) 0x00 15 = true → (s.chan c).learnOn = true → (s.chan c).learn.hold = false →
        (s.chan c).learn.tainted = false →
        (t.chan c).learn.sweepOn = true ∧ (t.chan c).learn.hold = true ∧ (t.chan c).learn.parts = chanEngines s c ∧
          (∀ e, e ∈ chanEngines s c → e < p.engines → c ∈ (t.eng e).sweeps) ∧
          (t.chan c).learn.clear = (s.chan c).learn.clear) ∧
      (s.bit (CH c) 0x00 15 = false ∨ (s.chan c).learnOn = false ∨ (s.chan c).learn.hold = true ∨
          (s.chan c).learn.tainted = true →
        (t.chan c).learn.sweepOn = (s.chan c).learn.sweepOn ∧ (t.chan c).learn.clear = true ∧ t.engs = s.engs) := by
  have hlen := hp.chan_lt hc
  have hturned := epochTurned_chan (s := s) hlen
  have hmap : chanEngines (epochTurned c s) c = chanEngines s c := by rw [chanEngines, hturned]; rfl
  have hstarts := sweepStarts_epochTurned hlen hduty hb
  have hlearn := sweepOrClear_learn (s := epochTurned c s) (s.chan c).learn.hold (epochTurned_length c s ▸ hlen)
  obtain ⟨hqueue, hsweeps, hothers, hend⟩ := epochEnds_onDuty hlen hduty hdue hset hroom
  rw [hlearn, hturned, hmap] at hend
  have hexec : exec (.epochEnd c) s = .next (epochEnds c s) := (whenRun_of_run hm).trans (by rw [forChan, if_pos hc])
  refine ⟨_, hexec, ?_, ?_, by rw [hend], hqueue, hothers, fun hen hon hhold htaint => ?_, fun hnot => ?_⟩
  · rw [hend]
    split <;> rfl
  · rw [hend]
    split <;> rfl
  · have hgo : sweepStarts c (s.chan c).learn.hold (epochTurned c s) = true := by
      rw [hstarts]
      simp [hen, hon, hhold, htaint]
    rw [if_pos hgo] at hend
    rw [hend]
    refine ⟨rfl, rfl, rfl, fun e he hpart => ?_, rfl⟩
    rw [State.eng_of_engs hsweeps]
    exact sweepOrClear_sweeps hgo hc (hmap ▸ he) (hp.eng_lt hpart)
  · have hstay : sweepStarts c (s.chan c).learn.hold (epochTurned c s) = false := by
      rw [hstarts]
      rcases hnot with h | h | h | h <;> simp [h]
    rw [if_neg (by simp [hstay])] at hend
    rw [hend]
    exact ⟨rfl, rfl, hsweeps.trans (sweepOrClear_engs hstay)⟩

/-- SWEEP_COMPLETE: the channel's sweep ends, and READY sets unless the channel is in Stopping (R316, R159). -/
theorem exec_sweepComplete_ends {p : Part} (hp : s.ofPart p) (hm : s.power.mode = .run) (hc : c < 16)
    (hsweep : (s.chan c).learn.sweepOn = true) (hparts : (s.chan c).learn.parts = []) (hbad : (s.chan c).learn.sweepBad = false)
    (hoff : (s.chan c).st ≠ .off) :
    ∃ t, exec (.sweepComplete c) s = .next t ∧ (t.chan c).learn.sweepOn = false ∧
      (t.chan c).learn.ready = (if (s.chan c).st = .stopping then (s.chan c).learn.ready else true) ∧
      (t.chan c).learn.active = (s.chan c).learn.active ∧ (∀ x, x ≠ c → t.chan x = s.chan x) ∧ t.engs = s.engs := by
  have hlen := hp.chan_lt hc
  have hended := (State.onlyChan_refl c s).modChan fun ch => { ch with learn := { ch.learn with sweepOn := false } }
  have hexec : exec (.sweepComplete c) s = .next (completeSweep c s) := (whenRun_of_run hm).trans (by rw [forChan, if_pos hc])
  refine ⟨_, hexec, ?_⟩
  rw [completeSweep, if_pos ⟨hsweep, hparts, hbad⟩]
  generalize hs1 : s.modLearn c (fun l => { l with sweepOn := false }) = s1
  have hchan : s1.chan c = { s.chan c with learn := { (s.chan c).learn with sweepOn := false } } :=
    hs1 ▸ State.chan_modChan_same s c _ hlen
  have honly : s.onlyChan c s1 := hs1 ▸ hended
  dsimp only
  split
  · rw [hchan]
    exact ⟨rfl, rfl, rfl, honly.others, honly.engs⟩
  · have hready := setReady_onlyChan c none s1
    have hlearn := setReady_learn (honly.length ▸ hlen : c < s1.chans.length) none
    rw [hchan, if_neg hoff] at hlearn
    rw [hlearn]
    exact ⟨rfl, rfl, rfl, fun x hx => (hready.others x hx).trans (honly.others x hx), hready.engs.trans honly.engs⟩

/-- BANK_SWAP of a counting channel with READY set (R317, R320). -/
theorem exec_bankSwap_swaps {p : Part} (hp : s.ofPart p) (hm : s.power.mode = .run) (hc : c < 16)
    (hready : (s.chan c).learn.ready = true) (hcounting : (s.chan c).st.counting = true) :
    ∃ t, exec (.bankSwap c) s = .next t ∧ (t.chan c).learn.active = !(s.chan c).learn.active ∧
      (t.chan c).learn.ready = false ∧ (t.chan c).learn.hold = false ∧ (t.chan c).learn.clear = true ∧
      (t.chan c).drift.refresh = true ∧ (t.chan c).st = (s.chan c).st ∧ (∀ x, x ≠ c → t.chan x = s.chan x) ∧
      t.engs = s.engs ∧ t.regs = s.regs := by
  have hlen := hp.chan_lt hc
  have hexec : exec (.bankSwap c) s = .next (edgeSwap c s) := (whenRun_of_run hm).trans (by rw [forChan, if_pos hc])
  have hchan : ∀ f g, ((s.modLearn c f).modDrift c g).chan c =
      { s.chan c with learn := f (s.chan c).learn, drift := g (s.chan c).drift } := fun f g => by
    simp [State.modLearn, State.modDrift, State.chan_modChan_same, hlen]
  refine ⟨_, hexec, ?_⟩
  rw [edgeSwap, if_pos ⟨hready, hcounting⟩]
  have honly := (State.onlyChan_refl c s).swapBanks
  refine ⟨?_, ?_, ?_, ?_, ?_, ?_, honly.others, honly.engs, rfl⟩ <;> rw [swapBanks, hchan]

end

/-- Settles O21: the boundary of an epoch on duty queues its entry and starts the sweep or sets CLEAR, and the other two
rows are one change of their channel's learning state. -/
theorem epochsAndSweeps : Obligations.EpochsAndSweeps := by
  unfold Obligations.EpochsAndSweeps
  exact ⟨fun _ _ _ hp _ hm hc hduty hb hdue hset hroom => exec_epochEnd_onDuty hp hm hc hduty hb hdue hset hroom,
    fun _ _ _ hp hm hc => ⟨exec_sweepComplete_ends hp hm hc, exec_bankSwap_swaps hp hm hc⟩⟩

end Sys2Proof.Machine

/-! ## The requests of the firmware (R327 to R332, R467, R472, R483, R485, R486, R555) -/

namespace Sys2Proof.Machine

section
variable {s t u : State}

/-! ### A reply (R143, R145) -/

/-- `u` is `t` with a reply: its words, its event and what the event does to the supervisor, and no other word of DEV. -/
structure State.replied (t u : State) : Prop where
  rest : u = { t with regs := u.regs, sup := { t.sup with cause := u.sup.cause, wfi := u.sup.wfi } }
  dev : ∀ r, r < 256 → r ≠ 5 → u.rd DEV r = t.rd DEV r

/-- An event writes its register and the supervisor's interrupt cause. -/
theorem raise_rest (i : Nat) (s : State) :
    raise i s = { s with regs := (raise i s).regs,
                         sup := { s.sup with cause := (raise i s).sup.cause, wfi := (raise i s).sup.wfi } } := by
  unfold raise
  dsimp only
  split <;> rfl

theorem mboxReply_replied (m0 : Word) (result low w6 w7 : Nat) (t : State) :
    t.replied (mboxReply m0 result low w6 w7 t) where
  rest := raise_rest _ _
  dev r hr h5 := mboxReply_rd_DEV _ _ _ _ _ _ r hr h5

/-- A request that is served on a sound state is answered with what its service gives. -/
theorem serveRequest_answers {code result low w6 w7 : Nat} {f : State → State × Nat × Nat × Nat × Nat}
    (h : mboxOpen s = true) (hcode : mboxCode s = code) (hf : f (takeRequest s) = (t, result, low, w6, w7)) (ht : t.sound)
    (hreq : t.sup.hostReq = false) :
    answered s (serveRequest code f s) result low w6 w7 ∧ t.replied (serveRequest code f s) := by
  rw [serveRequest_open h hcode hf]
  exact ⟨mboxReply_answered _ _ _ _ _ s ht.regs.1 hreq, mboxReply_replied _ _ _ _ _ t⟩

/-- A request that is refused changes nothing beside its reply. -/
theorem serveRequest_refuses {code result low w6 w7 : Nat} {f : State → State × Nat × Nat × Nat × Nat} (hs : s.sound)
    (h : mboxOpen s = true) (hcode : mboxCode s = code) (hf : f (takeRequest s) = (takeRequest s, result, low, w6, w7)) :
    answered s (serveRequest code f s) result low w6 w7 ∧ (takeRequest s).replied (serveRequest code f s) :=
  serveRequest_answers h hcode hf (takeRequest_sound s hs) rfl

/-! ### RETIRE and READMIT (R467, R472, R485) -/

theorem exec_mboxRetire (hm : s.power.mode = .run) : exec .mboxRetire s = .next (serveRequest 0x30 retireServe s) :=
  whenRun_of_run hm

theorem exec_mboxReadmit (hm : s.power.mode = .run) : exec .mboxReadmit s = .next (serveRequest 0x31 readmitServe s) :=
  whenRun_of_run hm

theorem retireServe_buttress (hkind : wfld (mbox s 1) 12 4 = 5) : retireServe s = (setButtress s, 0, 0xFF, 0, 0) := if_pos hkind

theorem retireServe_unit (hkind : wfld (mbox s 1) 12 4 ≠ 5)
    (hunit : unitExists s (wfld (mbox s 1) 12 4) (wfld (mbox s 1) 0 8) = true) :
    retireServe s = (retireUnit (wfld (mbox s 1) 12 4) (wfld (mbox s 1) 0 8) s, 0, 0xFF, 0, 0) :=
  (if_neg hkind).trans (if_pos hunit)

theorem unitExists_reserved {kind : Nat} (h : 4 < kind) (i : Nat) : unitExists s kind i = false := by
  obtain ⟨k, rfl⟩ := Nat.exists_eq_add_of_le' h
  rfl

theorem retireServe_reserved (hkind : 5 < wfld (mbox s 1) 12 4) : retireServe s = (s, 4, 0xFF, 0, 0) := by
  have hnone := unitExists_reserved (s := s) (show 4 < wfld (mbox s 1) 12 4 by omega) (wfld (mbox s 1) 0 8)
  exact (if_neg (by omega)).trans (if_neg (by simp [hnone]))

theorem readmitServe_reserved (hkind : 4 < wfld (mbox s 1) 12 4 ∨ wfld (mbox s 1) 12 4 = 2) :
    readmitServe s = (s, 4, 0xFF, 0, 0) :=
  if_pos (hkind.imp_left fun h => unitExists_reserved h _)

theorem readmitServe_engine (hkind : wfld (mbox s 1) 12 4 = 0) (hi : wfld (mbox s 1) 0 8 < s.part.engines) :
    readmitServe s = (readmitUnit 0 (wfld (mbox s 1) 0 8) s, 0, 0xFF, 0, 0) := by
  have hunit : unitExists s 0 (wfld (mbox s 1) 0 8) = true := decide_eq_true hi
  simp [readmitServe, hkind, hunit]

/-- A channel that is not retired is not readmitted. -/
theorem readmitServe_notRetired (hkind : wfld (mbox s 1) 12 4 = 4) (hi : wfld (mbox s 1) 0 8 < 16)
    (hst : (s.chan (wfld (mbox s 1) 0 8)).st ≠ .retired) : readmitServe s = (s, 3, 0xFF, 0, 0) := by
  have hunit : unitExists s 4 (wfld (mbox s 1) 0 8) = true := decide_eq_true hi
  simp [readmitServe, hkind, hunit, readmitChan, hst]

/-- A bank in service retires at once, with its record (R467, R470). -/
theorem retireBank_inService {i cause : Nat} (hi : i < 16) (h : (s.bank i).retired = false) :
    retireBank i cause s =
      faultRecord 16 i 0xFF 0 2 cause (s.modBank i (fun k => { k with retired := true, fenced := false, job := .idle })) :=
  if_neg (by simp [h, hi])

/-- A record leaves the fields that `raise_rest` keeps, but for the fault queue. -/
theorem faultRecord_rest (src unit chan flags detail detail2 : Nat) (s : State) :
    faultRecord src unit chan flags detail detail2 s =
      { s with regs := (faultRecord src unit chan flags detail detail2 s).regs,
               faults := (faultRecord src unit chan flags detail detail2 s).faults,
               sup := { s.sup with cause := (faultRecord src unit chan flags detail detail2 s).sup.cause,
                                   wfi := (faultRecord src unit chan flags detail detail2 s).sup.wfi } } := by
  have hraise (i : Nat) (f : Faults) : raise i { s with faults := f } =
      { s with regs := (raise i { s with faults := f }).regs, faults := (raise i { s with faults := f }).faults,
               sup := { s.sup with cause := (raise i { s with faults := f }).sup.cause,
                                   wfi := (raise i { s with faults := f }).sup.wfi } } := by
    rw [raise_rest]
  exact hraise _ _

/-! ### The rows RETIRE and READMIT -/

section
variable {p : Part} (hs : s.sound) (hm : s.power.mode = .run) (hopen : mboxOpen s = true)
include hs hm hopen

/-- RETIRE of an existing unit gives it the command. -/
theorem exec_mboxRetire_unit (hcode : mboxCode s = 0x30) (hkind : wfld (s.rd SUP 0x09) 12 4 ≠ 5)
    (hunit : unitExists s (wfld (s.rd SUP 0x09) 12 4) (wfld (s.rd SUP 0x09) 0 8) = true)
    (hreq : (retireUnit (wfld (s.rd SUP 0x09) 12 4) (wfld (s.rd SUP 0x09) 0 8) (takeRequest s)).sup.hostReq = false) :
    ∃ t, exec .mboxRetire s = .next t ∧ answered s t 0 0xFF 0 0 ∧
      (retireUnit (wfld (s.rd SUP 0x09) 12 4) (wfld (s.rd SUP 0x09) 0 8) (takeRequest s)).replied t :=
  ⟨_, exec_mboxRetire hm, serveRequest_answers hopen hcode (retireServe_unit (s := takeRequest s) hkind hunit)
    (retireUnit_sound _ _ _ (takeRequest_sound s hs)) hreq⟩

theorem exec_mboxRetire_buttress (hcode : mboxCode s = 0x30) (hkind : wfld (s.rd SUP 0x09) 12 4 = 5) :
    ∃ t, exec .mboxRetire s = .next t ∧ answered s t 0 0xFF 0 0 ∧ t.bit DEV 0x03 14 = true := by
  have hset : (setButtress (takeRequest s)).sound := setButtress_sound _ (takeRequest_sound s hs)
  obtain ⟨hans, hrep⟩ := serveRequest_answers hopen hcode (retireServe_buttress (s := takeRequest s) hkind) hset rfl
  refine ⟨_, exec_mboxRetire hm, hans, ?_⟩
  rw [State.bit, hrep.dev _ (by decide) (by decide)]
  exact (State.bit_setB (takeRequest_sound s hs).regs.1 _ _ _ _ (by decide)).trans (by simp)

theorem exec_mboxRetire_bank (hbanks : s.banks.length = 16) (hcode : mboxCode s = 0x30)
    (hkind : wfld (s.rd SUP 0x09) 12 4 = 2) (hi : wfld (s.rd SUP 0x09) 0 8 < 16)
    (hlive : (s.bank (wfld (s.rd SUP 0x09) 0 8)).retired = false) :
    ∃ t, exec .mboxRetire s = .next t ∧ answered s t 0 0xFF 0 0 ∧ (t.bank (wfld (s.rd SUP 0x09) 0 8)).retired = true ∧
      (∀ b, b ≠ wfld (s.rd SUP 0x09) 0 8 → t.bank b = s.bank b) ∧ t.engs = s.engs ∧ t.chans = s.chans := by
  have hunit : unitExists s (wfld (s.rd SUP 0x09) 12 4) (wfld (s.rd SUP 0x09) 0 8) = true := by
    rw [hkind]
    exact decide_eq_true hi
  have hretire := retireBank_inService (s := takeRequest s) (cause := 0) hi hlive
  obtain ⟨t, hexec, hans, hrep⟩ := exec_mboxRetire_unit hs hm hopen hcode (by omega) hunit (by
    rw [hkind]
    show (retireBank _ 0 (takeRequest s)).sup.hostReq = false
    rw [hretire, faultRecord_rest]
    rfl)
  have hrest := hrep.rest
  rw [hkind, show retireUnit 2 _ (takeRequest s) = retireBank _ 0 (takeRequest s) from rfl, hretire, faultRecord_rest] at hrest
  refine ⟨t, hexec, hans, ?_, fun b hb => ?_, ?_, ?_⟩
  · rw [hrest]
    exact congrArg Bank.retired (nth_modAt_same _ _ _ _ (hi.trans_eq hbanks.symm))
  · rw [hrest]
    exact nth_modAt_other _ _ _ _ _ hb.symm
  · rw [hrest]
    rfl
  · rw [hrest]
    rfl

theorem exec_mboxRetire_engine (hp : s.ofPart p) (hcode : mboxCode s = 0x30) (hkind : wfld (s.rd SUP 0x09) 12 4 = 0)
    (hi : wfld (s.rd SUP 0x09) 0 8 < p.engines) :
    ∃ t, exec .mboxRetire s = .next t ∧ answered s t 0 0xFF 0 0 ∧
      t.eng (wfld (s.rd SUP 0x09) 0 8) = { s.eng (wfld (s.rd SUP 0x09) 0 8) with retireCmd := some 0, readmitCmd := false } ∧
      (∀ x, x ≠ wfld (s.rd SUP 0x09) 0 8 → t.eng x = s.eng x) ∧ t.chans = s.chans := by
  have hunit : unitExists s (wfld (s.rd SUP 0x09) 12 4) (wfld (s.rd SUP 0x09) 0 8) = true := by
    rw [hkind]
    exact decide_eq_true (hp.1 ▸ hi)
  obtain ⟨t, hexec, hans, hrep⟩ := exec_mboxRetire_unit hs hm hopen hcode (by omega) hunit (by rw [hkind]; rfl)
  have hrest := hrep.rest
  rw [hkind] at hrest
  refine ⟨t, hexec, hans, ?_, fun x hx => ?_, ?_⟩
  · rw [hrest]
    exact State.eng_modEng_same s _ _ (hp.eng_lt hi)
  · rw [hrest]
    exact State.eng_modEng_other s _ x _ hx
  · rw [hrest]
    rfl

theorem exec_mboxRetire_channel (hp : s.ofPart p) (hcode : mboxCode s = 0x30) (hkind : wfld (s.rd SUP 0x09) 12 4 = 4)
    (hi : wfld (s.rd SUP 0x09) 0 8 < 16) :
    ∃ t, exec .mboxRetire s = .next t ∧ answered s t 0 0xFF 0 0 ∧
      t.chan (wfld (s.rd SUP 0x09) 0 8) = { s.chan (wfld (s.rd SUP 0x09) 0 8) with retireCmd := some 0, readmitCmd := false } ∧
      (∀ x, x ≠ wfld (s.rd SUP 0x09) 0 8 → t.chan x = s.chan x) ∧ t.engs = s.engs := by
  have hunit : unitExists s (wfld (s.rd SUP 0x09) 12 4) (wfld (s.rd SUP 0x09) 0 8) = true := by
    rw [hkind]
    exact decide_eq_true hi
  obtain ⟨t, hexec, hans, hrep⟩ := exec_mboxRetire_unit hs hm hopen hcode (by omega) hunit (by rw [hkind]; rfl)
  have hrest := hrep.rest
  rw [hkind] at hrest
  refine ⟨t, hexec, hans, ?_, fun x hx => ?_, ?_⟩
  · rw [hrest]
    exact State.chan_modChan_same s _ _ (hp.chan_lt hi)
  · rw [hrest]
    exact State.chan_modChan_other s _ x _ hx.symm
  · rw [hrest]
    rfl

theorem exec_mboxReadmit_engine (hp : s.ofPart p) (hcode : mboxCode s = 0x31) (hkind : wfld (s.rd SUP 0x09) 12 4 = 0)
    (hi : wfld (s.rd SUP 0x09) 0 8 < p.engines) :
    ∃ t, exec .mboxReadmit s = .next t ∧ answered s t 0 0xFF 0 0 ∧
      t.eng (wfld (s.rd SUP 0x09) 0 8) = { s.eng (wfld (s.rd SUP 0x09) 0 8) with retireCmd := none, readmitCmd := true } ∧
      (∀ x, x ≠ wfld (s.rd SUP 0x09) 0 8 → t.eng x = s.eng x) := by
  obtain ⟨hans, hrep⟩ := serveRequest_answers hopen hcode (readmitServe_engine (s := takeRequest s) hkind (hp.1 ▸ hi))
    (readmitUnit_sound _ _ _ (takeRequest_sound s hs)) rfl
  have hrest := hrep.rest
  refine ⟨_, exec_mboxReadmit hm, hans, ?_, fun x hx => ?_⟩
  · rw [hrest]
    exact State.eng_modEng_same s _ _ (hp.eng_lt hi)
  · rw [hrest]
    exact State.eng_modEng_other s _ x _ hx

theorem exec_mboxReadmit_notRetired (hcode : mboxCode s = 0x31) (hkind : wfld (s.rd SUP 0x09) 12 4 = 4)
    (hi : wfld (s.rd SUP 0x09) 0 8 < 16) (hst : (s.chan (wfld (s.rd SUP 0x09) 0 8)).st ≠ .retired) :
    ∃ t, exec .mboxReadmit s = .next t ∧ answered s t 3 0xFF 0 0 ∧ t.chans = s.chans := by
  obtain ⟨hans, hrep⟩ := serveRequest_refuses hs hopen hcode (readmitServe_notRetired (s := takeRequest s) hkind hi hst)
  refine ⟨_, exec_mboxReadmit hm, hans, ?_⟩
  rw [hrep.rest]
  rfl

/-- A RETIRE or READMIT that names no unit is answered BAD_ARGS. -/
theorem exec_mboxUnit_reserved (h : mboxCode s = 0x30 ∧ 5 < wfld (s.rd SUP 0x09) 12 4 ∨
      mboxCode s = 0x31 ∧ (4 < wfld (s.rd SUP 0x09) 12 4 ∨ wfld (s.rd SUP 0x09) 12 4 = 2)) :
    ∃ t, exec (if mboxCode s = 0x30 then .mboxRetire else .mboxReadmit) s = .next t ∧ answered s t 4 0xFF 0 0 ∧
      t.chans = s.chans ∧ t.engs = s.engs ∧ t.banks = s.banks := by
  rcases h with ⟨hcode, hkind⟩ | ⟨hcode, hkind⟩
  · obtain ⟨hans, hrep⟩ := serveRequest_refuses hs hopen hcode (retireServe_reserved (s := takeRequest s) hkind)
    refine ⟨_, (if_pos hcode ▸ exec_mboxRetire hm), hans, ?_⟩
    rw [hrep.rest]
    exact ⟨rfl, rfl, rfl⟩
  · obtain ⟨hans, hrep⟩ := serveRequest_refuses hs hopen hcode (readmitServe_reserved (s := takeRequest s) hkind)
    rw [if_neg (by omega)]
    refine ⟨_, exec_mboxReadmit hm, hans, ?_⟩
    rw [hrep.rest]
    exact ⟨rfl, rfl, rfl⟩

end

end

end Sys2Proof.Machine

namespace Sys2Proof.Machine

/-! ### Reads and writes of memory that leave records (R478, R622) -/

/-- From `s` to `t` memory has been read, and a session of the SEC block may have been used: banks and engines count errors
and queue column tests, and records are left. No byte of memory moves, and the same banks are dead. -/
structure State.recorded (s t : State) : Prop where
  rest : t = { s with engs := t.engs, banks := t.banks, storeBanks := t.storeBanks, regs := t.regs, faults := t.faults,
                      sup := { s.sup with cause := t.sup.cause, wfi := t.sup.wfi }, sec := t.sec, free := t.free }
  store : ∀ g, (t.eng g).store = (s.eng g).store
  dead : ∀ b, bankDead t b = bankDead s b

section
variable {s t u : State}

theorem State.recorded_refl (s : State) : s.recorded s := ⟨rfl, fun _ => rfl, fun _ => rfl⟩

theorem State.recorded.trans (h : s.recorded t) (h' : t.recorded u) : s.recorded u where
  rest := by rw [h'.rest, h.rest]
  store g := (h'.store g).trans (h.store g)
  dead b := (h'.dead b).trans (h.dead b)

theorem State.recorded.cist (h : s.recorded t) : t.cist = s.cist := by rw [h.rest]
theorem State.recorded.cistUe (h : s.recorded t) : t.cistUe = s.cistUe := by rw [h.rest]
theorem State.recorded.chans (h : s.recorded t) : t.chans = s.chans := by rw [h.rest]
theorem State.recorded.chan (h : s.recorded t) (c : Nat) : t.chan c = s.chan c := by rw [h.rest]; rfl
theorem State.recorded.kept (h : s.recorded t) : t.sup.kept = s.sup.kept := by rw [h.rest]
theorem State.recorded.hostReq (h : s.recorded t) : t.sup.hostReq = s.sup.hostReq := by rw [h.rest]

theorem foldS_recorded {α : Type} {f : α → State → State} (hf : ∀ a (s : State), s.recorded (f a s))
    (xs : List α) (s : State) :
    s.recorded (foldS f xs s) :=
  foldS_inv s.recorded f (fun a x hx => hx.trans (hf a x)) xs s s.recorded_refl

theorem faultRecord_recorded (src unit chan flags detail detail2 : Nat) (s : State) :
    s.recorded (faultRecord src unit chan flags detail detail2 s) where
  rest := by rw [faultRecord_rest]
  store g := by rw [faultRecord_rest]; rfl
  dead b := by rw [faultRecord_rest]; rfl

theorem State.modBank_recorded (s : State) (b : Nat) {f : Bank → Bank}
    (hf : ∀ k, ((f k).fenced || (f k).retired) = (k.fenced || k.retired)) : s.recorded (s.modBank b f) :=
  ⟨rfl, fun _ => rfl, (State.modBank_leavesUnits s b hf).dead⟩

theorem queueTest_recorded (i : BankId) (column : Nat) (s : State) : s.recorded (queueTest i column s) := by
  refine ⟨?_, fun g => ?_, (queueTest_leavesUnits i column s).dead⟩
  · cases i <;> rfl
  · rw [State.eng_of_engs (queueTest_engs i column s)]

theorem cistUeRecord_recorded (w : Nat) (s : State) : s.recorded (cistUeRecord none w s) :=
  ((faultRecord_recorded _ _ _ _ _ _ s).trans (State.modBank_recorded _ _ fun _ => by rfl)).trans (queueTest_recorded _ _ _)

theorem cistReadEvents_recorded (a n : Nat) (s : State) : s.recorded (cistReadEvents a n none s) := by
  unfold cistReadEvents
  split
  · exact s.recorded_refl
  · exact (foldS_recorded cistUeRecord_recorded _ s).trans
      (foldS_recorded (fun _ x => (State.modBank_recorded x _ fun _ => by rfl).trans (queueTest_recorded _ _ _)) _ _)

theorem countCorrected_recorded (e : Nat) (s : State) :
    s.recorded (s.modEng e (fun g => { g with corrected := min 0xFFFF (g.corrected + 1) })) where
  rest := rfl
  store _ := nth_modAt_keeps Engine.store _ _ _ _ _ fun _ => rfl
  dead _ := rfl

theorem storeReadEvents_recorded (e a n : Nat) (s : State) : s.recorded (storeReadEvents e a n none s) :=
  (foldS_recorded (fun _ x => (faultRecord_recorded _ _ _ _ _ _ x).trans (queueTest_recorded _ _ _)) _ s).trans
    (foldS_recorded (fun _ x => (countCorrected_recorded e x).trans (queueTest_recorded _ _ _)) _ _)

/-! ### One write to the cistern, whatever its bank and its codewords -/

theorem memRead_memWriteSkip_outside (skip : List Nat) (m : Mem) (a x : Nat) (bs : List Byte) (h : Memory.wf m = true)
    (hx : x < a ∨ a + bs.length ≤ x) : memRead (memWriteSkip skip m a bs) x = memRead m x := by
  induction bs generalizing m a with
  | nil => rfl
  | cons b bs ih =>
    simp only [List.length_cons] at hx
    rw [memWriteSkip]
    split
    · exact ih m (a + 1) h (by omega)
    · rw [ih _ _ (memWrite_wf m a b h) (by omega), memRead_memWrite m a x b h, if_neg (by omega)]

/-- A write moves the cistern and its lists of codewords, and leaves records. -/
theorem cistPut_recorded (a : Nat) (bs : List Byte) (s : State) :
    ∃ m ue ce, { s with cist := m, cistUe := ue, cistCe := ce }.recorded (cistPut a bs s) ∧
      (s.sound → ∀ x, x < a ∨ a + bs.length ≤ x → memRead m x = memRead s.cist x) := by
  unfold cistPut
  split
  · exact ⟨_, _, _, s.recorded_refl, fun _ _ _ => rfl⟩
  · exact ⟨_, _, _, foldS_recorded cistUeRecord_recorded _ _,
      fun hs x hx => memRead_memWriteSkip_outside _ _ _ _ _ hs.cist hx⟩

theorem cistPut_outside (hs : s.sound) (a : Nat) (bs : List Byte) (x : Nat) (hx : x < a ∨ a + bs.length ≤ x) :
    memRead (cistPut a bs s).cist x = memRead s.cist x := by
  obtain ⟨m, ue, ce, hrec, hout⟩ := cistPut_recorded a bs s
  rw [hrec.cist]
  exact hout hs x hx

/-- A write leaves the records that the firmware has kept and the request line. -/
theorem cistPut_sup (a : Nat) (bs : List Byte) (s : State) :
    (cistPut a bs s).sup.kept = s.sup.kept ∧ (cistPut a bs s).sup.hostReq = s.sup.hostReq := by
  obtain ⟨m, ue, ce, hrec, -⟩ := cistPut_recorded a bs s
  exact ⟨hrec.kept, hrec.hostReq⟩

end

end Sys2Proof.Machine

namespace Sys2Proof.Machine

/-! ### REPAIR (R481, R485) -/

section
variable {s : State}

/-- The lowest free spare of a bank. -/
theorem find_lowestFree {b : Bank} {n : Nat} (hn : n < 4) (hfree : (nth b.spares n Spare.reset).used = false)
    (hlow : ∀ m, m < n → (nth b.spares m Spare.reset).used = true) :
    (List.range 4).find? (fun k => !(nth b.spares k Spare.reset).used) = some n :=
  List.find?_range_eq_some.mpr ⟨by simp [hfree], List.mem_range.mpr hn, fun m hm => by simp [hlow m hm]⟩

theorem repairServe_assigns {n : Nat} (hlive : bankLive s (repairBank (wbit (mbox s 2) 0) (mbox s 1).toNat) = true)
    (hidle : (s.bankOf (repairBank (wbit (mbox s 2) 0) (mbox s 1).toNat)).job = .idle)
    (hfind : (List.range 4).find? (fun k =>
        !(nth (s.bankOf (repairBank (wbit (mbox s 2) 0) (mbox s 1).toNat)).spares k Spare.reset).used) = some n) :
    repairServe s = (queueRepair (repairBank (wbit (mbox s 2) 0) (mbox s 1).toNat) (wfld (mbox s 1) 0 8) s, 0, 0xFF, n, 0) := by
  have hexists : bankExists s (repairBank (wbit (mbox s 2) 0) (mbox s 1).toNat) = true := (Bool.and_eq_true_iff.mp hlive).1
  unfold repairServe
  dsimp only
  rw [if_neg (by simp [hexists]), if_neg (by simp [hlive]), if_neg (by simp [hidle]), hfind]
  rfl

/-- REPAIR names the lowest free spare and queues the command for the next snapshot edge. -/
theorem exec_mboxRepair_assigns (hs : s.sound) (hm : s.power.mode = .run) (hopen : mboxOpen s = true)
    (hcode : mboxCode s = 0x33) {n : Nat}
    (hlive : bankLive s (repairBank (wbit (s.rd SUP 0x0A) 0) (s.rd SUP 0x09).toNat) = true)
    (hidle : (s.bankOf (repairBank (wbit (s.rd SUP 0x0A) 0) (s.rd SUP 0x09).toNat)).job = .idle) (hn : n < 4)
    (hfree : (nth (s.bankOf (repairBank (wbit (s.rd SUP 0x0A) 0) (s.rd SUP 0x09).toNat)).spares n Spare.reset).used = false)
    (hlow : ∀ m, m < n →
      (nth (s.bankOf (repairBank (wbit (s.rd SUP 0x0A) 0) (s.rd SUP 0x09).toNat)).spares m Spare.reset).used = true) :
    ∃ t, exec .mboxRepair s = .next t ∧ answered s t 0 0xFF n 0 ∧
      (repairBank (wbit (s.rd SUP 0x0A) 0) (s.rd SUP 0x09).toNat, wfld (s.rd SUP 0x09) 0 8) ∈ t.faults.repairCmds ∧
      t.banks = s.banks ∧ t.storeBanks = s.storeBanks := by
  have hserve := repairServe_assigns (s := takeRequest s) hlive hidle (find_lowestFree hn hfree hlow)
  have hexec : exec .mboxRepair s = .next (serveRequest 0x33 repairServe s) := whenRun_of_run hm
  obtain ⟨hans, hrep⟩ := serveRequest_answers hopen hcode hserve (queueRepair_sound _ _ _ (takeRequest_sound s hs)) rfl
  refine ⟨_, hexec, hans, ?_⟩
  rw [hrep.rest]
  exact ⟨List.mem_append_right _ (List.mem_singleton.mpr rfl), rfl, rfl⟩

end

/-! ### What the firmware's policy leaves alone (R486) -/

/-- The records that the firmware has kept, its image, the request line, and the cistern. -/
def State.desk (s : State) : List FaultRec × Bool × Bool × Mem := (s.sup.kept, s.sup.image, s.sup.hostReq, s.cist)

section
variable (s : State)

theorem raise_desk (i : Nat) : (raise i s).desk = s.desk := by
  rw [raise_rest]
  rfl

theorem faultRecord_desk (src unit chan flags detail detail2 : Nat) :
    (faultRecord src unit chan flags detail detail2 s).desk = s.desk := raise_desk _ _

theorem queueTest_desk (i : BankId) (column : Nat) : (queueTest i column s).desk = s.desk := by
  cases i <;> rfl

theorem storeReadEvents_desk (e a n : Nat) : (storeReadEvents e a n none s).desk = s.desk := by
  unfold storeReadEvents
  refine (foldS_keeps State.desk _ (fun w t => ?_) _ _).trans (foldS_keeps State.desk _ (fun w t => ?_) _ s)
  · exact queueTest_desk _ _ _
  · exact (queueTest_desk _ _ _).trans (faultRecord_desk _ _ _ _ _ _ _)

theorem copyRange_desk (a b : Nat) (x : Nat × Nat) : (copyRange a b x s).desk = s.desk := storeReadEvents_desk s _ _ _

theorem copyPairs_desk (f : Nat → Nat → List (Nat × Nat)) (ps : List (Nat × Nat)) : (copyPairs f ps s).desk = s.desk := by
  refine foldS_keeps State.desk _ (fun p t => ?_) ps s
  exact foldS_keeps State.desk _ (fun x u => copyRange_desk u _ _ x) _ t

theorem retireUnit_desk (kind i : Nat) : (retireUnit kind i s).desk = s.desk := by
  unfold retireUnit
  split
  case h_3 =>
    unfold retireBank
    split
    · rfl
    · exact faultRecord_desk _ _ _ _ _ _ _
  all_goals rfl

theorem policyRetire_desk (kind i : Nat) : (policyRetire kind i s).desk = s.desk := by
  unfold policyRetire
  split
  · exact retireUnit_desk _ _ _
  · rfl

/-- A word for a channel's engine map, in whatever target its number falls. -/
theorem regPut_map_desk (c : Nat) (i : RegInfo) (v : Word) : (regPut true (CH c) 0x02 i v s).desk = s.desk := by
  unfold regPut
  iterate 7 rw [if_neg (by simp only [CH, DEV, SUP, PWR, CRY, SEC, PMP, CLO]; omega)]
  rw [if_neg (by simp only [CH]; omega)]
  split
  · unfold chPut
    rw [if_pos (.inl rfl)]
    split <;> rfl
  split <;> rfl

theorem supWrite_map_desk (c : Nat) (v : Word) : (supWrite (CH c) 0x02 v s).desk = s.desk := by
  unfold supWrite wordWrite
  split
  · rfl
  split
  · have hwindow : windowRegWrite (CH c) 0x02 v s = s := by
      rw [windowRegWrite, if_neg (by simp only [CH, DEV]; omega), if_neg (by omega)]
    rw [hwindow]
  split
  · rfl
  split
  · rfl
  split
  · exact raise_desk _ _
  · exact regPut_map_desk _ _ _ _

theorem ite_supWrite_map_desk (b : Bool) (c : Nat) (v : Word) : (if b then supWrite (CH c) 0x02 v s else s).desk = s.desk := by
  split
  · exact supWrite_map_desk s c v
  · rfl

theorem readmitChan_desk (c : Nat) (newMap : Bool) (w cfg : Word) : (readmitChan c newMap w cfg s).1.desk = s.desk := by
  unfold readmitChan
  extract_lets es t
  split
  split
  · rfl
  split
  · rfl
  split
  · rfl
  split
  · rfl
  split
  · rfl
  · split
    · exact copyPairs_desk _ _ _
    · exact (ite_supWrite_map_desk _ newMap c w).trans (copyPairs_desk _ _ _)

theorem policyEngine_desk (e : Nat) : (policyEngine e s).desk = s.desk := by
  unfold policyEngine
  dsimp only
  split
  · exact policyRetire_desk _ _ _
  · rfl

theorem policyPump_desk (k : Nat) : (policyPump k s).desk = s.desk := by
  unfold policyPump
  dsimp only
  split
  · exact policyRetire_desk _ _ _
  · rfl

theorem policyPort_desk (k rim : Nat) : (policyPort k rim s).desk = s.desk := by
  unfold policyPort
  dsimp only
  split
  · exact policyRetire_desk _ _ _
  · rfl

theorem policyRemap_desk (c : Nat) : (policyRemap c s).desk = s.desk := by
  unfold policyRemap
  dsimp only
  split
  · rfl
  split
  · exact readmitChan_desk _ _ _ _ _
  · rfl

/-- What the policy does on a record stays away from the desk. -/
theorem policyAct_desk (r : FaultRec) : (policyAct r s).desk = s.desk := by
  have hbank : (setButtress (policyRetire 2 r.unit s)).desk = s.desk := policyRetire_desk s _ _
  unfold policyAct
  dsimp only
  split
  case h_1 => exact policyEngine_desk _ _
  case h_2 => exact policyPump_desk _ _
  case h_3 => exact hbank
  case h_6 =>
    split
    · exact policyEngine_desk _ _
    · rfl
  case h_7 =>
    split
    · rfl
    · exact hbank
  case h_8 => exact policyPort_desk _ _ _
  case h_10 =>
    split
    · exact policyRemap_desk _ _
    · rfl
  all_goals rfl

end

/-! ### FAULTS (R485, R486) -/

section
variable {s : State}

theorem keepRecord_kept {u : Sup} (himage : u.image = true) {r : FaultRec} (h : (u.kept ++ [r]).length ≤ 64) :
    keepRecord r u = { u with kept := u.kept ++ [r] } := by
  unfold keepRecord
  rw [if_pos himage]
  dsimp only
  rw [Nat.sub_eq_zero_of_le h, List.drop_zero]

/-- The firmware takes one record: it keeps it, and its policy acts. -/
def takeRecord (r : FaultRec) (s : State) : State := policyAct r (s.modSup (keepRecord r))

theorem keepAll_eq (s : State) :
    keepAll s = foldS takeRecord s.faults.queue { s with faults := { s.faults with queue := [] } } := rfl

theorem takeRecord_desk (himage : s.sup.image = true) {r : FaultRec} (h : (s.sup.kept ++ [r]).length ≤ 64) :
    (takeRecord r s).desk = (s.sup.kept ++ [r], s.sup.image, s.sup.hostReq, s.cist) :=
  (policyAct_desk _ r).trans
    (congrArg (fun u : Sup => (u.kept, u.image, u.hostReq, s.cist)) (keepRecord_kept himage h))

/-- The firmware that takes the records `q`, one after another, keeps them all while they fit. -/
theorem foldS_takeRecord_desk (q : List FaultRec) (t : State) (himage : t.sup.image = true)
    (h : (t.sup.kept ++ q).length ≤ 64) :
    (foldS takeRecord q t).desk = (t.sup.kept ++ q, t.sup.image, t.sup.hostReq, t.cist) := by
  induction q generalizing t with
  | nil => rw [List.append_nil]; rfl
  | cons r q ih =>
    have hfit : (t.sup.kept ++ [r]).length ≤ 64 := by
      simp only [List.length_append, List.length_cons, List.length_nil] at h ⊢
      omega
    have hstep := takeRecord_desk himage hfit
    rw [foldS_cons]
    generalize takeRecord r t = u at hstep ⊢
    simp only [State.desk, Prod.mk.injEq] at hstep
    obtain ⟨hkept, himage', hreq, hcist⟩ := hstep
    rw [ih u (himage'.trans himage) (by rw [hkept]; simpa using h), hkept, himage', hreq, hcist, List.append_assoc]
    rfl

theorem keepAll_desk (himage : s.sup.image = true) (h : (s.sup.kept ++ s.faults.queue).length ≤ 64) :
    (keepAll s).desk = (s.sup.kept ++ s.faults.queue, s.sup.image, s.sup.hostReq, s.cist) :=
  foldS_takeRecord_desk _ _ himage h

/-- The codes of the records for which the policy names no action on a unit (R486). -/
abbrev quietCodes : List Nat := [1, 2, 8, 10, 11, 14, 15, 17]

theorem policyAct_quiet {r : FaultRec} (h : r.src ∈ quietCodes) (s : State) :
    policyAct r s = { s with sup := { s.sup with policy := (policyAct r s).sup.policy } } := by
  unfold policyAct
  simp only [quietCodes, List.mem_cons, List.not_mem_nil, or_false] at h
  rcases h with h | h | h | h | h | h | h | h <;> rw [h] <;> rfl

theorem takeRecord_quiet {r : FaultRec} (h : r.src ∈ quietCodes) (s : State) :
    takeRecord r s =
      { s with sup := { s.sup with kept := (takeRecord r s).sup.kept, policy := (takeRecord r s).sup.policy } } := by
  have hkeep : s.modSup (keepRecord r) = { s with sup := { s.sup with kept := (keepRecord r s.sup).kept } } := by
    unfold State.modSup keepRecord
    split <;> rfl
  have hact := policyAct_quiet h (s.modSup (keepRecord r))
  rw [hkeep] at hact
  rw [takeRecord, hkeep, hact]

/-- Records that call for no action move only what the firmware remembers. -/
theorem foldS_takeRecord_quiet (q : List FaultRec) (h : ∀ r, r ∈ q → r.src ∈ quietCodes) (t : State) :
    ∃ kept policy, foldS takeRecord q t = { t with sup := { t.sup with kept := kept, policy := policy } } := by
  induction q generalizing t with
  | nil => exact ⟨t.sup.kept, t.sup.policy, rfl⟩
  | cons r q ih =>
    obtain ⟨kept, policy, hfold⟩ := ih (fun x hx => h x (List.mem_cons_of_mem _ hx)) (takeRecord r t)
    refine ⟨kept, policy, ?_⟩
    rw [foldS_cons, hfold, takeRecord_quiet (h r List.mem_cons_self)]

theorem keepAll_quiet (h : ∀ r, r ∈ s.faults.queue → r.src ∈ quietCodes) :
    ∃ kept policy, keepAll s =
      { s with faults := { s.faults with queue := [] }, sup := { s.sup with kept := kept, policy := policy } } :=
  foldS_takeRecord_quiet _ h _

end

end Sys2Proof.Machine

namespace Sys2Proof.Machine

/-! ### FAULTS (R485, R486) -/

theorem foldS_append {α σ : Type} (f : α → σ → σ) (xs ys : List α) (s : σ) :
    foldS f (xs ++ ys) s = foldS f ys (foldS f xs s) := by
  induction xs generalizing s with
  | nil => rfl
  | cons x xs ih => exact ih (f x s)

theorem length_faultRecBytes (r : FaultRec) : r.bytes.length = 16 := by
  simp [FaultRec.bytes, length_leBytes]

/-- The bytes of record `i` of a list. -/
def recordBytes (rs : List FaultRec) (i : Nat) : List Byte := nth (rs.map FaultRec.bytes) i []

theorem recordBytes_of_getElem? {rs : List FaultRec} {i : Nat} {r : FaultRec} (h : rs[i]? = some r) :
    recordBytes rs i = r.bytes := by
  simp [recordBytes, nth, List.getD, h]

theorem length_recordBytes (rs : List FaultRec) (i : Nat) : (recordBytes rs i).length ≤ 16 := by
  cases h : rs[i]? with
  | none => simp [recordBytes, nth, List.getD, h]
  | some r => rw [recordBytes_of_getElem? h, length_faultRecBytes]

/-- The first `m` records of a list are written one after another from `a`, each in 16 bytes. -/
def writeRecords (a : Nat) (rs : List FaultRec) (m : Nat) (s : State) : State :=
  foldS (fun i s => cistPut (a + 16 * i) (recordBytes rs i) s) (List.range m) s

theorem writeRecords_succ (a : Nat) (rs : List FaultRec) (m : Nat) (s : State) :
    writeRecords a rs (m + 1) s = cistPut (a + 16 * m) (recordBytes rs m) (writeRecords a rs m s) := by
  rw [writeRecords, List.range_succ, foldS_append]
  rfl

theorem writeRecords_sound (a : Nat) (rs : List FaultRec) (m : Nat) {s : State} (hs : s.sound) : (writeRecords a rs m s).sound :=
  foldS_sound _ _ _ hs fun _ _ h => cistPut_sound _ _ _ h

theorem writeRecords_sup (a : Nat) (rs : List FaultRec) (m : Nat) (s : State) :
    (writeRecords a rs m s).sup.kept = s.sup.kept ∧ (writeRecords a rs m s).sup.hostReq = s.sup.hostReq :=
  foldS_inv (fun t : State => t.sup.kept = s.sup.kept ∧ t.sup.hostReq = s.sup.hostReq) _
    (fun _ t ht => ⟨(cistPut_sup _ _ t).1.trans ht.1, (cistPut_sup _ _ t).2.trans ht.2⟩) _ s ⟨rfl, rfl⟩

theorem writeRecords_outside (a : Nat) (rs : List FaultRec) (m : Nat) {s : State} (hs : s.sound) (x : Nat)
    (hx : x < a ∨ a + 16 * m ≤ x) : memRead (writeRecords a rs m s).cist x = memRead s.cist x := by
  induction m with
  | zero => rfl
  | succ m ih =>
    have hlen := length_recordBytes rs m
    rw [writeRecords_succ, cistPut_outside (writeRecords_sound a rs m hs) _ _ _ (by omega)]
    exact ih (by omega)

theorem State.writesWhole.put {s t : State} (h : s.writesWhole t) (p : Nat) (bs : List Byte) :
    s.writesWhole (cistPut p bs t) ∧ (cistPut p bs t).cist = memWriteL t.cist p bs := by
  have hleaves := cistPut_leavesUnits p bs t
  have hput := cistPut_of_none h.whole.ue (bs := bs) (h.whole.alive (cistBankOf p))
  refine ⟨⟨?_, hleaves.ue h.whole.ue, fun b => (hleaves.dead b).trans (h.whole.alive b)⟩, by rw [hput]⟩
  have hue : t.cistUe = [] := h.whole.ue
  rw [hput, ← hue, h.rest]

theorem State.cistWhole.get {s : State} (h : s.cistWhole) (a n : Nat) : cistGet s a n = memReadN s.cist a n :=
  if_neg (by simp [h.alive])

/-- In a cistern without errors the records read back, and nothing but the cistern moves. -/
theorem writeRecords_whole (a : Nat) (rs : List FaultRec) (m : Nat) {s : State} (hs : s.sound) (hc : s.cistWhole)
    (hm : m ≤ rs.length) :
    s.writesWhole (writeRecords a rs m s) ∧
      ∀ k r, k < m → rs[k]? = some r → memReadN (writeRecords a rs m s).cist (a + 16 * k) 16 = r.bytes := by
  induction m with
  | zero => exact ⟨State.writesWhole_refl hc, fun k r hk => absurd hk (Nat.not_lt_zero k)⟩
  | succ m ih =>
    obtain ⟨hwrites, hread⟩ := ih (by omega)
    obtain ⟨hwrites', hcist⟩ := hwrites.put (a + 16 * m) (recordBytes rs m)
    have hwf : Memory.wf (writeRecords a rs m s).cist = true := (writeRecords_sound a rs m hs).cist
    rw [writeRecords_succ, hcist]
    refine ⟨hwrites', fun k r hk hr => ?_⟩
    by_cases hkm : k = m
    · subst hkm
      have hback := memReadN_memWriteL (writeRecords a rs k s).cist (a + 16 * k) r.bytes hwf
      rw [length_faultRecBytes] at hback
      rw [recordBytes_of_getElem? hr, hback]
    · rw [memReadN_memWriteL_apart _ _ _ _ _ hwf (by omega)]
      exact hread k r (by omega) hr

/-- FAULTS has copied the records it was asked for and dropped them. -/
def faultsCopied (s : State) : State :=
  (writeRecords ((mbox s 2).toNat * 512) ((keepAll s).sup.kept.take (mbox s 3).toNat)
    ((keepAll s).sup.kept.take (mbox s 3).toNat).length (keepAll s)).modSup (fun u =>
      { u with kept := u.kept.drop (mbox s 3).toNat })

theorem faultsServe_copies {s : State} (h1 : 1 ≤ (mbox s 3).toNat) (h32 : (mbox s 3).toNat ≤ 32)
    (hfit : (mbox s 2).toNat * 512 + 16 * (mbox s 3).toNat ≤ cistSize) :
    faultsServe s = (faultsCopied s, 0, 0xFF, ((keepAll s).sup.kept.take (mbox s 3).toNat).length,
      (faultsCopied s).sup.kept.length + (faultsCopied s).faults.queue.length) :=
  if_neg (by omega)

section
variable {s : State} (hs : s.sound) (hm : s.power.mode = .run) (hopen : mboxOpen s = true) (hcode : mboxCode s = 0x32)
  (h1 : 1 ≤ (s.rd SUP 0x0B).toNat) (h32 : (s.rd SUP 0x0B).toNat ≤ 32)
  (hfit : (s.rd SUP 0x0A).toNat * 512 + 16 * (s.rd SUP 0x0B).toNat ≤ 32 * 1048576)
  (hks : (s.sup.kept ++ s.faults.queue).length ≤ 64)

include hopen hks in
/-- The firmware that serves FAULTS keeps every queued record, and its policy leaves the cistern alone. -/
theorem keepAll_takeRequest_desk :
    (keepAll (takeRequest s)).desk = (s.sup.kept ++ s.faults.queue, true, false, s.cist) := by
  have himage : s.sup.image = true := by
    simp only [mboxOpen, Bool.and_eq_true] at hopen
    exact hopen.1.1.1.2
  exact (keepAll_desk (s := takeRequest s) himage hks).trans (congrArg (fun b => (_, b, _, _)) himage)

include hs hopen hcode h1 h32 hfit hks

/-- FAULTS is answered with the number of the records it has copied and of those that are left. -/
theorem serveRequest_faults :
    answered s (serveRequest 0x32 faultsServe s) 0 0xFF (min (s.rd SUP 0x0B).toNat (s.sup.kept ++ s.faults.queue).length)
        ((faultsCopied (takeRequest s)).sup.kept.length + (faultsCopied (takeRequest s)).faults.queue.length) ∧
      (faultsCopied (takeRequest s)).replied (serveRequest 0x32 faultsServe s) := by
  have hdesk := keepAll_takeRequest_desk hopen hks
  simp only [State.desk, Prod.mk.injEq] at hdesk
  obtain ⟨hkept, -, hreq, -⟩ := hdesk
  have hserve := faultsServe_copies (s := takeRequest s) h1 h32 hfit
  rw [hkept, List.length_take] at hserve
  have hsound : (faultsCopied (takeRequest s)).sound := by
    have h := faultsServe_sound (takeRequest s) (takeRequest_sound s hs)
    rwa [hserve] at h
  exact serveRequest_answers hopen hcode hserve hsound ((writeRecords_sup _ _ _ _).2.trans hreq)

include hm

/-- FAULTS copies into its buffer and nowhere else, and drops what it has copied. -/
theorem exec_mboxFaults_copies :
    ∃ t, exec .mboxFaults s = .next t ∧ t.sup.hostReq = false ∧ t.bit SUP 0x01 11 = true ∧
      t.rd SUP 0x0D = word 0x00FF ∧
      t.rd SUP 0x0E = word (min (s.rd SUP 0x0B).toNat (s.sup.kept ++ s.faults.queue).length) ∧
      t.sup.kept = (s.sup.kept ++ s.faults.queue).drop (s.rd SUP 0x0B).toNat ∧
      (∀ x, x < (s.rd SUP 0x0A).toNat * 512 ∨ (s.rd SUP 0x0A).toNat * 512 + 16 * (s.rd SUP 0x0B).toNat ≤ x →
        memRead t.cist x = memRead s.cist x) := by
  obtain ⟨⟨hreq, -, hresult, hcount, -, hreply, -⟩, hrep⟩ := serveRequest_faults hs hopen hcode h1 h32 hfit hks
  have hdesk := keepAll_takeRequest_desk hopen hks
  simp only [State.desk, Prod.mk.injEq] at hdesk
  obtain ⟨hkept, -, -, hcist⟩ := hdesk
  have hexec : exec .mboxFaults s = .next (serveRequest 0x32 faultsServe s) := whenRun_of_run hm
  refine ⟨_, hexec, hreq, hreply, hresult, hcount, ?_, fun x hx => ?_⟩
  · rw [hrep.rest]
    refine congrArg (List.drop _) ((writeRecords_sup _ _ _ _).1.trans hkept)
  · rw [hrep.rest, ← hcist]
    refine writeRecords_outside _ _ _ (keepAll_sound _ (takeRequest_sound s hs)) x ?_
    have hlen : ((keepAll (takeRequest s)).sup.kept.take (mbox (takeRequest s) 3).toNat).length ≤ (s.rd SUP 0x0B).toNat :=
      List.length_take_le _ _
    rcases hx with hx | hx
    · exact .inl hx
    · exact .inr (le_trans (by gcongr; rfl) hx)

/-- With a cistern without errors and no record that calls for an action, FAULTS is answered whole: the records stand in the
buffer and none is queued. -/
theorem exec_mboxFaults_whole (hwhole : s.cistWhole) (hquiet : ∀ r, r ∈ s.faults.queue → r.src ∈ quietCodes) :
    ∃ t, exec .mboxFaults s = .next t ∧
      answered s t 0 0xFF (min (s.rd SUP 0x0B).toNat (s.sup.kept ++ s.faults.queue).length)
        ((s.sup.kept ++ s.faults.queue).length - (s.rd SUP 0x0B).toNat) ∧
      t.faults.queue = [] ∧
      (∀ k r, k < (s.rd SUP 0x0B).toNat → (s.sup.kept ++ s.faults.queue)[k]? = some r →
        cistGet t ((s.rd SUP 0x0A).toNat * 512 + 16 * k) 16 = r.bytes) := by
  obtain ⟨hans, hrep⟩ := serveRequest_faults hs hopen hcode h1 h32 hfit hks
  have hexec : exec .mboxFaults s = .next (serveRequest 0x32 faultsServe s) := whenRun_of_run hm
  have hdesk := keepAll_takeRequest_desk hopen hks
  simp only [State.desk, Prod.mk.injEq] at hdesk
  obtain ⟨hkept, -, -, -⟩ := hdesk
  obtain ⟨kept, policy, hquietly⟩ := keepAll_quiet (s := takeRequest s) hquiet
  have hsound := keepAll_sound _ (takeRequest_sound s hs)
  have hclean : (keepAll (takeRequest s)).cistWhole := by
    rw [hquietly]
    exact ⟨hwhole.ue, hwhole.alive⟩
  obtain ⟨hwrites, hread⟩ := writeRecords_whole ((s.rd SUP 0x0A).toNat * 512)
    ((keepAll (takeRequest s)).sup.kept.take (s.rd SUP 0x0B).toNat) _ hsound hclean le_rfl
  have hqueue : (faultsCopied (takeRequest s)).faults.queue = [] := by
    refine (congrArg (·.faults.queue) hwrites.rest).trans ?_
    rw [hquietly]
  have hleft : (faultsCopied (takeRequest s)).sup.kept = (s.sup.kept ++ s.faults.queue).drop (s.rd SUP 0x0B).toNat :=
    congrArg (List.drop _) ((writeRecords_sup _ _ _ _).1.trans hkept)
  rw [hqueue, hleft, List.length_drop] at hans
  refine ⟨_, hexec, hans, ?_, fun k r hk hr => ?_⟩
  · rw [hrep.rest]
    exact hqueue
  · have htaken : ((keepAll (takeRequest s)).sup.kept.take (s.rd SUP 0x0B).toNat)[k]? = some r := by
      rw [hkept, List.getElem?_take_of_lt hk, hr]
    have hbytes := hread k r (List.getElem?_eq_some_iff.mp htaken).1 htaken
    rw [← hwrites.whole.get] at hbytes
    rw [← hbytes]
    exact cistGet_of_banks (by rw [hrep.rest]; rfl) (by rw [hrep.rest]; rfl) _ _

end

end Sys2Proof.Machine

namespace Sys2Proof.Machine

/-! ### Digests and the headers of a weight image (R327, R328) -/

/-- Both halves of a digest hold four words. -/
def Digest.isWhole (g : Digest) : Prop := g.upper.length = 4 ∧ g.lower.length = 4

theorem Digest.isWhole_rounds (ks : List Nat) (g : Digest) (ws : List Nat) (h : g.isWhole) : (g.rounds ws ks).isWhole := by
  induction ks generalizing g ws with
  | nil => exact h
  | cons k ks ih => exact ih _ _ ⟨by simp [Digest.round, h.1], by simp [Digest.round, h.2]⟩

theorem Digest.isWhole_absorb (g : Digest) (block : List Byte) (h : g.isWhole) : (g.absorb block).isWhole := by
  obtain ⟨hupper, hlower⟩ := Digest.isWhole_rounds shaConstants g
    ((List.range 16).map (fun i => beVal ((block.drop (4 * i)).take 4))) h
  exact ⟨by simp [Digest.absorb, hupper, h.1], by simp [Digest.absorb, hlower, h.2]⟩

theorem Digest.isWhole_start : Digest.start.isWhole := ⟨by decide +kernel, by decide +kernel⟩

theorem length_flatMap_beBytes (n : Nat) (xs : List Nat) : (xs.flatMap (beBytes n)).length = n * xs.length := by
  induction xs with
  | nil => rfl
  | cons x xs ih => rw [List.flatMap_cons, List.length_append, ih, beBytes, List.length_reverse, length_leBytes, List.length_cons,
      Nat.mul_succ, Nat.add_comm]

theorem Digest.isWhole_foldl_absorb (block : Nat → List Byte) (is : List Nat) (g : Digest) (h : g.isWhole) :
    (is.foldl (fun g i => g.absorb (block i)) g).isWhole := by
  induction is generalizing g with
  | nil => exact h
  | cons i is ih => exact ih _ (g.isWhole_absorb (block i) h)

/-- A digest has 32 bytes. -/
theorem length_sha256 (bs : List Byte) : (sha256 bs).length = 32 := by
  obtain ⟨hupper, hlower⟩ := Digest.isWhole_foldl_absorb (fun i => ((shaMessage bs).drop (64 * i)).take 64)
    (List.range ((shaMessage bs).length / 64)) Digest.start Digest.isWhole_start
  exact (length_flatMap_beBytes 4 _).trans (by rw [List.length_append, hupper, hlower])

theorem length_weightHeader (s : State) (e slot tag crc : Nat) (cs : List Nat) (act : Bool) :
    (weightHeader s e slot tag crc cs act).length = 96 := by
  simp [weightHeader, length_leBytes, identityDigest, length_sha256]

theorem length_weightHmac (key h x1 d1 x2 d2 : List Byte) : (weightHmac key h x1 d1 x2 d2).length = 32 := length_sha256 _

theorem length_sectionHeader (typ : Nat) (d : List Byte) : (sectionHeader typ d).length = 16 := by
  simp [sectionHeader, length_leBytes]

/-! ### The reads, the session and the writes of a weight request (R327 to R332, R558) -/

section
variable {s : State}

theorem freeBytes_rest (s : State) (n : Nat) : (s.freeBytes n).2 = { s with free := (s.freeBytes n).2.free } := by
  induction n generalizing s with
  | zero => rfl
  | succ n ih => exact ih { s with free := s.free + 1 }

/-- A session that ends moves the SEC block, its registers and the counter of free values. -/
theorem secDone_rest (out : List Byte) (s : State) :
    secDone out s = { s with regs := (secDone out s).regs, sec := (secDone out s).sec, free := (secDone out s).free } := by
  unfold secDone
  dsimp only
  rw [freeBytes_rest]
  rfl

theorem State.recorded_of_session {t : State} (h : t = { s with regs := t.regs, sec := t.sec, free := t.free }) : s.recorded t :=
  ⟨by rw [h], fun g => by rw [h]; rfl, fun b => by rw [h]; rfl⟩

theorem sealSession_recorded (tag : List Byte) (s : State) : s.recorded (sealSession tag s) := by
  unfold sealSession
  split
  · exact s.recorded_refl
  · refine State.recorded_of_session ?_
    dsimp only
    rw [secDone_rest, freeBytes_rest]
    rfl

theorem importSession_recorded (bad : Nat) (tag : Option (List Byte)) (s : State) : s.recorded (importSession bad tag s) := by
  unfold importSession
  split
  · split
    · exact sealSession_recorded _ s
    · exact s.recorded_refl
  · exact s.recorded_refl

theorem imageReads_recorded (e : Nat) (act : Bool) (cs : List Nat) (s : State) : s.recorded (imageReads e act cs s) :=
  (storeReadEvents_recorded _ _ _ s).trans (foldS_recorded (fun _ x => storeReadEvents_recorded _ _ _ x) cs _)

theorem State.recorded.cistWhole {t : State} (h : s.recorded t) (hs : s.cistWhole) : t.cistWhole :=
  ⟨h.cistUe.trans hs.ue, fun b => (h.dead b).trans (hs.alive b)⟩

/-- A cistern without errors takes the headers, which are longer than a line, as one string of bytes. -/
theorem putHeaders_writesWhole (hs : s.cistWhole) (a : Nat) {bs : List Byte} (h : 128 ≤ bs.length) :
    s.writesWhole (putHeaders a bs s) ∧ (putHeaders a bs s).cist = memWriteL s.cist a bs := by
  obtain ⟨hfirst, hcist⟩ := (State.writesWhole_refl hs).put a (bs.take 128)
  obtain ⟨hsecond, hcist'⟩ := hfirst.put (a + 128) (bs.drop 128)
  have happend := memWriteL_append s.cist a (bs.take 128) (bs.drop 128)
  rw [List.take_append_drop, List.length_take_of_le h] at happend
  exact ⟨hsecond, (hcist'.trans (by rw [hcist])).trans happend.symm⟩

/-! ### WEXPORT (R327 to R331) -/

/-- The engine, the slot and the channels that a weight request names. -/
def requestEngine (s : State) : Nat := wfld (mbox s 1) 12 4
def requestSlot (s : State) : Nat := wfld (mbox s 1) 8 4
def requestChans (s : State) : List Nat := if requestEngine s < s.part.engines then chansOn s (requestEngine s) else []

/-- The bank that WEXPORT reads. -/
def exportBank (s : State) : Bool :=
  match requestChans s with
  | c :: _ => (s.chan c).learn.active
  | [] => false

/-- Bytes 0 to 95 of WEXPORT's image, with their CRC. -/
def exportHeader (s : State) : List Byte :=
  weightHeader s (requestEngine s) (requestSlot s) (mbox s 3).toNat
    (crc32 (weightHeader s (requestEngine s) (requestSlot s) (mbox s 3).toNat 0 (requestChans s) (exportBank s)))
    (requestChans s) (exportBank s)

/-- The HMAC of WEXPORT's image. -/
def exportHmac (s : State) : List Byte :=
  weightHmac (weightKey s (requestSlot s)) (exportHeader s)
    (sectionHeader 1 (bankData s (requestEngine s) (exportBank s))) (bankData s (requestEngine s) (exportBank s))
    (sectionHeader 2 (ruleData s (requestEngine s) (requestChans s))) (ruleData s (requestEngine s) (requestChans s))

/-- The 160 bytes that WEXPORT writes. -/
def exportArea (s : State) : List Byte :=
  exportHeader s ++ exportHmac s ++ sectionHeader 1 (bankData s (requestEngine s) (exportBank s)) ++
    sectionHeader 2 (ruleData s (requestEngine s) (requestChans s))

theorem length_exportArea (s : State) : (exportArea s).length = 160 := by
  simp [exportArea, exportHeader, exportHmac, length_weightHeader, length_weightHmac, length_sectionHeader]

/-- The state in which WEXPORT has sealed the image and read it. -/
def exportRead (s : State) : State :=
  imageReads (requestEngine s) (exportBank s) (requestChans s) (sealSession (exportHmac s) s)

theorem exportRead_recorded (s : State) : s.recorded (exportRead s) :=
  (sealSession_recorded _ _).trans (imageReads_recorded _ _ _ _)

/-- A weight request that the common checks refuse changes nothing (R330, R555). -/
theorem wexportServe_refuses (h : weightError s (requestEngine s) (requestSlot s) (requestChans s) ≠ 0) :
    wexportServe s =
      (s, weightError s (requestEngine s) (requestSlot s) (requestChans s), 0xFF, chanMask (requestChans s), 0) := if_pos h

theorem wexportServe_writes (h : weightError s (requestEngine s) (requestSlot s) (requestChans s) = 0) :
    wexportServe s =
      (putHeaders ((mbox s 2).toNat * 512) (exportArea s) (exportRead s), 0, 0xFF, chanMask (requestChans s), 0) :=
  if_neg (not_not.mpr h)

/-! ### WIMPORT (R332, R555) -/

/-- The bank that an import is checked against. -/
def importBank (s : State) : Bool :=
  match requestChans s with
  | c :: _ => !(s.chan c).learn.active
  | [] => true

/-- The header area of an import. -/
def importArea (s : State) : List Byte :=
  cistGet s ((mbox s 2).toNat * 512) 128 ++ cistGet s ((mbox s 2).toNat * 512 + 128) 32

/-- The code of the first check that an import fails; 0 where it passes. -/
def importCode (s : State) : Nat :=
  importError s (requestEngine s) (mbox s 3).toNat (requestChans s) (importArea s)
    (bankData s (requestEngine s) (importBank s)) (ruleData s (requestEngine s) (requestChans s))

/-- The state in which an import has been read and checked. -/
def importRead (s : State) : State :=
  imageReads (requestEngine s) (importBank s) (requestChans s)
    (cistReadEvents ((mbox s 2).toNat * 512 + 128) 32 none (cistReadEvents ((mbox s 2).toNat * 512) 128 none
      (importSession (importCode s) (areaHmac s (importArea s) (bankData s (requestEngine s) (importBank s))
        (ruleData s (requestEngine s) (requestChans s))) s)))

theorem importRead_recorded (s : State) : s.recorded (importRead s) :=
  (((importSession_recorded _ _ s).trans (cistReadEvents_recorded _ _ _)).trans (cistReadEvents_recorded _ _ _)).trans
    (imageReads_recorded _ _ _ _)

theorem wimportServe_refuses (h : weightError s (requestEngine s) (requestSlot s) (requestChans s) ≠ 0) :
    wimportServe s =
      (s, weightError s (requestEngine s) (requestSlot s) (requestChans s), 0xFF, chanMask (requestChans s), 0) := if_pos h

theorem wimportServe_fails (h : weightError s (requestEngine s) (requestSlot s) (requestChans s) = 0)
    (hbad : importCode s ≠ 0) :
    wimportServe s = (importRead s, importCode s, 0xFF, chanMask (requestChans s), 0) :=
  (if_neg (not_not.mpr h)).trans (if_pos hbad)

/-- An import that passes marks the channels; the result tells whether every engine of theirs has passed. -/
theorem wimportServe_passes (h : weightError s (requestEngine s) (requestSlot s) (requestChans s) = 0)
    (hgood : importCode s = 0) :
    ∃ foreign result w7, (result = 0 ∨ result = 8) ∧
      wimportServe s = (foldS (importChan (requestEngine s) foreign) (requestChans s) (importRead s), result, 0xFF,
        chanMask (requestChans s), w7) := by
  exact ⟨_, _, _, ite_eq_or_eq _ _ _, (if_neg (not_not.mpr h)).trans (if_neg (not_not.mpr hgood))⟩

end

end Sys2Proof.Machine

namespace Sys2Proof.Machine

section
variable {s t : State}

theorem exec_wexport (hm : s.power.mode = .run) : exec .wexport s = .next (serveRequest 0x20 wexportServe s) :=
  whenRun_of_run hm

theorem exec_wimport (hm : s.power.mode = .run) : exec .wimport s = .next (serveRequest 0x21 wimportServe s) :=
  whenRun_of_run hm

/-! ### The marks of an import (R332) -/

theorem importChan_onlyChan (e : Nat) (foreign : Bool) (c : Nat) (s : State) : s.onlyChan c (importChan e foreign c s) := by
  have hpass : s.onlyChan c (s.modLearn c fun l =>
      { l with imports := if l.imports.contains e then l.imports else l.imports ++ [e], epochs := 0 }) :=
    (State.onlyChan_refl c s).modChan _
  unfold importChan
  extract_lets s1
  split
  · have hready := setReady_onlyChan c (some foreign) s1
    exact ⟨fun x hx => (hready.others x hx).trans (hpass.others x hx), hready.length.trans hpass.length, hready.engs,
      hready.wells, hready.ops, hready.rd, hready.rises⟩
  · exact hpass

theorem importChan_rest (e : Nat) (foreign : Bool) (c : Nat) (s : State) :
    importChan e foreign c s = { s with chans := (importChan e foreign c s).chans } := by
  unfold importChan setReady swapBanks
  dsimp only
  split
  · split <;> rfl
  · rfl

/-- Once every engine of a channel has passed, the channel is ready. -/
theorem importChan_ready {e c : Nat} (foreign : Bool) (hc : c < s.chans.length) (hst : (s.chan c).st ≠ .off)
    (hall : ∀ x, x ∈ chanEngines s c → x = e ∨ x ∈ (s.chan c).learn.imports) :
    ((importChan e foreign c s).chan c).learn.ready = true := by
  unfold importChan
  extract_lets s1
  have hchan : s1.chan c = { s.chan c with learn := { (s.chan c).learn with
      imports := if (s.chan c).learn.imports.contains e then (s.chan c).learn.imports else (s.chan c).learn.imports ++ [e],
      epochs := 0 } } := State.chan_modChan_same s c _ hc
  have hpassed : ((chanEngines s1 c).all fun x => (s1.chan c).learn.imports.contains x) = true := by
    refine List.all_eq_true.mpr fun x hx => List.contains_iff_mem.mpr ?_
    rw [chanEngines, hchan] at hx
    rw [hchan]
    dsimp only
    split
    case isTrue he =>
      rcases hall x hx with rfl | himport
      · exact List.contains_iff_mem.mp he
      · exact himport
    case isFalse =>
      exact List.mem_append.mpr ((hall x hx).symm.imp_right List.mem_singleton.mpr)
  have hlen : c < s1.chans.length := hc.trans_eq ((State.onlyChan_refl c s).modChan _).length.symm
  rw [if_pos hpassed, setReady_learn hlen, hchan, if_neg hst]

theorem foldS_importChan_rest (e : Nat) (foreign : Bool) (cs : List Nat) (s : State) :
    foldS (importChan e foreign) cs s = { s with chans := (foldS (importChan e foreign) cs s).chans } :=
  foldS_inv (fun t => t = { s with chans := t.chans }) _
    (fun c t ht => by rw [importChan_rest, ht]) cs s rfl

theorem foldS_importChan_others (e : Nat) (foreign : Bool) (cs : List Nat) (s : State) {c : Nat} (hc : c ∉ cs) :
    (foldS (importChan e foreign) cs s).chan c = s.chan c := by
  induction cs generalizing s with
  | nil => rfl
  | cons x cs ih =>
    obtain ⟨hne, hcs⟩ := List.ne_and_not_mem_of_not_mem_cons hc
    rw [foldS_cons, ih _ hcs, (importChan_onlyChan e foreign x s).others c hne]

/-- An import marks each channel of the engine for itself. -/
theorem foldS_importChan_ready {e c : Nat} (foreign : Bool) {cs : List Nat} (hcs : cs.Nodup) (hmem : c ∈ cs)
    (hc : c < s.chans.length) (hst : (s.chan c).st ≠ .off)
    (hall : ∀ x, x ∈ chanEngines s c → x = e ∨ x ∈ (s.chan c).learn.imports) :
    ((foldS (importChan e foreign) cs s).chan c).learn.ready = true := by
  induction cs generalizing s with
  | nil => exact absurd hmem List.not_mem_nil
  | cons x cs ih =>
    obtain ⟨hx, hcs⟩ := List.nodup_cons.mp hcs
    have honly := importChan_onlyChan e foreign x s
    by_cases hcx : c = x
    · subst hcx
      rw [foldS_cons, foldS_importChan_others _ _ _ _ hx]
      exact importChan_ready foreign hc hst hall
    · have hkeep := honly.others c hcx
      refine ih hcs ((List.mem_cons.mp hmem).resolve_left hcx) (hc.trans_eq honly.length.symm) (hkeep ▸ hst) ?_
      rw [chanEngines, hkeep]
      exact hall

theorem requestChans_nodup (s : State) : (requestChans s).Nodup := by
  unfold requestChans
  split
  · exact List.nodup_range.filter _
  · exact List.nodup_nil

theorem requestChans_lt {c : Nat} (h : c ∈ requestChans s) : c < 16 := by
  unfold requestChans at h
  split at h
  · exact List.mem_range.mp (List.mem_filter.mp h).1
  · exact absurd h List.not_mem_nil

/-! ### The rows WEXPORT and WIMPORT -/

/-- A cistern whose 16 banks answer, without an uncorrectable codeword, is whole. -/
theorem State.ofPart.cistWhole {p : Part} (hp : s.ofPart p) (hue : s.cistUe = []) (h : ∀ b, b < 16 → bankDead s b = false) :
    s.cistWhole := by
  refine ⟨hue, fun b => ?_⟩
  by_cases hb : b < 16
  · exact h b hb
  · have hnone : s.bank b = Bank.reset :=
      List.getD_eq_default _ _ ((congrArg Shape.banks hp.2).trans_le (Nat.le_of_not_lt hb))
    rw [bankDead, hnone]
    rfl

section
variable (hs : s.sound) (hm : s.power.mode = .run) (hopen : mboxOpen s = true)
include hs hm hopen

theorem exec_wexport_refuses (hcode : mboxCode s = 0x20)
    (h : weightError s (requestEngine s) (requestSlot s) (requestChans s) ≠ 0) :
    ∃ t, exec .wexport s = .next t ∧
      answered s t (weightError s (requestEngine s) (requestSlot s) (requestChans s)) 0xFF (chanMask (requestChans s)) 0 ∧
      t.cist = s.cist := by
  obtain ⟨hans, hrep⟩ := serveRequest_refuses hs hopen hcode (wexportServe_refuses (s := takeRequest s) h)
  refine ⟨_, exec_wexport hm, hans, ?_⟩
  rw [hrep.rest]
  rfl

theorem exec_wimport_refuses (hcode : mboxCode s = 0x21)
    (h : weightError s (requestEngine s) (requestSlot s) (requestChans s) ≠ 0) :
    ∃ t, exec .wimport s = .next t ∧
      answered s t (weightError s (requestEngine s) (requestSlot s) (requestChans s)) 0xFF (chanMask (requestChans s)) 0 ∧
      t.chans = s.chans := by
  obtain ⟨hans, hrep⟩ := serveRequest_refuses hs hopen hcode (wimportServe_refuses (s := takeRequest s) h)
  refine ⟨_, exec_wimport hm, hans, ?_⟩
  rw [hrep.rest]
  rfl

/-- WEXPORT's headers stand in the buffer, which is all that has changed in the cistern; no channel and no weight moves. -/
theorem exec_wexport_writes (hwhole : s.cistWhole) (hcode : mboxCode s = 0x20)
    (h : weightError s (requestEngine s) (requestSlot s) (requestChans s) = 0) :
    ∃ t, exec .wexport s = .next t ∧ answered s t 0 0xFF (chanMask (requestChans s)) 0 ∧
      cistGet t ((s.rd SUP 0x0A).toNat * 512) 160 = exportArea s ∧
      (∀ x, x < (s.rd SUP 0x0A).toNat * 512 ∨ (s.rd SUP 0x0A).toNat * 512 + 160 ≤ x →
        memRead t.cist x = memRead s.cist x) ∧
      t.chans = s.chans ∧ (∀ g, (t.eng g).store = (s.eng g).store) := by
  have hserve := wexportServe_writes (s := takeRequest s) h
  have hsound := wexportServe_sound _ (takeRequest_sound s hs)
  have hread := exportRead_recorded (takeRequest s)
  have harea : exportArea (takeRequest s) = exportArea s := rfl
  have hlen := length_exportArea s
  rw [harea] at hserve
  obtain ⟨hwrites, hcist⟩ := putHeaders_writesWhole (hread.cistWhole ⟨hwhole.ue, hwhole.alive⟩)
    ((mbox (takeRequest s) 2).toNat * 512) (bs := exportArea s) (by omega)
  rw [hread.cist] at hcist
  have hwf : Memory.wf (takeRequest s).cist = true := hs.cist
  rw [hserve] at hsound
  obtain ⟨hans, hrep⟩ := serveRequest_answers hopen hcode hserve hsound
    ((congrArg (·.sup.hostReq) hwrites.rest).trans hread.hostReq)
  refine ⟨_, exec_wexport hm, hans, ?_, fun x hx => ?_, ?_, fun g => ?_⟩
  · rw [cistGet_of_banks (by rw [hrep.rest]) (by rw [hrep.rest])]
    refine (hwrites.whole.get _ _).trans ?_
    rw [hcist, ← hlen]
    exact memReadN_memWriteL _ _ _ hwf
  · rw [hrep.rest]
    refine (congrArg (memRead · x) hcist).trans (memRead_memWriteL_outside _ _ _ _ hwf ?_)
    rwa [hlen]
  · rw [hrep.rest]
    exact (congrArg (·.chans) hwrites.rest).trans hread.chans
  · rw [hrep.rest]
    exact (congrArg (fun t => (t.eng g).store) hwrites.rest).trans (hread.store g)

theorem exec_wimport_fails (hcode : mboxCode s = 0x21)
    (h : weightError s (requestEngine s) (requestSlot s) (requestChans s) = 0) (hbad : importCode s ≠ 0) :
    ∃ t, exec .wimport s = .next t ∧ answered s t (importCode s) 0xFF (chanMask (requestChans s)) 0 ∧
      t.chans = s.chans := by
  have hserve := wimportServe_fails (s := takeRequest s) h hbad
  have hsound := wimportServe_sound _ (takeRequest_sound s hs)
  have hread := importRead_recorded (takeRequest s)
  rw [hserve] at hsound
  obtain ⟨hans, hrep⟩ := serveRequest_answers hopen hcode hserve hsound hread.hostReq
  refine ⟨_, exec_wimport hm, hans, ?_⟩
  rw [hrep.rest]
  exact hread.chans

/-- An import that passes answers OK or PARTIAL, marks the channels whose engines have all passed, and moves no memory. -/
theorem exec_wimport_passes {p : Part} (hp : s.ofPart p) (hcode : mboxCode s = 0x21)
    (h : weightError s (requestEngine s) (requestSlot s) (requestChans s) = 0) (hgood : importCode s = 0) :
    ∃ t, exec .wimport s = .next t ∧ t.sup.hostReq = false ∧
      (t.rd SUP 0x0D = word 0x00FF ∨ t.rd SUP 0x0D = word 0x08FF) ∧ t.rd SUP 0x0E = word (chanMask (requestChans s)) ∧
      (∀ c, c ∈ requestChans s → (s.chan c).st ≠ .off →
        (∀ x, x ∈ chanEngines s c → x = requestEngine s ∨ x ∈ (s.chan c).learn.imports) →
          (t.chan c).learn.ready = true) ∧
      (∀ c, c ∉ requestChans s → t.chan c = s.chan c) ∧ t.cist = s.cist ∧
      (∀ g, (t.eng g).store = (s.eng g).store) := by
  obtain ⟨foreign, result, w7, hresult, hserve⟩ := wimportServe_passes (s := takeRequest s) h hgood
  have hsound := wimportServe_sound _ (takeRequest_sound s hs)
  have hread := importRead_recorded (takeRequest s)
  have hmarks := foldS_importChan_rest (requestEngine s) foreign (requestChans s) (importRead (takeRequest s))
  rw [hserve] at hsound
  obtain ⟨⟨hreq, -, hresult', hmask, -⟩, hrep⟩ := serveRequest_answers hopen hcode hserve hsound
    ((congrArg (·.sup.hostReq) hmarks).trans hread.hostReq)
  have hchan : ∀ c, (importRead (takeRequest s)).chan c = s.chan c := hread.chan
  refine ⟨_, exec_wimport hm, hreq, ?_, hmask, fun c hc hst hall => ?_, fun c hc => ?_, ?_, fun g => ?_⟩
  · rw [hresult']
    exact hresult.imp (by rintro rfl; rfl) (by rintro rfl; rfl)
  · rw [hrep.rest]
    refine foldS_importChan_ready foreign (requestChans_nodup s) hc ?_ (by rwa [hchan]) ?_
    · rw [hread.chans]
      exact hp.chan_lt (requestChans_lt hc)
    · rw [chanEngines, hchan]
      exact hall
  · rw [hrep.rest]
    exact (foldS_importChan_others _ _ _ _ hc).trans (hchan c)
  · rw [hrep.rest]
    exact (congrArg (·.cist) hmarks).trans hread.cist
  · rw [hrep.rest]
    exact (congrArg (fun t => (t.eng g).store) hmarks).trans (hread.store g)

end

end

/-- Settles O36, one row after another: a request is served and answered (`serveRequest_answers`), and what its service
does to the state besides stands in the row's lemma. -/
theorem firmwareRequests : Obligations.FirmwareRequests := by
  unfold Obligations.FirmwareRequests
  refine ⟨fun p s hp hs hm hopen => ?_, fun p s hp hs hm hopen => ?_⟩
  · refine ⟨exec_wexport_refuses hs hm hopen, exec_wimport_refuses hs hm hopen, fun hcode herr hue halive => ?_,
      fun hcode herr => ⟨exec_wimport_fails hs hm hopen hcode herr, exec_wimport_passes hs hm hopen hp hcode herr⟩⟩
    exact exec_wexport_writes hs hm hopen (hp.cistWhole hue halive) hcode herr
  · refine ⟨exec_mboxRetire_buttress hs hm hopen, exec_mboxRetire_bank hs hm hopen (congrArg Shape.banks hp.2),
      exec_mboxRetire_engine hs hm hopen hp, exec_mboxRetire_channel hs hm hopen hp,
      exec_mboxReadmit_engine hs hm hopen hp, exec_mboxReadmit_notRetired hs hm hopen,
      exec_mboxUnit_reserved hs hm hopen, fun hcode h1 h32 hfit hks => ⟨?_, fun hue halive hquiet => ?_⟩,
      fun hcode hlive hidle n hn hfree hlow => ?_⟩
    · exact exec_mboxFaults_copies hs hm hopen hcode h1 h32 hfit hks
    · exact exec_mboxFaults_whole hs hm hopen hcode h1 h32 hfit hks (hp.cistWhole hue halive) hquiet
    · exact exec_mboxRepair_assigns hs hm hopen hcode hlive hidle hn hfree hlow

end Sys2Proof.Machine
